-- ==== Sys2Proof/Word.lean ====
section
/-! DEFINITION. The byte, the sorted table that holds every bank of like things, and little-endian numbers. -/

namespace Sys2Proof

/-- One byte of memory, of a string object or of a frame. -/
abbrev Byte := BitVec 8

/-- A bank of numbered things: the entries that differ from the bank's default, by rising number.
The object store, memory, rods, layers, queues and every other numbered bank of the device has this form. -/
abbrev Tab (α : Type) := List (Nat × α)

/-- The `n` low bytes of a number, least significant first (R43). -/
def leBytes : Nat → Nat → List Byte
  | 0, _ => []
  | n + 1, v => BitVec.ofNat 8 v :: leBytes n (v / 256)

/-- The number that bytes spell, least significant first (R43). -/
def leNat : List Byte → Nat
  | [] => 0
  | b :: bs => b.toNat + 256 * leNat bs

/-- A number read as two's complement of `w` bits. -/
def asSigned (w v : Nat) : Int :=
  if v % 2 ^ w < 2 ^ (w - 1) then (v % 2 ^ w : Nat) else ((v % 2 ^ w : Nat) : Int) - (2 ^ w : Nat)

/-- The two's complement of `w` bits of an integer, as a number. -/
def ofSigned (w : Nat) (i : Int) : Nat := (i % ((2 ^ w : Nat) : Int)).toNat

/-- The bit field of `v` from bit `lo` of width `w`. -/
def bits (v lo w : Nat) : Nat := v / 2 ^ lo % 2 ^ w

/-- `v` with the field from bit `lo` of width `w` replaced by `f`. -/
def setBits (v lo w f : Nat) : Nat := v - bits v lo w * 2 ^ lo + f % 2 ^ w * 2 ^ lo

/-- Division rounded up. -/
def ceilDiv (a b : Nat) : Nat := (a + b - 1) / b

end Sys2Proof
end

