-- ==== Sys2Proof/Syntax.lean ====
section
/-! DEFINITION. The commands the block takes: one constructor per row of spec/opcode_table.json, with the row's operands.
Numbers name units as the object tables do. A command that an initiator sends names it; a command that brings a measurement
or data from outside carries it as an operand (assumption log 1). -/

namespace Sys2Proof

/-- The path a request arrived by (R45). -/
inductive Init where
  | island                 -- class I, owner 00h
  | enclave (e : Nat)      -- class E, owner 01h to 1Fh
  | openWorld              -- class O, owner 20h
  | host (i : Nat)         -- class H, owner 40h + i
  | can (port : Nat)       -- class C, no owner code
  deriving DecidableEq, Repr

/-- Where a write of an object goes (R45, R48): to an object by its index, the place beside it being the subindex, or through
the device's address map, the place being the address. -/
inductive ObjTarget where
  | object (index : Nat)
  | address
  deriving DecidableEq, Repr

/-- What ends Keep-alive (R414). -/
inductive WakeCause where
  | profile (who : Init) (value : Nat)   -- a write of 0 to 2 to 2002h/01h
  | wakeEdge                             -- a latch with WAKE (R311)
  | approach (panel : Nat)               -- an approach on a panel of 3300h/0Fh
  deriving DecidableEq, Repr

/-- What takes a core out of its thread's instructions (R285, R286): an interrupt, with its target's owner code and the thread's
pc, or a synchronous trap. -/
inductive EnclaveCause where
  | interrupt (target pc : Nat)
  | trap
  deriving DecidableEq, Repr

/-- What an identification measured (R222): the resistance step's verdict and the fitted model. -/
structure Fit where
  openOrShort : Option Nat   -- cause 1 or 2 of Table 11-3 found in step 1
  bl          : Nat          -- mN/A
  mass        : Nat          -- mg
  stiffness   : Nat          -- N/m
  resistance  : Nat          -- mOhm
  inductance  : Nat          -- uH
  residual    : Nat          -- 0.1 %
  deriving DecidableEq, Repr

/-- Settings of the dirty log as the manager wrote them (Table 13-4). -/
structure DirtySettings where
  map0  : Nat
  map1  : Nat
  base  : Nat
  pages : Nat
  deriving DecidableEq, Repr

/-- What reads or writes DRAM (Table 1-3). -/
inductive DramInitiator where
  | layerFetch | safetyLayerFetch
  | islandCore | islandRenderer
  | gpuBandQueue | audioRingDma | touchReport
  | gpuGraphicsQueue | gpuComputeQueue | gpuCopyQueue | applicationCluster | hostDma | copyEngine | carryEngine
  deriving DecidableEq, Repr

/-- A request that waits in a slot of a DRAM channel (R321): its initiator, and for how long it has waited. -/
structure WaitingRequest where
  channel  : Nat
  source   : DramInitiator
  waitedNs : Nat
  deriving DecidableEq, Repr

/-- Pixels that came late on the line that an output shows (R76): the first, and how many. -/
structure LatePixels where
  output : Nat
  first  : Nat
  count  : Nat
  deriving DecidableEq, Repr

/-- A GPU core that fails (R143): bit q of `queues` says that the job in hand of queue q had work on it. -/
structure FailedCore where
  core   : Nat
  queues : Nat
  deriving DecidableEq, Repr

/-- What a scan gave (R192, R194): the raw values of the nodes or groups, and how many bridge edges its sampling instants
deferred. -/
structure Scanned where
  raw   : List Nat
  edges : Nat
  deriving DecidableEq, Repr

/-- A link that rests (R269): the port and its L1 state, 3 to 5. -/
structure LinkRest where
  port  : Nat
  state : Nat
  deriving DecidableEq, Repr

/-- An access to the BAR of an instance (R261): a write with its value, or a read. -/
structure BarAccess where
  inst   : Nat
  offset : Nat
  size   : Nat
  value  : Option Nat
  deriving DecidableEq, Repr

/-- An enclave's call of EXIT (R285): its value, and whether the monitor makes it because the enclave faulted. -/
structure ExitCall where
  value   : Nat
  faulted : Bool
  deriving DecidableEq, Repr

/-- Which MSI-X mask a write touches (R307). -/
inductive MaskSel where
  | vector (v : Nat)
  | function
  deriving DecidableEq, Repr

/-- The SRAM word that read with an error (Table 17-4): its array and what it holds. -/
structure SramWord where
  array         : Nat    -- 1 to 11
  uncorrectable : Bool
  dirty         : Bool   -- cache arrays: the line is dirty
  address       : Nat    -- the device address of the line or word (caches, secure SRAM), else its index as the array counts
  unit          : Nat    -- the unit concerned: core, panel, audio object index, island bank
  set           : Nat    -- system cache: the set of the frame
  way           : Nat    -- system cache: the way of the frame
  deriving DecidableEq, Repr

/-- The commands of the block, in the order of spec/opcode_table.json. -/
inductive Instr where
  -- rods, beads and the device clock (02)
  | rodAdvanceLine (rod late : Nat)
  | syncOutRelease (ball : Nat)
  | freeRunWrite (who : Init) (rod value : Nat)
  | freeRodTimingWrite (who : Init) (rod sub value : Nat)
  | lockSourceWrite (who : Init) (rod value : Nat)
  | lockReferenceEvent (rod : Nat) (phaseNs trimNeeded : Int)
  | lockReferenceAbsent (rod : Nat)
  | holdoverExpiry (rod : Nat)
  | beadWordWrite (who : Init) (slot value : Nat)
  | actionWordWrite (who : Init) (slot value : Nat)
  | pixelPllLocked (output reachedHz : Nat)
  | clockOffsetWrite (who : Init) (value : Int)
  | rateTrimWrite (who : Init) (value : Int)
  | offsetSlewSpent
  | timeReceived (port days ms : Nat)
  -- the dictionary and its windows (03)
  | objectWrite (who : Init) (target : ObjTarget) (place : Nat) (data : List Byte)
  | windowRead (who : Init) (win index sub : Nat)
  | windowWrite (who : Init) (win index sub : Nat)
  | windowDescribe (who : Init) (win index sub : Nat)
  | domainReadSegment (who : Init) (win index sub : Nat)
  | domainWriteSegment (who : Init) (win index sub : Nat)
  | domainEnd (who : Init) (win index sub : Nat)
  | domainAbort (who : Init) (win index sub : Nat)
  | windowRegisterWrite (who : Init) (win offset : Nat) (data : List Byte)
  | windowRequestEnd (win : Nat)
  -- CANopen (03)
  | usdoDownload (port index sub : Nat) (data : List Byte)
  | usdoUpload (port index sub : Nat)
  | rpdoReceived (port pdo : Nat) (data : List Byte)
  | rpdoTimeout (pdo : Nat)
  | tpdoEventTimerExpiry (pdo : Nat)
  | syncReceived (port : Nat)
  | heartbeatProducerTimer
  | heartbeatReceived (port node : Nat)
  | heartbeatConsumerTimeout (entry : Nat)
  | emcyInhibitExpiry
  | canReceiveOverrun (port : Nat)
  | canBusOffRecovery (port : Nat)
  | nmtStartRemoteNode (port node : Nat)
  | nmtStopRemoteNode (port node : Nat)
  | nmtEnterPreOperational (port node : Nat)
  | nmtResetNode (port node : Nat)
  | nmtResetCommunication (port node : Nat)
  | errorHistoryClear (who : Init) (value : Nat)
  | storeParameters (who : Init) (sub value : Nat)
  | storeSaveComplete (confirmed : Bool)
  | restoreDefaults (who : Init) (sub value : Nat)
  -- profiles and low power (03, 23)
  | profileRequest (who : Init) (value : Nat)
  | keepAliveRequest (who : Init)
  | keepAliveEntryComplete
  | keepAliveExit (cause : WakeCause)
  | sleepRequest (who : Init)
  | canWakePattern (port : Nat)
  -- display outputs (04)
  | outputRequestedStateWrite (who : Init) (output value : Nat)
  | outputDisableComplete (output : Nat)
  | timingApply (who : Init) (output value : Nat)
  | hpdDebouncedRise (output : Nat)
  | hpdDebouncedFall (output : Nat)
  | hpdIrq (output : Nat) (laneLost : Bool)
  | trainingPass (output dpcdRevision : Nat)
  | trainingFail (output cause : Nat)
  | trainingTimeout (output : Nat)
  | retryIntervalExpiry (output : Nat)
  | edidReadComplete (output : Nat) (edid : List Byte)
  | auxRequest (who : Init) (output : Nat) (request : List Byte)
  | auxTransactionEnd (output : Nat) (reply : List Byte)
  | auxTimeout (output : Nat)
  | pixelUnderrun (late : LatePixels)
  -- composition (05)
  | commitSubmit (who : Init) (output address : Nat)
  | reservationWrite (who : Init) (output value : Nat)
  | layerEnableWrite (who : Init) (layer value : Nat)
  | layerFetchHalt (layer address : Nat) (uncorrectable : Bool)
  | checkedLineMismatch (layer line : Nat)
  -- the copy engine (06)
  | copyJobSubmit (who : Init) (channel address : Nat)
  | copyJobCopy (channel : Nat)
  | encode (channel : Nat)
  | decode (channel : Nat)
  | fill (channel : Nat)
  | clear (channel : Nat)
  | copyJobComplete (channel : Nat)
  | copyJobHalt (channel : Nat)
  | copyChannelEnableWrite (who : Init) (channel value : Nat)
  | copyChannelDisableComplete (channel : Nat)
  -- the GPU (07, 08, 09)
  | gpuJobSubmit (who : Init) (partition queue address : Nat)
  | gpuJobStart (partition queue : Nat)
  | gpuJobComplete (partition queue : Nat)
  | gpuJobHalt (partition queue : Nat)
  | budgetOverrun (partition : Nat)
  | nop (partition queue : Nat)
  | setPipeline (partition queue : Nat)
  | setState (partition queue : Nat)
  | call (partition queue : Nat)
  | draw (partition queue : Nat)
  | drawIndexed (partition queue : Nat)
  | drawIndirect (partition queue : Nat)
  | dispatch (partition queue : Nat)
  | dispatchIndirect (partition queue : Nat)
  | bandBegin (partition queue : Nat)
  | bandEnd (partition queue : Nat)
  | bandWritebackDone (partition queue : Nat)
  | copy (partition queue : Nat)
  | fenceWrite (partition queue : Nat)
  | fenceWait (partition queue : Nat)
  | fenceWaitSatisfied (partition queue : Nat)
  | fenceWaitTimeout (partition queue : Nat)
  | beadArm (partition queue : Nat)
  | rodWait (partition queue : Nat)
  | rodWaitSatisfied (partition queue : Nat)
  | rodWaitTimeout (partition queue : Nat)
  | timestamp (partition queue : Nat)
  | gpuCoreFault (failed : FailedCore)
  | gpuCoreResetDone (core : Nat)
  | coreLeavingDrained (core : Nat)
  | reshapePoint (partition : Nat)
  | gpuQueueEnableWrite (who : Init) (partition queue value : Nat)
  | disableGraceExpiry (partition queue : Nat)
  | gpuQueueDisableComplete (partition queue : Nat)
  | preemptionComplete (partition : Nat)
  | preemptionHoldEnd (partition : Nat)
  | pipelineCreateSubmit (who : Init) (address : Nat)
  | compilationStart (serviceCore : Nat)
  | compilationComplete (serviceCore firstBytes secondBytes : Nat)
  | pipelineDestroy (who : Init) (handle : Nat)
  | serviceCoreFault (serviceCore : Nat)
  -- touch (10)
  | scanComplete (panel : Nat) (found : Scanned)
  | longRestExpiry (panel identity : Nat)
  | touchIdleExpiry (panel : Nat)
  | rebaseline (who : Init) (panel : Nat)
  | recalibrate (who : Init) (panel : Nat)
  | saveReference (who : Init) (panel value : Nat)
  | panelEnableWrite (who : Init) (panel value : Nat)
  | panelDisableComplete (panel : Nat)
  | temperatureBandChange (degrees : Int)
  | nodeMemoryFault (panel : Nat)
  -- haptics (11)
  | hapticTrigger (who : Init) (channel argument : Nat)
  | triggerTaken (channel : Nat)
  | hapticLoopPeriod (channel : Nat) (currentMa voltageMv diDt : Int)
  | checkPhaseEnd (channel resistance forceFactor : Nat)
  | driveEnd (channel resistance forceFactor : Nat)
  | inDriveCheck (channel resistance forceFactor : Nat)
  | brakeEnd (channel : Nat)
  | brakeTimeout (channel : Nat)
  | bridgeTrip (channel : Nat) (overTemperature : Bool)
  | identify (who : Init) (channel : Nat)
  | identificationEnd (channel : Nat) (fit : Fit)
  | clearFault (who : Init) (channel value : Nat)
  | modelStateWrite (who : Init) (channel value : Nat)
  | hapticEnableWrite (who : Init) (channel value : Nat)
  | hapticDisableComplete (channel : Nat)
  -- audio (12)
  | audioBlock
  | lowLatencyBlock
  | inputRunWrite (who : Init) (input value : Nat)
  | writePositionWrite (who : Init) (input value : Nat)
  | readPositionWrite (who : Init) (sink value : Nat)
  | gainWrite (who : Init) (index sub : Nat) (data : List Byte)
  | gainStepTimeout (index sub : Nat)
  | stageSilenceHoldExpiry (sink : Nat)
  | speakerStageFault (sink : Nat)
  | stageRetryExpiry (sink : Nat)
  | headsetDetEdge (port : Nat) (present : Bool)
  | headsetDebounceExpiry (port : Nat)
  | headsetMeasurementComplete (port za zb : Nat)
  | headsetRemeasureExpiry (port : Nat)
  | headsetWatchTick (port za : Nat)
  | headsetPlugAbsentExpiry (port : Nat)
  | headsetButtonDebounce (port resistance : Nat)
  | audioUnitEnableWrite (who : Init) (index value : Nat)
  | audioDisableComplete (index : Nat)
  -- host ports and instances (13)
  | sqTail (inst ring value : Nat)
  | cqHead (inst ring value : Nat)
  | ringNop (inst ring : Nat)
  | ringCompositionCommit (inst ring : Nat)
  | ringCopyJob (inst ring : Nat)
  | ringGpuJob (inst ring : Nat)
  | ringPipelineCreate (inst ring : Nat)
  | ringPipelineDestroy (inst ring : Nat)
  | ringBlockReadComplete (inst ring : Nat) (good : Bool)
  | ringHalt (inst ring : Nat)
  | ringEnableWrite (who : Init) (inst ring value : Nat)
  | ringDisableComplete (inst ring : Nat)
  | idleHint (inst value : Nat)
  | timeLo (inst : Nat)
  | ptmRequest (port turnaroundNs : Nat)
  | quiesce (who : Init) (inst : Nat)
  | quiesceComplete (inst : Nat)
  | resume (who : Init) (inst : Nat)
  | startDirtyLog (port function : Nat) (settings : DirtySettings)
  | stopDirtyLog (port function : Nat)
  | harvest (port function : Nat)
  | functionLevelReset (inst : Nat)
  | d3hotTransition (inst : Nat)
  | vfRemoval (port numVfs : Nat)
  | vfEnableSet (port numVfs : Nat)
  | linkUp (port speed width : Nat)
  | linkDown (port : Nat)
  | detachComplete (inst : Nat)
  | instanceResetComplete (inst : Nat)
  | linkRetrain (port : Nat)
  | l1Entry (rest : LinkRest)
  | barReservedAccess (access : BarAccess)
  -- isolation (14)
  | regionRecordWrite (who : Init) (index sub value : Nat)
  | enclaveBuild (who : Init) (enclave : Nat)
  | enclaveSeal (who : Init) (enclave : Nat)
  | sealingComplete (enclave : Nat)
  | enclaveDestroy (who : Init) (enclave : Nat)
  | destroyComplete (enclave : Nat)
  | enclaveEnter (core enclave thread : Nat)
  | enclaveExit (core : Nat) (made : ExitCall)
  | enclaveResume (core enclave thread : Nat)
  | enclaveInterrupt (core : Nat) (cause : EnclaveCause) (saved : List Nat)
  | handoverRequest (who : Init) (word : Nat)
  | handoverRelease (who : Init) (block : Nat)
  | releaseTimeout (block : Nat)
  | blockResetDone (block : Nat)
  | forcedBlockReset (block : Nat)
  | run (who : Init) (block : Nat)
  | stopClock (who : Init) (block : Nat)
  | powerOff (who : Init) (block : Nat)
  | programKeySlot (who : Init) (data : List Byte)
  | revokeKeySlot (who : Init) (slot : Nat)
  | retire (who : Init) (value : Nat)
  | drawNonce (who : Init) (value : Nat)
  | certificate (data : List Byte)
  | certificateCheckComplete
  | idcode
  | uid
  | nonce
  | cert (data : List Byte)
  | status
  | bypass
  | extest
  | samplePreload
  | dmi (domain : Nat)
  | debugReq
  -- the Letterbox (15)
  | doorbell (who : Init) (page word : Nat)
  | claim (core page : Nat)
  | complete (core page source : Nat)
  | thresholdWrite (core page value : Nat)
  | sourceEntryWrite (who : Init) (source value : Nat)
  | moderationTimerExpiry (owner cls : Nat)
  | coreWfi (core : Nat)
  | msixWriteIssue (inst vector : Nat)
  | msixMaskWrite (inst : Nat) (sel : MaskSel) (masked : Bool)
  | edgeLatchSet (pin : Nat) (rising : Bool)
  | edgeLatchPost (pin : Nat)
  -- the DRAM controller (16)
  | requestPromotion (request : WaitingRequest)
  | bankSkewWindow (channel transfers busiestBank busiestCount region : Nat)
  | modeRegister4Read (rank field : Nat) (limitExceeded : Bool)
  | commandPathCheck (rank : Nat) (mismatch again : Bool)
  | takeOutOfService (who : Init) (rank value : Nat)
  | carryCopyComplete
  | carryDrainComplete
  | remap (who : Init) (region value : Nat)
  | remapBlockDone
  | wayMaskWrite (who : Init) (partition value : Nat)
  | wayWritebackComplete (partition : Nat)
  | lockWrite (who : Init) (partition value : Nat)
  -- protection of stored data (17)
  | dramReadComplete (owner address : Nat) (merge : Option (List Byte))
  | scrubBurst
  | lapLimitExpiry
  | sramError (word : SramWord)
  | clearRetiredList (who : Init) (value : Nat)
  -- Nines engines (18)
  | catalogueLoad (who : Init) (engine code : Nat)
  | selfCheck (who : Init) (engine value : Nat)
  | streamOpen (who : Init) (engine : Nat)
  | streamClose (who : Init) (engine : Nat)
  | streamAbort (who : Init) (engine : Nat)
  | feedWord (who : Init) (engine value : Nat)
  | feedEnd (engine : Nat)
  | feedHalt (engine : Nat)
  | directData (who : Init) (engine : Nat) (data : List Byte)
  | ninesEnableWrite (who : Init) (engine value : Nat)
  | ninesDisableComplete (engine : Nat)
  -- the event recorder (19)
  | recordCommit
  | logClear (who : Init) (value : Nat)
  | postEvent (who : Init) (data : List Byte)
  | bucketRefill (cls : Nat)
  -- pipe faults, the island and its watchdogs (20, 21)
  | pixelPipeFault (output : Nat)
  | lockstepMismatch
  | islandWatchdogExpiry
  | islandSwitch (who : Init) (value : Nat)
  | islandRestartComplete
  | pairSelfTestComplete (pair : Nat) (passed : Bool)
  | watchdogKick (who : Init) (watchdog value : Nat)
  | ownerWatchdogExpiry (watchdog : Nat)
  -- pairing (22)
  | courierHeartbeatTimer
  | heartbeatFrame (frame : List Byte)
  | mirrorFrame (frame : List Byte)
  | mirrorTimer
  | rodMarkFrame (frame : List Byte)
  | probeTimer
  | probeFrame (frame : List Byte) (turnaround : Nat)
  | echoFrame (frame : List Byte) (roundTripNs : Nat)
  | courierBlockLock
  | courierSilenceTimeout
  | takeoverExpiry (output : Nat)
  | returnDelayExpiry (output : Nat)
  -- power-up, reset, update, thermal (23)
  | powerOn
  | resetNLow
  | internalResetRelease (nodeStraps pairRole bootSel : Nat)
  | softwareReset (who : Init) (value : Nat)
  | brownOut
  | dramTrainingComplete (timeMs : Nat)
  | verifyingComplete
  | updateActivate (who : Init)
  | updateAbandon (who : Init)
  | updateCommit (who : Init)
  | loadingComplete
  | trialTimeExpiry
  | thermalStepDown (logicTenths analogTenths : Int) (dramHot : Bool)
  | thermalReturnExpiry
  | thermalShutdown
  | vinThresholdEvent (millivolts : Nat)
  | canPortStateChange (port value : Nat)
  | tpdoInhibitExpiry (pdo : Nat)
  | perstDeassertion (port : Nat)
  | d0Transition (inst : Nat)
  deriving DecidableEq, Repr

end Sys2Proof
end

