-- ==== Sys2Proof/Config.lean ====
section
/-! DEFINITION. What a part or its firmware fixes, and the free values: constants without a body, so that nothing can be
proved from a value of theirs (assumption log 8). A `Nat` operand named `k` is the state's counter of free values. -/

namespace Sys2Proof.Config

/-! ### Fixed per part, per firmware, per stepping -/

/-- The unique ID from the fuses (R294): byte `i`, 0 to 15. -/
opaque uniqueId : Nat → Byte
/-- Byte `i` of the island firmware's version string (100Ah) and its length. -/
opaque softwareVersion : Nat → Byte
opaque softwareVersionLength : Nat
/-- The number of an event in its class (R360 leaves it to the code catalogue): `what` names the event in this model. -/
opaque eventNumber : Nat → Nat
/-- The payload of an event's record (R360), from the facts that the rule names. -/
opaque eventPayload : Nat → List Nat → List Byte
/-- The code catalogue, 2F04h/01h. -/
opaque codeCatalogue : List Byte
/-- Spare rows and columns used by SRAM array `a` (2D30h). -/
opaque sramRepairs : Nat → Nat

/-- Where list `k` of the island content begins, counted from the start of the content section (R387 names lists by number
and gives no directory), and the content's version (3100h/07h). -/
opaque listOffset : Nat → Nat
opaque contentVersion : List Byte → Nat

/-- The island firmware of an image (its section's bytes) can read the state format in force (R411). -/
opaque readsState : List Byte → Bool

/-! ### Free values -/

/-- A byte that nothing in the spec gives. -/
opaque freeByte : Nat → Nat → Byte
/-- A number that nothing in the spec gives. -/
opaque freeNat : Nat → Nat
/-- The size, in 0.01 ppm, of the trim that works off a phase error (R23 bounds it by the limits of the trim). -/
opaque phaseTrim : Int → Nat
/-- The slew addition in 0.001 ppm for an offset (R38 bounds it by 500 ppm). -/
opaque slewRate : Int → Nat
/-- A debug nonce (R296): byte `i` of draw `k`. -/
opaque nonceByte : Nat → Nat → Byte

/-! ### The GPU -/

/-- Free number `i` of draw `n` of packet `k`: what a shader's operations leave undefined or bound only (R183), and the
choices of its execution. -/
opaque freeIn (k n i : Nat) : Nat
/-- The words of a module obey the rules of SPIR-V 1.6 that this model does not restate (R182 names the publication). -/
opaque spirvValid : List Nat → Bool
/-- Of the two fixed-point values around a coordinate, the snapped one is the upper (R171 gives no rounding). -/
opaque snapUp (v : Rat) : Bool
/-- The unorm value that a NaN becomes. -/
opaque nanUnorm (top : Nat) : Nat
/-- Which NaN an operation of a width answers. -/
opaque nanPayload (width : Nat) : Nat

/-! ### Touch -/

/-- Which touch held so far a new peak continues, among `n` candidates; any other number is a new touch (R197). -/
opaque touchMatch (k i n : Nat) : Nat
/-- Which of the unused identities a new touch gets. -/
opaque touchIdentity (k i n : Nat) : Nat
/-- The delta of a touch on a row-column panel, from those of its two peaks. -/
opaque touchDelta (row col : Int) : Int
/-- Of two codes that leave the raw value equally far from 16 384, the greater is chosen (R196). -/
opaque codeTie (raw : Nat) : Bool

/-! ### Haptics and audio -/

/-- The input power (3400h/04h, in 0.1 W) that the part estimates (R418 gives no formula). -/
opaque inputPower (ns : Nat) : Nat
/-- The coil voltage that the loop sets for the next period, in mV, toward a coil current (mA; none in a brake segment) from
the estimates of velocity, displacement and acceleration (R223 gives no control law). -/
opaque coilVoltage (demand : Option Rat) (velocity position accel : Rat) : Int
/-- A resonance is rounded up to its 0.1 Hz (R222 gives no rounding). -/
opaque resonanceUp (stiffness mass : Nat) : Bool
/-- Of the two FP32 values around 10^(l/200), the factor of a gain of `l` tenths of a decibel is the upper (R245 gives no
rounding). -/
opaque gainUp (l : Int) : Bool
/-- A sample whose value the spec does not give: a converter's, a fading unit's, a limiter's, the last bits of a tone's. -/
opaque freeSample (k frame channel : Nat) : Nat
/-- A sample of a capture source, whose signal comes from outside: `setting` is the microphone's gain or the line's high-pass
corner. -/
opaque captureSample (k source frame setting : Nat) : Nat
/-- A sample between two integers is rounded to the upper one on its way into a ring. -/
opaque sampleUp (k n : Nat) : Bool
/-- A slot of the channel holds a request at the moment of a scrub burst. -/
opaque slotHoldsRequest (k : Nat) : Bool

end Sys2Proof.Config
end

