-- ==== Sys2Proof/Machine/Catalogue.lean ====
section
/-! DEFINITION. The object dictionary's catalogue: one row per line of the object tables of spec/02 to spec/23 and spec/03,
with the object's type, access, rights, default, range, whether it can be mapped to a PDO and whether the persistent store
keeps it (R42 to R47, R56, R62). -/

namespace Sys2Proof.Machine

/-- The object types of Table 3-1. -/
inductive ObjType where
  | bool | i8 | i16 | i32 | u8 | u16 | u32 | i64 | u64
  | visible | octets | domain
  deriving DecidableEq, Repr

/-- The access attributes of R44. -/
inductive Access where
  | ro | rw | wo | const
  deriving DecidableEq, Repr

/-- The values a write may carry (check 7 of Table 3-2). -/
inductive Range where
  | any
  | oneOf (spans : List (Nat × Nat))     -- unsigned, each span inclusive
  | even (lo hi : Nat)                 -- unsigned, inclusive, even values only
  | signed (lo hi : Int)
  deriving DecidableEq, Repr

/-- One row of the object tables: `units` indexes from `idx` in steps of `stride`, and in each `subs` subindexes from
`sub` in steps of `subStride`. Rights are five bits, I E O H C from bit 4 (R448). `dflt` is the Default column. -/
structure ObjRow where
  idx       : Nat
  units     : Nat
  stride    : Nat
  sub       : Nat
  subs      : Nat
  subStride : Nat
  ty        : ObjType
  acc       : Access
  read      : Nat
  write     : Nat
  dflt      : Nat
  range     : Range
  mappable  : Bool
  stored    : Bool
  deriving DecidableEq, Repr

/-- Objects of 1000h to 10FFh. -/
def page10 : List ObjRow := [
  ⟨0x1000, 1, 1, 0x00, 1, 1, .u32, .const, 31, 0, 0, .any, false, false⟩,  -- device type
  ⟨0x1001, 1, 1, 0x00, 1, 1, .u8, .ro, 31, 0, 0, .any, false, false⟩,  -- error register
  ⟨0x1003, 1, 1, 0x00, 1, 1, .u8, .rw, 31, 17, 0, .oneOf [(0, 0)], false, false⟩,  -- error count
  ⟨0x1003, 1, 1, 0x01, 8, 1, .u32, .ro, 31, 0, 0, .any, false, false⟩,  -- error history
  ⟨0x1005, 1, 1, 0x00, 1, 1, .u32, .rw, 31, 17, 0x80, .any, false, true⟩,  -- COB-ID SYNC
  ⟨0x1008, 1, 1, 0x00, 1, 1, .visible, .const, 31, 0, 0, .any, false, false⟩,  -- device name
  ⟨0x1009, 1, 1, 0x00, 1, 1, .visible, .const, 31, 0, 0, .any, false, false⟩,  -- hardware version
  ⟨0x100A, 1, 1, 0x00, 1, 1, .visible, .ro, 31, 0, 0, .any, false, false⟩,  -- software version
  ⟨0x1010, 1, 1, 0x00, 1, 1, .u8, .const, 31, 0, 3, .any, false, false⟩,  -- highest subindex
  ⟨0x1010, 1, 1, 0x01, 3, 1, .u32, .rw, 31, 21, 1, .oneOf [(1702257011, 1702257011)], false, false⟩,  -- store parameters
  ⟨0x1011, 1, 1, 0x00, 1, 1, .u8, .const, 31, 0, 3, .any, false, false⟩,  -- highest subindex
  ⟨0x1011, 1, 1, 0x01, 3, 1, .u32, .rw, 31, 21, 1, .oneOf [(1684107116, 1684107116)], false, false⟩,  -- restore defaults
  ⟨0x1012, 1, 1, 0x00, 1, 1, .u32, .rw, 31, 17, 0x100, .any, false, true⟩,  -- COB-ID TIME
  ⟨0x1014, 1, 1, 0x00, 1, 1, .u32, .rw, 31, 17, 0, .any, false, true⟩,  -- COB-ID EMCY
  ⟨0x1015, 1, 1, 0x00, 1, 1, .u16, .rw, 31, 17, 0, .any, false, true⟩,  -- EMCY inhibit (100 us)
  ⟨0x1016, 1, 1, 0x00, 1, 1, .u8, .const, 31, 0, 8, .any, false, false⟩,  -- highest subindex
  ⟨0x1016, 1, 1, 0x01, 8, 1, .u32, .rw, 31, 17, 0, .any, false, true⟩,  -- heartbeat consumer
  ⟨0x1017, 1, 1, 0x00, 1, 1, .u16, .rw, 31, 17, 0xa, .any, false, true⟩,  -- heartbeat producer (ms)
  ⟨0x1018, 1, 1, 0x00, 1, 1, .u8, .const, 31, 0, 4, .any, false, false⟩,  -- highest subindex
  ⟨0x1018, 1, 1, 0x01, 1, 1, .u32, .const, 31, 0, 0xa71, .any, false, false⟩,  -- vendor ID
  ⟨0x1018, 1, 1, 0x02, 1, 1, .u32, .const, 31, 0, 0x81521, .any, false, false⟩,  -- product code
  ⟨0x1018, 1, 1, 0x03, 1, 1, .u32, .const, 31, 0, 0xb0, .any, false, false⟩,  -- revision
  ⟨0x1018, 1, 1, 0x04, 1, 1, .u32, .const, 31, 0, 0, .any, false, false⟩  -- serial number
  ]

/-- Objects of 1400h to 14FFh. -/
def page14 : List ObjRow := [
  ⟨0x1400, 16, 1, 0x00, 1, 1, .u8, .const, 31, 0, 5, .any, false, false⟩,  -- RPDO communication: highest subindex
  ⟨0x1400, 16, 1, 0x01, 1, 1, .u32, .rw, 31, 17, 0x80000000, .any, false, true⟩,  -- RPDO COB-ID
  ⟨0x1400, 16, 1, 0x02, 1, 1, .u8, .rw, 31, 17, 0, .oneOf [(0, 240), (254, 255)], false, true⟩,  -- RPDO transmission type
  ⟨0x1400, 16, 1, 0x05, 1, 1, .u16, .rw, 31, 17, 0, .any, false, true⟩  -- RPDO event timer (ms)
  ]

/-- Objects of 1600h to 16FFh. -/
def page16 : List ObjRow := [
  ⟨0x1600, 16, 1, 0x00, 1, 1, .u8, .rw, 31, 17, 0, .oneOf [(0, 64)], false, true⟩,  -- RPDO mapping: number of entries
  ⟨0x1600, 16, 1, 0x01, 64, 1, .u32, .rw, 31, 17, 0, .any, false, true⟩  -- RPDO mapping entry
  ]

/-- Objects of 1800h to 18FFh. -/
def page18 : List ObjRow := [
  ⟨0x1800, 16, 1, 0x00, 1, 1, .u8, .const, 31, 0, 6, .any, false, false⟩,  -- TPDO communication: highest subindex
  ⟨0x1800, 16, 1, 0x01, 1, 1, .u32, .rw, 31, 17, 0x80000000, .any, false, true⟩,  -- TPDO COB-ID
  ⟨0x1800, 16, 1, 0x02, 1, 1, .u8, .rw, 31, 17, 0, .oneOf [(0, 240), (254, 255)], false, true⟩,  -- TPDO transmission type
  ⟨0x1800, 16, 1, 0x03, 1, 1, .u16, .rw, 31, 17, 0, .any, false, true⟩,  -- TPDO inhibit (100 us)
  ⟨0x1800, 16, 1, 0x05, 1, 1, .u16, .rw, 31, 17, 0, .any, false, true⟩,  -- TPDO event timer (ms)
  ⟨0x1800, 16, 1, 0x06, 1, 1, .u8, .rw, 31, 17, 0, .any, false, true⟩  -- TPDO SYNC start
  ]

/-- Objects of 1A00h to 1AFFh. -/
def page1A : List ObjRow := [
  ⟨0x1A00, 16, 1, 0x00, 1, 1, .u8, .rw, 31, 17, 0, .oneOf [(0, 64)], false, true⟩,  -- TPDO mapping: number of entries
  ⟨0x1A00, 16, 1, 0x01, 64, 1, .u32, .rw, 31, 17, 0, .any, false, true⟩  -- TPDO mapping entry
  ]

/-- Objects of 2000h to 20FFh. -/
def page20 : List ObjRow := [
  ⟨0x2000, 1, 1, 0x00, 1, 1, .u8, .const, 31, 0, 9, .any, false, false⟩,  -- highest subindex
  ⟨0x2000, 1, 1, 0x01, 1, 1, .visible, .const, 31, 0, 0, .any, false, false⟩,  -- part number
  ⟨0x2000, 1, 1, 0x02, 1, 1, .u8, .const, 31, 0, 0xb0, .any, false, false⟩,  -- stepping
  ⟨0x2000, 1, 1, 0x03, 1, 1, .octets, .const, 31, 0, 0, .any, false, false⟩,  -- unique ID
  ⟨0x2000, 1, 1, 0x04, 1, 1, .u32, .ro, 31, 0, 0, .any, false, false⟩,  -- boot count
  ⟨0x2000, 1, 1, 0x05, 1, 1, .u8, .ro, 31, 0, 0, .any, false, false⟩,  -- firmware slot
  ⟨0x2000, 1, 1, 0x06, 1, 1, .u32, .ro, 31, 0, 0, .any, false, false⟩,  -- island firmware version
  ⟨0x2000, 1, 1, 0x07, 1, 1, .u8, .ro, 31, 0, 0xff, .any, false, false⟩,  -- store slot in force
  ⟨0x2000, 1, 1, 0x08, 1, 1, .u32, .ro, 31, 0, 0, .any, false, false⟩,  -- store generation
  ⟨0x2000, 1, 1, 0x09, 1, 1, .u8, .ro, 31, 0, 0, .any, false, false⟩,  -- store status
  ⟨0x2001, 1, 1, 0x00, 1, 1, .u8, .const, 31, 0, 8, .any, false, false⟩,  -- highest subindex
  ⟨0x2001, 1, 1, 0x01, 1, 1, .u8, .ro, 31, 0, 0x7f, .any, false, false⟩,  -- strap value
  ⟨0x2001, 1, 1, 0x02, 1, 1, .u8, .rw, 31, 17, 0, .any, false, true⟩,  -- node ID override
  ⟨0x2001, 1, 1, 0x03, 1, 1, .u8, .ro, 31, 0, 0x7f, .any, false, false⟩,  -- effective node ID
  ⟨0x2001, 1, 1, 0x04, 1, 1, .u8, .rw, 31, 17, 2, .oneOf [(0, 3)], false, true⟩,  -- arbitration rate
  ⟨0x2001, 1, 1, 0x05, 1, 1, .u8, .rw, 31, 17, 1, .oneOf [(0, 3)], false, true⟩,  -- data rate
  ⟨0x2001, 1, 1, 0x06, 1, 1, .u8, .rw, 31, 17, 3, .any, false, true⟩,  -- port enable
  ⟨0x2001, 1, 1, 0x07, 1, 1, .u8, .ro, 31, 0, 0, .any, false, false⟩,  -- port state
  ⟨0x2001, 1, 1, 0x08, 1, 1, .u16, .ro, 31, 0, 0, .any, false, false⟩,  -- heartbeat heard
  ⟨0x2002, 1, 1, 0x00, 1, 1, .u8, .const, 31, 0, 4, .any, false, false⟩,  -- highest subindex
  ⟨0x2002, 1, 1, 0x01, 1, 1, .u8, .rw, 31, 21, 0, .oneOf [(0, 4)], false, true⟩,  -- requested profile
  ⟨0x2002, 1, 1, 0x02, 1, 1, .u8, .ro, 31, 0, 0, .any, false, false⟩,  -- profile in force
  ⟨0x2002, 1, 1, 0x03, 1, 1, .u8, .ro, 31, 0, 0, .any, false, false⟩,  -- thermal ceiling
  ⟨0x2002, 1, 1, 0x04, 1, 1, .u32, .ro, 31, 0, 0, .any, false, false⟩  -- last refusal
  ]

/-- Objects of 2100h to 21FFh, part 1. -/
def page21_0 : List ObjRow := [
  ⟨0x2100, 1, 1, 0x00, 1, 1, .u8, .const, 31, 0, 0xd, .any, false, false⟩,  -- highest subindex
  ⟨0x2100, 1, 1, 0x01, 1, 1, .u8, .const, 31, 0, 0xc, .any, false, false⟩,  -- rod count
  ⟨0x2100, 1, 1, 0x02, 1, 1, .u16, .const, 31, 0, 0x200, .any, false, false⟩,  -- bead slots
  ⟨0x2100, 1, 1, 0x03, 1, 1, .u8, .const, 31, 0, 0x40, .any, false, false⟩,  -- bead skew limit (pixel clocks)
  ⟨0x2100, 1, 1, 0x04, 1, 1, .u32, .ro, 31, 0, 0, .any, false, false⟩,  -- moved-bead tally
  ⟨0x2100, 1, 1, 0x05, 1, 1, .u32, .ro, 31, 0, 0, .any, false, false⟩,  -- early-fired bead tally
  ⟨0x2100, 1, 1, 0x06, 1, 1, .u32, .ro, 31, 0, 0, .any, false, false⟩,  -- late bead tally
  ⟨0x2100, 1, 1, 0x07, 1, 1, .u64, .ro, 31, 0, 0, .any, false, false⟩,  -- device clock (ns)
  ⟨0x2100, 1, 1, 0x08, 1, 1, .u8, .rw, 31, 16, 0, .oneOf [(0, 1), (64, 127)], false, true⟩,  -- discipline source
  ⟨0x2100, 1, 1, 0x09, 1, 1, .i64, .wo, 0, 18, 0, .any, false, false⟩,  -- clock offset (ns)
  ⟨0x2100, 1, 1, 0x0A, 1, 1, .i32, .rw, 31, 18, 0, .signed (-500000) (500000), false, true⟩,  -- rate trim (0.001 ppm)
  ⟨0x2100, 1, 1, 0x0B, 1, 1, .i64, .ro, 31, 0, 0, .any, false, false⟩,  -- last step (ns)
  ⟨0x2100, 1, 1, 0x0C, 1, 1, .u8, .rw, 31, 16, 0, .oneOf [(0, 1)], false, true⟩,  -- GENLOCK_IN0 edge
  ⟨0x2100, 1, 1, 0x0D, 1, 1, .u8, .rw, 31, 16, 0, .oneOf [(0, 1)], false, true⟩,  -- GENLOCK_IN1 edge
  ⟨0x2101, 12, 1, 0x00, 1, 1, .u8, .const, 31, 0, 0x14, .any, false, false⟩,  -- highest subindex
  ⟨0x2101, 8, 1, 0x01, 1, 1, .u8, .const, 31, 0, 0, .any, false, false⟩,  -- kind
  ⟨0x2101, 12, 1, 0x02, 1, 1, .u8, .ro, 31, 0, 0, .any, false, false⟩,  -- lock state
  ⟨0x2101, 12, 1, 0x03, 1, 1, .u64, .ro, 31, 0, 0, .any, false, false⟩,  -- position
  ⟨0x2101, 12, 1, 0x04, 1, 1, .u64, .ro, 31, 0, 0, .any, false, false⟩,  -- time of last line 0 (ns)
  ⟨0x2101, 12, 1, 0x05, 1, 1, .u16, .ro, 31, 0, 0, .any, false, false⟩,  -- VTOTAL in use
  ⟨0x2101, 8, 1, 0x06, 1, 1, .u16, .const, 31, 0, 0, .any, false, false⟩,  -- free VTOTAL
  ⟨0x2101, 8, 1, 0x07, 1, 1, .u32, .const, 31, 0, 0, .any, false, false⟩,  -- free line period
  ⟨0x2101, 8, 1, 0x08, 1, 1, .u8, .const, 31, 0, 0, .any, false, false⟩,  -- free run
  ⟨0x2101, 12, 1, 0x09, 1, 1, .u8, .const, 31, 0, 0, .any, false, false⟩,  -- —
  ⟨0x2101, 12, 1, 0x0A, 1, 1, .u8, .rw, 31, 30, 0, .oneOf [(0, 4), (16, 27), (32, 43)], false, true⟩,  -- lock source
  ⟨0x2101, 12, 1, 0x0B, 1, 1, .u16, .rw, 31, 30, 0, .any, false, true⟩,  -- lock line
  ⟨0x2101, 12, 1, 0x0C, 1, 1, .i32, .rw, 31, 30, 0, .signed (-1000000) (1000000), false, true⟩,  -- fine offset (ns)
  ⟨0x2101, 12, 1, 0x0D, 1, 1, .u8, .rw, 31, 30, 1, .oneOf [(1, 2), (4, 4)], false, true⟩,  -- frame ratio k
  ⟨0x2101, 12, 1, 0x0E, 1, 1, .u16, .rw, 31, 30, 0x1388, .oneOf [(0, 5000)], false, true⟩,  -- trim limit (ppm)
  ⟨0x2101, 12, 1, 0x0F, 1, 1, .u16, .rw, 31, 30, 0x64, .oneOf [(1, 5000)], false, true⟩  -- trim slew (ppm per frame)
  ]

/-- Objects of 2100h to 21FFh, part 2. -/
def page21_1 : List ObjRow := [
  ⟨0x2101, 12, 1, 0x10, 1, 1, .u8, .rw, 31, 30, 0x40, .oneOf [(0, 64)], false, true⟩,  -- max added lines per frame
  ⟨0x2101, 12, 1, 0x11, 1, 1, .u16, .rw, 31, 30, 0x2710, .oneOf [(1, 65535)], false, true⟩,  -- holdover time (ms)
  ⟨0x2101, 12, 1, 0x12, 1, 1, .i32, .ro, 31, 0, 0, .any, false, false⟩,  -- current trim (0.01 ppm)
  ⟨0x2101, 12, 1, 0x13, 1, 1, .i32, .ro, 31, 0, 0, .any, false, false⟩,  -- phase error (ns)
  ⟨0x2101, 12, 1, 0x14, 1, 1, .i8, .ro, 31, 0, 0, .any, false, false⟩,  -- lines added last frame
  ⟨0x2109, 4, 1, 0x01, 1, 1, .u8, .const, 31, 0, 1, .any, false, false⟩,  -- kind
  ⟨0x2109, 4, 1, 0x06, 1, 1, .u16, .rw, 31, 16, 0x3e8, .oneOf [(2, 65535)], false, true⟩,  -- free VTOTAL
  ⟨0x2109, 4, 1, 0x07, 1, 1, .u32, .rw, 31, 16, 0x28000, .oneOf [(16384, 4294967295)], false, true⟩,  -- free line period
  ⟨0x2109, 4, 1, 0x08, 1, 1, .u8, .rw, 31, 16, 0, .oneOf [(0, 1)], false, true⟩,  -- free run
  ⟨0x2110, 32, 1, 0x00, 1, 1, .u8, .const, 31, 0, 0x20, .any, false, false⟩,  -- highest subindex
  ⟨0x2110, 32, 1, 0x01, 16, 2, .u64, .rw, 30, 30, 0, .any, false, true⟩,  -- bead word of slot 16k + j
  ⟨0x2110, 32, 1, 0x02, 16, 2, .u64, .rw, 30, 30, 0, .any, false, true⟩  -- action word of slot 16k + j
  ]

/-- Objects of 2200h to 22FFh, part 1. -/
def page22_0 : List ObjRow := [
  ⟨0x2200, 8, 16, 0x00, 1, 1, .u8, .const, 31, 0, 0xa, .any, false, false⟩,  -- highest subindex
  ⟨0x2200, 8, 16, 0x01, 1, 1, .u8, .rw, 31, 30, 0, .oneOf [(0, 2)], false, true⟩,  -- requested state
  ⟨0x2200, 8, 16, 0x02, 1, 1, .u8, .ro, 31, 0, 0, .any, true, false⟩,  -- state
  ⟨0x2200, 8, 16, 0x03, 1, 1, .u8, .rw, 31, 30, 1, .oneOf [(0, 1)], false, true⟩,  -- downspread
  ⟨0x2200, 8, 16, 0x04, 1, 1, .u8, .rw, 31, 30, 0, .oneOf [(0, 1)], false, true⟩,  -- HPD mode
  ⟨0x2200, 8, 16, 0x05, 1, 1, .u16, .rw, 31, 30, 0x64, .oneOf [(10, 10000)], false, true⟩,  -- retry interval (ms)
  ⟨0x2200, 8, 16, 0x06, 1, 1, .bool, .ro, 31, 0, 0, .any, false, false⟩,  -- HPD level
  ⟨0x2200, 8, 16, 0x07, 1, 1, .u8, .ro, 31, 0, 0, .any, false, false⟩,  -- trained lanes
  ⟨0x2200, 8, 16, 0x08, 1, 1, .u8, .ro, 31, 0, 0, .any, false, false⟩,  -- trained rate
  ⟨0x2200, 8, 16, 0x09, 1, 1, .u8, .ro, 31, 0, 0, .any, false, false⟩,  -- last training result
  ⟨0x2200, 8, 16, 0x0A, 1, 1, .u8, .ro, 31, 0, 0, .any, false, false⟩,  -- sink DPCD revision
  ⟨0x2201, 8, 16, 0x00, 1, 1, .u8, .const, 31, 0, 0x10, .any, false, false⟩,  -- highest subindex
  ⟨0x2201, 8, 16, 0x01, 1, 1, .u32, .rw, 31, 30, 0x8d9ee20, .oneOf [(25000000, 600000000)], false, true⟩,  -- pixel clock (Hz)
  ⟨0x2201, 8, 16, 0x02, 1, 1, .u16, .rw, 31, 30, 0x780, .even 320 4096, false, true⟩,  -- HACTIVE, HFP, HSYNC, HBP
  ⟨0x2201, 8, 16, 0x03, 1, 1, .u16, .rw, 31, 30, 0x58, .oneOf [(8, 4096)], false, true⟩,  -- HACTIVE, HFP, HSYNC, HBP
  ⟨0x2201, 8, 16, 0x04, 1, 1, .u16, .rw, 31, 30, 0x2c, .oneOf [(8, 4096)], false, true⟩,  -- HACTIVE, HFP, HSYNC, HBP
  ⟨0x2201, 8, 16, 0x05, 1, 1, .u16, .rw, 31, 30, 0x94, .oneOf [(8, 4096)], false, true⟩,  -- HACTIVE, HFP, HSYNC, HBP
  ⟨0x2201, 8, 16, 0x06, 1, 1, .u16, .rw, 31, 30, 0x438, .oneOf [(200, 4096)], false, true⟩,  -- VACTIVE, VFP, VSYNC, VBP
  ⟨0x2201, 8, 16, 0x07, 1, 1, .u16, .rw, 31, 30, 4, .oneOf [(1, 4095)], false, true⟩,  -- VACTIVE, VFP, VSYNC, VBP
  ⟨0x2201, 8, 16, 0x08, 1, 1, .u16, .rw, 31, 30, 5, .oneOf [(1, 255)], false, true⟩,  -- VACTIVE, VFP, VSYNC, VBP
  ⟨0x2201, 8, 16, 0x09, 1, 1, .u16, .rw, 31, 30, 0x24, .oneOf [(1, 255)], false, true⟩,  -- VACTIVE, VFP, VSYNC, VBP
  ⟨0x2201, 8, 16, 0x0A, 1, 1, .u8, .rw, 31, 30, 3, .oneOf [(0, 3)], false, true⟩,  -- sync flags
  ⟨0x2201, 8, 16, 0x0B, 1, 1, .u8, .rw, 31, 30, 0, .oneOf [(0, 1)], false, true⟩,  -- link mode
  ⟨0x2201, 8, 16, 0x0C, 1, 1, .u8, .rw, 31, 30, 4, .oneOf [(1, 2), (4, 4)], false, true⟩,  -- lanes
  ⟨0x2201, 8, 16, 0x0D, 1, 1, .u8, .rw, 31, 30, 2, .oneOf [(0, 3)], false, true⟩,  -- link rate
  ⟨0x2201, 8, 16, 0x0E, 1, 1, .u8, .rw, 31, 30, 8, .oneOf [(6, 6), (8, 8), (10, 10)], false, true⟩,  -- bits per colour
  ⟨0x2201, 8, 16, 0x0F, 1, 1, .u8, .wo, 0, 30, 0, .oneOf [(1, 1)], false, false⟩,  -- apply
  ⟨0x2201, 8, 16, 0x10, 1, 1, .u8, .ro, 31, 0, 0, .any, false, false⟩,  -- apply status
  ⟨0x2202, 8, 16, 0x00, 1, 1, .u8, .const, 31, 0, 0xf, .any, false, false⟩,  -- highest subindex
  ⟨0x2202, 8, 16, 0x01, 1, 1, .u32, .ro, 31, 0, 0x8d9ee20, .any, false, false⟩  -- pixel clock (Hz)
  ]

/-- Objects of 2200h to 22FFh, part 2. -/
def page22_1 : List ObjRow := [
  ⟨0x2202, 8, 16, 0x02, 1, 1, .u16, .ro, 31, 0, 0x780, .any, false, false⟩,  -- HACTIVE, HFP, HSYNC, HBP
  ⟨0x2202, 8, 16, 0x03, 1, 1, .u16, .ro, 31, 0, 0x58, .any, false, false⟩,  -- HACTIVE, HFP, HSYNC, HBP
  ⟨0x2202, 8, 16, 0x04, 1, 1, .u16, .ro, 31, 0, 0x2c, .any, false, false⟩,  -- HACTIVE, HFP, HSYNC, HBP
  ⟨0x2202, 8, 16, 0x05, 1, 1, .u16, .ro, 31, 0, 0x94, .any, false, false⟩,  -- HACTIVE, HFP, HSYNC, HBP
  ⟨0x2202, 8, 16, 0x06, 1, 1, .u16, .ro, 31, 0, 0x438, .any, false, false⟩,  -- VACTIVE, VFP, VSYNC, VBP
  ⟨0x2202, 8, 16, 0x07, 1, 1, .u16, .ro, 31, 0, 4, .any, false, false⟩,  -- VACTIVE, VFP, VSYNC, VBP
  ⟨0x2202, 8, 16, 0x08, 1, 1, .u16, .ro, 31, 0, 5, .any, false, false⟩,  -- VACTIVE, VFP, VSYNC, VBP
  ⟨0x2202, 8, 16, 0x09, 1, 1, .u16, .ro, 31, 0, 0x24, .any, false, false⟩,  -- VACTIVE, VFP, VSYNC, VBP
  ⟨0x2202, 8, 16, 0x0A, 1, 1, .u8, .ro, 31, 0, 3, .any, false, false⟩,  -- sync flags
  ⟨0x2202, 8, 16, 0x0B, 1, 1, .u8, .ro, 31, 0, 0, .any, false, false⟩,  -- link mode
  ⟨0x2202, 8, 16, 0x0C, 1, 1, .u8, .ro, 31, 0, 4, .any, false, false⟩,  -- lanes
  ⟨0x2202, 8, 16, 0x0D, 1, 1, .u8, .ro, 31, 0, 2, .any, false, false⟩,  -- link rate
  ⟨0x2202, 8, 16, 0x0E, 1, 1, .u8, .ro, 31, 0, 8, .any, false, false⟩,  -- bits per colour
  ⟨0x2202, 8, 16, 0x0F, 1, 1, .u32, .ro, 31, 0, 0, .any, false, false⟩,  -- pixel clock reached (Hz)
  ⟨0x2203, 8, 16, 0x00, 1, 1, .u8, .const, 31, 0, 5, .any, false, false⟩,  -- highest subindex
  ⟨0x2203, 8, 16, 0x01, 1, 1, .u32, .ro, 31, 0, 0, .any, true, false⟩,  -- underrun lines
  ⟨0x2203, 8, 16, 0x02, 1, 1, .u32, .ro, 31, 0, 0, .any, false, false⟩,  -- link losses
  ⟨0x2203, 8, 16, 0x03, 1, 1, .u32, .ro, 31, 0, 0, .any, false, false⟩,  -- training failures
  ⟨0x2203, 8, 16, 0x04, 1, 1, .u32, .ro, 31, 0, 0, .any, false, false⟩,  -- HPD IRQs
  ⟨0x2203, 8, 16, 0x05, 1, 1, .u32, .ro, 31, 0, 0, .any, false, false⟩,  -- AUX timeouts
  ⟨0x2204, 8, 16, 0x00, 1, 1, .u8, .const, 31, 0, 3, .any, false, false⟩,  -- highest subindex
  ⟨0x2204, 8, 16, 0x01, 1, 1, .u32, .ro, 31, 0, 0, .any, false, false⟩,  -- flip count
  ⟨0x2204, 8, 16, 0x02, 1, 1, .u64, .ro, 31, 0, 0, .any, false, false⟩,  -- last flip position
  ⟨0x2204, 8, 16, 0x03, 1, 1, .u64, .ro, 31, 0, 0, .any, false, false⟩,  -- last flip time (ns)
  ⟨0x2205, 8, 16, 0x00, 1, 1, .u8, .const, 31, 0, 3, .any, false, false⟩,  -- highest subindex
  ⟨0x2205, 8, 16, 0x01, 1, 1, .domain, .ro, 30, 0, 0, .any, false, false⟩,  -- EDID
  ⟨0x2205, 8, 16, 0x02, 1, 1, .u16, .ro, 31, 0, 0, .any, false, false⟩,  -- EDID length (bytes)
  ⟨0x2205, 8, 16, 0x03, 1, 1, .u32, .ro, 31, 0, 0, .any, false, false⟩,  -- EDID reads
  ⟨0x2206, 8, 16, 0x00, 1, 1, .u8, .const, 31, 0, 3, .any, false, false⟩,  -- highest subindex
  ⟨0x2206, 8, 16, 0x01, 1, 1, .octets, .wo, 0, 30, 0, .any, false, false⟩  -- AUX request
  ]

/-- Objects of 2200h to 22FFh, part 3. -/
def page22_2 : List ObjRow := [
  ⟨0x2206, 8, 16, 0x02, 1, 1, .octets, .ro, 30, 0, 0, .any, false, false⟩,  -- AUX reply
  ⟨0x2206, 8, 16, 0x03, 1, 1, .u8, .ro, 31, 0, 0, .any, false, false⟩  -- AUX status
  ]

/-- Objects of 2300h to 23FFh, part 1. -/
def page23_0 : List ObjRow := [
  ⟨0x2300, 1, 1, 0x00, 1, 1, .u8, .const, 31, 0, 5, .any, false, false⟩,  -- highest subindex
  ⟨0x2300, 1, 1, 0x01, 1, 1, .u32, .const, 31, 0, 0xbb80, .any, false, false⟩,  -- display budget (MB/s)
  ⟨0x2300, 1, 1, 0x02, 1, 1, .u32, .ro, 31, 0, 0xbb80, .any, false, false⟩,  -- sum of reservations (MB/s)
  ⟨0x2300, 1, 1, 0x03, 1, 1, .u32, .const, 31, 0, 0x1770, .any, false, false⟩,  -- share per channel (MB/s)
  ⟨0x2300, 1, 1, 0x04, 1, 1, .u32, .ro, 31, 0, 0, .any, false, false⟩,  -- refused commits
  ⟨0x2300, 1, 1, 0x05, 1, 1, .u32, .ro, 31, 0, 0, .any, false, false⟩,  -- latched commits
  ⟨0x2301, 8, 1, 0x00, 1, 1, .u8, .const, 31, 0, 0xa, .any, false, false⟩,  -- highest subindex
  ⟨0x2301, 8, 1, 0x01, 1, 1, .u32, .rw, 31, 30, 0x1770, .oneOf [(0, 48000)], false, true⟩,  -- reservation (MB/s)
  ⟨0x2301, 8, 1, 0x02, 1, 1, .u32, .ro, 31, 0, 0, .any, false, false⟩,  -- demand in force (MB/s)
  ⟨0x2301, 8, 1, 0x03, 1, 1, .u32, .ro, 31, 0, 0, .any, false, false⟩,  -- demand with pending (MB/s)
  ⟨0x2301, 8, 1, 0x04, 1, 1, .u32, .rw, 31, 30, 0, .any, false, true⟩,  -- background colour
  ⟨0x2301, 8, 1, 0x05, 1, 1, .u8, .rw, 31, 30, 1, .oneOf [(0, 1)], false, true⟩,  -- dither
  ⟨0x2301, 8, 1, 0x06, 1, 1, .u64, .wo, 0, 28, 0, .any, false, false⟩,  -- submit
  ⟨0x2301, 8, 1, 0x07, 1, 1, .u8, .ro, 31, 0, 0, .any, false, false⟩,  -- pending commits
  ⟨0x2301, 8, 1, 0x08, 1, 1, .u8, .ro, 31, 0, 0, .any, false, false⟩,  -- scalers in use
  ⟨0x2301, 8, 1, 0x09, 1, 1, .u32, .ro, 31, 0, 0, .any, false, false⟩,  -- refused commits
  ⟨0x2301, 8, 1, 0x0A, 1, 1, .u16, .ro, 31, 0, 0, .any, false, false⟩,  -- last refusal
  ⟨0x2310, 48, 1, 0x00, 1, 1, .u8, .const, 31, 0, 0xa, .any, false, false⟩,  -- highest subindex
  ⟨0x2310, 48, 1, 0x01, 1, 1, .u8, .ro, 31, 0, 1, .any, true, false⟩,  -- state
  ⟨0x2310, 48, 1, 0x02, 1, 1, .bool, .rw, 31, 30, 1, .oneOf [(0, 1)], false, true⟩,  -- enable
  ⟨0x2310, 48, 1, 0x03, 1, 1, .u32, .rw, 31, 30, 0, .any, false, true⟩,  -- fallback colour
  ⟨0x2310, 48, 1, 0x04, 1, 1, .octets, .ro, 30, 0, 0, .any, false, false⟩,  -- record in force
  ⟨0x2310, 48, 1, 0x05, 1, 1, .u32, .ro, 31, 0, 0, .any, false, false⟩,  -- demand in force (MB/s)
  ⟨0x2310, 48, 1, 0x06, 1, 1, .u32, .ro, 31, 0, 0, .any, true, false⟩,  -- halts
  ⟨0x2310, 48, 1, 0x07, 1, 1, .u32, .ro, 31, 0, 0, .any, true, false⟩,  -- check failures
  ⟨0x2310, 48, 1, 0x08, 1, 1, .u8, .ro, 31, 0, 0xff, .any, false, false⟩,  -- bound Nines engine
  ⟨0x2310, 48, 1, 0x09, 1, 1, .domain, .rw, 30, 30, 0, .any, false, true⟩,  -- colour table
  ⟨0x2310, 48, 1, 0x0A, 1, 1, .u64, .ro, 31, 0, 0, .any, false, false⟩,  -- last latch position
  ⟨0x2340, 32, 1, 0x00, 1, 1, .u8, .const, 31, 0, 2, .any, false, false⟩,  -- highest subindex
  ⟨0x2340, 32, 1, 0x01, 1, 1, .domain, .rw, 30, 30, 0, .any, false, true⟩  -- coefficients
  ]

/-- Objects of 2300h to 23FFh, part 2. -/
def page23_1 : List ObjRow := [
  ⟨0x2340, 32, 1, 0x02, 1, 1, .u32, .ro, 31, 0, 0, .any, false, false⟩  -- loads
  ]

/-- Objects of 2400h to 24FFh. -/
def page24 : List ObjRow := [
  ⟨0x2400, 1, 1, 0x00, 1, 1, .u8, .const, 31, 0, 4, .any, false, false⟩,  -- highest subindex
  ⟨0x2400, 1, 1, 0x01, 1, 1, .u8, .const, 31, 0, 0x20, .any, false, false⟩,  -- channel count
  ⟨0x2400, 1, 1, 0x02, 1, 1, .u8, .const, 31, 0, 0x10, .any, false, false⟩,  -- queue depth
  ⟨0x2400, 1, 1, 0x03, 1, 1, .u32, .ro, 31, 0, 0, .any, false, false⟩,  -- jobs completed
  ⟨0x2400, 1, 1, 0x04, 1, 1, .u32, .ro, 31, 0, 0, .any, false, false⟩,  -- halts
  ⟨0x2401, 32, 1, 0x00, 1, 1, .u8, .const, 31, 0, 7, .any, false, false⟩,  -- highest subindex
  ⟨0x2401, 32, 1, 0x01, 1, 1, .u8, .ro, 31, 0, 1, .any, false, false⟩,  -- state
  ⟨0x2401, 32, 1, 0x02, 1, 1, .bool, .rw, 31, 30, 1, .oneOf [(0, 1)], false, true⟩,  -- enable
  ⟨0x2401, 32, 1, 0x03, 1, 1, .u64, .wo, 0, 28, 0, .any, false, false⟩,  -- submit
  ⟨0x2401, 32, 1, 0x04, 1, 1, .u8, .ro, 31, 0, 0, .any, false, false⟩,  -- queued jobs
  ⟨0x2401, 32, 1, 0x05, 1, 1, .u32, .ro, 31, 0, 0, .any, false, false⟩,  -- jobs completed
  ⟨0x2401, 32, 1, 0x06, 1, 1, .u16, .ro, 31, 0, 0, .any, false, false⟩,  -- last status
  ⟨0x2401, 32, 1, 0x07, 1, 1, .u32, .ro, 31, 0, 0, .any, false, false⟩  -- last disable time (us)
  ]

/-- Objects of 2500h to 25FFh, part 1. -/
def page25_0 : List ObjRow := [
  ⟨0x2500, 1, 1, 0x00, 1, 1, .u8, .const, 31, 0, 0xa, .any, false, false⟩,  -- highest subindex
  ⟨0x2500, 1, 1, 0x01, 1, 1, .u8, .const, 31, 0, 0x10, .any, false, false⟩,  -- core count
  ⟨0x2500, 1, 1, 0x02, 1, 1, .u16, .const, 31, 0, 0x80, .any, false, false⟩,  -- FP32 lanes per core
  ⟨0x2500, 1, 1, 0x03, 1, 1, .u16, .const, 31, 0, 0x640, .any, false, false⟩,  -- maximum GPU clock (MHz)
  ⟨0x2500, 1, 1, 0x04, 1, 1, .u16, .ro, 31, 0, 0x640, .any, false, false⟩,  -- GPU clock in force (MHz)
  ⟨0x2500, 1, 1, 0x05, 1, 1, .u32, .const, 31, 0, 0x2000, .any, false, false⟩,  -- L2 size (KiB)
  ⟨0x2500, 1, 1, 0x06, 1, 1, .u8, .const, 31, 0, 0x40, .any, false, false⟩,  -- queue depth
  ⟨0x2500, 1, 1, 0x07, 1, 1, .u32, .const, 31, 0, 0x1000000, .any, false, false⟩,  -- maximum command buffer (bytes)
  ⟨0x2500, 1, 1, 0x08, 1, 1, .u32, .ro, 31, 0, 0, .any, false, false⟩,  -- jobs completed
  ⟨0x2500, 1, 1, 0x09, 1, 1, .u32, .ro, 31, 0, 0, .any, false, false⟩,  -- core faults
  ⟨0x2500, 1, 1, 0x0A, 1, 1, .u32, .const, 31, 0, 0x400000, .any, false, false⟩,  -- spill area size (bytes)
  ⟨0x2501, 16, 1, 0x00, 1, 1, .u8, .const, 31, 0, 5, .any, false, false⟩,  -- highest subindex
  ⟨0x2501, 16, 1, 0x01, 1, 1, .u8, .ro, 31, 0, 0xff, .any, false, false⟩,  -- owner
  ⟨0x2501, 16, 1, 0x02, 1, 1, .u8, .ro, 31, 0, 0, .any, false, false⟩,  -- state
  ⟨0x2501, 16, 1, 0x03, 1, 1, .u8, .ro, 31, 0, 0xff, .any, false, false⟩,  -- tile slot
  ⟨0x2501, 16, 1, 0x04, 1, 1, .u32, .ro, 31, 0, 0, .any, false, false⟩,  -- faults
  ⟨0x2501, 16, 1, 0x05, 1, 1, .u32, .ro, 31, 0, 0, .any, false, false⟩,  -- busy time (ms)
  ⟨0x2511, 96, 1, 0x00, 1, 1, .u8, .const, 31, 0, 0x2f, .any, false, false⟩,  -- highest subindex
  ⟨0x2511, 96, 1, 0x01, 1, 1, .u16, .ro, 31, 0, 0, .any, false, false⟩,  -- cores
  ⟨0x2511, 96, 1, 0x02, 1, 1, .u64, .rw, 30, 30, 0, .any, false, true⟩,  -- spill area address
  ⟨0x2511, 96, 1, 0x03, 1, 1, .bool, .ro, 31, 0, 0, .any, false, false⟩,  -- spill area valid
  ⟨0x2511, 96, 1, 0x04, 1, 1, .u32, .ro, 31, 0, 0, .any, false, false⟩,  -- L2 share (KiB)
  ⟨0x2511, 96, 1, 0x05, 1, 1, .u16, .rw, 31, 30, 2, .oneOf [(1, 100)], false, true⟩,  -- disable grace (ms)
  ⟨0x2511, 96, 1, 0x06, 1, 1, .u8, .ro, 31, 0, 0, .any, false, false⟩,  -- state
  ⟨0x2511, 96, 1, 0x07, 1, 1, .u32, .ro, 31, 0, 0, .any, false, false⟩,  -- budget overruns
  ⟨0x2511, 96, 1, 0x08, 1, 1, .u32, .ro, 31, 0, 0, .any, false, false⟩,  -- jobs replayed
  ⟨0x2511, 96, 1, 0x09, 1, 1, .u32, .ro, 31, 0, 0, .any, false, false⟩,  -- reshapes
  ⟨0x2511, 96, 1, 0x10, 4, 8, .bool, .rw, 31, 30, 1, .oneOf [(0, 1)], false, true⟩,  -- queue enable
  ⟨0x2511, 96, 1, 0x11, 4, 8, .u8, .ro, 31, 0, 1, .any, false, false⟩,  -- queue state
  ⟨0x2511, 96, 1, 0x12, 4, 8, .u64, .wo, 0, 28, 0, .any, false, false⟩  -- submit
  ]

/-- Objects of 2500h to 25FFh, part 2. -/
def page25_1 : List ObjRow := [
  ⟨0x2511, 96, 1, 0x13, 4, 8, .u8, .ro, 31, 0, 0, .any, false, false⟩,  -- queued jobs
  ⟨0x2511, 96, 1, 0x14, 4, 8, .u32, .ro, 31, 0, 0, .any, false, false⟩,  -- jobs completed
  ⟨0x2511, 96, 1, 0x15, 4, 8, .u16, .ro, 31, 0, 0, .any, false, false⟩,  -- last status
  ⟨0x2511, 96, 1, 0x16, 4, 8, .u16, .rw, 31, 30, 0xffff, .oneOf [(256, 2047), (65535, 65535)], false, true⟩,  -- completion source
  ⟨0x2511, 96, 1, 0x17, 4, 8, .u32, .ro, 31, 0, 0, .any, false, false⟩,  -- last disable time (us)
  ⟨0x2580, 48, 1, 0x00, 1, 1, .u8, .const, 31, 0, 0x13, .any, false, false⟩,  -- highest subindex
  ⟨0x2580, 48, 1, 0x01, 1, 1, .bool, .rw, 31, 30, 0, .oneOf [(0, 1)], false, true⟩,  -- band mode
  ⟨0x2580, 48, 1, 0x02, 1, 1, .u16, .rw, 31, 30, 0x40, .oneOf [(16, 256)], false, true⟩,  -- band height (lines)
  ⟨0x2580, 48, 1, 0x03, 1, 1, .u64, .rw, 30, 30, 0, .any, false, true⟩,  -- buffer B surface address
  ⟨0x2580, 48, 1, 0x04, 1, 1, .u64, .rw, 30, 30, 0, .any, false, true⟩,  -- buffer B plane 2 address
  ⟨0x2580, 48, 1, 0x05, 1, 1, .u16, .rw, 31, 30, 0x20, .oneOf [(8, 256)], false, true⟩,  -- lead (lines)
  ⟨0x2580, 48, 1, 0x06, 1, 1, .u8, .rw, 31, 30, 8, .oneOf [(4, 64)], false, true⟩,  -- preemption margin (lines)
  ⟨0x2580, 48, 1, 0x07, 1, 1, .u8, .ro, 31, 0, 0, .any, false, false⟩,  -- band count in force
  ⟨0x2580, 48, 1, 0x08, 1, 1, .u16, .ro, 31, 0, 0x20, .any, false, false⟩,  -- lead in use (lines)
  ⟨0x2580, 48, 1, 0x09, 1, 1, .u8, .ro, 31, 0, 8, .any, false, false⟩,  -- margin in use (lines)
  ⟨0x2580, 48, 1, 0x0A, 1, 1, .u8, .ro, 31, 0, 4, .any, false, false⟩,  -- minimum safe margin (lines)
  ⟨0x2580, 48, 1, 0x0B, 1, 1, .u16, .rw, 31, 30, 0xffff, .oneOf [(256, 2047), (65535, 65535)], false, true⟩,  -- miss source
  ⟨0x2580, 48, 1, 0x0C, 1, 1, .u32, .ro, 31, 0, 0, .any, true, false⟩,  -- band misses
  ⟨0x2580, 48, 1, 0x0D, 1, 1, .u32, .ro, 31, 0, 0, .any, false, false⟩,  -- bands shown
  ⟨0x2580, 48, 1, 0x0E, 1, 1, .u32, .ro, 31, 0, 0, .any, false, false⟩,  -- preemptions
  ⟨0x2580, 48, 1, 0x0F, 1, 1, .octets, .ro, 31, 0, 0, .any, false, false⟩,  -- front buffers
  ⟨0x2580, 48, 1, 0x10, 1, 1, .octets, .ro, 31, 0, 0, .any, false, false⟩,  -- band states
  ⟨0x2580, 48, 1, 0x11, 1, 1, .u32, .ro, 31, 0, 0, .any, true, false⟩,  -- last miss
  ⟨0x2580, 48, 1, 0x12, 1, 1, .u32, .ro, 31, 0, 0, .any, false, false⟩,  -- preemptions over the bound
  ⟨0x2580, 48, 1, 0x13, 1, 1, .u32, .ro, 31, 0, 0, .any, false, false⟩,  -- last preemption time (ns)
  ⟨0x25B0, 1, 1, 0x00, 1, 1, .u8, .const, 31, 0, 5, .any, false, false⟩,  -- highest subindex
  ⟨0x25B0, 1, 1, 0x01, 1, 1, .u16, .ro, 31, 0, 0x30, .any, false, false⟩,  -- preemption bound in force (us)
  ⟨0x25B0, 1, 1, 0x02, 1, 1, .u32, .const, 31, 0, 0x40000, .any, false, false⟩,  -- spill slot size (bytes)
  ⟨0x25B0, 1, 1, 0x03, 1, 1, .u32, .ro, 31, 0, 0, .any, false, false⟩,  -- band misses
  ⟨0x25B0, 1, 1, 0x04, 1, 1, .u32, .ro, 31, 0, 0, .any, false, false⟩  -- preemptions
  ]

/-- Objects of 2500h to 25FFh, part 3. -/
def page25_2 : List ObjRow := [
  ⟨0x25B0, 1, 1, 0x05, 1, 1, .u32, .ro, 31, 0, 0, .any, false, false⟩,  -- longest preemption (ns)
  ⟨0x25C0, 1, 1, 0x00, 1, 1, .u8, .const, 31, 0, 8, .any, false, false⟩,  -- highest subindex
  ⟨0x25C0, 1, 1, 0x01, 1, 1, .u32, .const, 31, 0, 0x10600, .any, false, false⟩,  -- SPIR-V version
  ⟨0x25C0, 1, 1, 0x02, 1, 1, .u64, .wo, 0, 28, 0, .any, false, false⟩,  -- submit
  ⟨0x25C0, 1, 1, 0x03, 1, 1, .u64, .wo, 0, 28, 0, .any, false, false⟩,  -- destroy
  ⟨0x25C0, 1, 1, 0x04, 1, 1, .u8, .ro, 31, 0, 0, .any, false, false⟩,  -- queued requests
  ⟨0x25C0, 1, 1, 0x05, 1, 1, .u32, .ro, 31, 0, 0, .any, false, false⟩,  -- pipelines compiled
  ⟨0x25C0, 1, 1, 0x06, 1, 1, .u32, .ro, 31, 0, 0, .any, false, false⟩,  -- compilations failed
  ⟨0x25C0, 1, 1, 0x07, 1, 1, .u32, .ro, 31, 0, 0, .any, false, false⟩,  -- longest compilation (us)
  ⟨0x25C0, 1, 1, 0x08, 1, 1, .u32, .const, 31, 0, 0xb0, .any, false, false⟩,  -- native set revision
  ⟨0x25C1, 1, 1, 0x00, 1, 1, .u8, .const, 31, 0, 0x11, .any, false, false⟩,  -- highest subindex
  ⟨0x25C1, 1, 1, 0x01, 1, 1, .u8, .const, 31, 0, 0x20, .any, false, false⟩,  -- subgroup size
  ⟨0x25C1, 1, 1, 0x02, 1, 1, .u16, .const, 31, 0, 0x400, .any, false, false⟩,  -- workgroup invocations, max
  ⟨0x25C1, 1, 1, 0x03, 1, 1, .u16, .const, 31, 0, 0x400, .any, false, false⟩,  -- workgroup size X, Y, Z, max
  ⟨0x25C1, 1, 1, 0x04, 1, 1, .u16, .const, 31, 0, 0x400, .any, false, false⟩,  -- workgroup size X, Y, Z, max
  ⟨0x25C1, 1, 1, 0x05, 1, 1, .u16, .const, 31, 0, 0x40, .any, false, false⟩,  -- workgroup size X, Y, Z, max
  ⟨0x25C1, 1, 1, 0x06, 1, 1, .u32, .const, 31, 0, 0x8000, .any, false, false⟩,  -- shared memory per workgroup (bytes)
  ⟨0x25C1, 1, 1, 0x07, 1, 1, .u16, .const, 31, 0, 0x100, .any, false, false⟩,  -- push constants (bytes)
  ⟨0x25C1, 1, 1, 0x08, 1, 1, .u8, .const, 31, 0, 8, .any, false, false⟩,  -- descriptor sets
  ⟨0x25C1, 1, 1, 0x09, 1, 1, .u16, .const, 31, 0, 0x400, .any, false, false⟩,  -- bindings per set
  ⟨0x25C1, 1, 1, 0x0A, 1, 1, .u8, .const, 31, 0, 8, .any, false, false⟩,  -- render targets
  ⟨0x25C1, 1, 1, 0x0B, 1, 1, .u8, .const, 31, 0, 0x80, .any, false, false⟩,  -- interface components between stages
  ⟨0x25C1, 1, 1, 0x0C, 1, 1, .u16, .const, 31, 0, 0x4000, .any, false, false⟩,  -- surface dimension, max (pixels)
  ⟨0x25C1, 1, 1, 0x0D, 1, 1, .u8, .const, 31, 0, 0x10, .any, false, false⟩,  -- anisotropy, max
  ⟨0x25C1, 1, 1, 0x0E, 1, 1, .u8, .const, 31, 0, 8, .any, false, false⟩,  -- sub-pixel bits
  ⟨0x25C1, 1, 1, 0x0F, 1, 1, .u8, .const, 31, 0, 0x40, .any, false, false⟩,  -- point size, max (pixels)
  ⟨0x25C1, 1, 1, 0x10, 1, 1, .u32, .const, 31, 0, 0x100000, .any, false, false⟩,  -- module size, max (bytes)
  ⟨0x25C1, 1, 1, 0x11, 1, 1, .u16, .const, 31, 0, 0x1000, .any, false, false⟩  -- pipelines per owner, max
  ]

/-- Objects of 2600h to 26FFh, part 1. -/
def page26_0 : List ObjRow := [
  ⟨0x2600, 1, 1, 0x00, 1, 1, .u8, .const, 31, 0, 8, .any, false, false⟩,  -- highest subindex
  ⟨0x2600, 1, 1, 0x01, 1, 1, .u16, .const, 31, 0, 0x180, .any, false, false⟩,  -- sense balls
  ⟨0x2600, 1, 1, 0x02, 1, 1, .u8, .const, 31, 0, 0x30, .any, false, false⟩,  -- slices
  ⟨0x2600, 1, 1, 0x03, 1, 1, .u8, .ro, 31, 0, 0, .any, false, false⟩,  -- slices allocated
  ⟨0x2600, 1, 1, 0x04, 1, 1, .u16, .const, 31, 0, 0xfa, .any, false, false⟩,  -- compensation step (fF)
  ⟨0x2600, 1, 1, 0x05, 1, 1, .u16, .const, 31, 0, 0x1458, .any, false, false⟩,  -- sub-conversion period (ns)
  ⟨0x2600, 1, 1, 0x06, 1, 1, .u8, .ro, 31, 0, 0, .any, false, false⟩,  -- temperature band
  ⟨0x2600, 1, 1, 0x07, 1, 1, .u32, .ro, 31, 0, 0, .any, false, false⟩,  -- deferred edges
  ⟨0x2600, 1, 1, 0x08, 1, 1, .u32, .ro, 31, 0, 0, .any, false, false⟩,  -- node memory faults
  ⟨0x2601, 8, 1, 0x00, 1, 1, .u8, .const, 31, 0, 0x2c, .any, false, false⟩,  -- highest subindex
  ⟨0x2601, 8, 1, 0x01, 1, 1, .u8, .ro, 31, 0, 0, .any, true, false⟩,  -- state
  ⟨0x2601, 8, 1, 0x02, 1, 1, .bool, .rw, 31, 31, 0, .oneOf [(0, 1)], false, true⟩,  -- enable
  ⟨0x2601, 1, 1, 0x03, 1, 1, .u16, .rw, 31, 31, 0, .any, false, true⟩,  -- first ball
  ⟨0x2601, 8, 1, 0x04, 1, 1, .u16, .rw, 31, 31, 0x30, .oneOf [(1, 384)], false, true⟩,  -- ball count
  ⟨0x2601, 8, 1, 0x05, 1, 1, .u8, .rw, 31, 31, 0, .oneOf [(0, 1)], false, true⟩,  -- kind
  ⟨0x2601, 8, 1, 0x06, 1, 1, .u16, .rw, 31, 31, 0x12, .any, false, true⟩,  -- rows, or pad columns
  ⟨0x2601, 1, 1, 0x07, 1, 1, .u8, .rw, 31, 31, 0, .oneOf [(0, 11)], false, true⟩,  -- home rod
  ⟨0x2601, 8, 1, 0x08, 1, 1, .u8, .rw, 31, 31, 6, .oneOf [(1, 48)], false, true⟩,  -- slices
  ⟨0x2601, 8, 1, 0x09, 1, 1, .u8, .rw, 31, 31, 0xc, .oneOf [(4, 64)], false, true⟩,  -- integration count
  ⟨0x2601, 8, 1, 0x0A, 1, 1, .u8, .rw, 31, 31, 0x78, .oneOf [(10, 240)], false, true⟩,  -- scan rate (Hz)
  ⟨0x2601, 8, 1, 0x0B, 1, 1, .u8, .rw, 31, 31, 0x14, .oneOf [(10, 50)], false, true⟩,  -- slow rate (Hz)
  ⟨0x2601, 8, 1, 0x0C, 1, 1, .u16, .rw, 31, 31, 0xa, .oneOf [(0, 3600)], false, true⟩,  -- idle time (s)
  ⟨0x2601, 8, 1, 0x0D, 1, 1, .u8, .rw, 31, 31, 2, .oneOf [(1, 4)], false, true⟩,  -- gang groups
  ⟨0x2601, 8, 1, 0x0E, 1, 1, .u8, .rw, 31, 31, 8, .oneOf [(8, 11)], false, true⟩,  -- Keep-alive rod
  ⟨0x2601, 8, 1, 0x0F, 1, 1, .u8, .rw, 31, 31, 3, .oneOf [(1, 255)], false, true⟩,  -- Keep-alive divider
  ⟨0x2601, 8, 1, 0x10, 1, 1, .u16, .rw, 31, 31, 0x320, .any, false, true⟩,  -- touch threshold (counts)
  ⟨0x2601, 8, 1, 0x11, 1, 1, .u16, .rw, 31, 31, 0x12c, .any, false, true⟩,  -- approach threshold (counts)
  ⟨0x2601, 8, 1, 0x12, 1, 1, .u8, .rw, 31, 31, 0, .oneOf [(0, 2)], false, true⟩,  -- glove mode
  ⟨0x2601, 8, 1, 0x13, 1, 1, .u16, .rw, 31, 31, 0x104, .any, false, true⟩,  -- glove threshold (counts)
  ⟨0x2601, 8, 1, 0x14, 1, 1, .u16, .rw, 31, 31, 0x78, .any, false, true⟩  -- hover threshold (counts)
  ]

/-- Objects of 2600h to 26FFh, part 2. -/
def page26_1 : List ObjRow := [
  ⟨0x2601, 8, 1, 0x15, 1, 1, .u8, .rw, 31, 31, 3, .oneOf [(1, 3)], false, true⟩,  -- power-up strategy
  ⟨0x2601, 8, 1, 0x16, 1, 1, .u16, .rw, 31, 31, 0x1e, .oneOf [(1, 1440)], false, true⟩,  -- rest time (min)
  ⟨0x2601, 8, 1, 0x17, 1, 1, .u16, .rw, 31, 31, 0xfff, .oneOf [(255, 4095)], false, true⟩,  -- Xmax, Ymax
  ⟨0x2601, 8, 1, 0x18, 1, 1, .u16, .rw, 31, 31, 0xfff, .oneOf [(255, 4095)], false, true⟩,  -- Xmax, Ymax
  ⟨0x2601, 8, 1, 0x19, 1, 1, .u8, .rw, 31, 16, 0xff, .oneOf [(0, 32), (64, 127), (255, 255)], false, true⟩,  -- report reader
  ⟨0x2601, 8, 1, 0x1A, 1, 1, .u64, .rw, 30, 30, 0, .any, false, true⟩,  -- ring address
  ⟨0x2601, 8, 1, 0x1B, 1, 1, .u16, .rw, 31, 30, 0, .oneOf [(0, 0), (4, 4), (8, 8), (16, 16), (32, 32), (64, 64), (128, 128), (256, 256)], false, true⟩,  -- ring entries
  ⟨0x2601, 8, 1, 0x1C, 1, 1, .u16, .rw, 31, 30, 0xffff, .oneOf [(256, 2047), (65535, 65535)], false, true⟩,  -- report source
  ⟨0x2601, 8, 1, 0x1D, 1, 1, .u16, .rw, 31, 30, 0xffff, .oneOf [(256, 2047), (65535, 65535)], false, true⟩,  -- event source
  ⟨0x2601, 8, 1, 0x1E, 1, 1, .u8, .wo, 0, 31, 0, .oneOf [(1, 2)], false, false⟩,  -- re-baseline
  ⟨0x2601, 8, 1, 0x1F, 1, 1, .u8, .wo, 0, 31, 0, .oneOf [(1, 1)], false, false⟩,  -- save reference
  ⟨0x2601, 8, 1, 0x20, 1, 1, .u8, .ro, 31, 0, 0, .any, false, false⟩,  -- baseline state
  ⟨0x2601, 8, 1, 0x21, 1, 1, .u32, .ro, 31, 0, 0, .any, false, false⟩,  -- sequence
  ⟨0x2601, 8, 1, 0x22, 1, 1, .u64, .ro, 31, 0, 0, .any, false, false⟩,  -- last report position
  ⟨0x2601, 8, 1, 0x23, 1, 1, .u8, .ro, 31, 0, 0, .any, true, false⟩,  -- touches now
  ⟨0x2601, 8, 1, 0x24, 1, 1, .u32, .ro, 31, 0, 0, .any, false, false⟩,  -- full scans
  ⟨0x2601, 8, 1, 0x25, 1, 1, .u32, .ro, 31, 0, 0, .any, false, false⟩,  -- ganged scans
  ⟨0x2601, 8, 1, 0x26, 1, 1, .u32, .ro, 31, 0, 0, .any, false, false⟩,  -- busy starts
  ⟨0x2601, 8, 1, 0x27, 1, 1, .u32, .ro, 31, 0, 0, .any, false, false⟩,  -- rate-capped starts
  ⟨0x2601, 8, 1, 0x28, 1, 1, .u32, .ro, 31, 0, 0, .any, false, false⟩,  -- ambiguous pairs and crowds
  ⟨0x2601, 8, 1, 0x29, 1, 1, .u32, .ro, 31, 0, 0, .any, false, false⟩,  -- long rests
  ⟨0x2601, 8, 1, 0x2A, 1, 1, .u16, .ro, 31, 0, 0, .any, false, false⟩,  -- saturated nodes
  ⟨0x2601, 8, 1, 0x2B, 1, 1, .u32, .ro, 31, 0, 0, .any, false, false⟩,  -- last disable time (us)
  ⟨0x2601, 8, 1, 0x2C, 1, 1, .u32, .ro, 31, 0, 0, .any, false, false⟩,  -- reports withheld
  ⟨0x2602, 1, 1, 0x03, 1, 1, .u16, .rw, 31, 31, 0x30, .any, false, true⟩,  -- first ball
  ⟨0x2602, 1, 1, 0x07, 1, 1, .u8, .rw, 31, 31, 1, .oneOf [(0, 11)], false, true⟩,  -- home rod
  ⟨0x2603, 1, 1, 0x03, 1, 1, .u16, .rw, 31, 31, 0x60, .any, false, true⟩,  -- first ball
  ⟨0x2603, 1, 1, 0x07, 1, 1, .u8, .rw, 31, 31, 2, .oneOf [(0, 11)], false, true⟩,  -- home rod
  ⟨0x2604, 1, 1, 0x03, 1, 1, .u16, .rw, 31, 31, 0x90, .any, false, true⟩,  -- first ball
  ⟨0x2604, 1, 1, 0x07, 1, 1, .u8, .rw, 31, 31, 3, .oneOf [(0, 11)], false, true⟩  -- home rod
  ]

/-- Objects of 2600h to 26FFh, part 3. -/
def page26_2 : List ObjRow := [
  ⟨0x2605, 1, 1, 0x03, 1, 1, .u16, .rw, 31, 31, 0xc0, .any, false, true⟩,  -- first ball
  ⟨0x2605, 1, 1, 0x07, 1, 1, .u8, .rw, 31, 31, 4, .oneOf [(0, 11)], false, true⟩,  -- home rod
  ⟨0x2606, 1, 1, 0x03, 1, 1, .u16, .rw, 31, 31, 0xf0, .any, false, true⟩,  -- first ball
  ⟨0x2606, 1, 1, 0x07, 1, 1, .u8, .rw, 31, 31, 5, .oneOf [(0, 11)], false, true⟩,  -- home rod
  ⟨0x2607, 1, 1, 0x03, 1, 1, .u16, .rw, 31, 31, 0x120, .any, false, true⟩,  -- first ball
  ⟨0x2607, 1, 1, 0x07, 1, 1, .u8, .rw, 31, 31, 6, .oneOf [(0, 11)], false, true⟩,  -- home rod
  ⟨0x2608, 1, 1, 0x03, 1, 1, .u16, .rw, 31, 31, 0x150, .any, false, true⟩,  -- first ball
  ⟨0x2608, 1, 1, 0x07, 1, 1, .u8, .rw, 31, 31, 7, .oneOf [(0, 11)], false, true⟩,  -- home rod
  ⟨0x2610, 8, 1, 0x00, 1, 1, .u8, .const, 31, 0, 0x22, .any, false, false⟩,  -- highest subindex
  ⟨0x2610, 8, 1, 0x01, 16, 2, .u64, .rw, 31, 17, 0x10, .any, false, true⟩,  -- geometry word of zone j
  ⟨0x2610, 8, 1, 0x02, 16, 2, .u64, .rw, 31, 17, 0xffff00000000, .any, false, true⟩,  -- action word of zone j
  ⟨0x2610, 8, 1, 0x21, 1, 1, .u16, .ro, 31, 0, 0, .any, true, false⟩,  -- zone states
  ⟨0x2610, 8, 1, 0x22, 1, 1, .u32, .ro, 31, 0, 0, .any, false, false⟩,  -- refused clicks
  ⟨0x2620, 8, 1, 0x00, 1, 1, .u8, .const, 31, 0, 6, .any, false, false⟩,  -- highest subindex
  ⟨0x2620, 8, 1, 0x01, 1, 1, .domain, .ro, 31, 0, 0, .any, false, false⟩,  -- baselines
  ⟨0x2620, 8, 1, 0x02, 1, 1, .domain, .ro, 31, 0, 0, .any, false, false⟩,  -- compensation codes
  ⟨0x2620, 8, 1, 0x03, 1, 1, .domain, .ro, 31, 0, 0, .any, false, false⟩,  -- raw values of the last full scan
  ⟨0x2620, 8, 1, 0x04, 1, 1, .octets, .ro, 31, 0, 0, .any, false, false⟩,  -- suspect nodes
  ⟨0x2620, 8, 1, 0x05, 1, 1, .octets, .ro, 31, 0, 0, .any, false, false⟩,  -- group baselines
  ⟨0x2620, 8, 1, 0x06, 1, 1, .u8, .ro, 31, 0, 0, .any, false, false⟩  -- stored references
  ]

/-- Objects of 2700h to 27FFh, part 1. -/
def page27_0 : List ObjRow := [
  ⟨0x2700, 1, 1, 0x00, 1, 1, .u8, .const, 31, 0, 0xa, .any, false, false⟩,  -- highest subindex
  ⟨0x2700, 1, 1, 0x01, 1, 1, .u8, .const, 31, 0, 8, .any, false, false⟩,  -- channel count
  ⟨0x2700, 1, 1, 0x02, 1, 1, .u16, .const, 31, 0, 0x1770, .any, false, false⟩,  -- rail budget (mA)
  ⟨0x2700, 1, 1, 0x03, 1, 1, .u16, .const, 31, 0, 0x5dc, .any, false, false⟩,  -- channel peak current (mA)
  ⟨0x2700, 1, 1, 0x04, 1, 1, .u16, .rw, 31, 16, 0x5dc, .oneOf [(0, 6000)], false, true⟩,  -- island reserve (mA)
  ⟨0x2700, 1, 1, 0x05, 1, 1, .u16, .ro, 31, 0, 0, .any, false, false⟩,  -- granted now (mA)
  ⟨0x2700, 1, 1, 0x06, 1, 1, .u16, .const, 31, 0, 0x5dc0, .any, false, false⟩,  -- loop rate (Hz)
  ⟨0x2700, 1, 1, 0x07, 1, 1, .u16, .const, 31, 0, 0x1770, .any, false, false⟩,  -- brake limit (us)
  ⟨0x2700, 1, 1, 0x08, 1, 1, .u32, .ro, 31, 0, 0, .any, false, false⟩,  -- budget-limited starts
  ⟨0x2700, 1, 1, 0x09, 1, 1, .u32, .ro, 31, 0, 0, .any, false, false⟩,  -- budget-refused starts
  ⟨0x2700, 1, 1, 0x0A, 1, 1, .u16, .const, 31, 0, 0x12c, .any, false, false⟩,  -- start delay (us)
  ⟨0x2701, 8, 1, 0x00, 1, 1, .u8, .const, 31, 0, 0x17, .any, false, false⟩,  -- highest subindex
  ⟨0x2701, 8, 1, 0x01, 1, 1, .u8, .ro, 31, 0, 0, .any, true, false⟩,  -- state
  ⟨0x2701, 8, 1, 0x02, 1, 1, .bool, .rw, 31, 31, 1, .oneOf [(0, 1)], false, true⟩,  -- enable
  ⟨0x2701, 8, 1, 0x03, 1, 1, .u32, .wo, 0, 31, 0, .any, false, false⟩,  -- trigger
  ⟨0x2701, 8, 1, 0x04, 1, 1, .bool, .rw, 31, 31, 0, .oneOf [(0, 1)], false, true⟩,  -- carry-over
  ⟨0x2701, 8, 1, 0x05, 1, 1, .u16, .rw, 31, 31, 0x5dc, .oneOf [(250, 1500)], false, true⟩,  -- current limit (mA)
  ⟨0x2701, 8, 1, 0x06, 1, 1, .u16, .rw, 31, 31, 0x12c, .oneOf [(10, 2000)], false, true⟩,  -- acceleration full scale (0.1 m/s²)
  ⟨0x2701, 8, 1, 0x07, 1, 1, .u16, .ro, 31, 0, 0, .any, false, false⟩,  -- grant in force (mA)
  ⟨0x2701, 8, 1, 0x08, 1, 1, .u16, .rw, 31, 30, 0xffff, .oneOf [(256, 2047), (65535, 65535)], false, true⟩,  -- event source
  ⟨0x2701, 8, 1, 0x09, 1, 1, .u8, .wo, 0, 31, 0, .oneOf [(1, 1)], false, false⟩,  -- clear fault
  ⟨0x2701, 8, 1, 0x0A, 1, 1, .u32, .ro, 31, 0, 0, .any, false, false⟩,  -- effect in hand
  ⟨0x2701, 8, 1, 0x0B, 1, 1, .u32, .ro, 31, 0, 0, .any, false, false⟩,  -- effects started
  ⟨0x2701, 8, 1, 0x0C, 1, 1, .u32, .ro, 31, 0, 0, .any, false, false⟩,  -- triggers not started
  ⟨0x2701, 8, 1, 0x0D, 1, 1, .u32, .ro, 31, 0, 0, .any, false, false⟩,  -- triggers replaced
  ⟨0x2701, 8, 1, 0x0E, 1, 1, .u32, .ro, 31, 0, 0, .any, false, false⟩,  -- brake timeouts
  ⟨0x2701, 8, 1, 0x0F, 1, 1, .u32, .ro, 31, 0, 0, .any, false, false⟩,  -- current clamps
  ⟨0x2701, 8, 1, 0x10, 1, 1, .u32, .ro, 31, 0, 0, .any, true, false⟩,  -- faults
  ⟨0x2701, 8, 1, 0x11, 1, 1, .u8, .ro, 31, 0, 0, .any, true, false⟩,  -- last fault cause
  ⟨0x2701, 8, 1, 0x12, 1, 1, .u16, .ro, 31, 0, 0, .any, false, false⟩  -- measured resistance (mΩ)
  ]

/-- Objects of 2700h to 27FFh, part 2. -/
def page27_1 : List ObjRow := [
  ⟨0x2701, 8, 1, 0x13, 1, 1, .u16, .ro, 31, 0, 0, .any, false, false⟩,  -- measured force factor (mN/A)
  ⟨0x2701, 8, 1, 0x14, 1, 1, .u64, .ro, 31, 0, 0, .any, false, false⟩,  -- last drive start (ns)
  ⟨0x2701, 8, 1, 0x15, 1, 1, .u32, .ro, 31, 0, 0, .any, false, false⟩,  -- last disable time (us)
  ⟨0x2701, 8, 1, 0x16, 1, 1, .u8, .rw, 31, 31, 0x19, .oneOf [(10, 60)], false, true⟩,  -- resistance window (%)
  ⟨0x2701, 8, 1, 0x17, 1, 1, .u8, .rw, 31, 31, 0x32, .oneOf [(20, 90)], false, true⟩,  -- force-factor minimum (%)
  ⟨0x2710, 8, 1, 0x00, 1, 1, .u8, .const, 31, 0, 0xb, .any, false, false⟩,  -- highest subindex
  ⟨0x2710, 8, 1, 0x01, 1, 1, .u8, .rw, 31, 31, 0, .oneOf [(0, 1)], false, true⟩,  -- model state
  ⟨0x2710, 8, 1, 0x02, 1, 1, .u16, .rw, 31, 31, 0x7d0, .oneOf [(100, 20000)], false, true⟩,  -- force factor Bl (mN/A)
  ⟨0x2710, 8, 1, 0x03, 1, 1, .u32, .rw, 31, 31, 0x4e20, .oneOf [(500, 2000000)], false, true⟩,  -- moving mass (mg)
  ⟨0x2710, 8, 1, 0x04, 1, 1, .u32, .rw, 31, 31, 0x4588, .oneOf [(10, 10000000)], false, true⟩,  -- stiffness (N/m)
  ⟨0x2710, 8, 1, 0x05, 1, 1, .u16, .rw, 31, 31, 0x1f40, .oneOf [(1000, 50000)], false, true⟩,  -- coil resistance (mΩ)
  ⟨0x2710, 8, 1, 0x06, 1, 1, .u16, .rw, 31, 31, 0x1f4, .oneOf [(10, 10000)], false, true⟩,  -- coil inductance (uH)
  ⟨0x2710, 8, 1, 0x07, 1, 1, .i8, .rw, 31, 31, 0x19, .signed (-40) (125), false, true⟩,  -- identification temperature (°C)
  ⟨0x2710, 8, 1, 0x08, 1, 1, .u16, .ro, 31, 0, 0x5dd, .any, false, false⟩,  -- resonance (0.1 Hz)
  ⟨0x2710, 8, 1, 0x09, 1, 1, .u8, .wo, 0, 31, 0, .oneOf [(1, 1)], false, false⟩,  -- identify
  ⟨0x2710, 8, 1, 0x0A, 1, 1, .u8, .ro, 31, 0, 0, .any, false, false⟩,  -- identification result
  ⟨0x2710, 8, 1, 0x0B, 1, 1, .u16, .ro, 31, 0, 0, .any, false, false⟩,  -- fit residual (0.1 %)
  ⟨0x2720, 1, 1, 0x00, 1, 1, .u8, .const, 31, 0, 0x80, .any, false, false⟩,  -- highest subindex
  ⟨0x2720, 1, 1, 0x01, 128, 1, .u32, .const, 31, 0, 0, .any, false, false⟩  -- effect e
  ]

/-- Objects of 2800h to 28FFh, part 1. -/
def page28_0 : List ObjRow := [
  ⟨0x2800, 1, 1, 0x00, 1, 1, .u8, .const, 31, 0, 9, .any, false, false⟩,  -- highest subindex
  ⟨0x2800, 1, 1, 0x01, 1, 1, .u32, .const, 31, 0, 0xbb80, .any, false, false⟩,  -- core rate (Hz)
  ⟨0x2800, 1, 1, 0x02, 1, 1, .u8, .const, 31, 0, 8, .any, false, false⟩,  -- block (frames)
  ⟨0x2800, 1, 1, 0x03, 1, 1, .u16, .const, 31, 0, 0x1f4, .any, false, false⟩,  -- low-latency bound (us)
  ⟨0x2800, 1, 1, 0x04, 1, 1, .u16, .const, 31, 0, 0x7d0, .any, false, false⟩,  -- look-ahead (us)
  ⟨0x2800, 1, 1, 0x05, 1, 1, .u32, .ro, 31, 0, 0, .any, false, false⟩,  -- ring underruns
  ⟨0x2800, 1, 1, 0x06, 1, 1, .u32, .ro, 31, 0, 0, .any, false, false⟩,  -- record drops
  ⟨0x2800, 1, 1, 0x07, 1, 1, .u32, .ro, 31, 0, 0, .any, false, false⟩,  -- clips
  ⟨0x2800, 1, 1, 0x08, 1, 1, .u32, .ro, 31, 0, 0, .any, false, false⟩,  -- stage wakes
  ⟨0x2800, 1, 1, 0x09, 1, 1, .u32, .ro, 31, 0, 0, .any, false, false⟩,  -- stage faults
  ⟨0x2801, 32, 1, 0x00, 1, 1, .u8, .const, 31, 0, 0x1c, .any, false, false⟩,  -- highest subindex
  ⟨0x2801, 32, 1, 0x01, 1, 1, .u8, .ro, 31, 0, 1, .any, false, false⟩,  -- state
  ⟨0x2801, 32, 1, 0x02, 1, 1, .bool, .rw, 31, 31, 1, .oneOf [(0, 1)], false, true⟩,  -- enable
  ⟨0x2801, 8, 1, 0x03, 1, 1, .u8, .const, 31, 0, 0, .any, false, false⟩,  -- kind
  ⟨0x2801, 32, 1, 0x04, 1, 1, .u8, .rw, 31, 31, 0, .oneOf [(0, 1)], true, false⟩,  -- run
  ⟨0x2801, 32, 1, 0x05, 1, 1, .i16, .rw, 31, 31, 0, .any, false, true⟩,  -- input gain (0.1 dB)
  ⟨0x2801, 32, 1, 0x06, 1, 1, .u16, .rw, 31, 31, 0x14, .oneOf [(1, 1000)], false, true⟩,  -- ramp time (ms)
  ⟨0x2801, 32, 1, 0x07, 1, 1, .u8, .rw, 31, 31, 0x14, .oneOf [(1, 100)], false, true⟩,  -- crossing timeout (ms)
  ⟨0x2801, 32, 1, 0x08, 1, 1, .octets, .rw, 31, 31, 0, .any, false, true⟩,  -- send gains
  ⟨0x2801, 32, 1, 0x09, 1, 1, .u8, .rw, 31, 30, 0xff, .oneOf [(0, 5), (255, 255)], false, true⟩,  -- low-latency sink
  ⟨0x2801, 32, 1, 0x0A, 1, 1, .u64, .rw, 30, 30, 0, .any, false, true⟩,  -- ring address
  ⟨0x2801, 32, 1, 0x0B, 1, 1, .u32, .rw, 31, 30, 0x12c0, .oneOf [(64, 1048576)], false, true⟩,  -- ring frames
  ⟨0x2801, 32, 1, 0x0C, 1, 1, .u8, .rw, 31, 30, 1, .oneOf [(1, 4)], false, true⟩,  -- ring format
  ⟨0x2801, 32, 1, 0x0D, 1, 1, .u8, .rw, 31, 30, 2, .oneOf [(1, 2)], false, true⟩,  -- channels
  ⟨0x2801, 32, 1, 0x0E, 1, 1, .u8, .rw, 31, 30, 3, .oneOf [(0, 3)], false, true⟩,  -- rate
  ⟨0x2801, 32, 1, 0x0F, 1, 1, .i16, .rw, 31, 30, 0, .signed (-1000) (1000), false, true⟩,  -- rate trim (ppm)
  ⟨0x2801, 32, 1, 0x10, 1, 1, .u32, .rw, 31, 30, 0, .any, false, true⟩,  -- period (frames)
  ⟨0x2801, 32, 1, 0x11, 1, 1, .u16, .rw, 31, 30, 0xffff, .oneOf [(256, 2047), (65535, 65535)], false, true⟩,  -- period source
  ⟨0x2801, 32, 1, 0x12, 1, 1, .u32, .rw, 31, 30, 0, .any, false, false⟩,  -- write position
  ⟨0x2801, 32, 1, 0x13, 1, 1, .u32, .ro, 31, 0, 0, .any, false, false⟩  -- read position
  ]

/-- Objects of 2800h to 28FFh, part 2. -/
def page28_1 : List ObjRow := [
  ⟨0x2801, 32, 1, 0x14, 1, 1, .u8, .rw, 31, 30, 0xff, .oneOf [(0, 1), (16, 23), (32, 63), (255, 255)], false, true⟩,  -- capture source
  ⟨0x2801, 32, 1, 0x15, 1, 1, .u8, .rw, 31, 17, 0, .oneOf [(0, 63)], false, true⟩,  -- chime number
  ⟨0x2801, 32, 1, 0x16, 1, 1, .u64, .rw, 31, 31, 0x3e800000c800001, .any, false, true⟩,  -- tone word
  ⟨0x2801, 32, 1, 0x17, 1, 1, .u64, .ro, 31, 0, 0, .any, false, false⟩,  -- sampled position
  ⟨0x2801, 32, 1, 0x18, 1, 1, .u64, .ro, 31, 0, 0, .any, false, false⟩,  -- sampled rod position
  ⟨0x2801, 32, 1, 0x19, 1, 1, .u64, .ro, 31, 0, 0, .any, false, false⟩,  -- sampled time (ns)
  ⟨0x2801, 32, 1, 0x1A, 1, 1, .u32, .ro, 31, 0, 0, .any, false, false⟩,  -- sample count
  ⟨0x2801, 32, 1, 0x1B, 1, 1, .u32, .ro, 31, 0, 0, .any, false, false⟩,  -- underruns
  ⟨0x2801, 32, 1, 0x1C, 1, 1, .u32, .ro, 31, 0, 0, .any, false, false⟩,  -- last disable time (us)
  ⟨0x2809, 24, 1, 0x03, 1, 1, .u8, .rw, 31, 31, 1, .oneOf [(1, 3)], false, true⟩,  -- kind
  ⟨0x2821, 16, 1, 0x00, 1, 1, .u8, .const, 31, 0, 6, .any, false, false⟩,  -- highest subindex
  ⟨0x2821, 16, 1, 0x01, 1, 1, .i16, .rw, 31, 31, 0, .any, false, true⟩,  -- bus gain (0.1 dB)
  ⟨0x2821, 16, 1, 0x02, 1, 1, .u16, .rw, 31, 31, 0x14, .oneOf [(1, 1000)], false, true⟩,  -- ramp time (ms)
  ⟨0x2821, 16, 1, 0x03, 1, 1, .u8, .rw, 31, 31, 0x14, .oneOf [(1, 100)], false, true⟩,  -- crossing timeout (ms)
  ⟨0x2821, 16, 1, 0x04, 1, 1, .i16, .rw, 31, 31, 0xff88, .signed (-400) (0), false, true⟩,  -- chime duck (0.1 dB)
  ⟨0x2821, 16, 1, 0x05, 1, 1, .u32, .ro, 31, 0, 0, .any, false, false⟩,  -- senders
  ⟨0x2821, 16, 1, 0x06, 1, 1, .u16, .ro, 31, 0, 0, .any, false, false⟩,  -- sinks fed
  ⟨0x2831, 12, 1, 0x00, 1, 1, .u8, .const, 31, 0, 0x19, .any, false, false⟩,  -- highest subindex
  ⟨0x2831, 12, 1, 0x01, 1, 1, .u8, .ro, 31, 0, 1, .any, false, false⟩,  -- state
  ⟨0x2831, 12, 1, 0x02, 1, 1, .bool, .rw, 31, 31, 1, .oneOf [(0, 1)], false, true⟩,  -- enable
  ⟨0x2831, 12, 1, 0x03, 1, 1, .u8, .rw, 31, 31, 0xff, .oneOf [(0, 15), (255, 255)], false, true⟩,  -- bus
  ⟨0x2831, 4, 1, 0x04, 1, 1, .u8, .rw, 31, 31, 2, .oneOf [(0, 2)], false, true⟩,  -- channel map
  ⟨0x2831, 12, 1, 0x05, 1, 1, .i16, .rw, 31, 31, 0, .any, false, true⟩,  -- sink gain (0.1 dB)
  ⟨0x2831, 12, 1, 0x06, 1, 1, .u16, .rw, 31, 31, 0x14, .oneOf [(1, 1000)], false, true⟩,  -- ramp time (ms)
  ⟨0x2831, 12, 1, 0x07, 1, 1, .u8, .rw, 31, 31, 0x14, .oneOf [(1, 100)], false, true⟩,  -- crossing timeout (ms)
  ⟨0x2831, 12, 1, 0x08, 1, 1, .domain, .rw, 30, 30, 0, .any, false, true⟩,  -- biquads
  ⟨0x2831, 12, 1, 0x09, 1, 1, .i16, .rw, 31, 31, 0, .signed (-400) (0), false, true⟩,  -- limiter threshold (0.1 dBFS)
  ⟨0x2831, 12, 1, 0x0A, 1, 1, .u16, .rw, 31, 31, 0x64, .oneOf [(1, 1000)], false, true⟩,  -- limiter release (ms)
  ⟨0x2831, 12, 1, 0x0B, 1, 1, .u16, .rw, 31, 31, 0, .oneOf [(0, 960)], false, true⟩,  -- delay (frames)
  ⟨0x2831, 12, 1, 0x0C, 1, 1, .i16, .rw, 31, 31, 0xfc40, .signed (-1200) (-600), false, true⟩  -- silence threshold (0.1 dBFS)
  ]

/-- Objects of 2800h to 28FFh, part 3. -/
def page28_2 : List ObjRow := [
  ⟨0x2831, 12, 1, 0x0D, 1, 1, .u16, .rw, 31, 31, 0x3e8, .oneOf [(0, 0), (10, 60000)], false, true⟩,  -- silence hold (ms)
  ⟨0x2831, 12, 1, 0x0E, 1, 1, .u64, .rw, 30, 30, 0, .any, false, true⟩,  -- ring address
  ⟨0x2831, 12, 1, 0x0F, 1, 1, .u32, .rw, 31, 30, 0x12c0, .oneOf [(64, 1048576)], false, true⟩,  -- ring frames
  ⟨0x2831, 12, 1, 0x10, 1, 1, .u8, .rw, 31, 30, 1, .oneOf [(1, 4)], false, true⟩,  -- ring format
  ⟨0x2831, 12, 1, 0x11, 1, 1, .u8, .rw, 31, 30, 3, .oneOf [(0, 0), (3, 3)], false, true⟩,  -- ring rate
  ⟨0x2831, 12, 1, 0x12, 1, 1, .u32, .rw, 31, 30, 0, .any, false, true⟩,  -- period (frames)
  ⟨0x2831, 12, 1, 0x13, 1, 1, .u16, .rw, 31, 30, 0xffff, .oneOf [(256, 2047), (65535, 65535)], false, true⟩,  -- period source
  ⟨0x2831, 12, 1, 0x14, 1, 1, .u32, .ro, 31, 0, 0, .any, false, false⟩,  -- write position
  ⟨0x2831, 12, 1, 0x15, 1, 1, .u32, .rw, 31, 30, 0, .any, false, false⟩,  -- read position
  ⟨0x2831, 12, 1, 0x16, 1, 1, .u32, .ro, 31, 0, 0, .any, false, false⟩,  -- clips and drops
  ⟨0x2831, 12, 1, 0x17, 1, 1, .u32, .ro, 31, 0, 0, .any, false, false⟩,  -- stage wakes
  ⟨0x2831, 12, 1, 0x18, 1, 1, .u32, .ro, 31, 0, 0, .any, false, false⟩,  -- stage faults
  ⟨0x2831, 12, 1, 0x19, 1, 1, .u32, .ro, 31, 0, 0, .any, false, false⟩,  -- last disable time (us)
  ⟨0x2835, 8, 1, 0x04, 1, 1, .u8, .const, 31, 0, 0, .any, false, false⟩,  -- channel map
  ⟨0x2840, 2, 1, 0x00, 1, 1, .u8, .const, 31, 0, 0xc, .any, false, false⟩,  -- highest subindex
  ⟨0x2840, 2, 1, 0x01, 1, 1, .u8, .ro, 31, 0, 0, .any, true, false⟩,  -- state
  ⟨0x2840, 2, 1, 0x02, 1, 1, .bool, .rw, 31, 31, 1, .oneOf [(0, 1)], false, true⟩,  -- enable
  ⟨0x2840, 2, 1, 0x03, 1, 1, .u8, .ro, 31, 0, 0, .any, true, false⟩,  -- accessory
  ⟨0x2840, 2, 1, 0x04, 1, 1, .u8, .rw, 31, 31, 0, .oneOf [(0, 2)], false, true⟩,  -- detection mode
  ⟨0x2840, 2, 1, 0x05, 1, 1, .u16, .rw, 31, 31, 0xa8c, .oneOf [(2000, 2000), (2500, 2500), (2700, 2700)], false, true⟩,  -- microphone bias (mV)
  ⟨0x2840, 2, 1, 0x06, 1, 1, .u8, .rw, 31, 31, 0x12, .oneOf [(0, 0), (3, 3), (6, 6), (9, 9), (12, 12), (15, 15), (18, 18), (21, 21), (24, 24), (27, 27), (30, 30), (33, 33), (36, 36), (39, 39), (42, 42)], false, true⟩,  -- microphone gain (dB)
  ⟨0x2840, 2, 1, 0x07, 1, 1, .u8, .ro, 31, 0, 0, .any, true, false⟩,  -- buttons
  ⟨0x2840, 2, 1, 0x08, 1, 1, .octets, .rw, 31, 31, 0, .any, false, true⟩,  -- button windows
  ⟨0x2840, 2, 1, 0x09, 1, 1, .u16, .rw, 31, 30, 0xffff, .oneOf [(256, 2047), (65535, 65535)], false, true⟩,  -- event source
  ⟨0x2840, 2, 1, 0x0A, 1, 1, .u16, .ro, 31, 0, 0, .any, false, false⟩,  -- microphone resistance (Ω)
  ⟨0x2840, 2, 1, 0x0B, 1, 1, .u32, .ro, 31, 0, 0, .any, false, false⟩,  -- plug events
  ⟨0x2840, 2, 1, 0x0C, 1, 1, .u32, .ro, 31, 0, 0, .any, false, false⟩,  -- button events
  ⟨0x2842, 2, 1, 0x00, 1, 1, .u8, .const, 31, 0, 6, .any, false, false⟩,  -- highest subindex
  ⟨0x2842, 2, 1, 0x01, 1, 1, .u8, .ro, 31, 0, 0, .any, false, false⟩,  -- state
  ⟨0x2842, 2, 1, 0x02, 1, 1, .bool, .rw, 31, 31, 0, .oneOf [(0, 1)], false, true⟩  -- enable
  ]

/-- Objects of 2800h to 28FFh, part 4. -/
def page28_3 : List ObjRow := [
  ⟨0x2842, 2, 1, 0x03, 1, 1, .u8, .rw, 31, 31, 0, .oneOf [(0, 15)], false, true⟩,  -- format
  ⟨0x2842, 2, 1, 0x04, 1, 1, .u8, .rw, 31, 31, 0x20, .oneOf [(16, 16), (24, 24), (32, 32)], false, true⟩,  -- sample width (bits)
  ⟨0x2842, 2, 1, 0x05, 1, 1, .octets, .rw, 31, 31, 0, .any, false, true⟩,  -- transmit slot map
  ⟨0x2842, 2, 1, 0x06, 1, 1, .u16, .rw, 31, 31, 0, .any, false, true⟩,  -- receive slots
  ⟨0x2844, 4, 1, 0x00, 1, 1, .u8, .const, 31, 0, 3, .any, false, false⟩,  -- highest subindex
  ⟨0x2844, 4, 1, 0x01, 1, 1, .u8, .ro, 31, 0, 0, .any, false, false⟩,  -- state
  ⟨0x2844, 4, 1, 0x02, 1, 1, .bool, .rw, 31, 31, 0, .oneOf [(0, 1)], false, true⟩,  -- enable
  ⟨0x2844, 4, 1, 0x03, 1, 1, .u8, .rw, 31, 31, 0x14, .oneOf [(0, 0), (10, 200)], false, true⟩,  -- high-pass corner (Hz)
  ⟨0x2860, 1, 1, 0x00, 1, 1, .u8, .const, 31, 0, 2, .any, false, false⟩,  -- highest subindex
  ⟨0x2860, 1, 1, 0x01, 1, 1, .u8, .ro, 31, 0, 0, .any, false, false⟩,  -- chimes present
  ⟨0x2860, 1, 1, 0x02, 1, 1, .domain, .ro, 31, 0, 0, .any, false, false⟩  -- directory
  ]

/-- Objects of 2900h to 29FFh, part 1. -/
def page29_0 : List ObjRow := [
  ⟨0x2900, 1, 1, 0x00, 1, 1, .u8, .const, 31, 0, 9, .any, false, false⟩,  -- highest subindex
  ⟨0x2900, 1, 1, 0x01, 1, 1, .u8, .rw, 31, 16, 0, .oneOf [(0, 1)], false, true⟩,  -- lane configuration
  ⟨0x2900, 1, 1, 0x02, 1, 1, .u8, .ro, 31, 0, 0, .any, false, false⟩,  -- configuration in force
  ⟨0x2900, 1, 1, 0x03, 1, 1, .u16, .const, 31, 0, 0x1f4c, .any, false, false⟩,  -- vendor ID
  ⟨0x2900, 1, 1, 0x04, 1, 1, .u16, .const, 31, 0, 0x8508, .any, false, false⟩,  -- PF device ID
  ⟨0x2900, 1, 1, 0x05, 1, 1, .u16, .const, 31, 0, 0x8509, .any, false, false⟩,  -- VF device ID
  ⟨0x2900, 1, 1, 0x06, 1, 1, .u16, .rw, 31, 16, 0x1f4c, .any, false, true⟩,  -- subsystem vendor ID
  ⟨0x2900, 1, 1, 0x07, 1, 1, .u16, .rw, 31, 16, 0, .any, false, true⟩,  -- subsystem ID
  ⟨0x2900, 1, 1, 0x08, 1, 1, .u8, .ro, 31, 0, 0, .any, false, false⟩,  -- instances present
  ⟨0x2900, 1, 1, 0x09, 1, 1, .u32, .ro, 31, 0, 0, .any, false, false⟩,  -- reset refusals
  ⟨0x2901, 2, 1, 0x00, 1, 1, .u8, .const, 31, 0, 0xb, .any, false, false⟩,  -- highest subindex
  ⟨0x2901, 2, 1, 0x01, 1, 1, .u8, .ro, 31, 0, 0, .any, false, false⟩,  -- link state
  ⟨0x2901, 2, 1, 0x02, 1, 1, .u8, .ro, 31, 0, 0, .any, false, false⟩,  -- speed
  ⟨0x2901, 2, 1, 0x03, 1, 1, .u8, .ro, 31, 0, 0, .any, false, false⟩,  -- width
  ⟨0x2901, 2, 1, 0x04, 1, 1, .u8, .ro, 31, 0, 0, .any, false, false⟩,  -- VFs enabled
  ⟨0x2901, 2, 1, 0x05, 1, 1, .bool, .ro, 31, 0, 0, .any, false, false⟩,  -- PTM enabled
  ⟨0x2901, 2, 1, 0x06, 1, 1, .u16, .rw, 31, 16, 0x10, .oneOf [(1, 1000)], false, true⟩,  -- L1 entry delay (us)
  ⟨0x2901, 2, 1, 0x07, 1, 1, .u16, .rw, 31, 16, 0xc8, .oneOf [(1, 10000)], false, true⟩,  -- LTR latency (us)
  ⟨0x2901, 2, 1, 0x08, 1, 1, .u32, .ro, 31, 0, 0, .any, false, false⟩,  -- retrains
  ⟨0x2901, 2, 1, 0x09, 1, 1, .u32, .ro, 31, 0, 0, .any, false, false⟩,  -- link downs
  ⟨0x2901, 2, 1, 0x0A, 1, 1, .u32, .ro, 31, 0, 0, .any, false, false⟩,  -- L1 entries
  ⟨0x2901, 2, 1, 0x0B, 1, 1, .u32, .ro, 31, 0, 0, .any, false, false⟩,  -- correctable errors
  ⟨0x2910, 64, 1, 0x00, 1, 1, .u8, .const, 31, 0, 0xf, .any, false, false⟩,  -- highest subindex
  ⟨0x2910, 64, 1, 0x01, 1, 1, .u8, .ro, 31, 0, 0, .any, false, false⟩,  -- state
  ⟨0x2910, 32, 1, 0x02, 1, 1, .u8, .const, 31, 0, 0, .any, false, false⟩,  -- port
  ⟨0x2910, 64, 1, 0x03, 1, 1, .u8, .const, 31, 0, 0, .any, false, false⟩,  -- function
  ⟨0x2910, 64, 1, 0x04, 1, 1, .u8, .wo, 0, 16, 0, .oneOf [(1, 2)], false, false⟩,  -- command
  ⟨0x2910, 64, 1, 0x05, 1, 1, .u32, .ro, 31, 0, 0, .any, false, false⟩,  -- last quiesce time (us)
  ⟨0x2910, 64, 1, 0x06, 1, 1, .bool, .ro, 31, 0, 0, .any, false, false⟩,  -- idle hint
  ⟨0x2910, 64, 1, 0x07, 1, 1, .u32, .ro, 31, 0, 0, .any, false, false⟩  -- resets done
  ]

/-- Objects of 2900h to 29FFh, part 2. -/
def page29_1 : List ObjRow := [
  ⟨0x2910, 64, 1, 0x08, 1, 1, .u32, .ro, 31, 0, 0, .any, false, false⟩,  -- reset refusals
  ⟨0x2910, 64, 1, 0x09, 1, 1, .u32, .ro, 31, 0, 0, .any, false, false⟩,  -- entries taken
  ⟨0x2910, 64, 1, 0x0A, 1, 1, .u32, .ro, 31, 0, 0, .any, false, false⟩,  -- entries refused
  ⟨0x2910, 64, 1, 0x0B, 1, 1, .u32, .ro, 31, 0, 0, .any, false, false⟩,  -- completions written
  ⟨0x2910, 64, 1, 0x0C, 1, 1, .u32, .ro, 31, 0, 0, .any, false, false⟩,  -- completions discarded
  ⟨0x2910, 64, 1, 0x0D, 1, 1, .u8, .ro, 31, 0, 0, .any, false, false⟩,  -- dirty log
  ⟨0x2910, 64, 1, 0x0E, 1, 1, .u32, .ro, 31, 0, 0, .any, false, false⟩,  -- harvests
  ⟨0x2910, 64, 1, 0x0F, 1, 1, .u32, .ro, 31, 0, 0, .any, false, false⟩,  -- ignored BAR accesses
  ⟨0x2930, 32, 1, 0x02, 1, 1, .u8, .const, 31, 0, 1, .any, false, false⟩,  -- port
  ⟨0x2950, 64, 1, 0x00, 1, 1, .u8, .const, 31, 0, 0x87, .any, false, false⟩,  -- highest subindex
  ⟨0x2950, 64, 1, 0x01, 1, 1, .u8, .const, 31, 0, 8, .any, false, false⟩,  -- rings
  ⟨0x2950, 64, 1, 0x10, 8, 16, .bool, .rw, 30, 18, 0, .oneOf [(0, 1)], false, false⟩,  -- enable
  ⟨0x2950, 64, 1, 0x11, 8, 16, .u8, .ro, 31, 0, 0, .any, false, false⟩,  -- state
  ⟨0x2950, 64, 1, 0x12, 8, 16, .u64, .rw, 30, 18, 0, .any, false, false⟩,  -- submission ring address
  ⟨0x2950, 64, 1, 0x13, 8, 16, .u64, .rw, 30, 18, 0, .any, false, false⟩,  -- completion ring address
  ⟨0x2950, 64, 1, 0x14, 8, 16, .u16, .rw, 31, 18, 0x100, .oneOf [(64, 64), (128, 128), (256, 256), (512, 512), (1024, 1024), (2048, 2048), (4096, 4096)], false, false⟩,  -- entries E
  ⟨0x2950, 64, 1, 0x15, 8, 16, .u16, .rw, 31, 18, 0xffff, .oneOf [(256, 2047), (65535, 65535)], false, false⟩,  -- completion source
  ⟨0x2950, 64, 1, 0x16, 8, 16, .u32, .ro, 31, 0, 0, .any, false, false⟩,  -- entries taken
  ⟨0x2950, 64, 1, 0x17, 8, 16, .u32, .ro, 31, 0, 0, .any, false, false⟩  -- last disable time (us)
  ]

/-- Objects of 2A00h to 2AFFh, part 1. -/
def page2A_0 : List ObjRow := [
  ⟨0x2A00, 1, 1, 0x00, 1, 1, .u8, .const, 31, 0, 9, .any, false, false⟩,  -- highest subindex
  ⟨0x2A00, 1, 1, 0x01, 1, 1, .u8, .const, 31, 0, 0x20, .any, false, false⟩,  -- regions: DRAM, SRAM, flash
  ⟨0x2A00, 1, 1, 0x02, 1, 1, .u8, .const, 31, 0, 8, .any, false, false⟩,  -- regions: DRAM, SRAM, flash
  ⟨0x2A00, 1, 1, 0x03, 1, 1, .u8, .const, 31, 0, 8, .any, false, false⟩,  -- regions: DRAM, SRAM, flash
  ⟨0x2A00, 1, 1, 0x04, 1, 1, .u16, .rw, 31, 16, 0x64, .oneOf [(1, 10000)], false, true⟩,  -- release timeout (ms)
  ⟨0x2A00, 1, 1, 0x05, 1, 1, .u32, .ro, 31, 0, 0, .any, false, false⟩,  -- refused accesses
  ⟨0x2A00, 1, 1, 0x06, 1, 1, .u64, .ro, 28, 0, 0, .any, false, false⟩,  -- last refused address
  ⟨0x2A00, 1, 1, 0x07, 1, 1, .u32, .ro, 28, 0, 0, .any, false, false⟩,  -- last refused detail
  ⟨0x2A00, 1, 1, 0x08, 1, 1, .u32, .ro, 31, 0, 0, .any, false, false⟩,  -- forced resets
  ⟨0x2A00, 1, 1, 0x09, 1, 1, .u32, .ro, 31, 0, 0, .any, false, false⟩,  -- revocations
  ⟨0x2A01, 1, 1, 0x00, 1, 1, .u8, .const, 31, 0, 4, .any, false, false⟩,  -- highest subindex
  ⟨0x2A01, 1, 1, 0x01, 1, 1, .u32, .wo, 0, 20, 0, .any, false, false⟩,  -- request
  ⟨0x2A01, 1, 1, 0x02, 1, 1, .u16, .wo, 0, 30, 0, .any, false, false⟩,  -- release
  ⟨0x2A01, 1, 1, 0x03, 1, 1, .u32, .ro, 31, 0, 0, .any, false, false⟩,  -- hand-overs done
  ⟨0x2A01, 1, 1, 0x04, 1, 1, .u16, .ro, 31, 0, 0, .any, false, false⟩,  -- in progress
  ⟨0x2A02, 1, 1, 0x00, 1, 1, .u8, .const, 31, 0, 3, .any, false, false⟩,  -- highest subindex
  ⟨0x2A02, 1, 1, 0x01, 1, 1, .u32, .wo, 0, 30, 0, .any, false, false⟩,  -- request
  ⟨0x2A02, 1, 1, 0x02, 1, 1, .u8, .ro, 31, 0, 0, .any, false, false⟩,  -- last result
  ⟨0x2A02, 1, 1, 0x03, 1, 1, .u32, .ro, 31, 0, 0, .any, false, false⟩,  -- held refusals
  ⟨0x2A03, 1, 1, 0x00, 1, 1, .u8, .const, 31, 0, 0xa, .any, false, false⟩,  -- highest subindex
  ⟨0x2A03, 1, 1, 0x01, 1, 1, .u8, .ro, 31, 0, 2, .any, false, false⟩,  -- lifecycle
  ⟨0x2A03, 1, 1, 0x02, 1, 1, .u8, .wo, 0, 17, 0, .oneOf [(1, 1)], false, false⟩,  -- draw nonce
  ⟨0x2A03, 1, 1, 0x03, 1, 1, .octets, .ro, 17, 0, 0, .any, false, false⟩,  -- nonce
  ⟨0x2A03, 1, 1, 0x04, 1, 1, .domain, .wo, 0, 17, 0, .any, false, false⟩,  -- certificate
  ⟨0x2A03, 1, 1, 0x05, 1, 1, .u8, .ro, 31, 0, 0, .any, false, false⟩,  -- debug status
  ⟨0x2A03, 1, 1, 0x06, 1, 1, .u64, .ro, 31, 0, 0, .any, false, false⟩,  -- open scope
  ⟨0x2A03, 1, 1, 0x07, 1, 1, .u16, .ro, 31, 0, 0, .any, false, false⟩,  -- key slots
  ⟨0x2A03, 1, 1, 0x08, 1, 1, .octets, .wo, 0, 16, 0, .any, false, false⟩,  -- program slot
  ⟨0x2A03, 1, 1, 0x09, 1, 1, .u8, .wo, 0, 16, 0, .oneOf [(0, 3)], false, false⟩,  -- revoke slot
  ⟨0x2A03, 1, 1, 0x0A, 1, 1, .u32, .wo, 0, 16, 0, .any, false, false⟩  -- retire
  ]

/-- Objects of 2A00h to 2AFFh, part 2. -/
def page2A_1 : List ObjRow := [
  ⟨0x2A10, 32, 1, 0x00, 1, 1, .u8, .const, 31, 0, 4, .any, false, false⟩,  -- highest subindex
  ⟨0x2A10, 32, 1, 0x01, 1, 1, .u64, .rw, 30, 20, 0, .any, false, true⟩,  -- base
  ⟨0x2A10, 32, 1, 0x02, 1, 1, .u64, .rw, 30, 20, 0, .any, false, true⟩,  -- limit
  ⟨0x2A10, 32, 1, 0x03, 1, 1, .u32, .rw, 30, 20, 0x2000, .any, false, true⟩,  -- attributes
  ⟨0x2A10, 32, 1, 0x04, 1, 1, .u32, .ro, 31, 0, 0, .any, false, false⟩,  -- refused accesses
  ⟨0x2A30, 8, 1, 0x00, 1, 1, .u8, .const, 31, 0, 4, .any, false, false⟩,  -- highest subindex
  ⟨0x2A30, 8, 1, 0x01, 1, 1, .u64, .rw, 30, 20, 0, .any, false, true⟩,  -- base
  ⟨0x2A30, 8, 1, 0x02, 1, 1, .u64, .rw, 30, 20, 0, .any, false, true⟩,  -- limit
  ⟨0x2A30, 8, 1, 0x03, 1, 1, .u32, .rw, 30, 20, 0x2000, .any, false, true⟩,  -- attributes
  ⟨0x2A30, 8, 1, 0x04, 1, 1, .u32, .ro, 31, 0, 0, .any, false, false⟩,  -- refused accesses
  ⟨0x2A38, 8, 1, 0x00, 1, 1, .u8, .const, 31, 0, 4, .any, false, false⟩,  -- highest subindex
  ⟨0x2A38, 8, 1, 0x01, 1, 1, .u64, .rw, 30, 20, 0, .any, false, true⟩,  -- base
  ⟨0x2A38, 8, 1, 0x02, 1, 1, .u64, .rw, 30, 20, 0, .any, false, true⟩,  -- limit
  ⟨0x2A38, 8, 1, 0x03, 1, 1, .u32, .rw, 30, 20, 0x2000, .any, false, true⟩,  -- attributes
  ⟨0x2A38, 8, 1, 0x04, 1, 1, .u32, .ro, 31, 0, 0, .any, false, false⟩,  -- refused accesses
  ⟨0x2A41, 31, 1, 0x00, 1, 1, .u8, .const, 31, 0, 7, .any, false, false⟩,  -- highest subindex
  ⟨0x2A41, 31, 1, 0x01, 1, 1, .u8, .ro, 31, 0, 0, .any, false, false⟩,  -- state
  ⟨0x2A41, 31, 1, 0x02, 1, 1, .u8, .wo, 0, 20, 0, .oneOf [(1, 3)], false, false⟩,  -- command
  ⟨0x2A41, 31, 1, 0x03, 1, 1, .u64, .rw, 28, 20, 0, .any, false, true⟩,  -- region set
  ⟨0x2A41, 31, 1, 0x04, 1, 1, .u64, .rw, 28, 20, 0, .any, false, true⟩,  -- entry address
  ⟨0x2A41, 31, 1, 0x05, 1, 1, .u8, .rw, 31, 20, 1, .oneOf [(1, 6)], false, true⟩,  -- threads
  ⟨0x2A41, 31, 1, 0x06, 1, 1, .octets, .ro, 31, 0, 0, .any, false, false⟩,  -- measurement
  ⟨0x2A41, 31, 1, 0x07, 1, 1, .u16, .rw, 31, 20, 0xffff, .oneOf [(256, 2047), (65535, 65535)], false, true⟩,  -- wake source
  ⟨0x2A61, 10, 1, 0x00, 1, 1, .u8, .const, 31, 0, 2, .any, false, false⟩,  -- highest subindex
  ⟨0x2A61, 10, 1, 0x01, 1, 1, .octets, .ro, 31, 0, 0, .any, false, false⟩,  -- owners
  ⟨0x2A61, 10, 1, 0x02, 1, 1, .octets, .ro, 31, 0, 0, .any, false, false⟩,  -- hand-over states
  ⟨0x2A70, 1, 1, 0x00, 1, 1, .u8, .const, 31, 0, 0x80, .any, false, false⟩,  -- highest subindex
  ⟨0x2A70, 1, 1, 0x01, 128, 1, .u16, .rw, 30, 30, 0xffff, .oneOf [(256, 2047), (65535, 65535)], false, true⟩  -- notice source of owner o
  ]

/-- Objects of 2B00h to 2BFFh. -/
def page2B : List ObjRow := [
  ⟨0x2B00, 1, 1, 0x00, 1, 1, .u8, .const, 31, 0, 9, .any, false, false⟩,  -- highest subindex
  ⟨0x2B00, 1, 1, 0x01, 1, 1, .u16, .const, 31, 0, 0x800, .any, false, false⟩,  -- sources
  ⟨0x2B00, 1, 1, 0x02, 1, 1, .u8, .const, 31, 0, 0x10, .any, false, false⟩,  -- moderation classes
  ⟨0x2B00, 1, 1, 0x03, 1, 1, .u32, .const, 31, 0, 0x7736, .any, false, false⟩,  -- timer tick (ns)
  ⟨0x2B00, 1, 1, 0x04, 1, 1, .u16, .ro, 31, 0, 0, .any, true, false⟩,  -- sources pending now
  ⟨0x2B00, 1, 1, 0x05, 1, 1, .u32, .ro, 31, 0, 0, .any, false, false⟩,  -- refused doorbell writes
  ⟨0x2B00, 1, 1, 0x06, 1, 1, .u32, .ro, 31, 0, 0, .any, false, false⟩,  -- merged posts
  ⟨0x2B00, 1, 1, 0x07, 1, 1, .u32, .ro, 31, 0, 0, .any, false, false⟩,  -- stray completions
  ⟨0x2B00, 1, 1, 0x08, 1, 1, .u32, .ro, 31, 0, 0, .any, false, false⟩,  -- withdrawn deliveries
  ⟨0x2B00, 1, 1, 0x09, 1, 1, .u32, .ro, 31, 0, 0, .any, false, false⟩,  -- enclave wake posts
  ⟨0x2B01, 1, 1, 0x00, 1, 1, .u8, .const, 31, 0, 0x10, .any, false, false⟩,  -- highest subindex
  ⟨0x2B01, 1, 1, 0x01, 1, 1, .u32, .const, 31, 0, 1, .any, false, false⟩,  -- class 0
  ⟨0x2B01, 1, 1, 0x02, 15, 1, .u32, .rw, 31, 16, 1, .any, false, true⟩,  -- class c
  ⟨0x2B02, 1, 1, 0x00, 1, 1, .u8, .const, 31, 0, 0x12, .any, false, false⟩,  -- highest subindex
  ⟨0x2B02, 1, 1, 0x01, 16, 1, .u8, .rw, 31, 16, 0, .any, false, true⟩,  -- GPIO0 to GPIO15 latch
  ⟨0x2B02, 1, 1, 0x11, 1, 1, .u8, .rw, 31, 16, 5, .any, false, true⟩,  -- WAKE_IN latch
  ⟨0x2B02, 1, 1, 0x12, 1, 1, .u32, .ro, 31, 0, 0, .any, false, false⟩,  -- pin levels
  ⟨0x2B10, 16, 1, 0x00, 1, 1, .u8, .const, 31, 0, 0x80, .any, false, false⟩,  -- highest subindex
  ⟨0x2B10, 16, 1, 0x01, 128, 1, .u64, .rw, 31, 30, 0, .any, false, true⟩  -- entry of source 128k + j
  ]

/-- Objects of 2C00h to 2CFFh, part 1. -/
def page2C_0 : List ObjRow := [
  ⟨0x2C00, 1, 1, 0x00, 1, 1, .u8, .const, 31, 0, 0x12, .any, false, false⟩,  -- highest subindex
  ⟨0x2C00, 1, 1, 0x01, 1, 1, .u8, .const, 31, 0, 8, .any, false, false⟩,  -- channels
  ⟨0x2C00, 1, 1, 0x02, 1, 1, .u8, .const, 31, 0, 0x10, .any, false, false⟩,  -- ranks
  ⟨0x2C00, 1, 1, 0x03, 1, 1, .u8, .rw, 31, 16, 1, .oneOf [(0, 2)], false, true⟩,  -- spare ranks requested
  ⟨0x2C00, 1, 1, 0x04, 1, 1, .u8, .ro, 31, 0, 1, .any, false, false⟩,  -- spare ranks in force
  ⟨0x2C00, 1, 1, 0x05, 1, 1, .u8, .ro, 31, 0, 1, .any, true, false⟩,  -- spares left
  ⟨0x2C00, 1, 1, 0x06, 1, 1, .u32, .ro, 31, 0, 0x7800, .any, false, false⟩,  -- visible DRAM (MiB)
  ⟨0x2C00, 1, 1, 0x07, 1, 1, .u16, .const, 31, 0, 0x2155, .any, false, false⟩,  -- data rate (MT/s)
  ⟨0x2C00, 1, 1, 0x08, 1, 1, .u16, .rw, 31, 16, 0xfa0, .oneOf [(1000, 16000)], false, true⟩,  -- carry rate (MB/s)
  ⟨0x2C00, 1, 1, 0x09, 1, 1, .u8, .rw, 31, 16, 8, .oneOf [(2, 16)], false, true⟩,  -- skew threshold
  ⟨0x2C00, 1, 1, 0x0A, 1, 1, .u16, .rw, 31, 16, 0xa, .oneOf [(1, 3600)], false, true⟩,  -- skew time (s)
  ⟨0x2C00, 1, 1, 0x0B, 1, 1, .u8, .rw, 31, 16, 0xb, .any, false, true⟩,  -- refresh threshold code
  ⟨0x2C00, 1, 1, 0x0C, 1, 1, .u16, .rw, 31, 16, 0x64, .oneOf [(10, 10000)], false, true⟩,  -- check period (ms)
  ⟨0x2C00, 1, 1, 0x0D, 1, 1, .octets, .ro, 31, 0, 0, .any, false, false⟩,  -- rank remap table
  ⟨0x2C00, 1, 1, 0x0E, 1, 1, .u8, .ro, 31, 0, 0, .any, false, false⟩,  -- carry engine state
  ⟨0x2C00, 1, 1, 0x0F, 1, 1, .u64, .ro, 31, 0, 0, .any, false, false⟩,  -- carry progress (bytes)
  ⟨0x2C00, 1, 1, 0x10, 1, 1, .u32, .ro, 31, 0, 0, .any, false, false⟩,  -- rank carries done
  ⟨0x2C00, 1, 1, 0x11, 1, 1, .u32, .ro, 31, 0, 0, .any, false, false⟩,  -- skew events
  ⟨0x2C00, 1, 1, 0x12, 1, 1, .u32, .ro, 31, 0, 0, .any, false, false⟩,  -- command-path errors
  ⟨0x2C01, 1, 1, 0x00, 1, 1, .u8, .const, 31, 0, 8, .any, false, false⟩,  -- highest subindex
  ⟨0x2C01, 1, 1, 0x01, 1, 1, .u32, .rw, 31, 16, 0x3e8, .oneOf [(250, 100000)], false, true⟩,  -- age limit, display to bulk (ns)
  ⟨0x2C01, 1, 1, 0x02, 1, 1, .u32, .rw, 31, 16, 0x7d0, .oneOf [(250, 100000)], false, true⟩,  -- age limit, display to bulk (ns)
  ⟨0x2C01, 1, 1, 0x03, 1, 1, .u32, .rw, 31, 16, 0xfa0, .oneOf [(250, 100000)], false, true⟩,  -- age limit, display to bulk (ns)
  ⟨0x2C01, 1, 1, 0x04, 1, 1, .u32, .rw, 31, 16, 0x4e20, .oneOf [(250, 100000)], false, true⟩,  -- age limit, display to bulk (ns)
  ⟨0x2C01, 1, 1, 0x05, 1, 1, .u8, .rw, 31, 16, 0x10, .any, false, true⟩,  -- reserved slots, display to bulk
  ⟨0x2C01, 1, 1, 0x06, 1, 1, .u8, .rw, 31, 16, 8, .any, false, true⟩,  -- reserved slots, display to bulk
  ⟨0x2C01, 1, 1, 0x07, 1, 1, .u8, .rw, 31, 16, 8, .any, false, true⟩,  -- reserved slots, display to bulk
  ⟨0x2C01, 1, 1, 0x08, 1, 1, .u8, .rw, 31, 16, 8, .any, false, true⟩,  -- reserved slots, display to bulk
  ⟨0x2C02, 8, 1, 0x00, 1, 1, .u8, .const, 31, 0, 5, .any, false, false⟩,  -- highest subindex
  ⟨0x2C02, 8, 1, 0x01, 1, 1, .u32, .ro, 31, 0, 0, .any, false, false⟩  -- transfers
  ]

/-- Objects of 2C00h to 2CFFh, part 2. -/
def page2C_1 : List ObjRow := [
  ⟨0x2C02, 8, 1, 0x02, 1, 1, .u8, .ro, 31, 0, 0, .any, false, false⟩,  -- busiest bank, last window
  ⟨0x2C02, 8, 1, 0x03, 1, 1, .u8, .ro, 31, 0, 0, .any, false, false⟩,  -- busiest share, last window (1/256)
  ⟨0x2C02, 8, 1, 0x04, 1, 1, .u8, .ro, 31, 0, 0xff, .any, false, false⟩,  -- region recorded
  ⟨0x2C02, 8, 1, 0x05, 1, 1, .u32, .ro, 31, 0, 0, .any, false, false⟩,  -- promoted requests
  ⟨0x2C10, 16, 1, 0x00, 1, 1, .u8, .const, 31, 0, 6, .any, false, false⟩,  -- highest subindex
  ⟨0x2C10, 16, 1, 0x01, 1, 1, .u8, .ro, 31, 0, 0, .any, true, false⟩,  -- state
  ⟨0x2C10, 16, 1, 0x02, 1, 1, .u8, .ro, 31, 0, 0, .any, false, false⟩,  -- mode register 4 field
  ⟨0x2C10, 16, 1, 0x03, 1, 1, .bool, .ro, 31, 0, 0, .any, false, false⟩,  -- refresh doubled
  ⟨0x2C10, 16, 1, 0x04, 1, 1, .u32, .ro, 31, 0, 0, .any, false, false⟩,  -- uncorrectable errors
  ⟨0x2C10, 16, 1, 0x05, 1, 1, .u32, .ro, 31, 0, 0, .any, false, false⟩,  -- command-path errors
  ⟨0x2C10, 16, 1, 0x06, 1, 1, .u8, .wo, 0, 16, 0, .oneOf [(1, 1)], false, false⟩,  -- take out of service
  ⟨0x2C20, 32, 1, 0x00, 1, 1, .u8, .const, 31, 0, 5, .any, false, false⟩,  -- highest subindex
  ⟨0x2C20, 32, 1, 0x01, 1, 1, .bool, .rw, 31, 30, 0, .oneOf [(0, 1)], false, true⟩,  -- remap on skew
  ⟨0x2C20, 32, 1, 0x02, 1, 1, .u8, .wo, 0, 30, 0, .oneOf [(0, 2)], false, false⟩,  -- remap
  ⟨0x2C20, 32, 1, 0x03, 1, 1, .u8, .ro, 31, 0, 0, .any, false, false⟩,  -- remap state
  ⟨0x2C20, 32, 1, 0x04, 1, 1, .u32, .ro, 31, 0, 0, .any, false, false⟩,  -- blocks done
  ⟨0x2C20, 32, 1, 0x05, 1, 1, .u32, .ro, 31, 0, 0, .any, false, false⟩,  -- skew events
  ⟨0x2C40, 1, 1, 0x00, 1, 1, .u8, .const, 31, 0, 4, .any, false, false⟩,  -- highest subindex
  ⟨0x2C40, 1, 1, 0x01, 1, 1, .u32, .const, 31, 0, 0x8000, .any, false, false⟩,  -- size (KiB)
  ⟨0x2C40, 1, 1, 0x02, 1, 1, .u8, .const, 31, 0, 0x10, .any, false, false⟩,  -- ways
  ⟨0x2C40, 1, 1, 0x03, 1, 1, .u16, .ro, 31, 0, 0xfff, .any, false, false⟩,  -- free ways
  ⟨0x2C40, 1, 1, 0x04, 1, 1, .u8, .ro, 31, 0, 0xff, .any, false, false⟩,  -- staging way
  ⟨0x2C41, 16, 1, 0x00, 1, 1, .u8, .const, 31, 0, 5, .any, false, false⟩,  -- highest subindex
  ⟨0x2C41, 1, 1, 0x01, 1, 1, .bool, .rw, 31, 16, 1, .oneOf [(0, 1)], false, true⟩,  -- enable
  ⟨0x2C41, 1, 1, 0x02, 1, 1, .u8, .rw, 31, 16, 0, .oneOf [(0, 32), (64, 127), (255, 255)], false, true⟩,  -- owner
  ⟨0x2C41, 1, 1, 0x03, 1, 1, .u16, .rw, 31, 16, 0xf000, .any, false, true⟩,  -- way mask
  ⟨0x2C41, 1, 1, 0x04, 1, 1, .bool, .rw, 31, 16, 1, .oneOf [(0, 1)], false, true⟩,  -- LOCK
  ⟨0x2C41, 16, 1, 0x05, 1, 1, .u64, .rw, 31, 16, 0, .any, false, true⟩,  -- lock base
  ⟨0x2C42, 15, 1, 0x01, 1, 1, .bool, .rw, 31, 16, 0, .oneOf [(0, 1)], false, true⟩,  -- enable
  ⟨0x2C42, 15, 1, 0x02, 1, 1, .u8, .rw, 31, 16, 0xff, .oneOf [(0, 32), (64, 127), (255, 255)], false, true⟩  -- owner
  ]

/-- Objects of 2C00h to 2CFFh, part 3. -/
def page2C_2 : List ObjRow := [
  ⟨0x2C42, 15, 1, 0x03, 1, 1, .u16, .rw, 31, 16, 0, .any, false, true⟩,  -- way mask
  ⟨0x2C42, 15, 1, 0x04, 1, 1, .bool, .rw, 31, 16, 0, .oneOf [(0, 1)], false, true⟩  -- LOCK
  ]

/-- Objects of 2D00h to 2DFFh, part 1. -/
def page2D_0 : List ObjRow := [
  ⟨0x2D00, 1, 1, 0x00, 1, 1, .u8, .const, 31, 0, 0xe, .any, false, false⟩,  -- highest subindex
  ⟨0x2D00, 1, 1, 0x01, 1, 1, .bool, .rw, 31, 16, 1, .oneOf [(0, 1)], false, true⟩,  -- scrub enable
  ⟨0x2D00, 1, 1, 0x02, 1, 1, .u16, .rw, 31, 16, 0x1f4, .oneOf [(100, 4000)], false, true⟩,  -- scrub rate ceiling (MB/s)
  ⟨0x2D00, 1, 1, 0x03, 1, 1, .u32, .rw, 31, 16, 0x258, .oneOf [(10, 86400)], false, true⟩,  -- lap limit (s)
  ⟨0x2D00, 1, 1, 0x04, 1, 1, .u32, .ro, 31, 0, 0, .any, false, false⟩,  -- last lap time (s)
  ⟨0x2D00, 1, 1, 0x05, 1, 1, .u32, .ro, 31, 0, 0, .any, false, false⟩,  -- lap progress (MiB)
  ⟨0x2D00, 1, 1, 0x06, 1, 1, .u32, .ro, 31, 0, 0, .any, false, false⟩,  -- laps completed
  ⟨0x2D00, 1, 1, 0x07, 1, 1, .u32, .ro, 31, 0, 0, .any, true, false⟩,  -- lap alerts
  ⟨0x2D00, 1, 1, 0x08, 1, 1, .u16, .rw, 31, 16, 0xffff, .oneOf [(256, 2047), (65535, 65535)], false, true⟩,  -- lap alert source
  ⟨0x2D00, 1, 1, 0x09, 1, 1, .u32, .ro, 31, 0, 0, .any, false, false⟩,  -- corrected DRAM errors
  ⟨0x2D00, 1, 1, 0x0A, 1, 1, .u32, .ro, 31, 0, 0, .any, true, false⟩,  -- uncorrectable DRAM errors
  ⟨0x2D00, 1, 1, 0x0B, 1, 1, .u32, .ro, 31, 0, 0, .any, false, false⟩,  -- poisoned reads
  ⟨0x2D00, 1, 1, 0x0C, 1, 1, .u32, .ro, 31, 0, 0, .any, false, false⟩,  -- corrected SRAM errors
  ⟨0x2D00, 1, 1, 0x0D, 1, 1, .u32, .ro, 31, 0, 0, .any, false, false⟩,  -- uncorrectable SRAM errors
  ⟨0x2D00, 1, 1, 0x0E, 1, 1, .u32, .ro, 31, 0, 0, .any, false, false⟩,  -- line buffer parity errors
  ⟨0x2D10, 32, 1, 0x00, 1, 1, .u8, .const, 31, 0, 8, .any, false, false⟩,  -- highest subindex
  ⟨0x2D10, 32, 1, 0x01, 1, 1, .u64, .ro, 31, 0, 0, .any, false, false⟩,  -- data size (bytes)
  ⟨0x2D10, 32, 1, 0x02, 1, 1, .u64, .ro, 30, 0, 0, .any, false, false⟩,  -- check area address
  ⟨0x2D10, 32, 1, 0x03, 1, 1, .bool, .rw, 31, 30, 0, .oneOf [(0, 1)], false, false⟩,  -- filled
  ⟨0x2D10, 32, 1, 0x04, 1, 1, .u32, .ro, 31, 0, 0, .any, false, false⟩,  -- corrected errors
  ⟨0x2D10, 32, 1, 0x05, 1, 1, .u32, .ro, 31, 0, 0, .any, false, false⟩,  -- uncorrectable errors
  ⟨0x2D10, 32, 1, 0x06, 1, 1, .u32, .ro, 31, 0, 0, .any, false, false⟩,  -- poisonings
  ⟨0x2D10, 32, 1, 0x07, 1, 1, .u64, .ro, 30, 0, 0, .any, false, false⟩,  -- last error address
  ⟨0x2D10, 32, 1, 0x08, 1, 1, .u32, .ro, 31, 0, 0, .any, false, false⟩,  -- last error detail
  ⟨0x2D30, 1, 1, 0x00, 1, 1, .u8, .const, 31, 0, 0xb, .any, false, false⟩,  -- highest subindex
  ⟨0x2D30, 1, 1, 0x01, 11, 1, .u16, .ro, 31, 0, 0, .any, false, false⟩,  -- repairs used by array a
  ⟨0x2D31, 1, 1, 0x00, 1, 1, .u8, .const, 31, 0, 0xb, .any, false, false⟩,  -- highest subindex
  ⟨0x2D31, 1, 1, 0x01, 11, 1, .u32, .ro, 31, 0, 0, .any, false, false⟩,  -- corrected errors of array a
  ⟨0x2D40, 1, 1, 0x00, 1, 1, .u8, .const, 31, 0, 4, .any, false, false⟩,  -- highest subindex
  ⟨0x2D40, 1, 1, 0x01, 1, 1, .u8, .ro, 31, 0, 0, .any, false, false⟩  -- frames retired
  ]

/-- Objects of 2D00h to 2DFFh, part 2. -/
def page2D_1 : List ObjRow := [
  ⟨0x2D40, 1, 1, 0x02, 1, 1, .octets, .ro, 31, 0, 0, .any, false, false⟩,  -- retired list
  ⟨0x2D40, 1, 1, 0x03, 1, 1, .u32, .ro, 31, 0, 0, .any, false, false⟩,  -- frames not retired
  ⟨0x2D40, 1, 1, 0x04, 1, 1, .u8, .wo, 0, 16, 0, .oneOf [(1, 1)], false, false⟩  -- clear list
  ]

/-- Objects of 2E00h to 2EFFh. -/
def page2E : List ObjRow := [
  ⟨0x2E00, 1, 1, 0x00, 1, 1, .u8, .const, 31, 0, 4, .any, false, false⟩,  -- highest subindex
  ⟨0x2E00, 1, 1, 0x01, 1, 1, .u8, .const, 31, 0, 8, .any, false, false⟩,  -- engines
  ⟨0x2E00, 1, 1, 0x02, 1, 1, .u32, .ro, 31, 0, 0, .any, false, false⟩,  -- streams closed
  ⟨0x2E00, 1, 1, 0x03, 1, 1, .u32, .ro, 31, 0, 0, .any, false, false⟩,  -- halts
  ⟨0x2E00, 1, 1, 0x04, 1, 1, .u32, .ro, 31, 0, 0, .any, false, false⟩,  -- mismatches
  ⟨0x2E01, 8, 1, 0x00, 1, 1, .u8, .const, 31, 0, 0x17, .any, false, false⟩,  -- highest subindex
  ⟨0x2E01, 8, 1, 0x01, 1, 1, .u8, .ro, 31, 0, 1, .any, false, false⟩,  -- state
  ⟨0x2E01, 8, 1, 0x02, 1, 1, .bool, .rw, 31, 30, 1, .oneOf [(0, 1)], false, true⟩,  -- enable
  ⟨0x2E01, 8, 1, 0x03, 1, 1, .u32, .rw, 31, 30, 0x320, .any, false, true⟩,  -- configuration word
  ⟨0x2E01, 8, 1, 0x04, 1, 1, .u64, .rw, 31, 30, 0x1edc6f41, .any, false, true⟩,  -- polynomial
  ⟨0x2E01, 8, 1, 0x05, 1, 1, .u64, .rw, 31, 30, 0xffffffff, .any, false, true⟩,  -- initial value
  ⟨0x2E01, 8, 1, 0x06, 1, 1, .u64, .rw, 31, 30, 0xffffffff, .any, false, true⟩,  -- final XOR
  ⟨0x2E01, 8, 1, 0x07, 1, 1, .u8, .wo, 0, 30, 0, .any, false, false⟩,  -- catalogue
  ⟨0x2E01, 8, 1, 0x08, 1, 1, .u8, .wo, 0, 30, 0, .oneOf [(1, 1)], false, false⟩,  -- self-check
  ⟨0x2E01, 8, 1, 0x09, 1, 1, .u64, .ro, 31, 0, 0, .any, false, false⟩,  -- self-check result
  ⟨0x2E01, 8, 1, 0x0A, 1, 1, .u64, .rw, 30, 30, 0, .any, false, true⟩,  -- tag value
  ⟨0x2E01, 8, 1, 0x0B, 1, 1, .u8, .wo, 0, 30, 0, .oneOf [(1, 3)], false, false⟩,  -- control
  ⟨0x2E01, 8, 1, 0x0C, 1, 1, .u64, .rw, 30, 30, 0, .any, false, false⟩,  -- feed address
  ⟨0x2E01, 8, 1, 0x0D, 1, 1, .u32, .wo, 0, 30, 0, .any, false, false⟩,  -- feed word
  ⟨0x2E01, 8, 1, 0x0E, 1, 1, .octets, .wo, 0, 30, 0, .any, false, false⟩,  -- direct data
  ⟨0x2E01, 8, 1, 0x0F, 1, 1, .u64, .rw, 30, 30, 0, .any, false, true⟩,  -- expected value
  ⟨0x2E01, 8, 1, 0x10, 1, 1, .u64, .ro, 30, 0, 0, .any, false, false⟩,  -- result
  ⟨0x2E01, 8, 1, 0x11, 1, 1, .u8, .ro, 31, 0, 0, .any, true, false⟩,  -- stream status
  ⟨0x2E01, 8, 1, 0x12, 1, 1, .u64, .ro, 31, 0, 0, .any, false, false⟩,  -- payload bytes taken
  ⟨0x2E01, 8, 1, 0x13, 1, 1, .u64, .ro, 30, 0, 0, .any, false, false⟩,  -- halt address
  ⟨0x2E01, 8, 1, 0x14, 1, 1, .u8, .ro, 31, 0, 0xff, .any, false, false⟩,  -- bound layer
  ⟨0x2E01, 8, 1, 0x15, 1, 1, .u32, .ro, 31, 0, 0, .any, false, false⟩,  -- streams closed
  ⟨0x2E01, 8, 1, 0x16, 1, 1, .u32, .ro, 31, 0, 0, .any, false, false⟩,  -- halts
  ⟨0x2E01, 8, 1, 0x17, 1, 1, .u32, .ro, 31, 0, 0, .any, false, false⟩  -- last disable time (us)
  ]

/-- Objects of 2F00h to 2FFFh. -/
def page2F : List ObjRow := [
  ⟨0x2F00, 1, 1, 0x00, 1, 1, .u8, .const, 31, 0, 0xa, .any, false, false⟩,  -- highest subindex
  ⟨0x2F00, 1, 1, 0x01, 1, 1, .u8, .ro, 31, 0, 0, .any, true, false⟩,  -- state
  ⟨0x2F00, 1, 1, 0x02, 1, 1, .u16, .const, 31, 0, 0x8000, .any, false, false⟩,  -- capacity (records)
  ⟨0x2F00, 1, 1, 0x03, 1, 1, .u64, .ro, 31, 0, 0, .any, false, false⟩,  -- commit word
  ⟨0x2F00, 1, 1, 0x04, 1, 1, .u32, .wo, 0, 16, 0, .any, false, false⟩,  -- clear
  ⟨0x2F00, 1, 1, 0x05, 1, 1, .u32, .ro, 31, 0, 0, .any, false, false⟩,  -- records written
  ⟨0x2F00, 1, 1, 0x06, 1, 1, .u32, .ro, 31, 0, 0, .any, false, false⟩,  -- events not recorded
  ⟨0x2F00, 1, 1, 0x07, 1, 1, .u16, .ro, 31, 0, 0, .any, false, false⟩,  -- last overflowed code
  ⟨0x2F00, 1, 1, 0x08, 1, 1, .u8, .ro, 31, 0, 0, .any, false, false⟩,  -- queue high-water
  ⟨0x2F00, 1, 1, 0x09, 1, 1, .u32, .ro, 31, 0, 0, .any, false, false⟩,  -- seal detail
  ⟨0x2F00, 1, 1, 0x0A, 1, 1, .u16, .rw, 31, 16, 0xffff, .oneOf [(256, 2047), (65535, 65535)], false, false⟩,  -- event source
  ⟨0x2F01, 1, 1, 0x00, 1, 1, .u8, .const, 31, 0, 1, .any, false, false⟩,  -- highest subindex
  ⟨0x2F01, 1, 1, 0x01, 1, 1, .octets, .wo, 0, 30, 0, .any, false, false⟩,  -- post event
  ⟨0x2F02, 1, 1, 0x00, 1, 1, .u8, .const, 31, 0, 0x11, .any, false, false⟩,  -- highest subindex
  ⟨0x2F02, 1, 1, 0x01, 16, 1, .octets, .ro, 31, 0, 0, .any, false, false⟩,  -- emergency records 0 to 15
  ⟨0x2F02, 1, 1, 0x11, 1, 1, .u16, .ro, 31, 0, 0, .any, false, false⟩,  -- parity errors
  ⟨0x2F03, 1, 1, 0x00, 1, 1, .u8, .const, 31, 0, 1, .any, false, false⟩,  -- highest subindex
  ⟨0x2F03, 1, 1, 0x01, 1, 1, .domain, .ro, 31, 0, 0, .any, false, false⟩,  -- log
  ⟨0x2F04, 1, 1, 0x00, 1, 1, .u8, .const, 31, 0, 1, .any, false, false⟩,  -- highest subindex
  ⟨0x2F04, 1, 1, 0x01, 1, 1, .domain, .const, 31, 0, 0, .any, false, false⟩,  -- code catalogue
  ⟨0x2F10, 2, 1, 0x00, 1, 1, .u8, .const, 31, 0, 0x80, .any, false, false⟩,  -- highest subindex
  ⟨0x2F10, 1, 1, 0x01, 120, 1, .u32, .rw, 31, 16, 0xa0020, .any, false, true⟩,  -- bucket of class 128m + j
  ⟨0x2F10, 1, 1, 0x79, 8, 1, .u32, .const, 31, 0, 0xffffffff, .any, false, false⟩,  -- bucket of class 128m + j
  ⟨0x2F11, 1, 1, 0x01, 128, 1, .u32, .rw, 31, 16, 0xa0020, .any, false, true⟩,  -- bucket of class 128m + j
  ⟨0x2F20, 8, 1, 0x00, 1, 1, .u8, .const, 31, 0, 0x80, .any, false, false⟩,  -- highest subindex
  ⟨0x2F20, 8, 1, 0x01, 128, 1, .u32, .ro, 31, 0, 0, .any, false, false⟩  -- not recorded, class 128m + j, reason r
  ]

/-- Objects of 3000h to 30FFh. -/
def page30 : List ObjRow := [
  ⟨0x3000, 1, 1, 0x00, 1, 1, .u8, .const, 31, 0, 0xc, .any, false, false⟩,  -- highest subindex
  ⟨0x3000, 1, 1, 0x01, 1, 1, .u16, .const, 31, 0, 0x4000, .any, false, false⟩,  -- entries
  ⟨0x3000, 1, 1, 0x02, 1, 1, .u8, .ro, 31, 0, 0, .any, true, false⟩,  -- state
  ⟨0x3000, 1, 1, 0x03, 1, 1, .u16, .ro, 31, 0, 0, .any, false, false⟩,  -- entries in use
  ⟨0x3000, 1, 1, 0x04, 1, 1, .u16, .rw, 31, 16, 0x800, .oneOf [(64, 16256)], false, true⟩,  -- owner quota (entries)
  ⟨0x3000, 1, 1, 0x05, 1, 1, .u8, .rw, 31, 16, 3, .oneOf [(1, 15)], false, true⟩,  -- replay limit
  ⟨0x3000, 1, 1, 0x06, 1, 1, .u32, .ro, 31, 0, 0, .any, false, false⟩,  -- items re-issued
  ⟨0x3000, 1, 1, 0x07, 1, 1, .u32, .ro, 31, 0, 0, .any, false, false⟩,  -- items lost
  ⟨0x3000, 1, 1, 0x08, 1, 1, .u32, .ro, 31, 0, 0, .any, false, false⟩,  -- completions suppressed
  ⟨0x3000, 1, 1, 0x09, 1, 1, .u32, .ro, 31, 0, 0, .any, false, false⟩,  -- back-pressure
  ⟨0x3000, 1, 1, 0x0A, 1, 1, .u16, .ro, 31, 0, 0, .any, false, false⟩,  -- entries high-water
  ⟨0x3000, 1, 1, 0x0B, 1, 1, .u32, .ro, 31, 0, 0, .any, false, false⟩,  -- seal detail
  ⟨0x3000, 1, 1, 0x0C, 1, 1, .u32, .ro, 31, 0, 0, .any, false, false⟩,  -- transient faults
  ⟨0x3001, 1, 1, 0x00, 1, 1, .u8, .const, 31, 0, 1, .any, false, false⟩,  -- highest subindex
  ⟨0x3001, 1, 1, 0x01, 1, 1, .octets, .ro, 31, 0, 0, .any, false, false⟩  -- entries per owner
  ]

/-- Objects of 3100h to 31FFh, part 1. -/
def page31_0 : List ObjRow := [
  ⟨0x3100, 1, 1, 0x00, 1, 1, .u8, .const, 31, 0, 0xb, .any, false, false⟩,  -- highest subindex
  ⟨0x3100, 1, 1, 0x01, 1, 1, .u8, .ro, 31, 0, 0, .any, false, false⟩,  -- active pair
  ⟨0x3100, 1, 1, 0x02, 1, 1, .u8, .ro, 31, 0, 1, .any, false, false⟩,  -- state of pair A, B
  ⟨0x3100, 1, 1, 0x03, 1, 1, .u8, .ro, 31, 0, 3, .any, false, false⟩,  -- state of pair A, B
  ⟨0x3100, 1, 1, 0x04, 1, 1, .u32, .ro, 31, 0, 0, .any, false, false⟩,  -- switches
  ⟨0x3100, 1, 1, 0x05, 1, 1, .u8, .ro, 31, 0, 0, .any, false, false⟩,  -- last switch cause
  ⟨0x3100, 1, 1, 0x06, 1, 1, .u8, .wo, 0, 16, 0, .oneOf [(1, 1)], false, false⟩,  -- switch
  ⟨0x3100, 1, 1, 0x07, 1, 1, .u32, .ro, 31, 0, 0, .any, false, false⟩,  -- content image version
  ⟨0x3100, 1, 1, 0x08, 1, 1, .u32, .ro, 31, 0, 0, .any, false, false⟩,  -- first-pixel time (us)
  ⟨0x3100, 1, 1, 0x09, 1, 1, .u32, .ro, 31, 0, 0, .any, false, false⟩,  -- restarts
  ⟨0x3100, 1, 1, 0x0A, 1, 1, .u32, .ro, 31, 0, 0, .any, false, false⟩,  -- redraws
  ⟨0x3100, 1, 1, 0x0B, 1, 1, .u16, .rw, 31, 16, 0xffff, .oneOf [(256, 2047), (65535, 65535)], false, true⟩,  -- watchdog source
  ⟨0x3101, 8, 1, 0x00, 1, 1, .u8, .const, 31, 0, 9, .any, false, false⟩,  -- highest subindex
  ⟨0x3101, 8, 1, 0x01, 1, 1, .u8, .rw, 31, 16, 0xff, .any, false, true⟩,  -- list
  ⟨0x3101, 8, 1, 0x02, 1, 1, .u8, .ro, 31, 0, 0, .any, false, false⟩,  -- state
  ⟨0x3101, 8, 1, 0x03, 1, 1, .u64, .ro, 31, 0, 0, .any, false, false⟩,  -- surface address
  ⟨0x3101, 8, 1, 0x04, 1, 1, .u32, .ro, 31, 0, 0, .any, false, false⟩,  -- worst-case draw (us)
  ⟨0x3101, 8, 1, 0x05, 1, 1, .u32, .ro, 31, 0, 0, .any, false, false⟩,  -- window (us)
  ⟨0x3101, 1, 1, 0x06, 1, 1, .u8, .rw, 31, 16, 0, .oneOf [(0, 7), (255, 255)], false, true⟩,  -- check engine
  ⟨0x3101, 8, 1, 0x07, 1, 1, .u32, .rw, 31, 16, 0, .any, false, true⟩,  -- destination
  ⟨0x3101, 8, 1, 0x08, 1, 1, .u64, .ro, 31, 0, 0, .any, false, false⟩,  -- last draw position
  ⟨0x3101, 8, 1, 0x09, 1, 1, .u32, .ro, 31, 0, 0, .any, false, false⟩,  -- late draws
  ⟨0x3102, 1, 1, 0x06, 1, 1, .u8, .rw, 31, 16, 1, .oneOf [(0, 7), (255, 255)], false, true⟩,  -- check engine
  ⟨0x3103, 1, 1, 0x06, 1, 1, .u8, .rw, 31, 16, 2, .oneOf [(0, 7), (255, 255)], false, true⟩,  -- check engine
  ⟨0x3104, 1, 1, 0x06, 1, 1, .u8, .rw, 31, 16, 3, .oneOf [(0, 7), (255, 255)], false, true⟩,  -- check engine
  ⟨0x3105, 1, 1, 0x06, 1, 1, .u8, .rw, 31, 16, 4, .oneOf [(0, 7), (255, 255)], false, true⟩,  -- check engine
  ⟨0x3106, 1, 1, 0x06, 1, 1, .u8, .rw, 31, 16, 5, .oneOf [(0, 7), (255, 255)], false, true⟩,  -- check engine
  ⟨0x3107, 1, 1, 0x06, 1, 1, .u8, .rw, 31, 16, 6, .oneOf [(0, 7), (255, 255)], false, true⟩,  -- check engine
  ⟨0x3108, 1, 1, 0x06, 1, 1, .u8, .rw, 31, 16, 7, .oneOf [(0, 7), (255, 255)], false, true⟩,  -- check engine
  ⟨0x3110, 16, 1, 0x00, 1, 1, .u8, .const, 31, 0, 7, .any, false, false⟩  -- highest subindex
  ]

/-- Objects of 3100h to 31FFh, part 2. -/
def page31_1 : List ObjRow := [
  ⟨0x3110, 16, 1, 0x01, 1, 1, .u8, .rw, 31, 16, 0xff, .oneOf [(0, 32), (64, 127), (255, 255)], false, true⟩,  -- owner
  ⟨0x3110, 16, 1, 0x02, 1, 1, .u16, .rw, 31, 16, 0x64, .oneOf [(10, 60000)], false, true⟩,  -- period (ms)
  ⟨0x3110, 16, 1, 0x03, 1, 1, .u8, .wo, 0, 30, 0, .oneOf [(1, 1)], false, false⟩,  -- kick
  ⟨0x3110, 16, 1, 0x04, 1, 1, .u8, .rw, 31, 16, 0, .oneOf [(0, 2)], false, true⟩,  -- action
  ⟨0x3110, 16, 1, 0x05, 1, 1, .u8, .ro, 31, 0, 0, .any, false, false⟩,  -- state
  ⟨0x3110, 16, 1, 0x06, 1, 1, .u32, .ro, 31, 0, 0, .any, false, false⟩,  -- expiries
  ⟨0x3110, 16, 1, 0x07, 1, 1, .u64, .ro, 31, 0, 0, .any, false, false⟩,  -- last kick time (ns)
  ⟨0x3120, 1, 1, 0x00, 1, 1, .u8, .const, 31, 0, 1, .any, false, false⟩,  -- highest subindex
  ⟨0x3120, 1, 1, 0x01, 1, 1, .octets, .rw, 31, 16, 0, .any, false, true⟩,  -- stale policies
  ⟨0x3121, 1, 1, 0x00, 1, 1, .u8, .const, 31, 0, 8, .any, false, false⟩,  -- highest subindex
  ⟨0x3121, 1, 1, 0x01, 8, 1, .u32, .rw, 31, 16, 0, .any, false, true⟩  -- mirror source
  ]

/-- Objects of 3200h to 32FFh. -/
def page32 : List ObjRow := [
  ⟨0x3200, 1, 1, 0x00, 1, 1, .u8, .const, 31, 0, 0x17, .any, false, false⟩,  -- highest subindex
  ⟨0x3200, 1, 1, 0x01, 1, 1, .bool, .rw, 31, 17, 0, .oneOf [(0, 1)], false, true⟩,  -- pairing enable
  ⟨0x3200, 1, 1, 0x02, 1, 1, .u8, .ro, 31, 0, 1, .any, false, false⟩,  -- role
  ⟨0x3200, 1, 1, 0x03, 1, 1, .u8, .rw, 31, 17, 0, .oneOf [(0, 127)], false, true⟩,  -- partner node ID
  ⟨0x3200, 1, 1, 0x04, 1, 1, .u16, .rw, 31, 17, 0x32, .oneOf [(20, 1000)], false, true⟩,  -- partner heartbeat time (ms)
  ⟨0x3200, 1, 1, 0x05, 1, 1, .u16, .rw, 31, 17, 0xc8, .oneOf [(50, 10000)], false, true⟩,  -- takeover time (ms)
  ⟨0x3200, 1, 1, 0x06, 1, 1, .u16, .rw, 31, 17, 0x3e8, .oneOf [(100, 60000)], false, true⟩,  -- return delay (ms)
  ⟨0x3200, 1, 1, 0x07, 1, 1, .u8, .rw, 31, 17, 0, .any, false, true⟩,  -- shared outputs
  ⟨0x3200, 1, 1, 0x08, 1, 1, .bool, .rw, 31, 17, 1, .oneOf [(0, 1)], false, true⟩,  -- mirror enable
  ⟨0x3200, 1, 1, 0x09, 1, 1, .u8, .ro, 31, 0, 0, .any, true, false⟩,  -- link state
  ⟨0x3200, 1, 1, 0x0A, 1, 1, .u8, .ro, 31, 0, 0xff, .any, false, false⟩,  -- partner role
  ⟨0x3200, 1, 1, 0x0B, 1, 1, .u8, .ro, 31, 0, 0, .any, true, false⟩,  -- custody
  ⟨0x3200, 1, 1, 0x0C, 1, 1, .octets, .ro, 31, 0, 0, .any, true, false⟩,  -- witness states
  ⟨0x3200, 1, 1, 0x0D, 1, 1, .u8, .ro, 31, 0, 0, .any, true, false⟩,  -- alarms
  ⟨0x3200, 1, 1, 0x0E, 1, 1, .u16, .rw, 31, 16, 0xffff, .oneOf [(256, 2047), (65535, 65535)], false, true⟩,  -- alarm source
  ⟨0x3200, 1, 1, 0x0F, 1, 1, .u32, .ro, 31, 0, 0, .any, false, false⟩,  -- one-way delay (ns)
  ⟨0x3200, 1, 1, 0x10, 1, 1, .u32, .ro, 31, 0, 0, .any, false, false⟩,  -- frames sent
  ⟨0x3200, 1, 1, 0x11, 1, 1, .u32, .ro, 31, 0, 0, .any, false, false⟩,  -- frames received
  ⟨0x3200, 1, 1, 0x12, 1, 1, .u32, .ro, 31, 0, 0, .any, false, false⟩,  -- frames discarded
  ⟨0x3200, 1, 1, 0x13, 1, 1, .u32, .ro, 31, 0, 0, .any, false, false⟩,  -- sequence gaps
  ⟨0x3200, 1, 1, 0x14, 1, 1, .u32, .ro, 31, 0, 0, .any, false, false⟩,  -- takeovers
  ⟨0x3200, 1, 1, 0x15, 1, 1, .octets, .ro, 31, 0, 0, .any, false, false⟩,  -- partner unique ID
  ⟨0x3200, 1, 1, 0x16, 1, 1, .u64, .ro, 31, 0, 0, .any, false, false⟩,  -- last heartbeat time (ns)
  ⟨0x3200, 1, 1, 0x17, 1, 1, .bool, .ro, 31, 0, 0, .any, false, false⟩  -- sideband in
  ]

/-- Objects of 3300h to 33FFh. -/
def page33 : List ObjRow := [
  ⟨0x3300, 1, 1, 0x00, 1, 1, .u8, .const, 31, 0, 0x13, .any, false, false⟩,  -- highest subindex
  ⟨0x3300, 1, 1, 0x01, 1, 1, .u8, .ro, 31, 0, 0, .any, false, false⟩,  -- reset cause
  ⟨0x3300, 1, 1, 0x02, 1, 1, .u32, .wo, 0, 16, 0, .oneOf [(1919251316, 1919251316)], false, false⟩,  -- software reset
  ⟨0x3300, 1, 1, 0x03, 1, 1, .u8, .ro, 31, 0, 1, .any, false, false⟩,  -- BOOT_SEL
  ⟨0x3300, 1, 1, 0x04, 1, 1, .u8, .ro, 31, 0, 0, .any, false, false⟩,  -- slot A, slot B state
  ⟨0x3300, 1, 1, 0x05, 1, 1, .u8, .ro, 31, 0, 0, .any, false, false⟩,  -- slot A, slot B state
  ⟨0x3300, 1, 1, 0x06, 1, 1, .domain, .wo, 0, 23, 0, .any, false, false⟩,  -- image write
  ⟨0x3300, 1, 1, 0x07, 1, 1, .u8, .wo, 0, 21, 0, .oneOf [(1, 3)], false, false⟩,  -- update command
  ⟨0x3300, 1, 1, 0x08, 1, 1, .u8, .ro, 31, 0, 0, .any, true, false⟩,  -- update state
  ⟨0x3300, 1, 1, 0x09, 1, 1, .u8, .ro, 31, 0, 0, .any, false, false⟩,  -- last check result
  ⟨0x3300, 1, 1, 0x0A, 1, 1, .u16, .rw, 31, 17, 0x3c, .oneOf [(10, 3600)], false, true⟩,  -- trial time (s)
  ⟨0x3300, 1, 1, 0x0B, 1, 1, .bool, .rw, 31, 16, 0, .oneOf [(0, 1)], false, true⟩,  -- raise security version
  ⟨0x3300, 1, 1, 0x0C, 1, 1, .u8, .ro, 31, 0, 0, .any, false, false⟩,  -- fused security version
  ⟨0x3300, 1, 1, 0x0D, 1, 1, .u32, .ro, 31, 0, 0, .any, false, false⟩,  -- other slot image version
  ⟨0x3300, 1, 1, 0x0E, 1, 1, .u32, .ro, 31, 0, 0, .any, false, false⟩,  -- DRAM ready time (ms)
  ⟨0x3300, 1, 1, 0x0F, 1, 1, .u8, .rw, 31, 17, 0, .any, false, true⟩,  -- Keep-alive wake panels
  ⟨0x3300, 1, 1, 0x10, 1, 1, .bool, .rw, 31, 17, 1, .oneOf [(0, 1)], false, true⟩,  -- CAN wake in Sleep
  ⟨0x3300, 1, 1, 0x11, 1, 1, .u32, .ro, 31, 0, 0, .any, false, false⟩,  -- last Keep-alive entry time (us)
  ⟨0x3300, 1, 1, 0x12, 1, 1, .u32, .ro, 31, 0, 0, .any, false, false⟩,  -- Keep-alive entries
  ⟨0x3300, 1, 1, 0x13, 1, 1, .domain, .wo, 0, 17, 0, .any, false, false⟩  -- chime image
  ]

/-- Objects of 3400h to 34FFh. -/
def page34 : List ObjRow := [
  ⟨0x3400, 1, 1, 0x00, 1, 1, .u8, .const, 31, 0, 0x11, .any, false, false⟩,  -- highest subindex
  ⟨0x3400, 1, 1, 0x01, 1, 1, .u16, .ro, 31, 0, 0, .any, false, false⟩,  -- VIN (mV)
  ⟨0x3400, 1, 1, 0x02, 1, 1, .u16, .ro, 31, 0, 0, .any, false, false⟩,  -- VIN minimum, maximum since boot (mV)
  ⟨0x3400, 1, 1, 0x03, 1, 1, .u16, .ro, 31, 0, 0, .any, false, false⟩,  -- VIN minimum, maximum since boot (mV)
  ⟨0x3400, 1, 1, 0x04, 1, 1, .u16, .ro, 31, 0, 0, .any, false, false⟩,  -- input power (0.1 W)
  ⟨0x3400, 1, 1, 0x05, 1, 1, .i16, .ro, 31, 0, 0, .any, false, false⟩,  -- logic-die junction (0.1 °C)
  ⟨0x3400, 1, 1, 0x06, 1, 1, .i16, .ro, 31, 0, 0, .any, false, false⟩,  -- analog-die junction (0.1 °C)
  ⟨0x3400, 1, 1, 0x07, 1, 1, .u8, .ro, 31, 0, 0, .any, true, false⟩,  -- thermal step
  ⟨0x3400, 1, 1, 0x08, 1, 1, .i16, .rw, 31, 16, 0x44c, .signed (850) (1100), false, true⟩,  -- step 1 to 3 threshold (0.1 °C)
  ⟨0x3400, 1, 1, 0x09, 1, 1, .i16, .rw, 31, 16, 0x47e, .signed (850) (1150), false, true⟩,  -- step 1 to 3 threshold (0.1 °C)
  ⟨0x3400, 1, 1, 0x0A, 1, 1, .i16, .rw, 31, 16, 0x4b0, .signed (850) (1200), false, true⟩,  -- step 1 to 3 threshold (0.1 °C)
  ⟨0x3400, 1, 1, 0x0B, 1, 1, .u8, .rw, 31, 16, 0x64, .oneOf [(50, 200)], false, true⟩,  -- return margin (0.1 °C)
  ⟨0x3400, 1, 1, 0x0C, 1, 1, .u16, .rw, 31, 16, 0xa, .oneOf [(1, 600)], false, true⟩,  -- return time (s)
  ⟨0x3400, 1, 1, 0x0D, 1, 1, .u32, .ro, 31, 0, 0, .any, false, false⟩,  -- step-downs
  ⟨0x3400, 1, 1, 0x0E, 1, 1, .u32, .ro, 31, 0, 0, .any, false, false⟩,  -- thermal shutdowns
  ⟨0x3400, 1, 1, 0x0F, 1, 1, .u32, .ro, 31, 0, 0, .any, false, false⟩,  -- VIN low events
  ⟨0x3400, 1, 1, 0x10, 1, 1, .u32, .ro, 31, 0, 0, .any, false, false⟩,  -- VIN high events
  ⟨0x3400, 1, 1, 0x11, 1, 1, .u16, .rw, 31, 16, 0xffff, .oneOf [(256, 2047), (65535, 65535)], false, true⟩  -- thermal source
  ]

/-- Objects of 5000h to 50FFh. -/
def page50 : List ObjRow := [
  ⟨0x5000, 1, 1, 0x00, 1, 1, .u8, .const, 31, 0, 0x40, .any, true, false⟩,  -- highest subindex
  ⟨0x5000, 1, 1, 0x01, 64, 1, .u8, .rw, 31, 17, 0, .any, true, false⟩,  -- telltale inputs
  ⟨0x5001, 1, 1, 0x00, 1, 1, .u8, .const, 31, 0, 1, .any, true, false⟩,  -- highest subindex
  ⟨0x5001, 1, 1, 0x01, 1, 1, .octets, .ro, 31, 0, 0, .any, true, false⟩,  -- stale inputs
  ⟨0x5010, 1, 1, 0x00, 1, 1, .u8, .const, 31, 0, 0x20, .any, true, false⟩,  -- highest subindex
  ⟨0x5010, 1, 1, 0x01, 32, 1, .i32, .rw, 31, 17, 0, .any, true, false⟩,  -- values
  ⟨0x5011, 1, 1, 0x00, 1, 1, .u8, .const, 31, 0, 1, .any, true, false⟩,  -- highest subindex
  ⟨0x5011, 1, 1, 0x01, 1, 1, .u32, .ro, 31, 0, 0, .any, true, false⟩,  -- stale values
  ⟨0x5020, 1, 1, 0x00, 1, 1, .u8, .const, 31, 0, 8, .any, true, false⟩,  -- highest subindex
  ⟨0x5020, 1, 1, 0x01, 8, 1, .u16, .ro, 31, 0, 0, .any, true, false⟩,  -- zone states of panel 0 to 7
  ⟨0x5030, 1, 1, 0x00, 1, 1, .u8, .const, 31, 0, 8, .any, true, false⟩,  -- highest subindex
  ⟨0x5030, 1, 1, 0x01, 8, 1, .u32, .ro, 31, 0, 0, .any, true, false⟩  -- mirrors
  ]

/-- The rows of one page of 256 indexes. -/
def cataloguePage (page : Nat) : List ObjRow :=
  match page with
  | 0x10 => page10
  | 0x14 => page14
  | 0x16 => page16
  | 0x18 => page18
  | 0x1A => page1A
  | 0x20 => page20
  | 0x21 => page21_0 ++ page21_1
  | 0x22 => page22_0 ++ page22_1 ++ page22_2
  | 0x23 => page23_0 ++ page23_1
  | 0x24 => page24
  | 0x25 => page25_0 ++ page25_1 ++ page25_2
  | 0x26 => page26_0 ++ page26_1 ++ page26_2
  | 0x27 => page27_0 ++ page27_1
  | 0x28 => page28_0 ++ page28_1 ++ page28_2 ++ page28_3
  | 0x29 => page29_0 ++ page29_1
  | 0x2A => page2A_0 ++ page2A_1
  | 0x2B => page2B
  | 0x2C => page2C_0 ++ page2C_1 ++ page2C_2
  | 0x2D => page2D_0 ++ page2D_1
  | 0x2E => page2E
  | 0x2F => page2F
  | 0x30 => page30
  | 0x31 => page31_0 ++ page31_1
  | 0x32 => page32
  | 0x33 => page33
  | 0x34 => page34
  | 0x50 => page50
  | _ => []

/-- The row names the index. -/
def ObjRow.hasIndex (r : ObjRow) (idx : Nat) : Bool :=
  r.idx ≤ idx && (idx - r.idx) % r.stride == 0 && (idx - r.idx) / r.stride < r.units

/-- The row names the subindex. -/
def ObjRow.hasSub (r : ObjRow) (sub : Nat) : Bool :=
  r.sub ≤ sub && (sub - r.sub) % r.subStride == 0 && (sub - r.sub) / r.subStride < r.subs

/-- The row of an object, if there is one. -/
def objRow (idx sub : Nat) : Option ObjRow :=
  (cataloguePage (idx / 256)).find? (fun r => r.hasIndex idx && r.hasSub sub)

/-- Some object has this index (check 2 of Table 3-2). -/
def indexExists (idx : Nat) : Bool := (cataloguePage (idx / 256)).any (fun r => r.hasIndex idx)

/-- The size of a numeric type in bytes (Table 3-1); strings and DOMAINs have none. -/
def ObjType.size : ObjType → Option Nat
  | .bool | .i8 | .u8 => some 1
  | .i16 | .u16 => some 2
  | .i32 | .u32 => some 4
  | .i64 | .u64 => some 8
  | .visible | .octets | .domain => none

/-- The code of a type (Table 3-1). -/
def ObjType.code : ObjType → Nat
  | .bool => 0x0001 | .i8 => 0x0002 | .i16 => 0x0003 | .i32 => 0x0004
  | .u8 => 0x0005 | .u16 => 0x0006 | .u32 => 0x0007
  | .visible => 0x0009 | .octets => 0x000A | .domain => 0x000F
  | .i64 => 0x0015 | .u64 => 0x001B

/-- A value lies in a range, read as a number of the type's size. -/
def Range.holds (r : Range) (size v : Nat) : Bool :=
  match r with
  | .any => true
  | .oneOf spans => spans.any (fun p => p.1 ≤ v && v ≤ p.2)
  | .even lo hi => lo ≤ v && v ≤ hi && v % 2 == 0
  | .signed lo hi => lo ≤ asSigned (8 * size) v && asSigned (8 * size) v ≤ hi

end Sys2Proof.Machine
end

