-- ==== Sys2Proof/Machine/State.lean ====
section
/-! DEFINITION. The state of the block: every register of the object dictionary, every memory, and every piece of state that
the rules of spec/ name behind them, as plain data; and the state right after reset. A bank of like things is a `Tab`: it
lists the entries that differ from the bank's default. The defaults of the structures below are the values right after the
internal reset is released; a field without a value in the spec is named in assumption log 5. -/

namespace Sys2Proof.Machine

/-! ### Time (02) -/

/-- The device clock (R37, R38): nanoseconds, the fraction in units of 2^-32 ns, the addition of the slew in 0.001 ppm, and
the part of the offset not yet slewed out, in units of 2^-32 ns. -/
structure Clock where
  ns   : Nat := 0
  frac : Nat := 0
  slew : Int := 0
  left : Int := 0
  deriving DecidableEq, Repr

/-- What a rod keeps beside its objects 2101h + r (R17 to R25, R35). -/
structure Rod where
  extra      : Int  := 0       -- lines added (removed, if negative) to the frame being counted (R23)
  next       : Int  := 0       -- lines that the next frame is to be given
  freeVtotal : Nat  := 1000    -- free VTOTAL in force (R21)
  freePeriod : Nat  := 0x28000 -- free line period in force, 24.8 reference cycles (R21)
  good       : Nat  := 0       -- reference events at the expected spacing, in a row
  near       : Nat  := 0       -- events in a row within 16 clocks (Table 2-2)
  far        : Nat  := 0       -- events in a row with more than one line of error
  beyond     : Nat  := 0       -- events in a row that need more trim than the limit (R24)
  slewing    : Bool := false   -- the trim slews to 0 after a lock ended
  trimAt     : Int  := 0       -- the trim at the start of the frame (R23)
  relock     : Bool := false   -- held for a full timing change (R35)
  lineAt     : Nat := 0        -- device time of the last line start
  markAt     : Option (Int × Nat) := none  -- the last line 0 of the rod followed: its time and frame count (R22, R402)
  deriving DecidableEq, Repr

/-- What a bead slot keeps beside its two words (R29): the earlier pairs of words that still govern the next line start of
their rod, and whether the present pair is too late for it. -/
structure Bead where
  old   : List (Nat × Nat) := []
  fresh : Bool := false
  deriving DecidableEq, Repr

/-- A low pulse on a SYNC_OUT ball (R458). -/
structure Pulse where
  ball  : Nat
  rod   : Nat
  lines : Nat       -- line starts still to come; 0: due for release
  deriving DecidableEq, Repr

/-- The Abacus (02). `syncLow` is the level of the two SYNC_OUT balls: bit b is 1 while ball b is driven low. -/
structure Abacus where
  rods    : Tab Rod := []
  beads   : Tab Bead := []
  pulses  : List Pulse := []
  syncLow : Nat := 0
  deriving DecidableEq, Repr

/-! ### The dictionary and CAN (03) -/

/-- The result of a request that a window holds until the request ends (R50). -/
structure WinResult where
  data  : Option (List Byte) := none
  abort : Nat := 0
  desc  : Option Nat := none
  dlen  : Option Nat := none
  deriving DecidableEq, Repr

/-- A dictionary window (Table 3-4). -/
structure Window where
  len     : Nat := 0
  offset  : Nat := 0
  busy    : Bool := false
  done    : Bool := false
  collide : Bool := false
  irqEn   : Bool := false
  seq     : Nat := 0
  abort   : Nat := 0
  desc    : Nat := 0
  dlen    : Nat := 0
  dcrc    : Nat := 0
  buffer  : Tab Byte := []              -- offsets 0 to 2047 of the data buffer; unlisted bytes are 0
  result  : Option WinResult := none
  writes  : Bool := false              -- the request in hand is a write (R372)
  wo      : Bool := false              -- of a wo object, which is not replayable (Table 20-3)
  entry   : Option Nat := none         -- its Registry entry
  deriving DecidableEq, Repr

/-- The path that opened a DOMAIN transfer: a window (64 + i is instance i) or a CAN port. -/
inductive Path where
  | window (w : Nat)
  | can (port : Nat)
  deriving DecidableEq, Repr

/-- An open DOMAIN transfer (R51). -/
structure Transfer where
  path    : Path
  who     : Init
  writing : Bool
  data    : List Byte     -- a write: the bytes sent so far; a read: the content taken at the first segment
  base    : Nat := 0      -- a read of the recorder's log: the base sequence at the first segment (R364)
  deriving DecidableEq, Repr

/-- An EMCY message before it is sent (R59). -/
structure Emcy where
  code  : Nat
  reg   : Nat
  seq   : Nat
  event : Nat
  deriving DecidableEq, Repr

/-- The NMT states of Table 3-7. -/
inductive Nmt where
  | initialisation | preOperational | operational | stopped
  deriving DecidableEq, Repr

/-- The CANopen node (R53 to R61). -/
structure Can where
  nmt         : Nmt := .preOperational
  started     : Bool := true            -- false when the effective node ID is 0 (R61)
  arbRate     : Nat := 2                -- rates and ports in force (R61)
  dataRate    : Nat := 1
  ports       : Nat := 3
  portState   : Tab Nat := []           -- per port: 0 error active, 1 error passive, 2 bus-off
  shown       : Bool := false           -- 1001h was not 00h at the last EMCY
  waiting     : List Emcy := []         -- EMCYs held by the inhibit time, oldest first
  inhibited   : Bool := false
  lost        : Tab Bool := []          -- heartbeat entry 1016h/e: its node is lost (8130h)
  heard       : Tab Nat := []           -- 2 (e - 1) + p: 1 + device time of entry e's last heartbeat on port p (R57)
  rpdoLate    : Tab Bool := []          -- RPDO that timed out (8250h)
  rpdoHeld    : Tab (List Byte) := []   -- synchronous RPDOs received and waiting for SYNC
  tpdoSyncs   : Tab Nat := []           -- SYNCs since the TPDO was last sent
  tpdoInhibit : Tab Bool := []          -- the TPDO's inhibit time runs
  tpdoWaits   : Tab Bool := []          -- a change waits for the inhibit time, or for a SYNC
  saveFailed  : Bool := false           -- FF07h
  vinHigh     : Bool := false           -- 3110h
  vinLow      : Bool := false           -- 3120h
  listRefused : Tab Bool := []          -- FF09h, per output
  deriving DecidableEq, Repr

/-- What leaves the device, newest first: the model's own record of the messages the rules send. -/
inductive Sent where
  | emcy (port : Nat) (e : Emcy)
  | heartbeat (port node state : Nat)
  | tpdo (port pdo : Nat) (data : List Byte)
  | usdo (port index sub abort : Nat) (data : List Byte)
  | msix (inst vector address data : Nat)
  | courier (frame : List Byte)
  | aux (output : Nat) (request : List Byte)
  | ptm (port time turnaround : Nat)
  | tdo (data : List Byte)
  deriving DecidableEq, Repr

/-- The server's answer to the last request (R45): the abort code, 0 when it was accepted, the data of a read, and whether the
access returned an error under R16 (R48, R49). -/
structure Answer where
  abort : Nat := 0
  data  : List Byte := []
  bus   : Bool := false
  deriving DecidableEq, Repr

/-! ### Isolation (14) -/

/-- A block's hand-over (Table 14-6): 0 Held, 1 Releasing, 2 Resetting, 3 Retargeting, and the new owner. -/
structure Hand where
  state    : Nat := 0
  newOwner : Nat := 0xFF
  deriving DecidableEq, Repr

/-- A thread of an enclave (R285, R286): 0 never entered or exited, 1 running, 2 interrupted; with its save slot. -/
structure Thread where
  state : Nat := 0
  core  : Nat := 0
  saved : List Nat := []
  pc    : Nat := 0             -- where a resume goes on
  deriving DecidableEq, Repr

/-- An application core as the monitor sees it: its enclave tag and thread, and a0, a1 as its last call returned them. -/
structure Core where
  tag    : Nat := 0
  thread : Nat := 0
  regs   : List Nat := []      -- the integer registers that an entry clears or a resume restores; [] all 0
  a0     : Nat := 0
  a1     : Nat := 0
  pc     : Nat := 0
  deriving DecidableEq, Repr

/-- A key slot of the fuses (R294). -/
structure KeySlot where
  hash       : List Byte := []
  programmed : Bool := false
  revoked    : Bool := false
  bootUse    : Bool := false
  debugUse   : Bool := false
  deriving DecidableEq, Repr

/-- The TAP (R295): its instruction register, and what the boundary register drives. -/
structure Tap where
  ir       : Nat := 0x01
  selected : Nat := 0x01          -- the data register in use: the instruction's, or bypass (FFh)
  data     : List Byte := []      -- the data register as captured
  driving  : Bool := false        -- EXTEST drives the balls
  deriving DecidableEq, Repr

/-- Isolation and hand-over (14). Owners are by block identifier (Table 14-5). -/
structure Iso where
  owners   : Tab Nat := []
  hands    : Tab Hand := []
  blocks   : Tab Nat := []        -- clock of a block: 0 runs, 1 stopped, 2 off (R293)
  domains  : Tab Nat := []        -- clock of a domain (Table 1-4)
  cores    : Tab Core := []
  threads  : Tab Thread := []     -- 8 e + t
  checking : Option (List Byte) := none   -- the certificate being checked (R297)
  nonce    : Option (List Byte) := none   -- the nonce drawn and not consumed
  draws    : Nat := 0             -- nonces drawn since boot
  halted   : Tab Bool := []       -- cores halted by DEBUG_REQ: 0 to 7, and 8 the island
  tap      : Tap := {}
  deriving DecidableEq, Repr

/-! ### The Letterbox (15) -/

/-- What the Letterbox keeps beside the source entries (R303 to R312). -/
structure Letter where
  released   : Tab Bool := []     -- source: its class has released it since the post
  claimedBy  : Tab Nat := []      -- source: 1 + the core that claimed it; 0 none
  thresholds : Tab Nat := []      -- 256 page + core
  counts     : Tab Nat := []      -- 16 owner + class: posts since the last release
  timers     : Tab Bool := []     -- 16 owner + class: the timer runs
  settings   : Tab Nat := []      -- 16 owner + class: the setting word in force since the last release (R308)
  wfi        : Tab Bool := []     -- core in WFI
  pba        : Tab Bool := []     -- 64 instance + vector
  unmasked   : Tab Bool := []     -- 64 instance + vector: the vector's Mask bit is 0
  fmask      : Tab Bool := []     -- instance: Function Mask
  vecAddr    : Tab Nat := []      -- 64 instance + vector: message address
  vecData    : Tab Nat := []      -- 64 instance + vector: message data
  woken      : Tab Bool := []     -- source: its wake source has been posted (R305)
  deriving DecidableEq, Repr

/-! ### DRAM and protection (16, 17) -/

/-- A rank carry in hand (R326): copying until `draining`. -/
structure Carry where
  source   : Nat
  target   : Nat
  draining : Bool := false
  deriving DecidableEq, Repr

/-- A remap of a region (R328) to another order; how far it has come stands in the region's objects. -/
structure Remap where
  region : Nat
  order  : Nat
  deriving DecidableEq, Repr

/-- The DRAM controller (16). -/
structure Dram where
  trained   : Bool := true
  carry     : Option Carry := none
  waiting   : List Nat := []        -- ranks that wait for the carry engine, in the order they failed
  remaps    : List Remap := []      -- the first runs, the others wait
  cool      : Tab Nat := []         -- rank: reads of mode register 4 below the threshold, in a row
  skewed    : Tab Nat := []         -- channel: skewed windows in a row
  skewOf    : Tab Nat := []         -- channel: the region those windows recorded
  leaving   : Tab Nat := []         -- partition: 2^16 + the mask being applied, while its ways are written back
  deriving DecidableEq, Repr

/-- The scrubber and the cache frames (17). `frames` counts the corrections of a system-cache frame (16 set + way). -/
structure Prot where
  region  : Nat := 0
  offset  : Nat := 0
  members : List Nat := []          -- regions of the running lap
  running : Bool := false
  started : Nat := 0                -- device time of the lap's start, less the time in self-refresh
  bytes   : Nat := 0                -- bytes read in the lap
  alerted : Bool := false
  nextAt  : Nat := 0                -- device time before which the rate ceiling holds the next burst back
  badSram : List Nat := []          -- addresses of 8-byte words of the secure SRAM that read uncorrectable
  frames  : Tab Nat := []
  retired : List Nat := []          -- frames retired, oldest first
  deriving DecidableEq, Repr

/-! ### The event recorder and the Registry (19, 20) -/

/-- An event that waits to be written (Table 19-1, without its sequence). -/
structure Event where
  time    : Nat
  code    : Nat
  origin  : Nat
  payload : List Byte
  deriving DecidableEq, Repr

/-- The recorder behind 2F00h (19). `spent` holds the tokens missing from a bucket. -/
structure Recorder where
  hand      : Option Event := none  -- the record being written
  queue     : List Event := []
  spent     : Tab Nat := []
  throttled : Tab Bool := []        -- class: record 7801h was queued since the bucket was last full or rewritten
  deriving DecidableEq, Repr

/-- A Registry entry (Table 20-2), without the bytes that follow from it. -/
structure RegEntry where
  kind       : Nat := 0
  state      : Nat := 0             -- Table 20-4: 0 Free, 1 Journaled, 2 Issued, 3 Held, 4 Completed
  replay     : Bool := false
  replayed   : Bool := false
  host       : Bool := false
  owner      : Nat := 0
  generation : Nat := 0
  unit       : Nat := 0
  block      : Nat := 0
  length     : Nat := 0
  sequence   : Nat := 0
  ring       : Option Nat := none
  replays    : Nat := 0
  slot       : Nat := 0
  tag        : Nat := 0
  status     : Nat := 0xFFFF
  accepted   : Nat := 0
  issued     : Nat := 0
  result     : Nat := 0
  number     : Nat := 0
  extra      : List Byte := []
  deriving DecidableEq, Repr

/-- The Registry (20). -/
structure Registry where
  entries : Tab RegEntry := []
  deriving DecidableEq, Repr

/-! ### Display outputs and composition (04, 05) -/

/-- What an output keeps beside its objects (R70 to R82). Frame numbers are frame counts of its rod. -/
structure Output where
  disable   : Option Nat := none           -- a disable runs (R79): the state it leads to, 0 or 1
  apply     : Option (List Nat) := none    -- the pending timing: 1h/01h to 1h/0Eh
  applyFrom : Nat := 0                     -- the first frame whose latch may take the apply
  locking   : Bool := false                -- the PLL of an Off output is on its way to lock
  showFrom  : Nat := 0                     -- the first frame that may carry layers (R72)
  underrun  : Bool := false                -- an underrun was logged in this frame
  lineUnder : Bool := false                -- the line that leaves the port has been counted as underrun
  lastPixel : Nat := 0                     -- the last pixel of the line before it
  aux       : Option (List Byte) := none   -- the AUX request in progress
  edidBusy  : Bool := false                -- the EDID is being read
  pipeFault : Bool := false                -- the pixel pipe is being reset (Table 20-5)
  line      : List Nat := []               -- the pixels of the line that leaves the port: red 29:20, green 19:10, blue 9:0
  background : Nat := 0                    -- the background colour and dither setting in force (R104)
  dither    : Nat := 1
  scalers   : Nat × Nat := (0, 0)          -- the layer that each scaler holds, plus 1; 0 none
  deriving DecidableEq, Repr

/-- Where a ring item came from (R264, R267). -/
structure RingRef where
  inst   : Nat
  ring   : Nat
  slot   : Nat
  tag    : Nat
  opcode : Nat
  noPost : Bool
  deriving DecidableEq, Repr

/-- What every item of work carries: its block, who submitted it, the ring it came from, its Registry entry and the
generation it runs under (R102, R372, R376). -/
structure Item where
  block  : Nat := 0
  code   : Nat := 0
  ring   : Option RingRef := none
  entry  : Option Nat := none
  gen    : Nat := 0
  seq    : Nat := 0
  replay : Bool := false
  deriving DecidableEq, Repr

/-- A pending commit (R101 to R104). -/
structure Commit where
  item    : Item := {}
  output  : Nat := 0
  records : List (Nat × List Byte) := []   -- layer 0 to 5 and its 64 bytes
  atFrame : Option Nat := none
  from_   : Nat := 0                       -- the first frame whose latch may take it
  demand  : Nat := 0
  held    : Bool := false                  -- held by the Registry after a pipe fault (Table 20-5)
  deriving DecidableEq, Repr

/-- What a layer keeps beside its objects. -/
structure Layer where
  haltLine : Option Nat := none            -- the output line from which the fallback colour shows (R96)
  table    : List Byte := []               -- the colour table in force; [] is 1024 zero bytes
  deriving DecidableEq, Repr

/-- Composition (05). `banks` are the coefficient banks in force by 4 n + b; an unlisted one is the linear set. -/
structure Comp where
  outputs : Tab Output := []
  layers  : Tab Layer := []
  commits : List Commit := []              -- pending, in the order of admission
  banks   : Tab (List Byte) := []
  deriving DecidableEq, Repr

/-! ### The copy engine (06) -/

/-- An accepted copy job (Table 6-6). -/
structure CopyJob where
  item  : Item := {}
  body  : List Byte := []                  -- the 64 bytes as read, and the descriptor's 32
  pos   : Nat := 0                         -- where the next segment starts: a byte of the rows, or a tile
  moved : Nat := 0
  tiles : Nat := 0                         -- tiles written with SIZE 0 to 15
  halt  : Option Nat := none               -- the status of a halt that a segment met
  deriving DecidableEq, Repr

/-- A copy channel: its queue, the job in hand first. -/
structure CopyChannel where
  jobs      : List CopyJob := []
  disableAt : Nat := 0                     -- device time of the disabling write
  deriving DecidableEq, Repr

/-! ### Host ports and instances (13) -/

/-- A ring (R262 to R267). -/
structure Ring where
  tail    : Nat := 0
  head    : Nat := 0                       -- HEAD of the completion ring
  sqHead  : Nat := 0
  cqTail  : Nat := 0
  phase   : Nat := 1
  number  : Nat := 0
  ignored : Bool := false
  waiting : Option (List Byte) := none     -- the entry taken whose block is being read
  slot    : Nat := 0                       -- its slot
  entry   : Option Nat := none             -- its Registry entry
  paused  : Bool := false                  -- waits for a Registry entry (R373)
  open_   : List Nat := []                 -- slots of taken entries without a record yet
  records : List (Nat × Nat) := []         -- (slot of the record, Registry entry + 1) not yet passed by HEAD
  started : Nat := 0                       -- device time of the disabling write
  deriving DecidableEq, Repr

/-- A dirty log (Table 13-4, R276, R277). -/
structure DirtyLog where
  map0    : Nat := 0
  map1    : Nat := 0
  base    : Nat := 0
  pages   : Nat := 0
  active  : Nat := 0
  logging : Bool := false
  overrun : Bool := false
  count   : Nat := 0
  deriving DecidableEq, Repr

/-- An instance beside its objects (Tables 13-3, 13-4, 13-8). -/
structure Instance where
  flrRefused : Bool := false
  timeHi     : Nat := 0
  d3hot      : Bool := false
  quiesceAt  : Nat := 0
  reEnable   : List Nat := []              -- rings that a resume enables again
  audio      : List Nat := []              -- audio units that a resume starts again
  log        : DirtyLog := {}
  deriving DecidableEq, Repr

/-- The manager page of a port (Table 13-4): MGR_SELECT, the function of a quiesce for which BUSY is 1, and the result of the
last command. -/
structure ManagerPage where
  select : Nat := 0
  busy   : Option Nat := none
  result : Nat := 0
  deriving DecidableEq, Repr

/-- Host ports (13). -/
structure HostPorts where
  instances : Tab Instance := []
  pages     : Tab ManagerPage := []        -- by port
  rings     : Tab Ring := []               -- 8 i + r
  perst     : Tab Bool := []               -- port: PERST# deasserted
  linked    : Tab Bool := []               -- port: the link is up
  deriving DecidableEq, Repr
/-! ### Band layers (08) -/

/-- What a band layer keeps beside its objects 2580h + L: the settings taken at the last latch (R149), the pending count of
each band (R156), the swaps that wait for a band's last line (R154), and the frame after the one in which a miss was last
logged (R157). -/
structure BandLayer where
  on        : Bool := false
  height    : Nat := 64
  surface   : Nat := 0
  plane     : Nat := 0
  pending   : Tab Nat := []
  deferred  : Tab Bool := []
  missFrame : Nat := 0
  lead      : Nat := 32                      -- lead and margin as taken, before they are clamped (R151)
  margin    : Nat := 8
  done      : List (Nat × Nat × Nat) := []   -- derived firings made for the frame being counted: slot, action, band (R153)
  ahead     : List (Nat × Nat × Nat) := []   -- those made for the next frame
  owed      : List (Nat × Nat × Nat) := []   -- those whose line a change of lead, margin or timing has left behind
  deriving DecidableEq, Repr

/-! ### The GPU (07, 08, 09) -/

/-- A GPU job (R133 to R141). -/
structure GpuJob where
  item     : Item := {}
  number   : Nat := 0                        -- in the order of acceptance over all partitions
  body     : List Byte := []                 -- the 64 bytes of the descriptor
  started  : Bool := false
  held     : Bool := false                   -- held by the Registry after a core fault (Table 20-5)
  pc       : Nat := 0                        -- offset of the next packet in the buffer that runs
  called   : Option (Nat × Nat) := none      -- the called buffer: address and length
  back     : Nat := 0                        -- offset in the job's own buffer after the CALL
  packet   : Nat := 0xFFFFFFFF               -- offset of the packet that halted the job (R136)
  regs     : Tab Nat := []                   -- state registers (Table 7-7)
  pipeline : Nat := 0                        -- the handle bound; 0 none
  band     : Option (Nat × Nat) := none      -- the open band: layer and band
  closing  : Bool := false                   -- BAND_END's write-back runs
  named    : List (Nat × Nat) := []          -- pending counts that the job still holds (R156)
  wait     : Option (Nat × Nat) := none      -- a FENCE_WAIT: address and value
  rodWait  : Option (Nat × Nat) := none      -- a ROD_WAIT: rod and position
  timeout  : Bool := false                   -- the wait has a timeout
  halt     : Option Nat := none              -- the status of the halt that a packet met
  detail   : Nat := 0
  startAt  : Nat := 0
  awaySince : Option Nat := none             -- preempted since
  away     : Nat := 0                        -- nanoseconds preempted
  preempts : Nat := 0
  overran  : Bool := false                   -- past its budget
  deriving DecidableEq, Repr

/-- A queue of a partition: its jobs, the one in hand first. -/
structure GpuQueue where
  jobs      : List GpuJob := []
  disableAt : Nat := 0
  deriving DecidableEq, Repr

/-- A packed tile that a slice of the pixel output holds decoded (R176): where its slot and its header byte lie, its format,
and its pixels. -/
structure HeldTile where
  slot   : Nat := 0
  header : Nat := 0
  format : Nat := 0
  pixels : List (List Byte) := []
  deriving DecidableEq, Repr

/-- A partition (R128): its queues, the Member cores as of its last reshape point (R129, R130), memory as its L2 last took it
in, its dirty bytes by device address (value + 1), the packed tiles that its slices hold decoded, oldest first (R176), the
bands whose preemption requests hold compute (R161), and when the running preemption was requested. -/
structure Partition where
  queues  : Tab GpuQueue := []
  map     : List Nat := []
  view    : Tab Byte := []
  dirty   : Tab Nat := []
  tiles   : List HeldTile := []
  hold    : List (Nat × Nat) := []
  request : Option (Nat × Nat) := none       -- device time, and the layer that asked
  deriving DecidableEq, Repr

/-- A pipeline (R180, R186). -/
structure Pipeline where
  handle    : Nat := 0
  owner     : Nat := 0
  kind      : Nat := 0
  body      : List Byte := []                -- the 160 bytes of the create block
  used      : Nat := 0                       -- code bytes
  first     : List Nat := []                 -- the words of the vertex or compute module that was compiled
  second    : List Nat := []                 -- the words of the fragment module
  constants : List (Nat × Nat) := []         -- specialisation: constant ID and value
  destroyed : Option Nat := none             -- jobs accepted up to this number may still bind it
  deriving DecidableEq, Repr

/-- A pipeline create request. -/
structure Compile where
  item    : Item := {}
  body    : List Byte := []
  startAt : Nat := 0
  deriving DecidableEq, Repr

/-- The GPU. -/
structure Gpu where
  parts    : Tab Partition := []             -- by owner code
  accepted : Nat := 0
  pipes    : List Pipeline := []
  waiting  : List Compile := []              -- requests that no service core has started
  cores    : Tab (Option Compile) := []      -- service core 0 and 1
  turn     : Nat := 0                        -- the owner served last
  serial   : Nat := 0
  deriving DecidableEq, Repr


/-! ### Boot, power and what a reset leaves (23) -/

/-- The power phases: held in the internal reset (or without VIN), running, entering Keep-alive (R414), Keep-alive, Sleep. -/
inductive Phase where
  | held | running | entering | keepAlive | sleep
  deriving DecidableEq, Repr

/-- What a valid slot of the persistent store holds (R62, R63, Table 3-11): its generation, and the entries of its body. -/
structure StoreImage where
  generation : Nat := 0
  objs       : Tab Nat := []
  blobs      : Tab (List Byte) := []
  owners     : Tab Nat := []
  deriving DecidableEq, Repr

/-- The boot control block (Table 23-1): the preferred firmware slot, 0 A or 1 B; the state of each slot, 0 empty, 1 valid,
3 bad; and whether saved DRAM training values match the stepping. -/
structure BootControl where
  preferred  : Nat := 0
  slotA      : Nat := 1
  slotB      : Nat := 0
  training   : Bool := true
  deriving DecidableEq, Repr

/-- What survives a reset beside the bytes of the flash, which are memory: the fuses and the always-on domain (R294, R311,
R405, R412), and the ranges that a restore has taken out of the store (R62). -/
structure Kept where
  noComm     : Bool := false            -- 1011h took effect for 1000h to 1FFFh and 2001h
  noApp      : Bool := false            -- 1011h took effect for 2000h to 34FFh
  fusedSec   : Nat := 0
  lifecycle  : Nat := 2
  keys       : Tab KeySlot := []
  shutdowns  : Nat := 0                 -- 3400h/0Eh
  boots      : Nat := 1
  cause      : Nat := 1
  latched    : Tab Bool := []           -- edge latches
  latchSet   : Tab Nat := []            -- pin: its latch settings (2B02h), held by the always-on domain
  deriving DecidableEq, Repr

/-- A save in hand (R62): its range (the subindex of 1010h), the slot that it writes and its generation, which restored ranges
its snapshot leaves out, and the path that waits for its end. -/
structure Saving where
  range      : Nat
  slot       : Nat
  generation : Nat
  dropComm   : Bool := false
  dropApp    : Bool := false
  path       : Option Path := none
  deriving DecidableEq, Repr

/-- Boot, update and power (23). -/
structure Power where
  phase      : Phase := .running
  pgood      : Bool := true
  recovery   : Bool := false            -- the recovery loader runs (R409)
  saving     : Option Saving := none
  enteredAt  : Nat := 0                 -- device time at which the entry into Keep-alive began
  toSleep    : Bool := false            -- the entry goes on to Sleep
  later      : Option (Init × Nat) := none  -- a profile request that arrived during the entry
  wakeEdge   : Bool := false            -- a wake edge latched during the entry
  last       : Nat := 0                 -- the profile request, 0 to 2, before the one for Keep-alive or Sleep
  canWake    : Bool := true             -- 3300h/10h as Sleep began, held by the always-on domain
  bankNew    : Nat := 0                 -- the firmware slot that an update writes
  hotReports : Nat := 0                 -- DRAM reports of the high temperature limit not yet acted on (R323, R416)
  shownFirst : Bool := false            -- an output has reached Active since boot (R407)
  overVolt   : Bool := false            -- VIN above 18.0 V and not yet below 17.0 V (Table 23-10)
  deriving DecidableEq, Repr

/-! ### Pairing (22) -/

/-- The courier link and the witness (22). `witness` holds the Table 22-4 state of each shared output. -/
structure Courier where
  witness  : Tab Nat := []
  enabled  : Bool := false             -- 3200h/01h in force (R398)
  mask     : Nat := 0                  -- 3200h/07h in force
  node     : Nat := 0                  -- 3200h/03h in force
  locked   : Bool := false             -- block lock
  beats    : Nat := 0                  -- valid heartbeats in a row while Silent, at most 3
  sent     : Nat := 0                  -- sequence of the next frame sent
  last     : Option Nat := none        -- sequence of the last valid frame received
  probe    : Nat := 0                  -- number of the last probe sent
  theirs   : Nat := 0                  -- shared mask of the partner's last heartbeat
  custody  : Nat := 0                  -- its custody bits
  offset   : Option Int := none        -- the partner's device time less this device's, at its last heartbeat (R401)
  canHeard : Bool := false             -- the partner's CAN heartbeat has been heard since the node left Initialisation
  canGone  : Bool := false             -- condition C (R399)
  deriving DecidableEq, Repr
/-! ### Touch (10) -/

/-- A scan in hand (R192 to R195): its kind and mode, the rod that paces it with the position at its start, and the device
time of its start. -/
structure Scan where
  ganged   : Bool := false
  locked   : Bool := false
  keep     : Bool := false      -- started by a fixed slow-scan bead in Keep-alive
  rod      : Nat := 0           -- the rod that paces it
  waiting  : Bool := false      -- line-locked: the rod's next line start begins it (R193)
  position : Nat := 0
  startAt  : Nat := 0
  deriving DecidableEq, Repr

/-- A touch that is reported (R197, Table 10-6), and the nodes of its peak: row and column, or pad row and pad column. -/
structure Touch where
  identity : Nat := 0
  x        : Nat := 0
  y        : Nat := 0
  z        : Nat := 255
  row      : Nat := 0
  col      : Nat := 0
  hover    : Bool := false
  powerUp  : Bool := false
  longRest : Bool := false
  withheld : Bool := false      -- it came down in a zone with EXCL
  zones    : List Nat := []     -- the zones that it came down in and has not left
  shown    : Bool := false      -- a report that was not withheld in Keep-alive has held it (R206)
  deriving DecidableEq, Repr

/-- A panel beside its objects. -/
structure Panel where
  scan      : Option Scan := none
  lastStart : Option Nat := none     -- device time of the last full-scan start
  calScans  : Nat := 0               -- scans since Calibrating began
  runs      : Tab Nat := []          -- node: full scans in a row below −θ/2
  groupRuns : Tab Nat := []
  grouped   : Bool := false          -- the group baselines have been taken
  approach  : Bool := false          -- an approach was the last thing seen
  touches   : List Touch := []
  pair      : Bool := false          -- an ambiguous pair was reported in the last full scan
  reported  : Bool := false          -- the previous report held something
  pressed   : Tab Nat := []          -- zone: 1 + the identity of the touch that presses it
  clicks    : List Nat := []         -- zones whose clicks wait for the bead (R208)
  armed     : Bool := false          -- the island has armed the panel's bead for a click
  saturated : List Nat := []         -- nodes that calibration left saturated (R196)
  absorb    : Bool := false          -- a command takes the touches held into the baselines (R202)
  absorbed  : List Nat := []         -- the nodes of touches that a recalibration took in
  disableAt : Nat := 0
  deriving DecidableEq, Repr

/-! ### Haptics (11) -/

/-- A channel beside its objects: the trigger that waits for the loop-period boundary, the one that waits for the end of
Brake, the phase in hand while Disabling, and what the loop estimates (R223), in µm/s, µm and m/s². -/
structure Haptic where
  arrived   : Option Nat := none
  waiting   : Option Nat := none
  lastCheck : Option Nat := none     -- device time of the end of the last check
  probing   : Bool := false          -- the Check in hand probes
  clearing  : Bool := false          -- the Check in hand was started by clear-fault
  checkDue  : Bool := false          -- a drive segment was ended by a trigger, and its check has not come in
  phase     : Nat := 0               -- while Disabling: the state it was disabled in, as it goes on
  clamp     : Nat := 0               -- mA, of the effect in hand
  clamped   : Bool := false          -- the clamp has acted in this effect
  velocity  : Rat := 0
  position  : Rat := 0
  accel     : Rat := 0
  voltage   : Int := 0               -- the coil voltage of the next period, mV
  periods   : Nat := 0               -- loop periods since Drive began
  target    : Option Rat := none     -- the target acceleration (R224), m/s²; none in a brake segment
  demand    : Rat := 0               -- the coil current that the model gives for the target, mA, within the clamp
  disableAt : Nat := 0
  deriving DecidableEq, Repr

/-! ### Audio (12) -/

/-- One channel of a gain (R245): the ramp that runs, and the last sample of the signal that the gain multiplies, as FP32
bits. Levels are in 0.1 dB; -32768 is mute or off. -/
structure GainCh where
  ramping : Bool := false
  start   : Int := 0
  target  : Int := 0
  steps   : Nat := 0
  taken   : Nat := 0
  from_   : Nat := 0               -- core frame of the write
  ms      : Nat := 0
  prev    : Nat := 0
  deriving DecidableEq, Repr

/-- An input beside its objects (R237 to R243). `phase` counts in 1/480 000 000 of a source frame. -/
structure AudioIn where
  entered : Nat := 0               -- ring frames that have entered the mixer since the write of /0Ah
  played  : Nat := 0               -- frames of a tone, chime or capture since run last went to 1
  phase   : Nat := 0
  under   : Bool := false          -- in an underrun
  periods : Nat := 0               -- periods posted since run went to 1
  word    : Nat := 0               -- tone: the word of the burst in hand
  at_     : Nat := 0               -- tone: core frames since the burst started
  bursts  : Nat := 0               -- tone: bursts ended
  fall    : Option Nat := none     -- tone, chime: frames left of the 2 ms fall
  ended   : Bool := false          -- tone: the cadence or its fall has ended in this block
  ahead   : Nat := 0               -- tone: frames that the low-latency path has taken since the last block
  chime   : List Byte := []        -- chime: what is left of the samples
  entry   : Option Nat := none     -- the Registry entry
  deriving DecidableEq, Repr

/-- One channel of a sink (R246): the states of its ten biquads, the samples behind its delay, the look-ahead, the
low-latency samples that have come in, and its limiter: frames until it has recovered, frames left of its attack, and the peak
that it answers to. FP32 bits. -/
structure SinkCh where
  z     : List Nat := []
  past  : List Nat := []           -- newest first, at most 960
  ahead : List Nat := []           -- oldest first, at most 96
  route : List Nat := []
  limit  : Nat := 0
  attack : Nat := 0
  peak   : Nat := 0
  deriving DecidableEq, Repr

/-- A sink beside its objects; `out` is what its last block put on the balls, by channel. -/
structure Sink where
  chans    : Tab SinkCh := []
  out      : List (List Nat) := []
  quiet    : Bool := true          -- every sample of the last block lay below the silence threshold
  faults   : List Nat := []        -- device times of stage faults, newest first
  entered  : Nat := 0              -- record sinks: core frames taken
  periods  : Nat := 0
  entry    : Option Nat := none
  deriving DecidableEq, Repr

/-- A headset port beside its objects. -/
structure Plug where
  present    : Bool := false
  remeasured : Bool := false
  muteAt     : Option Nat := none  -- the core frame from which the microphone ramps to mute (R253, R254)
  deriving DecidableEq, Repr

/-- Audio: `frames` counts core frames; gains are by 16 × gain + channel; the disable times are by record index. -/
structure Audio where
  frames    : Nat := 0
  gains     : Tab GainCh := []
  ducks     : Tab Int := []        -- 16 input + bus: the duck in force
  inputs    : Tab AudioIn := []
  sinks     : Tab Sink := []
  plugs     : Tab Plug := []
  disableAt : Tab Nat := []
  zeroed    : List Nat := []       -- records whose unit plays 0 for the block (Table 17-4)
  deriving DecidableEq, Repr

/-! ### Nines check-value units (18) -/

/-- An engine beside its objects (R350, R353, R354): the register of the open stream, whether a feed or direct data has been
taken, the feed in hand as (address, length, LAST) with memory as it was when the feed started, whether a disable met an open
stream, and the time of the disabling write. -/
structure Engine where
  reg       : Nat := 0
  fed       : Bool := false
  feed      : Option (Nat × Nat × Bool) := none
  before    : Tab Byte := []
  opened    : Bool := false
  disableAt : Nat := 0
  deriving DecidableEq, Repr


/-! ### The safety island (21) -/

/-- The renderer of one output (R386 to R390): the list and the check engine read at boot, whether its layer 5 commit is to be
submitted, what each command showed at the last draw, and the frame of a draw whose window has not ended. -/
structure Render where
  list   : Nat := 0xFF
  engine : Nat := 0xFF
  due    : Bool := false
  shown  : Option (List (Option (List Nat))) := none
  draw   : Option Nat := none
  deriving DecidableEq, Repr

/-- The island (R381 to R383, R411): the TCM bank that each pair, A and B, runs from, the firmware slot that the bank holds, and
the restarts. -/
structure Island where
  slots      : Nat × Nat := (0, 0)
  banks      : Nat × Nat := (0, 0)
  renders    : Tab Render := []
  restarting : Bool := false
  restartAt  : Option Nat := none
  halted     : Bool := false
  deriving DecidableEq, Repr

/-! ### The whole block -/

/-- The block: all of its state but the queue of commands. `objs` and `blobs` hold the dictionary's objects by
256 × index + subindex; an object without an entry holds its default (R42). `mem` is the device's memory: the device
address of a byte outside DRAM, 2^40 + the physical location of a DRAM byte, 2^41 + the place in a locked cache way.
`hostMem` is host memory by 2^64 × port + bus address. -/
structure Dev where
  objs     : Tab Nat := []
  blobs    : Tab (List Byte) := []
  frozen   : Tab Nat := []
  mem      : Tab Byte := []
  hostMem  : Tab Byte := []
  clock    : Clock := {}
  abacus   : Abacus := {}
  comp     : Comp := {}
  bands    : Tab BandLayer := []
  copy     : Tab CopyChannel := []
  gpu      : Gpu := {}
  panels   : Tab Panel := []
  haptics  : Tab Haptic := []
  audio    : Audio := {}
  engines  : Tab Engine := []
  island   : Island := {}
  host     : HostPorts := {}
  windows  : Tab Window := []
  transfers : Tab (Option Transfer) := []
  can      : Can := {}
  answer   : Answer := {}
  sent     : List Sent := []
  iso      : Iso := {}
  letter   : Letter := {}
  dram     : Dram := {}
  prot     : Prot := {}
  recorder : Recorder := {}
  courier  : Courier := {}
  registry : Registry := {}
  kept     : Kept := {}
  power    : Power := {}
  free     : Nat := 0
  deriving DecidableEq, Repr

/-- The machine: the block, and the commands that wait for it, first in, first out. -/
structure State where
  pending : List Instr
  dev     : Dev
  deriving DecidableEq, Repr

/-- No command of this block ends in a fault: an access to an address the spec says does not exist is answered inside the
block (R16: the initiator's own status), so the fault type has no member that a meaning raises. -/
inductive Fault where
  /-- Raised by nobody; safe. -/
  | none
  deriving DecidableEq, Repr

/-- Why a command has no meaning. -/
inductive Refusal where
  /-- Raised by Dispatch.lean alone, for a command that has no meaning yet; safe. -/
  | notModelled (mnemonic : String)
  deriving DecidableEq, Repr

/-- The machine right after the internal reset is released with no store image valid: every object at its default, memory
with nothing listed, no command waiting. -/
def State.reset : State := { pending := [], dev := {} }

end Sys2Proof.Machine
end

