-- ==== Sys2Proof/Machine/Tables.lean ====
section
/-! DEFINITION. The three operations on a bank of numbered things (Word.lean, Tab): read an entry, put the bank's default
back, write an entry. A bank lists only entries that differ from its default, by rising number, so that equal banks are
equal data. -/

namespace Sys2Proof.Machine

/-- The entry `k` of a bank whose unlisted entries read `d`. -/
def tabGet {α : Type} (d : α) : Tab α → Nat → α
  | [], _ => d
  | (k', v) :: t, k => if k' = k then v else tabGet d t k

/-- The bank with entry `k` back at its default. -/
def tabDrop {α : Type} (k : Nat) : Tab α → Tab α
  | [] => []
  | (k', v) :: t => if k' = k then tabDrop k t else (k', v) :: tabDrop k t

/-- A new entry put at its place by number. -/
def tabInsert {α : Type} (k : Nat) (v : α) : Tab α → Tab α
  | [] => [(k, v)]
  | (k', v') :: t => if k < k' then (k, v) :: (k', v') :: t else (k', v') :: tabInsert k v t

/-- The bank with entry `k` at `v`. -/
def tabSet {α : Type} [DecidableEq α] (d : α) (t : Tab α) (k : Nat) (v : α) : Tab α :=
  if v = d then tabDrop k t else tabInsert k v (tabDrop k t)

/-- The numbers of a bank rise strictly. -/
def tabRising {α : Type} : Tab α → Bool
  | [] => true
  | [_] => true
  | (k, _) :: (k', v') :: t => k < k' && tabRising ((k', v') :: t)

/-- The canonical form of a bank: rising numbers, and no entry equal to the default. -/
def tabWf {α : Type} [DecidableEq α] (d : α) (t : Tab α) : Bool :=
  tabRising t && t.all (fun p => decide (p.2 ≠ d))

end Sys2Proof.Machine
end

