-- ==== Sys2Proof/Machine/Ops.lean ====
section
/-! DEFINITION. The named operations that every family's meanings use: reading and writing an object of the dictionary, the
owner of a block, the numbered banks of State, and the form in which a meaning answers. -/

namespace Sys2Proof.Machine

/-! ### Initiators (R45, Table 1-1) -/

/-- The owner code of an initiator; a CAN request has none (100h). -/
def initCode : Init → Nat
  | .island => 0x00
  | .enclave e => e
  | .openWorld => 0x20
  | .host i => 0x40 + i
  | .can _ => 0x100

/-- The initiator of an owner code. -/
def initOf (code : Nat) : Init :=
  if code = 0 then .island else if code < 0x20 then .enclave code else if code = 0x20 then .openWorld else .host (code - 0x40)

/-- The bit of the initiator's class in a five-bit rights mask (R448). -/
def initBit : Init → Nat
  | .island => 4
  | .enclave _ => 3
  | .openWorld => 2
  | .host _ => 1
  | .can _ => 0

/-- The initiator is a legal one: enclaves 1 to 31, instances 0 to 63, ports 0 and 1. -/
def initOk : Init → Bool
  | .enclave e => 1 ≤ e && e ≤ 31
  | .host i => i < 64
  | .can p => p < 2
  | _ => true

/-- The owner code is one that Table 1-1 does not reserve (R7). -/
def ownerCodeOk (o : Nat) : Bool := o ≤ 0x20 || (0x40 ≤ o && o ≤ 0x7F) || o == 0xFF

/-! ### Sources (Tables 15-1 to 15-3): the defaults of the entries -/

/-- Numbers that Table 15-2 does not list (R300). -/
def sourceReserved (s : Nat) : Bool := (153 ≤ s && s ≤ 159) || (177 ≤ s && s ≤ 255) || 2047 < s

/-- TARGET of a source before anything has changed it (Table 15-2 with Table 1-2). -/
def sourceTarget0 (s : Nat) : Nat :=
  if s = 0 then 0x20 else if s ≤ 31 then s else if s = 32 then 0
  else if s ≤ 96 then 0x40 + (s - 33)
  else if 160 ≤ s && s ≤ 176 then 0
  else 0xFF

/-- The default entry of a source (Table 15-3). -/
def sourceEntry0 (s : Nat) : Nat :=
  if sourceReserved s then 0 else 0xFF * 2 ^ 40 + sourceTarget0 s * 2 ^ 8

/-! ### Objects (R42, R46) -/

/-- The key of an object in the bank of objects. -/
def objKey (i j : Nat) : Nat := 256 * i + j

/-- The family of a haptic effect in bits 31:24, and its drive time at time scale 100 % in µs (Tables 11-1 and 11-7). -/
def effectEntry (e : Nat) : Nat :=
  if e < 16 then 4000 + 500 * e
  else if e < 32 then 2 ^ 24 + 1000 + 125 * (e - 16)
  else if e < 48 then 2 * 2 ^ 24 + 30000 + 5000 * (e - 32)
  else if e < 80 then 3 * 2 ^ 24 + (if e < 64 then 100000 else 400000)
  else if e < 112 then 4 * 2 ^ 24 + 50000 + 50000 * ((e - 80) % 16)
  else 5 * 2 ^ 24 + 60000 + 120000 * ((e - 112) % 8)

/-- The value that an object holds before anything has changed it (R42); 1014h by the node ID of open straps (R60). -/
def objDefault (i j : Nat) : Nat :=
  if 0x2B10 ≤ i && i ≤ 0x2B1F && 1 ≤ j then sourceEntry0 (128 * (i - 0x2B10) + (j - 1))
  else if i = 0x2C1F && j = 1 then 1
  else if i = 0x1014 && j = 0 then 0x80 + 127
  else if i = 0x2720 && 1 ≤ j then effectEntry (j - 1)
  else if 0x2910 ≤ i && i ≤ 0x294F && j = 3 then (i - 0x2910) % 32
  else match objRow i j with
    | some r => r.dflt
    | none => 0

/-- How many values an object of numeric type has. -/
def objModulus (i j : Nat) : Nat :=
  match (objRow i j).bind (fun r => r.ty.size) with
  | some n => 256 ^ n
  | none => 2 ^ 64

/-- The value of a numeric object. -/
def Dev.getO (d : Dev) (i j : Nat) : Nat := tabGet (objDefault i j) d.objs (objKey i j)

/-- A numeric object takes a value, in the width of its type. -/
def Dev.setO (d : Dev) (i j v : Nat) : Dev :=
  { d with objs := tabSet (objDefault i j) d.objs (objKey i j) (v % objModulus i j) }

/-- The value of an object of signed type. -/
def Dev.getI (d : Dev) (i j bits : Nat) : Int := asSigned bits (d.getO i j)

/-- An object of signed type takes a value. -/
def Dev.setI (d : Dev) (i j bits : Nat) (v : Int) : Dev := d.setO i j (ofSigned bits v)

/-- A tally counts one occurrence; it wraps in its width (R33). -/
def Dev.count (d : Dev) (i j : Nat) : Dev := d.setO i j (d.getO i j + 1)

/-- A tally counts `n` occurrences. -/
def Dev.countBy (d : Dev) (i j n : Nat) : Dev := d.setO i j (d.getO i j + n)

/-- Back to the default. -/
def Dev.clearO (d : Dev) (i j : Nat) : Dev := { d with objs := tabDrop (objKey i j) d.objs }

/-- Back to the default: every subindex of an index that `keep` does not name. -/
def Dev.clearIndex (d : Dev) (i : Nat) (keep : List Nat) : Dev :=
  { d with objs := d.objs.filter (fun p => p.1 / 256 ≠ i || keep.contains (p.1 % 256)) }

/-- The bytes of a string or DOMAIN object that something has written. -/
def Dev.getB (d : Dev) (i j : Nat) : List Byte := tabGet [] d.blobs (objKey i j)

/-- A string or DOMAIN object takes its content. -/
def Dev.setB (d : Dev) (i j : Nat) (v : List Byte) : Dev :=
  { d with blobs := tabSet [] d.blobs (objKey i j) v }

/-- The DOMAIN or string was written (an unwritten one reads its default). -/
def Dev.hasB (d : Dev) (i j : Nat) : Bool := d.blobs.any (fun p => p.1 == objKey i j)

/-- `n` zero bytes. -/
def zeroBytes (n : Nat) : List Byte := List.replicate n 0

/-- The byte of a list at a position, 0 beyond its end. -/
def byteAt (l : List Byte) (n : Nat) : Byte := l.getD n 0

/-- The little-endian field of `n` bytes at offset `o`. -/
def field (l : List Byte) (o n : Nat) : Nat := leNat ((l.drop o).take n)

/-- `n` bytes put at offset `o` of a list long enough to hold them. -/
def putField (l : List Byte) (o n v : Nat) : List Byte := l.take o ++ leBytes n v ++ l.drop (o + n)

/-- The list made exactly `n` bytes long with zeros. -/
def padTo (n : Nat) (l : List Byte) : List Byte := (l ++ zeroBytes (n - l.length)).take n

/-! ### Blocks and owners (R7, R8, Tables 1-2 and 14-5) -/

/-- A block identifier (R288). -/
def blockId (cls num : Nat) : Nat := 4096 * cls + num

/-- The owner of a block when no assignment is saved (Table 1-2). -/
def owner0 (id : Nat) : Nat :=
  let n := id % 512
  match id / 4096 with
  | 1 => 0x00
  | 2 => if n % 6 = 5 then 0x00 else 0xFF
  | 3 => 0x00
  | 4 => 0x00
  | 9 => 0x40 + n
  | 10 => if n < 64 then 0x00 else 0xFF
  | _ => 0xFF

/-- The block identifiers of Table 14-5. -/
def blockExists (id : Nat) : Bool :=
  let n := id % 4096
  match id / 4096 with
  | 1 => n < 8
  | 2 => n < 48
  | 3 => n < 8
  | 4 => n < 8
  | 5 => n < 68 && n ≠ 54 && n ≠ 55
  | 6 => n < 16
  | 7 => n < 32
  | 8 => n < 8
  | 9 => n < 64
  | 10 => n < 512
  | _ => false

/-- The block's hand-over state and the owner it goes to (Table 14-6). -/
def Dev.hand (d : Dev) (id : Nat) : Hand := tabGet {} d.iso.hands id

/-- The owner byte itself, whatever the block's hand-over state shows. -/
def Dev.ownerByte (d : Dev) (id : Nat) : Nat := tabGet (owner0 id) d.iso.owners id

/-- The owner code that a block shows: FFh while it is Resetting or Retargeting (R292). -/
def Dev.owner (d : Dev) (id : Nat) : Nat :=
  if 2 ≤ (d.hand id).state then 0xFF else d.ownerByte id

/-- A block's owner byte is written. -/
def Dev.setOwner (d : Dev) (id o : Nat) : Dev :=
  { d with iso := { d.iso with owners := tabSet (owner0 id) d.iso.owners id o } }

/-- The writer is the block's owner (R9); a CAN request passes for the island's blocks (R45). -/
def Dev.owns (d : Dev) (who : Init) (id : Nat) : Bool :=
  match who with
  | .can _ => d.owner id == 0
  | w => d.owner id == initCode w

/-! ### Banks -/

/-- What a rod keeps beside its objects. -/
def Dev.rod (d : Dev) (r : Nat) : Rod := tabGet {} d.abacus.rods r

/-- A rod's own state is replaced. -/
def Dev.setRod (d : Dev) (r : Nat) (x : Rod) : Dev :=
  { d with abacus := { d.abacus with rods := tabSet {} d.abacus.rods r x } }

/-- What a bead slot keeps beside its words. -/
def Dev.bead (d : Dev) (k : Nat) : Bead := tabGet {} d.abacus.beads k

/-- A bead slot's own state is replaced. -/
def Dev.setBead (d : Dev) (k : Nat) (x : Bead) : Dev :=
  { d with abacus := { d.abacus with beads := tabSet {} d.abacus.beads k x } }

/-- A dictionary window: 0 to 32 on the chip, 64 + i of instance i. -/
def Dev.window (d : Dev) (w : Nat) : Window := tabGet {} d.windows w

/-- A window's registers are replaced. -/
def Dev.setWindow (d : Dev) (w : Nat) (x : Window) : Dev := { d with windows := tabSet {} d.windows w x }

/-- An application core as the monitor sees it. -/
def Dev.core (d : Dev) (c : Nat) : Core := tabGet {} d.iso.cores c

/-- A core is replaced. -/
def Dev.setCore (d : Dev) (c : Nat) (x : Core) : Dev :=
  { d with iso := { d.iso with cores := tabSet {} d.iso.cores c x } }

/-- A thread of an enclave. -/
def Dev.thread (d : Dev) (e t : Nat) : Thread := tabGet {} d.iso.threads (8 * e + t)

/-- A thread is replaced. -/
def Dev.setThread (d : Dev) (e t : Nat) (x : Thread) : Dev :=
  { d with iso := { d.iso with threads := tabSet {} d.iso.threads (8 * e + t) x } }

/-- A Registry entry. -/
def Dev.reg (d : Dev) (e : Nat) : RegEntry := tabGet {} d.registry.entries e

/-- A Registry entry is replaced. -/
def Dev.setReg (d : Dev) (e : Nat) (x : RegEntry) : Dev :=
  { d with registry := { d.registry with entries := tabSet {} d.registry.entries e x } }

/-- A command names a unit by number; a number that no unit has changes nothing (assumption log 2). -/
def onUnit (n limit : Nat) (f : Dev → Dev) (d : Dev) : Dev := if n < limit then f d else d

/-- No request has stopped a clock domain (Table 1-4, R293). -/
def Dev.domainRuns (d : Dev) (dom : Nat) : Bool := tabGet 0 d.iso.domains dom == 0

/-- No request has stopped a block's clock or its domain's. -/
def Dev.blockRuns (d : Dev) (id dom : Nat) : Bool := tabGet 0 d.iso.blocks id == 0 && d.domainRuns dom

/-- The pixel domain of output `n` is stopped, or the output itself is (R19, R293). -/
def Dev.pixelStopped (d : Dev) (n : Nat) : Bool := !(d.blockRuns (blockId 1 n) (7 + n))

/-! ### Free values -/

/-- The next free value's index; the counter advances with every use (assumption log 8). -/
def Dev.nextFree (d : Dev) : Nat × Dev := (d.free, { d with free := d.free + 1 })

/-! ### Answers (Table 3-2) -/

/-- The request was accepted. -/
def Dev.accept (d : Dev) : Dev := { d with answer := {} }

/-- The request was refused with an abort code; nothing else changes (R45). -/
def Dev.refuse (d : Dev) (abort : Nat) : Dev := { d with answer := { abort := abort } }

/-- The access returned an error to its initiator (R16, R48, R49). -/
def Dev.busError (d : Dev) (abort : Nat := 0) : Dev := { d with answer := { abort := abort, bus := true } }

/-- The request was a read and returns data. -/
def Dev.reply (d : Dev) (data : List Byte) : Dev := { d with answer := { data := data } }

/-- The first check that fails, in order (R45). -/
def firstAbort : List (Bool × Nat) → Option Nat
  | [] => none
  | (failed, code) :: rest => if failed then some code else firstAbort rest

/-! ### Power phases (23) -/

/-- The power state is replaced. -/
def Dev.setPower (d : Dev) (x : Power) : Dev := { d with power := x }

/-- What survives a reset is replaced. -/
def Dev.setKept (d : Dev) (x : Kept) : Dev := { d with kept := x }

/-- The logic runs: neither without VIN, nor held in reset, nor asleep. -/
def Dev.live (d : Dev) : Bool :=
  d.power.phase = .running || d.power.phase = .entering || d.power.phase = .keepAlive

/-- The domains that stop in Keep-alive run (Table 1-4). -/
def Dev.awake (d : Dev) : Bool := d.power.phase = .running || d.power.phase = .entering

/-- Everything runs and nothing is on its way into Keep-alive. -/
def Dev.running (d : Dev) : Bool := d.power.phase = .running

/-- The GPU domain runs: not stopped by a request, nor by Keep-alive (R12, R293). -/
def Dev.gpuRuns (d : Dev) : Bool := d.awake && d.domainRuns 5

/-- A core runs: the island pair (8) whenever the logic does, the cluster's cores 0 to 7 outside Keep-alive (Table 1-4). -/
def Dev.coreRuns (d : Dev) (core : Nat) : Bool := (core == 8 || d.awake) && !(tabGet false d.iso.halted core)

/-- The service class of an initiator, which each of its DRAM requests carries (R10, Table 1-3): 0 display, 1 island,
2 real-time, 3 bulk. -/
def serviceClass : DramInitiator → Nat
  | .layerFetch => 0
  | .safetyLayerFetch => 0
  | .islandCore => 1
  | .islandRenderer => 1
  | .gpuBandQueue => 2
  | .audioRingDma => 2
  | .touchReport => 2
  | .gpuGraphicsQueue => 3
  | .gpuComputeQueue => 3
  | .gpuCopyQueue => 3
  | .applicationCluster => 3
  | .hostDma => 3
  | .copyEngine => 3
  | .carryEngine => 3

end Sys2Proof.Machine
end

