-- ==== Sys2Proof/Machine/Flags.lean ====
section
/-! DEFINITION. The status flags that the spec computes from other state: the error register 1001h and the conditions of
Table 3-8 that hold its bits. -/

namespace Sys2Proof.Machine

/-- The first `n` numbers satisfy some test. -/
def anyBelow (n : Nat) (p : Nat → Bool) : Bool := (List.range n).any p

/-- 3110h, 3120h: VIN above 16.5 V or below 8.8 V. -/
def Dev.vinCondition (d : Dev) : Bool := d.can.vinHigh || d.can.vinLow

/-- 4210h: a thermal step-down lasts. -/
def Dev.thermalCondition (d : Dev) : Bool := d.getO 0x3400 0x07 != 0

/-- 8120h, 8130h, 8250h: an enabled port is error passive, a node is lost, an RPDO has timed out. -/
def Dev.canCondition (d : Dev) : Bool :=
  anyBelow 2 (fun p => d.can.ports.testBit p && tabGet 0 d.can.portState p == 1)
    || d.can.lost.any (fun x => x.2) || d.can.rpdoLate.any (fun x => x.2)

/-- The conditions of bit 7, FF01h to FF09h but the happening FF08h. -/
def Dev.deviceCondition (d : Dev) : Bool :=
  d.getO 0x2F00 0x01 == 2
    || d.getO 0x3000 0x02 == 1
    || anyBelow 16 (fun w => d.getO (0x3110 + w) 0x05 == 2)
    || anyBelow 16 (fun p => let st := d.getO (0x2C10 + p) 0x01; st == 2 || st == 3)
    || anyBelow 8 (fun c => d.getO (0x2701 + c) 0x01 == 5 &&
        (let cause := d.getO (0x2701 + c) 0x11; 1 ≤ cause && cause ≤ 3))
    || anyBelow 8 (fun n => let w := tabGet 0 d.courier.witness n; w == 2 || w == 3)
    || d.can.saveFailed
    || d.can.listRefused.any (fun x => x.2)

/-- The error register 1001h (R59): a bit while any condition of it lasts, and bit 0 while any other bit is set. -/
def Dev.errorRegister (d : Dev) : Nat :=
  let b := (if d.vinCondition then 4 else 0) + (if d.thermalCondition then 8 else 0)
    + (if d.canCondition then 16 else 0) + (if d.deviceCondition then 128 else 0)
  if b = 0 then 0 else b + 1

/-- The 1001h bit of an EMCY code (Table 3-8), as a mask. -/
def emcyBit (code : Nat) : Nat :=
  if code = 0 then 0
  else if code = 0x3110 || code = 0x3120 then 4
  else if code = 0x4210 then 8
  else if code / 0x1000 = 8 then 16
  else 128

/-- The error register in the EMCY of `code`: the lasting conditions and the code's own bit. -/
def Dev.emcyRegister (d : Dev) (code : Nat) : Nat :=
  (d.errorRegister ||| emcyBit code) ||| (if emcyBit code = 0 then 0 else 1)

end Sys2Proof.Machine
end

