-- ==== Sys2Proof/Machine/Services.lean ====
section
/-! DEFINITION. The services that every block uses: the event recorder's intake (R365 to R367), the emergency messages (R59),
the Letterbox's posts and releases (R304 to R309, R312), the event-driven TPDOs, and the form in which a command acts. -/

namespace Sys2Proof.Machine

/-! ### The event recorder's intake (19) -/

/-- The bucket word of a class (R366). -/
def Dev.bucket (d : Dev) (cls : Nat) : Nat := d.getO (0x2F10 + cls / 128) (cls % 128 + 1)

/-- Tokens that a class's bucket holds: the burst less those taken. -/
def Dev.tokens (d : Dev) (cls : Nat) : Nat := d.bucket cls % 65536 - tabGet 0 d.recorder.spent cls

/-- Classes 78h to 7Fh skip test 4 (R366). -/
def bucketExempt (cls : Nat) : Bool := 0x78 ≤ cls && cls ≤ 0x7F

/-- Committed records: commit less base (R361). -/
def Dev.committed (d : Dev) : Nat :=
  let w := d.getO 0x2F00 0x03
  (w % 2 ^ 32 + 2 ^ 32 - w / 2 ^ 32) % 2 ^ 32

/-- An event that is not recorded counts against its class and reason, and in the total (R365). -/
def Dev.notRecorded (d : Dev) (code reason : Nat) : Dev :=
  let cls := code / 256
  (d.count (0x2F20 + 2 * reason + cls / 128) (cls % 128 + 1)).count 0x2F00 0x06

/-- An accepted event takes its place behind the record in hand and the queue. -/
def Dev.enqueue (d : Dev) (e : Event) : Dev :=
  match d.recorder.hand with
  | none => { d with recorder := { d.recorder with hand := some e } }
  | some _ =>
    let q := d.recorder.queue ++ [e]
    let d := { d with recorder := { d.recorder with queue := q } }
    if d.getO 0x2F00 0x08 < q.length then d.setO 0x2F00 0x08 q.length else d

/-- The sequence that the next accepted event will have when it is written. -/
def Dev.nextSequence (d : Dev) : Nat :=
  (d.getO 0x2F00 0x03 + d.recorder.queue.length + (if d.recorder.hand.isSome then 1 else 0)) % 2 ^ 32

/-- Tests 1 to 3 of Table 19-3: the reason against the event, if any. -/
def Dev.intakeRefusal (d : Dev) : Option Nat :=
  if d.getO 0x2F00 0x01 = 2 then some 3
  else if 32768 ≤ d.committed + d.recorder.queue.length + (if d.recorder.hand.isSome then 1 else 0) then some 0
  else if 16 ≤ d.recorder.queue.length then some 2
  else none

/-- An event that fails one of tests 1 to 3 is counted; an overflow keeps its code (R365). -/
def Dev.intakeCounted (d : Dev) (code reason : Nat) : Dev :=
  let d := d.notRecorded code reason
  if reason = 2 then d.setO 0x2F00 0x07 code else d

/-- The recorder's own record 7801h for a class that begins to be throttled (R360, R366). -/
def Dev.throttleRecord (d : Dev) (cls : Nat) : Dev :=
  match d.intakeRefusal with
  | some reason => d.intakeCounted 0x7801 reason
  | none => d.enqueue (Event.mk d.clock.ns 0x7801 0xFFFF
      (padTo 12 (leBytes 4 (cls % 256) ++ leBytes 4 (d.getO (0x2F22 + cls / 128) (cls % 128 + 1)))))

/-- Intake (R365): the fate of an event by the first test of Table 19-3, and the sequence it will have (FFFF_FFFFh when it
is not recorded, R367). -/
def Dev.intake (d : Dev) (e : Event) : Nat × Dev :=
  let cls := e.code / 256
  match d.intakeRefusal with
  | some reason => (0xFFFFFFFF, d.intakeCounted e.code reason)
  | none =>
    if bucketExempt cls then (d.nextSequence, d.enqueue e)
    else if d.tokens cls = 0 then
      let d := d.notRecorded e.code 1
      if tabGet false d.recorder.throttled cls || d.bucket cls % 65536 = 0 then (0xFFFFFFFF, d)
      else
        let d := { d with recorder := { d.recorder with throttled := tabSet false d.recorder.throttled cls true } }
        (0xFFFFFFFF, d.throttleRecord cls)
    else
      let n := d.nextSequence
      let d := { d with recorder := { d.recorder with
        spent := tabSet 0 d.recorder.spent cls (tabGet 0 d.recorder.spent cls + 1) } }
      (n, d.enqueue e)

/-- The code of an event: its class, and the number that the catalogue gives it (R360). -/
def eventCode (cls what : Nat) : Nat := 256 * cls + Config.eventNumber what % 256

/-- A block logs an event (R359): its class, this model's name for it, the owner and unit concerned (FFh none), and the
facts that its payload carries. -/
def Dev.logSeq (d : Dev) (cls what owner unit : Nat) (facts : List Nat) : Nat × Dev :=
  d.intake { time := d.clock.ns, code := eventCode cls what, origin := 256 * (owner % 256) + unit % 256,
             payload := padTo 12 (Config.eventPayload what facts) }

/-- A block logs an event and nothing else depends on its fate. -/
def Dev.log (d : Dev) (cls what owner unit : Nat) (facts : List Nat := []) : Dev := (d.logSeq cls what owner unit facts).2

/-! ### Emergency messages (R59, R60) -/

/-- The island serves: it is neither restarting nor halted (R383), nor halted by DEBUG_REQ (R297). -/
def Dev.serving (d : Dev) : Bool := !d.island.restarting && !d.island.halted && d.coreRuns 8

/-- A port takes part: it is enabled and not bus-off (R54), and the island speaks (R383). -/
def Dev.portOpen (d : Dev) (p : Nat) : Bool :=
  d.serving && d.domainRuns 18 && d.can.started && d.can.ports.testBit p && tabGet 0 d.can.portState p != 2

/-- A message that leaves the device is noted. -/
def Dev.send (d : Dev) (m : Sent) : Dev := { d with sent := m :: d.sent }

/-- A message leaves on each port that takes part (R54). -/
def Dev.sendPorts (d : Dev) (m : Nat → Sent) : Dev :=
  [0, 1].foldl (fun d p => if d.portOpen p then d.send (m p) else d) d

/-- An EMCY is sent, or waits while the inhibit time of 1015h runs. -/
def Dev.sendEmcy (d : Dev) (e : Emcy) : Dev :=
  if d.can.inhibited then { d with can := { d.can with waiting := d.can.waiting ++ [e] } }
  else
    let d := d.sendPorts (fun p => .emcy p e)
    { d with can := { d.can with inhibited := d.getO 0x1015 0 != 0 } }

/-- An EMCY is entered at the head of 1003h. -/
def Dev.enterHistory (d : Dev) (code : Nat) : Dev :=
  let old := (List.range 7).map (fun k => d.getO 0x1003 (k + 1))
  let d := (old.zip (List.range 7)).foldl (fun d x => d.setO 0x1003 (x.2 + 2) x.1) (d.setO 0x1003 1 code)
  d.setO 0x1003 0 (min 8 (d.getO 0x1003 0 + 1))

/-- An occurrence of Table 3-8: its event is logged, its EMCY entered and sent. -/
def Dev.emergency (d : Dev) (code cls what owner unit : Nat) (facts : List Nat := []) : Dev :=
  let (n, d) := d.logSeq cls what owner unit facts
  let d := d.enterHistory code
  let e : Emcy := { code := code, reg := d.emcyRegister code, seq := n, event := eventCode cls what }
  let d := d.sendEmcy e
  { d with can := { d.can with shown := true } }

/-- When 1001h has become 00h, error code 0000h is entered in 1003h, as each EMCY is, and sent (R59). -/
def Dev.settle (d : Dev) : Dev :=
  if d.can.shown && d.errorRegister == 0 then
    let d := (d.enterHistory 0).sendEmcy { code := 0, reg := 0, seq := 0xFFFFFFFF, event := Config.eventNumber 0 % 65536 }
    { d with can := { d.can with shown := false } }
  else d

/-! ### The Letterbox (15) -/

/-- A source's entry (R301). -/
def Dev.entry (d : Dev) (s : Nat) : Nat := d.getO (0x2B10 + s / 128) (s % 128 + 1)

/-- A source's entry is written. -/
def Dev.setEntry (d : Dev) (s e : Nat) : Dev := d.setO (0x2B10 + s / 128) (s % 128 + 1) e

/-- The fields of a source entry (Table 15-3). -/
def entryEn (e : Nat) : Bool := e.testBit 63
def entryState (e : Nat) : Nat := bits e 60 2
def entryPrio (e : Nat) : Nat := bits e 56 4
def entryClass (e : Nat) : Nat := bits e 52 4
def entryPoster (e : Nat) : Nat := bits e 40 8
def entryRoute (e : Nat) : Nat := bits e 16 8
def entryTarget (e : Nat) : Nat := bits e 8 8

/-- A source's STATE is set (Table 15-5). -/
def Dev.setSourceState (d : Dev) (s st : Nat) : Dev := d.setEntry s (setBits (d.entry s) 60 2 st)

/-- The sources whose entries differ from their defaults: every source that is not inactive is among them. -/
def Dev.usedSources (d : Dev) : List Nat :=
  d.objs.filterMap (fun p =>
    let i := p.1 / 256
    if 0x2B10 ≤ i && i ≤ 0x2B1F && 1 ≤ p.1 % 256 && p.1 % 256 ≤ 128 then some (128 * (i - 0x2B10) + (p.1 % 256 - 1)) else none)

/-- The target code is an instance. -/
def isInstance (t : Nat) : Bool := 0x40 ≤ t && t ≤ 0x7F

/-- The source is deliverable (R304): pending, enabled, and released by its class. -/
def Dev.deliverable (d : Dev) (s : Nat) : Bool :=
  let e := d.entry s
  entryState e == 1 && entryEn e && tabGet false d.letter.released s

/-- The cores that ROUTE admits (R301): application cores 2 to 7, service cores 0 and 1, the active island pair as 8; for an
enclave, the cores that run with its tag. -/
def Dev.admitted (d : Dev) (e : Nat) : List Nat :=
  let t := entryTarget e
  let r := entryRoute e
  if t = 0x20 then [2, 3, 4, 5, 6, 7].filter (fun c => r == 0 || r.testBit c)
  else if t = 0 then (if r = 0 then [8] else [0, 1].filter (fun c => r.testBit c))
  else if t ≤ 0x1F then [2, 3, 4, 5, 6, 7].filter (fun c => (d.core c).tag == t)
  else []

/-- THRESHOLD of a core on a page (Table 15-4). -/
def Dev.threshold (d : Dev) (page core : Nat) : Nat := tabGet 0 d.letter.thresholds (256 * page + core)

/-- The deliverable sources of an owner that a core may take (R305). -/
def Dev.takeable (d : Dev) (page core : Nat) : List Nat :=
  d.usedSources.filter (fun s =>
    let e := d.entry s
    d.deliverable s && entryTarget e == page && (d.admitted e).contains core
      && d.threshold page core ≤ entryPrio e)

/-- The owners whose sources a core can take: its own, and the open world or its enclave. -/
def Dev.corePages (d : Dev) (core : Nat) : List Nat :=
  if core = 8 ∨ core < 2 then [0] else if (d.core core).tag = 0 then [0x20] else [(d.core core).tag, 0x20]

/-- A core's interrupt request is raised (R305). -/
def Dev.requestRaised (d : Dev) (core : Nat) : Bool :=
  (d.corePages core).any (fun page => !(d.takeable page core).isEmpty)

/-- An instance is Present (Table 13-8). -/
def Dev.instancePresent (d : Dev) (i : Nat) : Bool := d.getO (0x2910 + i) 0x01 == 1

/-- The MSI-X vector of a source cannot be written now: masked, or the instance is not Present or in D3hot (R307, R312). -/
def Dev.vectorBlocked (d : Dev) (i v : Nat) : Bool :=
  !(tabGet false d.letter.unmasked (64 * i + v)) || tabGet false d.letter.fmask i || !(d.instancePresent i)
    || (tabGet {} d.host.instances i).d3hot

/-- A PBA bit is set or cleared. -/
def Dev.setPba (d : Dev) (i v : Nat) (b : Bool) : Dev :=
  { d with letter := { d.letter with pba := tabSet false d.letter.pba (64 * i + v) b } }

/-- A delivery is withdrawn before its commit point (R307): it is counted, and an instance's PBA bit is set. -/
def Dev.withdraw (d : Dev) (s : Nat) : Dev :=
  if d.deliverable s then
    let e := d.entry s
    let d := if isInstance (entryTarget e) then d.setPba (entryTarget e - 0x40) (entryRoute e % 64) true else d
    d.count 0x2B00 0x08
  else d

/-- The target is idle (R309): an admitted core is in WFI and its request is not raised, or the instance's hint is 1. -/
def Dev.targetIdle (d : Dev) (e : Nat) : Bool :=
  let t := entryTarget e
  if isInstance t then d.getO (0x2910 + (t - 0x40)) 0x06 == 1
  else (d.admitted e).any (fun c => tabGet false d.letter.wfi c && !(d.requestRaised c))

/-- A source is marked released by its class, or not. -/
def Dev.setReleased (d : Dev) (s : Nat) (b : Bool) : Dev :=
  { d with letter := { d.letter with released := tabSet false d.letter.released s b } }

/-- The class releases every held source of an owner and class, sets the count to 0 and stops the timer (R308); a new
setting applies from here. -/
def Dev.releaseClass (d : Dev) (owner cls : Nat) : Dev :=
  let held := d.usedSources.filter (fun s =>
    let e := d.entry s
    entryTarget e == owner && entryClass e == cls && entryState e == 1)
  let d := held.foldl (fun d s => d.setReleased s true) d
  let k := 16 * owner + cls
  { d with letter := { d.letter with
      counts := tabSet 0 d.letter.counts k 0
      timers := tabSet false d.letter.timers k false
      settings := tabSet 1 d.letter.settings k (d.getO 0x2B01 (cls + 1)) } }

/-- A post changes the state of a source, counts for its class, and bypasses moderation to an idle target (R304, R308,
R309). -/
def Dev.postCore (d : Dev) (s : Nat) : Dev :=
  let e := d.entry s
  let st := entryState e
  if st = 1 ∨ st = 3 then d.count 0x2B00 0x06
  else
    let idle := d.targetIdle e
    let d := d.setSourceState s (if st = 0 then 1 else 3)
    if entryClass e = 0 || idle then d.setReleased s (st == 0)
    else
      let k := 16 * entryTarget e + entryClass e
      let n := tabGet 0 d.letter.counts k + 1
      let w := tabGet 1 d.letter.settings k
      let d := d.setReleased s false
      let d := { d with letter := { d.letter with
        counts := tabSet 0 d.letter.counts k n
        timers := if n = 1 && w / 65536 ≠ 0 then tabSet false d.letter.timers k true else d.letter.timers } }
      if w % 256 ≤ n then d.releaseClass (entryTarget e) (entryClass e) else d

/-- The cores whose request a source raises (R305). -/
def Dev.raises (d : Dev) (s : Nat) : List Nat :=
  let e := d.entry s
  if d.deliverable s then (d.admitted e).filter (fun c => d.threshold (entryTarget e) c ≤ entryPrio e) else []

/-- What follows when sources may have become deliverable: a masked vector's PBA bit is set and the delivery counted as
withdrawn (R307); an enclave that no core runs gets its wake source posted, once for each source (R305); a core whose request
rises leaves WFI. -/
def Dev.offer (d : Dev) (s : Nat) : Dev :=
  if d.deliverable s then
    let e := d.entry s
    let t := entryTarget e
    if isInstance t then
      (if d.vectorBlocked (t - 0x40) (entryRoute e % 64) && !(tabGet false d.letter.pba (64 * (t - 0x40) + entryRoute e % 64))
       then d.withdraw s else d)
    else if 1 ≤ t && t ≤ 0x1F && (d.admitted e).isEmpty && !(tabGet false d.letter.woken s) then
      let d := { d with letter := { d.letter with woken := tabSet false d.letter.woken s true } }
      let w := d.getO (0x2A40 + t) 0x07
      if sourceReserved w then d else (d.postCore w).count 0x2B00 0x09
    else
      { d with letter := { d.letter with wfi := (d.raises s).foldl (fun t c => tabSet false t c false) d.letter.wfi } }
  else d

/-- Every source of an owner is offered. -/
def Dev.offerAll (d : Dev) (owner : Nat) : Dev :=
  (d.usedSources.filter (fun s => entryTarget (d.entry s) == owner)).foldl (fun d s => d.offer s) d

/-- A block posts a source (R299, R304); a reserved number posts nothing (R300). -/
def Dev.post (d : Dev) (s : Nat) : Dev :=
  if sourceReserved s then d else (d.postCore s).offerAll (entryTarget (d.entry s))

/-- A block posts the source that an object names; FFFFh names none. -/
def Dev.postNamed (d : Dev) (i j : Nat) : Dev :=
  if d.getO i j = 0xFFFF then d else d.post (d.getO i j)

/-- All held sources of a target are released, in every class (R309). -/
def Dev.releaseAll (d : Dev) (owner : Nat) : Dev :=
  ((List.range 16).foldl (fun d cls =>
    if d.usedSources.any (fun s => let e := d.entry s
        entryTarget e == owner && entryClass e == cls && entryState e == 1 && !(tabGet false d.letter.released s))
      || tabGet 0 d.letter.counts (16 * owner + cls) ≠ 0
    then d.releaseClass owner cls else d) d).offerAll owner

/-- Deliveries to an instance that leaves Present are withdrawn (R312). -/
def Dev.withdrawInstance (d : Dev) (i : Nat) : Dev :=
  (d.usedSources.filter (fun s => entryTarget (d.entry s) == 0x40 + i)).foldl (fun d s => d.withdraw s) d

/-- Every source of an instance that is being reset becomes inactive, its held counts are cleared, and its MSI-X table and
PBA return to their defaults (R312, R275). -/
def Dev.clearInstance (d : Dev) (i : Nat) : Dev :=
  let d := (d.usedSources.filter (fun s => entryTarget (d.entry s) == 0x40 + i)).foldl
    (fun d s => (d.setSourceState s 0).setReleased s false) d
  let out (t : Tab Bool) : Tab Bool := t.filter (fun p => p.1 / 64 ≠ i)
  let outN (t : Tab Nat) : Tab Nat := t.filter (fun p => p.1 / 64 ≠ i)
  { d with letter := { d.letter with
      counts := d.letter.counts.filter (fun p => p.1 / 16 ≠ 0x40 + i)
      timers := d.letter.timers.filter (fun p => p.1 / 16 ≠ 0x40 + i)
      pba := out d.letter.pba, unmasked := out d.letter.unmasked
      vecAddr := outN d.letter.vecAddr, vecData := outN d.letter.vecData
      fmask := tabSet false d.letter.fmask i false } }

/-- Sources that are pending or active-and-pending (2B00h/04h). -/
def Dev.pendingNow (d : Dev) : Nat :=
  (d.usedSources.filter (fun s => let st := entryState (d.entry s); st == 1 || st == 3)).length

/-! ### Event-driven TPDOs (R54, R56) -/

/-- The witness state of a shared output (Table 22-4). -/
def Dev.witness (d : Dev) (n : Nat) : Nat := tabGet 0 d.courier.witness n

/-- Custody of a shared output: its state is 4 or 5 (Table 22-2). -/
def Dev.custodyBits (d : Dev) : Nat :=
  (List.range 8).foldl (fun m n =>
    let st := d.getO (0x2200 + 16 * n) 2
    if d.courier.enabled && d.courier.mask.testBit n && (st == 4 || st == 5) then m + 2 ^ n else m) 0

/-- The value that a mapped object sends. -/
def Dev.mappedValue (d : Dev) (i j : Nat) : Nat :=
  if i = 0x2B00 ∧ j = 4 then d.pendingNow
  else if i = 0x1001 then d.errorRegister
  else if i = 0x5020 ∧ 1 ≤ j then d.getO (0x2610 + (j - 1)) 0x21
  else if i = 0x5001 ∧ j = 1 then leNat (d.getB 0x5001 1)
  else if i = 0x3200 ∧ j = 0x0C then leNat ((List.range 8).map (fun n => BitVec.ofNat 8 (d.witness n)))
  else if i = 0x3200 ∧ j = 0x0B then d.custodyBits
  else d.getO i j

/-- The data of a TPDO: its mapped objects in order. A mapping entry is index 31:16, subindex 15:8, length in bits 7:0. -/
def Dev.tpdoData (d : Dev) (t : Nat) : List Byte :=
  (List.range (d.getO (0x1A00 + t) 0)).flatMap (fun k =>
    let m := d.getO (0x1A00 + t) (k + 1)
    leBytes (m % 256 / 8) (d.mappedValue (m / 65536) (m / 256 % 256)))

/-- A TPDO is valid: bit 31 of its COB-ID is 0. -/
def Dev.tpdoValid (d : Dev) (t : Nat) : Bool := !((d.getO (0x1800 + t) 1).testBit 31)

/-- A TPDO is sent on each port that takes part; its inhibit time starts. -/
def Dev.sendTpdo (d : Dev) (t : Nat) : Dev :=
  let data := d.tpdoData t
  let d := d.sendPorts (fun p => .tpdo p (t + 1) data)
  { d with can := { d.can with
      tpdoInhibit := tabSet false d.can.tpdoInhibit t (d.getO (0x1800 + t) 3 != 0)
      tpdoWaits := tabSet false d.can.tpdoWaits t false } }

/-- A mapped object of a TPDO changed: an event-driven TPDO is sent, or waits for its inhibit time; an acyclic one waits for the
next SYNC. -/
def Dev.tpdoChange (before : Dev) (d : Dev) (t : Nat) : Dev :=
  let type := d.getO (0x1800 + t) 2
  if d.can.nmt = .operational && d.tpdoValid t && (type == 0 || 0xFE ≤ type) && d.tpdoData t != before.tpdoData t then
    (if type = 0 || tabGet false d.can.tpdoInhibit t then
      { d with can := { d.can with tpdoWaits := tabSet false d.can.tpdoWaits t true } }
     else d.sendTpdo t)
  else d

/-- Every TPDO is looked at; while no TPDO has been given a COB-ID there is none. -/
def Dev.tpdoChanges (before d : Dev) : Dev :=
  if d.objs.any (fun p => 0x1800 ≤ p.1 / 256 && p.1 / 256 ≤ 0x180F && p.1 % 256 == 1) then
    (List.range 16).foldl (fun d t => Dev.tpdoChange before d t) d
  else d

/-! ### How a command acts -/

/-- What follows every command: changed TPDOs are sent (R54), and error code 0000h when 1001h has become 00h (R59). -/
def Dev.finish (before after : Dev) : Dev := (Dev.tpdoChanges before after).settle

/-- A command of the running logic: while the part has no supply, is held in reset or sleeps, nothing happens. -/
def act (f : Dev → Dev) (s : State) : Host.Outcome State Fault Refusal :=
  .next { s with dev := if s.dev.live then Dev.finish s.dev (f s.dev) else s.dev }

/-- A command of a domain that stops in Keep-alive (R12, Table 1-4): the application cluster, the GPU, DRAM. -/
def actAwake (f : Dev → Dev) (s : State) : Host.Outcome State Fault Refusal :=
  act (fun d => if d.awake then f d else d) s

/-- A request to the dictionary server: while the island restarts or has halted, nobody serves it (R383, R45). -/
def actServed (f : Dev → Dev) (s : State) : Host.Outcome State Fault Refusal :=
  act (fun d => if d.serving then f d else d) s

/-- A command of the always-on domain and the supply: it acts in every phase. -/
def actAlways (f : Dev → Dev) (s : State) : Host.Outcome State Fault Refusal :=
  .next { s with dev := if (f s.dev).live then Dev.finish s.dev (f s.dev) else f s.dev }

end Sys2Proof.Machine
end

