-- ==== Sys2Proof/Machine/Operands.lean ====
section
/-! DEFINITION. The operand forms: a value as the bytes of an object's type, and the checks that every write of an object
passes, in the order of Table 3-2 (R43 to R45, R448), whatever path brought it. -/

namespace Sys2Proof.Machine

/-! ### Abort codes (Table 3-2) -/

def abortCommand : Nat := 0x05040001
def abortIndex : Nat := 0x06020000
def abortSub : Nat := 0x06090011
def abortWriteOnly : Nat := 0x06010001
def abortReadOnly : Nat := 0x06010002
def abortAccess : Nat := 0x06010000
def abortLength : Nat := 0x06070010
def abortRange : Nat := 0x06090030
def abortState : Nat := 0x08000022
def abortSave : Nat := 0x08000020
def abortCheck : Nat := 0x05040004
def abortUnmappable : Nat := 0x06040041
def abortTooLong : Nat := 0x06040042

/-! ### Values as bytes -/

/-- A value in the size of an object's type; a value too big for it is one byte longer (refused by check 6). -/
def numData (i j v : Nat) : List Byte :=
  match (objRow i j).bind (fun r => r.ty.size) with
  | some n => if v < 256 ^ n then leBytes n v else leBytes (n + 1) v
  | none => leBytes 8 v

/-- An integer in the size of an object's type, in two's complement. -/
def intData (i j : Nat) (v : Int) : List Byte :=
  match (objRow i j).bind (fun r => r.ty.size) with
  | some n => if -((256 ^ n / 2 : Nat) : Int) ≤ v ∧ v < ((256 ^ n / 2 : Nat) : Int) then leBytes n (ofSigned (8 * n) v)
              else zeroBytes (n + 1)
  | none => leBytes 8 (ofSigned 64 v)

/-! ### The owner check (R9, R45) -/

/-- The number of the audio unit of a record (Table 14-5): inputs 0 to 31, buses 32 to 47, sinks 48 to 59, headset ports 60
and 61, TDM ports 62 and 63, PDM lines 64 to 67; a TDM sink follows its port (R234). -/
def audioUnit (i : Nat) : Nat := if i = 0x2837 ∨ i = 0x2838 then 62 + (i - 0x2837) else if i ≤ 0x283C then i - 0x2801 else i - 0x2840 + 60

/-- The block that an object configures, where it configures one. -/
def objBlock (i j : Nat) : Option Nat :=
  if 0x2101 ≤ i ∧ i ≤ 0x2108 then some (blockId 1 (i - 0x2101))
  else if 0x2110 ≤ i ∧ i ≤ 0x212F then some (blockId 10 (16 * (i - 0x2110) + (j - 1) / 2))
  else if 0x2200 ≤ i ∧ i < 0x2280 then some (blockId 1 ((i - 0x2200) / 16))
  else if 0x2301 ≤ i ∧ i ≤ 0x2308 then (if j = 6 then none else some (blockId 1 (i - 0x2301)))
  else if 0x2310 ≤ i ∧ i < 0x2340 then some (blockId 2 (i - 0x2310))
  else if 0x2340 ≤ i ∧ i < 0x2360 then some (blockId 1 ((i - 0x2340) / 4))
  else if 0x2401 ≤ i ∧ i < 0x2421 then some (blockId 7 (i - 0x2401))
  else if 0x2580 ≤ i ∧ i < 0x25B0 then some (blockId 2 (i - 0x2580))
  else if 0x2601 ≤ i ∧ i < 0x2609 then some (blockId 3 (i - 0x2601))
  else if 0x2610 ≤ i ∧ i < 0x2618 then some (blockId 3 (i - 0x2610))
  else if 0x2701 ≤ i ∧ i < 0x2709 then some (blockId 4 (i - 0x2701))
  else if 0x2710 ≤ i ∧ i < 0x2718 then some (blockId 4 (i - 0x2710))
  else if 0x2801 ≤ i ∧ i < 0x2848 then some (blockId 5 (audioUnit i))
  else if 0x2E01 ≤ i ∧ i < 0x2E09 then some (blockId 8 (i - 0x2E01))
  else none

/-- The writer may adjust the device clock: the selected discipline source (R37). -/
def Dev.clockWriter (d : Dev) (who : Init) : Bool :=
  let src := d.getO 0x2100 0x08
  if src = 0 then who == .island else if 0x40 ≤ src then who == .host (src - 0x40) else false

/-- The owner code of a GPU partition record (R145). -/
def partitionOwner (i : Nat) : Nat := if i ≤ 0x2530 then i - 0x2510 else 0x40 + (i - 0x2531)

/-- The enables that the island may also write, whoever owns the unit (Tables 11-5, 12-9 to 12-14, 18-5). -/
def islandEnable (i j : Nat) : Bool :=
  j == 2 && ((0x2701 ≤ i && i ≤ 0x2708) || (0x2801 ≤ i && i ≤ 0x2847) || (0x2E01 ≤ i && i ≤ 0x2E08))

/-- The owner check of R9, with the exceptions of the owning chapters. -/
def Dev.ownerPasses (d : Dev) (who : Init) (i j : Nat) : Bool :=
  if i = 0x2100 ∧ (j = 0x09 ∨ j = 0x0A) then d.clockWriter who
  else if who = .island ∧ j = 2 ∧ ((0x2310 ≤ i ∧ i < 0x2340) ∨ (0x2401 ≤ i ∧ i < 0x2421)) then true
  else if 0x2601 ≤ i ∧ i < 0x2609 ∧ 0x1A ≤ j ∧ j ≤ 0x1D then
    -- the reader counts as the owner (R210)
    if d.getO i 0x19 = 0xFF then d.owns who (blockId 3 (i - 0x2601)) else initCode who == d.getO i 0x19
  else if 0x2610 ≤ i ∧ i < 0x2618 then true   -- the island configures zones, whoever owns the panel (R207)
  else if 0x2601 ≤ i ∧ i < 0x2609 ∧ j = 0x19 then who == .island
  else if 0x2950 ≤ i ∧ i < 0x2990 then who == .island || d.owns who (blockId 9 (i - 0x2950))
  else if 0x2511 ≤ i ∧ i ≤ 0x2570 then
    initCode who == partitionOwner i || (who == .island && 0x10 ≤ j && j % 8 == 0)
  else if (0x2C20 ≤ i ∧ i < 0x2C40) ∨ (0x2D10 ≤ i ∧ i < 0x2D30) then   -- R328, R342
    who == .island || initCode who == bits (d.getO (0x2A10 + (if i < 0x2C40 then i - 0x2C20 else i - 0x2D10)) 3) 8 8
  else if i = 0x2A70 then initCode who + 1 == j
  else if 0x2109 ≤ i ∧ i < 0x210D then who == .island                                -- R40
  else match objBlock i j with
    | some b => d.owns who b || (who == .island && islandEnable i j)
    | none => true

/-! ### Requests (Table 3-2) -/

/-- What the owning chapter says of a write that passed checks 1 to 7: the abort of the first of its own checks that fails,
or the device after the write. -/
abbrev Verdict := Except Nat Dev

/-- While the recovery loader runs it serves 1000h to 1018h, 2000h and 3300h alone, over CAN and through the window of instance
0 (R409). -/
def recoveryIndex (i : Nat) : Bool := (0x1000 ≤ i && i ≤ 0x1018) || i == 0x2000 || i == 0x3300
def recoveryPath (who : Init) : Bool :=
  match who with
  | .can _ => true
  | .host i => i == 0
  | _ => false

/-- The index exists, for whoever serves now. -/
def Dev.hasIndex (d : Dev) (i : Nat) : Bool := indexExists i && (!d.power.recovery || recoveryIndex i)

/-- Check 5: the rights mask, the owner check, and what the recovery loader serves. -/
def Dev.mayWrite (d : Dev) (who : Init) (i j : Nat) (r : ObjRow) : Bool :=
  initOk who && r.write.testBit (initBit who) && d.ownerPasses who i j && (!d.power.recovery || recoveryPath who)

/-- Checks 1 to 7 of a write that is not a DOMAIN transfer: the first that fails. -/
def Dev.checkWrite (d : Dev) (who : Init) (i j : Nat) (data : List Byte) : Option Nat :=
  match objRow i j with
  | none => if d.hasIndex i then some abortSub else some abortIndex
  | some r =>
    firstAbort [
      (r.ty == .domain, abortCommand),
      (!(d.hasIndex i), abortIndex),
      (r.acc == .ro || r.acc == .const, abortReadOnly),
      (!(d.mayWrite who i j r), abortAccess),
      ((match r.ty.size with | some n => data.length != n | none => decide (256 < data.length)), abortLength),
      ((match r.ty.size with | some n => !(r.range.holds n (leNat data)) | none => false), abortRange)]

/-- A write of an object without an answer of its own: the abort, or the device after the write. -/
def Dev.tryWrite (d : Dev) (who : Init) (i j : Nat) (data : List Byte) (f : Dev → Verdict) : Verdict :=
  match d.checkWrite who i j data with
  | some a => .error a
  | none => f d

/-- A refused request changes nothing (R45), but that of a profile shows in 2002h/04h (R64). -/
def Dev.noteRefusal (d : Dev) (i j abort : Nat) : Dev :=
  if i = 0x2002 ∧ j = 1 ∧ abort = abortState then d.setO 0x2002 4 abort else d

/-- A write of an object: the checks in order, then what the owning chapter says (R45, R46). -/
def Dev.request (d : Dev) (who : Init) (i j : Nat) (data : List Byte) (f : Dev → Verdict) : Dev :=
  match d.tryWrite who i j data f with
  | .error a => (d.noteRefusal i j a).refuse a
  | .ok d' => d'.accept

/-- A plain setting: it takes the value. Bits of a bit-field object that its layout neither lists nor calls reserved are stored
as written, unless the object's range leaves them out (DESIGN CHOICE, assumption log 17: R449 speaks of reserved fields). -/
def Dev.plain (i j v : Nat) (d : Dev) : Verdict := .ok (d.setO i j v)

/-- A source object accepts only a source targeted to `owner`, or FFFFh (R448: after check 7). -/
def Dev.sourceFor (d : Dev) (owner v : Nat) : Bool :=
  v == 0xFFFF || (!(sourceReserved v) && entryTarget (d.entry v) == owner)

/-- A source setting of a block of `owner`. -/
def Dev.sourceWrite (owner i j v : Nat) (d : Dev) : Verdict :=
  if d.sourceFor owner v then .ok (d.setO i j v) else .error abortAccess

end Sys2Proof.Machine
end

