-- ==== Sys2Proof/Machine/Abacus.lean ====
section
/-! DEFINITION. The Abacus (02) but for the advance of a line: rods and their locks (R17 to R25), the two words of a bead
(R26 to R29), moved beads (R36), and the device clock (R37, R38). -/

namespace Sys2Proof.Machine

/-! ### Rods -/

/-- The record of rod `r`. -/
def rodIndex (r : Nat) : Nat := 0x2101 + r

def Dev.rodState (d : Dev) (r : Nat) : Nat := d.getO (rodIndex r) 0x02
def Dev.rodFrame (d : Dev) (r : Nat) : Nat := d.getO (rodIndex r) 0x03 / 65536
def Dev.rodLine (d : Dev) (r : Nat) : Nat := d.getO (rodIndex r) 0x03 % 65536

/-- The lines of the frame being counted (/05h). -/
def Dev.rodLines (d : Dev) (r : Nat) : Nat := d.getO (rodIndex r) 0x05

/-- The rod runs: any state of Table 2-2 but Stopped. -/
def Dev.rodRuns (d : Dev) (r : Nat) : Bool := d.rodState r != 0

/-- The position of R18: frame count in bits 63:16, line in bits 15:0. -/
def Dev.setPosition (d : Dev) (r frame line : Nat) : Dev := d.setO (rodIndex r) 0x03 (65536 * frame + line)

/-- A parameter of the timing in force of output `n` (Table 4-6). -/
def Dev.force (d : Dev) (n j : Nat) : Nat := d.getO (0x2202 + 16 * n) j

/-- A parameter of the staged set of output `n` (Table 4-5). -/
def Dev.staged (d : Dev) (n j : Nat) : Nat := d.getO (0x2201 + 16 * n) j

/-- HTOTAL and VTOTAL of a parameter set (R68). -/
def htotalOf (p : Nat → Nat) : Nat := p 2 + p 3 + p 4 + p 5
def vtotalOf (p : Nat → Nat) : Nat := p 6 + p 7 + p 8 + p 9

/-- The VTOTAL in force of a rod (R28). -/
def Dev.rodVtotal (d : Dev) (r : Nat) : Nat := if r < 8 then vtotalOf (d.force r) else (d.rod r).freeVtotal

/-- The line time of a rod as a fraction of nanoseconds: numerator and denominator. -/
def Dev.lineTime (d : Dev) (r : Nat) : Nat × Nat :=
  if r < 8 then (htotalOf (d.force r) * 1000000000, d.force r 1)
  else ((d.rod r).freePeriod * 1000000000, 256 * 38400000)

/-- The time of 16 pixel clocks or, on a free rod, 16 reference cycles, as a fraction of nanoseconds. -/
def Dev.nearTime (d : Dev) (r : Nat) : Nat × Nat :=
  if r < 8 then (16 * 1000000000, d.force r 1) else (16 * 1000000000, 38400000)

/-- A lock transition of Table 2-2: the state is set and the transition logged (R24). -/
def Dev.setRodState (d : Dev) (r st : Nat) : Dev :=
  if d.rodState r = st then d
  else (d.setO (rodIndex r) 0x02 st).log 0x08 0x801 0xFF r [r, d.rodState r, st]

/-- The counters of a lock start again. -/
def Dev.lockFresh (d : Dev) (r : Nat) : Dev :=
  d.setRod r { d.rod r with good := 0, near := 0, far := 0, beyond := 0 }

/-- The rod that a rod is locked to, if it is one of this device. -/
def Dev.leader (d : Dev) (r : Nat) : Option Nat :=
  let s := d.getO (rodIndex r) 0x0A
  if 0x10 ≤ s ∧ s ≤ 0x1B then some (s - 0x10) else none

/-- The rods that a lock source locks. -/
def Dev.lockedTo (d : Dev) (source : Nat) : List Nat :=
  (List.range 12).filter (fun r => d.getO (rodIndex r) 0x0A == source)

/-- The reference is absent: Acquire and Track go to Holdover with the last trim (R24). -/
def Dev.lockAbsent (d : Dev) (r : Nat) : Dev :=
  let st := d.rodState r
  let d := d.setRod r { d.rod r with markAt := none }
  if st = 2 ∨ st = 3 then (d.setRodState r 4).lockFresh r else d.lockFresh r

/-- The courier state is replaced. -/
def Dev.setCourier (d : Dev) (x : Courier) : Dev := { d with courier := x }

/-- Every rod locked across the link sees its reference as absent (R24). -/
def Dev.marksAbsent (d : Dev) : Dev :=
  ((List.range 12).filter (fun r => 0x20 ≤ d.getO (rodIndex r) 0x0A)).foldl (fun d r => d.lockAbsent r) d

/-- The courier domain stops (Table 22-1). -/
def Dev.courierStops (d : Dev) : Dev :=
  ((d.setO 0x3200 9 0).setCourier { d.courier with locked := false, beats := 0 }).marksAbsent

/-- A rod stops and holds its position (R19, R20): state Stopped, trim 0; beads fire no more, a pulse that it times is due for
release (R458), and a rod locked to it sees its reference as absent (R24). -/
def Dev.stopRod (d : Dev) (r : Nat) : Dev :=
  if d.rodRuns r then
    let d := ((d.setRodState r 0).setO (rodIndex r) 0x12 0).lockFresh r
    let d := { d with abacus := { d.abacus with
        pulses := d.abacus.pulses.map (fun (p : Pulse) => if p.rod = r then { p with lines := 0 } else p) } }
    (d.lockedTo (0x10 + r)).foldl (fun d f => d.lockAbsent f) d
  else d

/-! ### Bead words (Tables 2-3 and 2-4) -/

def beadEn (w : Nat) : Bool := w.testBit 63
def beadRod (w : Nat) : Nat := bits w 56 4
def beadLine (w : Nat) : Nat := bits w 40 16
def beadFcond (w : Nat) : Nat := bits w 36 4
def beadFarg (w : Nat) : Nat := bits w 0 32

def actionOf (a : Nat) : Nat := bits a 56 8
def argOf (a : Nat) : Nat := bits a 0 32

/-- The objects of a slot's two words (Table 2-8). -/
def beadIndex (slot : Nat) : Nat := 0x2110 + slot / 16
def wordSub (slot : Nat) : Nat := 2 * (slot % 16) + 1

def Dev.beadWord (d : Dev) (slot : Nat) : Nat := d.getO (beadIndex slot) (wordSub slot)
def Dev.actionWord (d : Dev) (slot : Nat) : Nat := d.getO (beadIndex slot) (wordSub slot + 1)

/-- A number into a rising list, once. -/
def insertNat (k : Nat) : List Nat → List Nat
  | [] => [k]
  | x :: xs => if k < x then k :: x :: xs else if k = x then x :: xs else x :: insertNat k xs

/-- The slots in which a word is set, or an earlier pair still governs, in ascending order. -/
def Dev.slots (d : Dev) : List Nat :=
  let set := d.objs.filterMap (fun p =>
    let i := p.1 / 256
    let j := p.1 % 256
    if 0x2110 ≤ i ∧ i ≤ 0x212F ∧ 1 ≤ j ∧ j ≤ 32 then some (16 * (i - 0x2110) + (j - 1) / 2) else none)
  (set ++ d.abacus.beads.map (fun p => p.1)).foldl (fun l k => insertNat k l) []

/-- A series bead (R153): action 05h or 06h with band index FFh. -/
def isSeries (a : Nat) : Bool := (actionOf a == 5 || actionOf a == 6) && bits a 8 8 == 0xFF

/-- FARG obeys its frame condition (Table 2-3). -/
def fargOk (w : Nat) : Bool :=
  let f := beadFarg w
  match beadFcond w with
  | 0 | 3 => f == 0
  | 1 => f / 65536 == 0 && f % 256 < f / 256 % 256 + 1
  | 2 => true
  | _ => false

/-- ARG obeys its action (Table 2-4): every field in range, and every bit that the table does not list 0. -/
def argOk (a : Nat) : Bool :=
  let g := argOf a
  match actionOf a with
  | 0 | 9 => g == 0
  | 1 => 256 ≤ g && g < 2048
  | 2 => g < 512 && bits g 3 5 == 0
  | 3 => bits g 3 5 == 0 && bits g 15 1 == 0 && 50 ≤ g / 2 ^ 24 && g / 2 ^ 24 ≤ 200
  | 5 | 6 => g < 65536 && g % 256 < 48
  | 7 => g < 32
  | 8 => g < 65536 && bits g 1 7 == 0 && 1 ≤ g / 256
  | _ => false

/-- A series bead stands on line 0 of the rod of the layer's output, in every frame or periodically (R153). -/
def seriesOk (w a : Nat) : Bool :=
  !(isSeries a) || (beadRod w == argOf a % 256 / 6 && beadLine w == 0 && beadFcond w < 2)

/-- The block that an action acts on (Table 2-4). -/
def actionBlock (a : Nat) : Option Nat :=
  let g := argOf a
  match actionOf a with
  | 2 => some (blockId 3 (g % 8))
  | 3 => some (blockId 4 (g % 8))
  | 5 | 6 => some (blockId 2 (g % 64))
  | 7 => some (blockId 5 (g % 32))
  | _ => none

/-- The owner check of Table 2-4 for a slot of `owner`. -/
def Dev.actionOwned (d : Dev) (owner a : Nat) : Bool :=
  match actionOf a with
  | 1 => entryTarget (d.entry (argOf a)) == owner && !(sourceReserved (argOf a))
  | 8 => owner == 0
  | _ => match actionBlock a with
    | some b => d.owner b == owner
    | none => true

/-- Armed beads, but for `slot`, on a line of a rod. -/
def Dev.armedOn (d : Dev) (slot rod line : Nat) : Nat :=
  (d.slots.filter (fun k => k != slot && (let w := d.beadWord k
    beadEn w && beadRod w == rod && beadLine w == line && !(isSeries (d.actionWord k))))).length

/-- The write of a slot's words under R29: the pair in force keeps the next line start of its rod, and the new pair is too
late for that of its own, if those rods run. -/
def Dev.writePair (d : Dev) (slot w a : Nat) : Dev :=
  let b := d.bead slot
  let w0 := d.beadWord slot
  let a0 := d.actionWord slot
  let keep := !b.fresh && beadEn w0 && d.rodRuns (beadRod w0)
  let d := (d.setO (beadIndex slot) (wordSub slot) w).setO (beadIndex slot) (wordSub slot + 1) a
  d.setBead slot { old := if keep then b.old ++ [(w0, a0)] else b.old, fresh := d.rodRuns (beadRod w) }

/-- A write of a bead word (R26, R28), from a writer that has passed the owner check. MOVED is cleared and the reserved
fields keep 0. -/
def beadWordVerdict (slot v : Nat) (d : Dev) : Verdict :=
  let owner := d.owner (blockId 10 slot)
  let a := d.actionWord slot
  if 11 < beadRod v || d.rodVtotal (beadRod v) ≤ beadLine v || !(fargOk v) || !(seriesOk v a) then .error abortRange
  else if beadEn v && !(d.actionOwned owner a) then .error abortAccess
  else if beadEn v && !(isSeries a) && 32 ≤ d.armedOn slot (beadRod v) (beadLine v) then .error abortState
  else
    let w := setBits (setBits v 60 3 0) 32 4 0
    .ok (d.writePair slot w a)

/-- A write of an action word (R27, R28). An armed bead accepts only the word it holds. -/
def actionWordVerdict (slot v : Nat) (d : Dev) : Verdict :=
  let owner := d.owner (blockId 10 slot)
  let w := d.beadWord slot
  let a := setBits v 32 24 0
  if !(argOk a) || (beadEn w && !(seriesOk w a)) then .error abortRange
  else if !(d.actionOwned owner a) then .error abortAccess
  else if beadEn w && a ≠ d.actionWord slot then .error abortState
  else .ok (d.writePair slot w a)

/-! ### Moved beads (R36) -/

/-- A bead whose line no longer exists is moved to the last line, marked, counted and logged. -/
def Dev.moveBead (d : Dev) (slot vtotal : Nat) : Dev :=
  let w := setBits (setBits (d.beadWord slot) 40 16 (vtotal - 1)) 62 1 1
  let d := (d.setO (beadIndex slot) (wordSub slot) w).count 0x2100 0x04
  d.log 0x08 0x802 (d.owner (blockId 10 slot)) 0xFF [slot]

/-- Every bead of a rod at or above the new VTOTAL moves to its last line (R36, R21). Derived firings of a series are
computed again instead (R164). -/
def Dev.moveBeads (d : Dev) (r vtotal : Nat) : Dev :=
  (d.slots.filter (fun k => let w := d.beadWord k
    w != 0 && beadRod w == r && vtotal ≤ beadLine w)).foldl (fun d k => d.moveBead k vtotal) d

/-- EN of every bead that acts on a block and does not belong to `owner` is cleared, and an event is logged (R31). -/
def Dev.clearBeads (d : Dev) (block owner : Nat) : Dev :=
  (d.slots.filter (fun k =>
    actionBlock (d.actionWord k) == some block && beadEn (d.beadWord k) && d.owner (blockId 10 k) != owner)).foldl
    (fun d k => (d.setO (beadIndex k) (wordSub k) (setBits (d.beadWord k) 63 1 0)).log 0x08 0x803
      (d.owner (blockId 10 k)) 0xFF [k, block]) d

/-! ### The lock of a rod (R22 to R24) -/

/-- Following the chain of locks from `from_` meets `r`. -/
def Dev.lockReaches (d : Dev) (r : Nat) : Nat → Nat → Bool
  | 0, _ => false
  | fuel + 1, from_ => from_ == r || (match d.leader from_ with
    | some l => d.lockReaches r fuel l
    | none => false)

/-- A write of a lock source (R22): a loop is out of range; 00h returns a running rod to Free, its trim slewing to 0. -/
def lockSourceVerdict (r v : Nat) (d : Dev) : Verdict :=
  if 0x10 ≤ v ∧ v ≤ 0x1B ∧ d.lockReaches r 13 (v - 0x10) then .error abortRange
  else
    let d := (d.setO (rodIndex r) 0x0A v).lockFresh r
    if v = 0 ∧ d.rodRuns r then
      let d := d.setRodState r 1
      .ok (d.setRod r { d.rod r with slewing := true, next := 0 })
    else .ok d

/-- Frames that a correction of `n` lines takes at `limit` lines a frame. -/
def framesFor (n limit : Nat) : Nat := ceilDiv n limit

/-- The lines that a frame is given for a phase error of `err` ns (R23); a tie removes lines (erratum B0-01). Positive
adds, negative removes. DESIGN CHOICE (assumption log 12): a free rod has no front porch, so its removing direction is
closed. -/
def Dev.linesFor (d : Dev) (r : Nat) (err : Int) : Int :=
  let (num, den) := d.lineTime r
  let vtotal := d.rodVtotal r
  let maxAdd := d.getO (rodIndex r) 0x10
  let maxRemove := if r < 8 then d.force r 7 - 1 else 0
  let mag := err.natAbs * den
  let whole := mag / num                       -- whole lines of error
  let rest := (vtotal * num - min mag (vtotal * num)) / num   -- whole lines the other way round
  let remove := if 0 ≤ err then whole else rest
  let add := if 0 ≤ err then rest else whole
  if maxAdd = 0 ∧ maxRemove = 0 then 0
  else if maxAdd = 0 then -((min remove maxRemove : Nat) : Int)
  else if maxRemove = 0 then ((min add maxAdd : Nat) : Int)
  else if framesFor remove maxRemove ≤ framesFor add maxAdd then -((min remove maxRemove : Nat) : Int)
  else ((min add maxAdd : Nat) : Int)

/-- Both directions of line correction are closed (R23). -/
def Dev.lockClosed (d : Dev) (r : Nat) : Bool := d.getO (rodIndex r) 0x10 == 0 && (8 ≤ r || d.force r 7 == 1)

/-- The lock is a line lock: codes 03h and 04h. -/
def Dev.lineLock (d : Dev) (r : Nat) : Bool := let s := d.getO (rodIndex r) 0x0A; s == 3 || s == 4

/-- Entering Acquire; with both directions closed the rod logs one event (R23). -/
def Dev.enterAcquire (d : Dev) (r : Nat) : Dev :=
  let d := (d.setRodState r 2).lockFresh r
  let d := d.setRod r { d.rod r with slewing := false }
  if d.lockClosed r then d.log 0x0A 0x804 0xFF r [r] else d

/-- Both ends of a range. -/
def clampInt (lo hi v : Int) : Int := max lo (min hi v)

/-- The trim moves toward `want` within the trim limit, and within the slew limit of the frame (R23). -/
def Dev.trimToward (d : Dev) (r : Nat) (want : Int) : Dev :=
  let lim : Int := (100 * d.getO (rodIndex r) 0x0E : Nat)
  let slew : Int := (100 * d.getO (rodIndex r) 0x0F : Nat)
  let at_ := (d.rod r).trimAt
  d.setI (rodIndex r) 0x12 32 (clampInt (at_ - slew) (at_ + slew) (clampInt (-lim) lim want))

/-- Lines are added to or removed from the frame being counted before its front porch starts, and from the next one after
that. DESIGN CHOICE (assumption log 12): a free rod, which has no front porch, takes them into the present frame on line 0
only. -/
def Dev.giveLines (d : Dev) (r : Nat) (k : Int) : Dev :=
  let x := d.rod r
  if d.rodLine r < (if r < 8 then d.force r 6 else 1) then
    let d := d.setRod r { x with extra := k }
    d.setO (rodIndex r) 0x05 (((d.rodVtotal r : Nat) : Int) + k).toNat
  else d.setRod r { x with next := k }

/-- The rod's reference cannot be seen: it is a rod that is Stopped, or a rod of the partner while the link is not Up
(R24, R402). -/
def Dev.lockBlind (d : Dev) (r : Nat) : Bool :=
  match d.leader r with
  | some l => !(d.rodRuns l)
  | none => 0x20 ≤ d.getO (rodIndex r) 0x0A && d.getO 0x3200 9 != 2

/-- The trim beside that of the spacing, in 0.01 ppm, by which a rod works off its phase error: a late rod runs faster. R23
gives it no size but its limits, so the size is a free value. -/
def phaseTrim (err : Int) : Int :=
  if err = 0 then 0 else if 0 < err then (Config.phaseTrim err : Nat) else -((Config.phaseTrim err : Nat) : Int)

/-- A reference event at a locked rod (R23, R24, Table 2-2). `phase` is the time from the event to the rod's lock line, or
to the line start of a line lock, positive when the rod is late; `trim` the trim, in 0.01 ppm, that the spacing since the
event before calls for. With both directions of line correction closed and a trim limit of 0, Acquire holds whatever the
spacing (R23). -/
def Dev.lockEvent (d : Dev) (r : Nat) (phase trim : Int) : Dev :=
  let st := d.rodState r
  if st = 0 ∨ d.getO (rodIndex r) 0x0A = 0 then d
  else if d.lockBlind r then d.lockAbsent r
  else
    let err := phase - d.getI (rodIndex r) 0x0C 32
    let d := d.setI (rodIndex r) 0x13 32 (clampInt (-2147483648) 2147483647 err)
    let lim : Int := (100 * d.getO (rodIndex r) 0x0E : Nat)
    let within := -lim ≤ trim && trim ≤ lim
    if st = 1 ∨ st = 4 then
      let good := if (d.rod r).good = 0 then 1 else if within then 2 else 1
      let d := d.setRod r { d.rod r with good := good }
      if good = 2 then d.enterAcquire r else d
    else
      let (num, den) := d.lineTime r
      let (nearNum, nearDen) := d.nearTime r
      let overLine := num < err.natAbs * den
      let x := d.rod r
      let near := if err.natAbs * nearDen ≤ nearNum then x.near + 1 else 0
      let far := if overLine then x.far + 1 else 0
      let beyond := if within then 0 else x.beyond + 1
      let d := d.setRod r { x with near := near, far := far, beyond := beyond }
      if 8 ≤ beyond ∧ !(st = 2 ∧ d.lockClosed r ∧ lim = 0) then (d.setRodState r 4).lockFresh r
      else
        let d := d.trimToward r (trim + phaseTrim err)
        let d := if st = 2 ∧ overLine ∧ !(d.lineLock r) then d.giveLines r (d.linesFor r err) else d
        if st = 2 ∧ 8 ≤ near then (d.setRodState r 3).lockFresh r
        else if st = 3 ∧ 4 ≤ far then d.enterAcquire r
        else d

/-- The holdover time expires (Table 2-2). -/
def Dev.lockExpired (d : Dev) (r : Nat) : Dev :=
  if d.rodState r = 4 then
    let d := (d.setRodState r 1).lockFresh r
    d.setRod r { d.rod r with slewing := true }
  else d

/-! ### The events of a rod (R22, R402) -/

/-- The phase of a rod against a reference time, in ns: the rod's lock line nearest to it, less the time; positive when the
rod is late. With a frame ratio of k, k of the rod's frames pass between two events, and the nearest lock line belongs to
one of them. -/
def Dev.phaseAt (d : Dev) (r : Nat) (ref : Int) : Int :=
  let (num, den) := d.lineTime r
  let total := d.rodVtotal r
  let frame : Int := (total * num / den : Nat)
  let back := (d.rodLine r + total - d.getO (rodIndex r) 0x0B % max 1 total) % max 1 total
  let at_ : Int := (d.rod r).lineAt - ((back * num / den : Nat) : Int)
  let e := if frame ≤ 0 then 0 else (at_ - ref) % frame
  if frame < 2 * e then e - frame else e

/-- The trim, in 0.01 ppm, that the spacing of two reference events calls for: k frames in that time. -/
def Dev.trimFor (d : Dev) (r : Nat) (spacing : Int) : Int :=
  let (num, den) := d.lineTime r
  let want : Int := (d.getO (rodIndex r) 0x0D * d.rodVtotal r * num / den : Nat)
  if spacing ≤ 0 then 0 else (want - spacing) * 100000000 / spacing

/-- Line 0 of the rod followed came at `ref`, as the start of its frame `count`: the reference event of rod `r`, whose
spacing is taken over the frames between the two counts. -/
def Dev.leaderEvent (d : Dev) (ref : Int) (count r : Nat) : Dev :=
  let spacing := match (d.rod r).markAt with
    | some (t, c) => (ref - t) / ((max 1 ((count + 2 ^ 32 - c % 2 ^ 32) % 2 ^ 32) : Nat) : Int)
    | none => 0
  let d := d.setRod r { d.rod r with markAt := some (ref, count % 2 ^ 32) }
  d.lockEvent r (d.phaseAt r ref) (d.trimFor r spacing)

/-! ### The device clock (R37, R38) -/

/-- The step of the device clock in units of 2^-32 ns with an addition of `slew`: rounded to nearest, halves up. -/
def Dev.clockStepAt (d : Dev) (slew : Int) : Nat :=
  let rate : Int := 1000000000 + d.getI 0x2100 0x0A 32 + slew
  let num : Int := 2 ^ 32 * rate
  let den : Int := 38400000
  ((2 * num + den) / (2 * den)).toNat

/-- The step of the device clock now. -/
def Dev.clockStep (d : Dev) : Nat := d.clockStepAt d.clock.slew

/-- The clock moves by a time in units of 2^-32 ns. -/
def Clock.move (c : Clock) (by_ : Int) : Clock :=
  let t := (((c.ns * 2 ^ 32 + c.frac : Nat) : Int) + by_) % ((2 ^ 96 : Nat) : Int)
  { c with ns := t.toNat / 2 ^ 32, frac := t.toNat % 2 ^ 32 }

/-- The part of the offset that one step spends: what the slew adds to the step, and no more than is left. -/
def Dev.slewGain (d : Dev) : Int :=
  let gain := (d.clockStep : Int) - (d.clockStepAt 0 : Int)
  if d.clock.left.natAbs ≤ gain.natAbs then d.clock.left else gain

/-- The device clock advances by one step. A slew spends its offset, and ends with it (R38). -/
def Dev.clockTick (d : Dev) : Dev :=
  if d.clock.slew = 0 then { d with clock := d.clock.move d.clockStep }
  else
    let gain := d.slewGain
    let c := d.clock.move (d.clockStepAt 0 + gain)
    let left := c.left - gain
    { d with clock := { c with left := left, slew := if left = 0 then 0 else c.slew } }

/-- An offset is slewed out when it is 1 ms or less, and applied as a step otherwise (R38); it replaces one not yet
spent. The rate of the slew is a free value, 0.001 ppm to 500 ppm. -/
def Dev.clockOffset (d : Dev) (v : Int) : Dev :=
  if v.natAbs ≤ 1000000 then
    let mag : Int := (1 + Config.slewRate v % 500000 : Nat)
    { d with clock := { d.clock with
      left := v * ((2 ^ 32 : Nat) : Int), slew := if v = 0 then 0 else if 0 < v then mag else -mag } }
  else
    let d := { d with clock := { d.clock with
      left := 0, slew := 0, ns := (((d.clock.ns : Int) + v) % (2 ^ 64 : Int)).toNat } }
    (d.setI 0x2100 0x0B 64 v).log 0x08 0x805 0 0xFF [ofSigned 64 v]

/-- The slew ends with the whole of its offset spent: what is left of it is added (R38). -/
def Dev.slewSpent (d : Dev) : Dev :=
  { d with clock := { d.clock.move d.clock.left with left := 0, slew := 0 } }

/-- A TIME object's days and milliseconds as nanoseconds (R37). -/
def timeNs (days ms : Nat) : Nat := (days * 86400000 + ms) * 1000000

/-- A received TIME object, when the source is CAN TIME. -/
def Dev.timeTarget (d : Dev) (days ms : Nat) : Dev :=
  if d.getO 0x2100 0x08 = 1 then d.clockOffset ((timeNs days ms : Int) - (d.clock.ns : Int)) else d

/-! ### The meanings -/

/-- SYNC_OUT_RELEASE (R458): a pulse whose line starts have come, or whose rod has stopped, ends; the ball is released when
no other pulse holds it. -/
def execSyncOutRelease (ball : Nat) (s : State) : Host.Outcome State Fault Refusal :=
  act (onUnit ball 2 (fun d =>
    let left := d.abacus.pulses.filter (fun p => !(p.ball == ball && p.lines == 0))
    let held := left.any (fun p => p.ball == ball)
    { d with abacus := { d.abacus with
        pulses := left
        syncLow := if held then d.abacus.syncLow else setBits d.abacus.syncLow ball 1 0 } })) s

/-- The free VTOTAL or the free line period of a free rod (R21): the object takes the value, and a running rod uses it from
its next line 0. -/
def execFreeRodTimingWrite (who : Init) (rod sub value : Nat) (s : State) : Host.Outcome State Fault Refusal :=
  actServed (onUnit rod 12 (fun d =>
    if sub = 6 ∨ sub = 7 then d.request who (rodIndex rod) sub (numData (rodIndex rod) sub value)
      (Dev.plain (rodIndex rod) sub value) else d)) s

/-- The lock source of a rod (R22, Table 2-7). -/
def execLockSourceWrite (who : Init) (rod value : Nat) (s : State) : Host.Outcome State Fault Refusal :=
  actServed (onUnit rod 12 (fun d =>
    d.request who (rodIndex rod) 0x0A (numData (rodIndex rod) 0x0A value) (lockSourceVerdict rod value))) s

/-- A reference event reaches a rod with a lock source (R23, R24). -/
def execLockReferenceEvent (rod : Nat) (phaseNs trimNeeded : Int) (s : State) : Host.Outcome State Fault Refusal :=
  act (onUnit rod 12 (fun d => d.lockEvent rod phaseNs trimNeeded)) s

/-- The reference is absent: Acquire and Track go to Holdover with the last trim (R24). -/
def execLockReferenceAbsent (rod : Nat) (s : State) : Host.Outcome State Fault Refusal :=
  act (onUnit rod 12 (fun d => d.lockAbsent rod)) s

/-- The holdover time expires: to Free, the trim slewing to 0 (R24). -/
def execHoldoverExpiry (rod : Nat) (s : State) : Host.Outcome State Fault Refusal :=
  act (onUnit rod 12 (fun d => d.lockExpired rod)) s

/-- A write of a bead word (R26, R28, R29). -/
def execBeadWordWrite (who : Init) (slot value : Nat) (s : State) : Host.Outcome State Fault Refusal :=
  actServed (onUnit slot 512 (fun d =>
    d.request who (beadIndex slot) (wordSub slot) (numData (beadIndex slot) (wordSub slot) value)
      (beadWordVerdict slot value))) s

/-- A write of an action word (R27, R28). -/
def execActionWordWrite (who : Init) (slot value : Nat) (s : State) : Host.Outcome State Fault Refusal :=
  actServed (onUnit slot 512 (fun d =>
    d.request who (beadIndex slot) (wordSub slot + 1) (numData (beadIndex slot) (wordSub slot + 1) value)
      (actionWordVerdict slot value))) s

/-- The clock offset from the selected source (R37, R38). -/
def execClockOffsetWrite (who : Init) (value : Int) (s : State) : Host.Outcome State Fault Refusal :=
  actServed (fun d => d.request who 0x2100 0x09 (intData 0x2100 0x09 value) (fun d => .ok (d.clockOffset value))) s

/-- The rate trim from the selected source takes effect at once (R37, R38). -/
def execRateTrimWrite (who : Init) (value : Int) (s : State) : Host.Outcome State Fault Refusal :=
  actServed (fun d => d.request who 0x2100 0x0A (intData 0x2100 0x0A value)
    (fun d => .ok (d.setI 0x2100 0x0A 32 value))) s

/-- The offset being slewed out is spent: the addition returns to 0 (R38). -/
def execOffsetSlewSpent (s : State) : Host.Outcome State Fault Refusal :=
  act (fun d => d.slewSpent) s

end Sys2Proof.Machine
end

