-- ==== Sys2Proof/Machine/Codes.lean ====
section
/-! DEFINITION. The two codes of stored data as arithmetic on bytes: code S (R334), code L (R335) and poison (R338); and the
CRC engine of the Nines units, which is also the CRC-32C of the dictionary, the recorder, the Registry, the store and the
courier link (R350, Table 18-2). -/

namespace Sys2Proof.Machine

/-! ### GF(2^8) with polynomial 11Dh -/

/-- Multiplication by x. -/
def gfDouble (a : Nat) : Nat := if a < 128 then 2 * a else (2 * a) ^^^ 0x11D

/-- Multiplication, over the low `n` bits of the second factor. -/
def gfMulBits : Nat → Nat → Nat → Nat
  | 0, _, _ => 0
  | n + 1, a, b => (if b % 2 = 1 then a else 0) ^^^ gfMulBits n (gfDouble a) (b / 2)

/-- Multiplication in the field. -/
def gfMul (a b : Nat) : Nat := gfMulBits 8 a b

/-- Powers of α = 02h. -/
def gfPow : Nat → Nat
  | 0 => 1
  | n + 1 => gfDouble (gfPow n)

/-- The inverse of a nonzero element: its 254th power, by squaring. -/
def gfInv (a : Nat) : Nat :=
  let a2 := gfMul a a
  let a4 := gfMul a2 a2
  let a8 := gfMul a4 a4
  let a16 := gfMul a8 a8
  let a32 := gfMul a16 a16
  let a64 := gfMul a32 a32
  let a128 := gfMul a64 a64
  gfMul a128 (gfMul a64 (gfMul a32 (gfMul a16 (gfMul a8 (gfMul a4 a2)))))

/-! ### Code S (R334) -/

/-- The remainder as the data bytes come in, c0 first. -/
def rsStep (c : Nat × Nat × Nat × Nat) (d : Nat) : Nat × Nat × Nat × Nat :=
  let f := d ^^^ c.1
  (c.2.1 ^^^ gfMul f 0x0F, c.2.2.1 ^^^ gfMul f 0x36, c.2.2.2 ^^^ gfMul f 0x78, gfMul f 0x40)

/-- The four check bytes of a 32-byte sector. -/
def rsCheck (data : List Byte) : List Byte :=
  let c := data.foldl (fun c b => rsStep c b.toNat) (0, 0, 0, 0)
  [BitVec.ofNat 8 c.1, BitVec.ofNat 8 c.2.1, BitVec.ofNat 8 c.2.2.1, BitVec.ofNat 8 c.2.2.2]

/-- The syndrome S_j = r(α^j) of 36 stored bytes. -/
def rsSyndrome (bytes : List Byte) (j : Nat) : Nat :=
  bytes.foldl (fun acc b => gfMul acc (gfPow j) ^^^ b.toNat) 0

/-- What a read of a protected unit finds (R334, R335, R338). -/
inductive Decoded where
  | good
  | corrected (data : List Byte)
  | poisoned
  | uncorrectable
  deriving DecidableEq, Repr

/-- The pattern that poisons a sector (R338). -/
def poisonS : List Byte := [0x5A, 0xA5, 0x3C, 0xC3]

/-- Byte-wise XOR. -/
def xorBytes (a b : List Byte) : List Byte := (a.zip b).map (fun p => p.1 ^^^ p.2)

/-- The locator α^(35 - k) of the stored byte `k`. -/
def rsLocator (k : Nat) : Nat := gfPow (35 - k)

/-- The stored byte `k` with an error value taken out. -/
def flipByte (bytes : List Byte) (k e : Nat) : List Byte :=
  (bytes.zip (List.range bytes.length)).map (fun p => if p.2 = k then p.1 ^^^ BitVec.ofNat 8 e else p.1)

/-- A correction of one byte, if the syndromes are those of one error. -/
def rsOne (s0 s1 s2 s3 : Nat) : Option (Nat × Nat) :=
  ((List.range 36).find? (fun k =>
    let x := rsLocator k
    s0 ≠ 0 && s1 = gfMul s0 x && s2 = gfMul s1 x && s3 = gfMul s2 x)).map (fun k => (k, s0))

/-- A correction of two bytes, if the syndromes are those of two errors. -/
def rsTwo (s0 s1 s2 s3 : Nat) : Option (Nat × Nat × Nat × Nat) :=
  (List.range 36).findSome? (fun k1 => ((List.range 36).filter (fun k2 => k1 < k2)).findSome? (fun k2 =>
    let x1 := rsLocator k1
    let x2 := rsLocator k2
    let e1 := gfMul (s1 ^^^ gfMul s0 x2) (gfInv (x1 ^^^ x2))
    let e2 := s0 ^^^ e1
    if e1 ≠ 0 && e2 ≠ 0
        && s2 = gfMul e1 (gfMul x1 x1) ^^^ gfMul e2 (gfMul x2 x2)
        && s3 = gfMul e1 (gfMul x1 (gfMul x1 x1)) ^^^ gfMul e2 (gfMul x2 (gfMul x2 x2))
    then some (k1, e1, k2, e2) else none))

/-- The four syndromes of a word. -/
def rsSyndromes (bytes : List Byte) : List Nat := [0, 1, 2, 3].map (rsSyndrome bytes)

/-- The decoder of code S: 32 data bytes and 4 check bytes. -/
def rsDecode (data check : List Byte) : Decoded :=
  let bytes := data ++ check
  let s := rsSyndromes bytes
  if s.all (· == 0) then .good
  else if s == rsSyndromes (zeroBytes 32 ++ poisonS) then .poisoned
  else
    match rsOne (s.getD 0 0) (s.getD 1 0) (s.getD 2 0) (s.getD 3 0) with
    | some (k, e) => .corrected ((flipByte bytes k e).take 32)
    | none =>
      match rsTwo (s.getD 0 0) (s.getD 1 0) (s.getD 2 0) (s.getD 3 0) with
      | some (k1, e1, k2, e2) => .corrected ((flipByte (flipByte bytes k1 e1) k2 e2).take 32)
      | none => .uncorrectable

/-! ### Code L (R335) -/

/-- The number of ones of the low `n` bits. -/
def popCount : Nat → Nat → Nat
  | 0, _ => 0
  | n + 1, v => v % 2 + popCount n (v / 2)

/-- The columns in ascending order: the 10-bit values with at least two bits set. -/
def columns : List Nat := ((List.range 523).filter (fun v => 2 ≤ popCount 10 v))

/-- The bits of a line, bit (i mod 8) of byte i / 8 first. -/
def lineBits (data : List Byte) : List Bool :=
  data.flatMap (fun b => (List.range 8).map (fun k => b.toNat.testBit k))

/-- Bits 9:0 of the check word: the XOR of the columns of the ones. -/
def lineColumns (data : List Byte) : Nat :=
  ((lineBits data).zip columns).foldl (fun acc p => if p.1 then acc ^^^ p.2 else acc) 0

/-- The parity of all data bits. -/
def lineParity (data : List Byte) : Nat := (data.foldl (fun acc b => acc + popCount 8 b.toNat) 0) % 2

/-- The check word of a line, with a marker in bits 15:11. -/
def lineCheck (data : List Byte) (marker : Nat) : List Byte :=
  let c := lineColumns data
  let p := (lineParity data + popCount 10 c) % 2
  leBytes 2 (c + 1024 * p + 2048 * marker)

/-- A line with data bit `i` flipped. -/
def flipLineBit (data : List Byte) (i : Nat) : List Byte := flipByte data (i / 8) (2 ^ (i % 8))

/-- The decoder of code L: 64 data bytes and the two check bytes. -/
def lineDecode (data check : List Byte) : Decoded :=
  let w := leNat check
  let marker := popCount 5 (w / 2048)
  if 3 ≤ marker then .poisoned
  else
    let s := (w % 1024) ^^^ lineColumns data
    let p := (lineParity data + popCount 11 (w % 2048)) % 2
    if s = 0 ∧ p = 0 then (if marker = 0 then .good else .corrected data)
    else if p = 1 ∧ popCount 10 s ≤ 1 then .corrected data
    else if p = 1 then
      match (columns.take 512).findIdx? (· == s) with
      | some i => .corrected (flipLineBit data i)
      | none => .uncorrectable
    else .uncorrectable

/-! ### The CRC engine (R350) -/

/-- The low `n` bits of a number in reverse order. -/
def reflect : Nat → Nat → Nat
  | 0, _ => 0
  | n + 1, v => (v % 2) * 2 ^ n + reflect n (v / 2)

/-- One bit into a register of width `w`, most significant bit first. -/
def crcBit (w poly reg : Nat) (b : Bool) : Nat :=
  let top := reg.testBit (w - 1) != b
  ((2 * reg) % 2 ^ w) ^^^ (if top then poly % 2 ^ w else 0)

/-- One byte into the register; reflected input takes bit 0 first. -/
def crcByte (w poly : Nat) (refIn : Bool) (reg : Nat) (b : Byte) : Nat :=
  (List.range 8).foldl (fun r k => crcBit w poly r (b.toNat.testBit (if refIn then k else 7 - k))) reg

/-- The check value over bytes: initial value, reflection of input and output, and final XOR. -/
def crc (w poly init xorOut : Nat) (refIn refOut : Bool) (data : List Byte) : Nat :=
  let r := data.foldl (crcByte w poly refIn) (init % 2 ^ w)
  (if refOut then reflect w r else r) ^^^ (xorOut % 2 ^ w)

/-- CRC-32C over a 64-bit tag, least significant byte first, and then the data (R51, R359). -/
def crc32c (tag : Nat) (data : List Byte) : Nat :=
  crc 32 0x1EDC6F41 0xFFFFFFFF 0xFFFFFFFF true true (leBytes 8 tag ++ data)

end Sys2Proof.Machine
end

