-- ==== Sys2Proof/Machine/Registry.lean ====
section
/-! DEFINITION. The Registry: journaling an item, its states, capture of a completion, holding and re-issue, and the bytes
of an entry (R372 to R379). -/

namespace Sys2Proof.Machine

/-- The Registry is sealed (R379). -/
def Dev.regSealed (d : Dev) : Bool := d.getO 0x3000 0x02 == 1

/-- The bytes of an entry with its check (Table 20-2, R374). -/
def regBytes (index : Nat) (e : RegEntry) : List Byte :=
  let flags := (if e.replay then 1 else 0) + (if e.replayed then 2 else 0) + (if e.ring.isSome then 4 else 0)
    + (if e.host then 8 else 0)
  let ring := match e.ring with
    | some r => 128 + r % 8
    | none => 0
  let body := leBytes 1 e.kind ++ leBytes 1 e.state ++ leBytes 1 flags ++ leBytes 1 e.owner ++ leBytes 2 e.generation
    ++ leBytes 2 e.unit ++ leBytes 8 e.block ++ leBytes 4 e.length ++ leBytes 4 e.sequence ++ leBytes 1 ring
    ++ leBytes 1 e.replays ++ leBytes 2 e.slot ++ leBytes 4 e.tag ++ leBytes 2 e.status ++ zeroBytes 6
    ++ leBytes 8 e.accepted ++ leBytes 8 e.issued ++ leBytes 8 e.result ++ leBytes 8 e.number
    ++ padTo 48 e.extra ++ zeroBytes 4
  if e.state = 0 then zeroBytes 128
  else body ++ leBytes 4 (crc32c (index + e.generation * 2 ^ 32) body)

/-- The entries in use, counted again for 3000h/03h and its high-water mark. -/
def Dev.regCounted (d : Dev) : Dev :=
  let n := d.registry.entries.length
  let d := d.setO 0x3000 0x03 n
  if d.getO 0x3000 0x0A < n then d.setO 0x3000 0x0A n else d

/-- An entry is free. -/
def Dev.regFree (d : Dev) (e : Nat) : Dev := (d.setReg e {}).regCounted

/-- The item that an entry listed has ended: the entry, where it had one, is free. -/
def Dev.regEnded (d : Dev) (entry : Option Nat) : Dev :=
  match entry with
  | some e => d.regFree e
  | none => d

/-- Work entries that an owner holds (R373). -/
def Dev.regHeld (d : Dev) (owner : Nat) : Nat :=
  (d.registry.entries.filter (fun p => p.1 < 16256 && p.2.owner == owner)).length

/-- Whether an item of an owner can be given a work entry (R373); a sealed Registry applies no back-pressure. -/
def Dev.regRoom (d : Dev) (owner : Nat) : Bool :=
  d.regSealed ||
    ((d.registry.entries.filter (fun p => p.1 < 16256)).length < 16256 &&
      (owner == 0 || d.regHeld owner < d.getO 0x3000 0x04))

/-- The lowest entry number from `lo` that the list, rising from `lo`, leaves free. -/
def firstFree : Nat → List Nat → Nat
  | lo, [] => lo
  | lo, e :: es => if e = lo then firstFree (lo + 1) es else lo

/-- An item is journaled (R372): its entry, or none when the Registry is sealed. The caller has checked `regRoom`. -/
def Dev.journal (d : Dev) (x : RegEntry) : Option Nat × Dev :=
  if d.regSealed then (none, d)
  else
    let lo := if x.kind = 8 ∨ x.kind = 9 then 16256 else 0
    let used := (d.registry.entries.map (fun p => p.1)).filter (fun e => lo ≤ e && (16256 ≤ lo || e < 16256))
    let e := firstFree lo used
    (some e, (d.setReg e { x with state := 1, accepted := d.clock.ns }).regCounted)

/-- An entry's item starts in its block (R375). -/
def Dev.regIssue (d : Dev) (entry : Option Nat) : Dev :=
  match entry with
  | none => d
  | some e => if (d.reg e).state = 1 then d.setReg e { d.reg e with state := 2, issued := d.clock.ns } else d

/-- The generation under which an item is issued now. -/
def Dev.regGeneration (d : Dev) (entry : Option Nat) : Nat :=
  match entry with
  | none => 0
  | some e => (d.reg e).generation

/-- A block reports a completion (R376): whether it is captured, and whether the item ran more than once. -/
def Dev.capture (d : Dev) (entry : Option Nat) (gen status result : Nat) : Bool × Bool × Dev :=
  match entry with
  | none => (true, false, d)
  | some e =>
    let x := d.reg e
    if d.regSealed then (true, x.replayed, d)
    else if (x.state = 1 ∨ x.state = 2) ∧ x.generation = gen then
      (true, x.replayed, d.setReg e { x with status := status, result := result, state := 4 })
    else (false, false, d.count 0x3000 0x08)

/-- The final status of an on-chip item has been written into its block: its entry is freed (Table 20-1). -/
def Dev.regDone (d : Dev) (entry : Option Nat) : Dev :=
  match entry with
  | none => d
  | some e => if (d.reg e).ring.isSome then d else d.regFree e

/-- A transient fault sends an Issued item to Held (Table 20-5); the result says whether it will wait there. Without an
entry (a sealed Registry) the item is lost (R379). -/
def Dev.regHold (d : Dev) (entry : Option Nat) : Bool × Dev :=
  match entry with
  | none => (false, d)
  | some e => if (d.reg e).state = 2 then (true, d.setReg e { d.reg e with state := 3 }) else ((d.reg e).state == 1, d)

/-- The reset of its block ends: a Held item is re-issued when it is replayable and below the replay limit (R375, R378);
otherwise, and whenever the Registry has sealed (R379), it is lost and completes with status 0022h. The result says whether it
runs again. -/
def Dev.regReissue (d : Dev) (entry : Option Nat) (replayable readable : Bool) : Bool × Dev :=
  match entry with
  | none => (false, d.count 0x3000 0x07)
  | some e =>
    let x := d.reg e
    if x.state = 3 && replayable && readable && !d.regSealed && x.replays < d.getO 0x3000 0x05 then
      (true, (d.setReg e { x with state := 2, generation := x.generation + 1, replays := x.replays + 1
                                  replayed := true, issued := d.clock.ns }).count 0x3000 0x06)
    else (false, (d.setReg e { x with state := if x.state = 3 then 2 else x.state }).count 0x3000 0x07)

/-- A transient fault is counted and logged in class 81h (R377). -/
def Dev.transientFault (d : Dev) (what unit : Nat) : Dev := (d.count 0x3000 0x0C).log 0x81 what 0xFF unit [unit]

/-- The Registry seals (R379): state, detail, event, EMCY FF02h. -/
def Dev.regSeal (d : Dev) (entry cause : Nat) : Dev :=
  if d.regSealed then d
  else
    let d := (d.setO 0x3000 0x02 1).setO 0x3000 0x0B (cause * 2 ^ 24 + entry % 16384)
    d.emergency 0xFF02 0x81 5 0x00 0xFF [cause, entry]

/-- The entries of one owner (3001h/01h). -/
def Dev.regOwners (d : Dev) : List Byte :=
  (List.range 128).flatMap (fun o => leBytes 2 (d.registry.entries.filter (fun p => p.2.owner == o)).length)

end Sys2Proof.Machine
end

