-- ==== Sys2Proof/Machine/Memory.lean ====
section
/-! DEFINITION. Memory: the address map (R16), the region controllers (R279 to R284), where a DRAM byte lies (R316 to R319),
what a protected access reads and writes (R332 to R341), ranks going out of service (R325), and the locked cache ways
(R330). -/

namespace Sys2Proof.Machine

/-! ### Regions (R280, R281, Table 14-3) -/

/-- The first address of the DRAM window. -/
def dramBase : Nat := 0x1000000000

/-- Region `r` of a target: its record's index. Targets: 0 DRAM, 1 secure SRAM, 2 flash. -/
def regionIndex (target r : Nat) : Nat :=
  (if target = 0 then 0x2A10 else if target = 1 then 0x2A30 else 0x2A38) + r

/-- How many regions a target has. -/
def regionCount (target : Nat) : Nat := if target = 0 then 32 else 8

def Dev.regBase (d : Dev) (t r : Nat) : Nat := d.getO (regionIndex t r) 1
def Dev.regLimit (d : Dev) (t r : Nat) : Nat := d.getO (regionIndex t r) 2
def Dev.regAttr (d : Dev) (t r : Nat) : Nat := d.getO (regionIndex t r) 3

/-- EN, CODE, ORDER, CHSET and OWNER of an attribute word. -/
def attrEn (a : Nat) : Bool := a.testBit 31
def attrCode (a : Nat) : Nat := bits a 29 2
def attrOrder (a : Nat) : Nat := bits a 27 2
def attrChset (a : Nat) : Nat := bits a 16 8
def attrOwner (a : Nat) : Nat := bits a 8 8

/-- The enabled region of a target that holds an address. -/
def Dev.regionOf (d : Dev) (t addr : Nat) : Option Nat :=
  (List.range (regionCount t)).find? (fun r =>
    attrEn (d.regAttr t r) && d.regBase t r ≤ addr && addr < d.regLimit t r)

/-- The bit of an owner code's class in RMASK and WMASK (R279): I 3, E 2, O 1, H 0. -/
def classBit (code : Nat) : Nat := if code = 0 then 3 else if code ≤ 0x1F then 2 else if code = 0x20 then 1 else 0

/-- An owner code is admitted by an attribute word (R282). -/
def admits (attr code : Nat) (write : Bool) : Bool :=
  attr.testBit ((if write then 4 else 0) + classBit code) &&
    (code == 0 || code == 0x20 || attrOwner attr == code || attrOwner attr == 0x20)

/-- Visible DRAM in bytes (R16, R315). -/
def Dev.visible (d : Dev) : Nat := d.getO 0x2C00 0x06 * 2 ^ 20

/-- The number of channels that an order-D region is pinned to. -/
def pinned (attr : Nat) : Nat := popCount 8 (attrChset attr)

/-- H of R332: the bytes a region holds. -/
def Dev.regCapacity (d : Dev) (r : Nat) : Nat :=
  let len := d.regLimit 0 r - d.regBase 0 r
  let a := d.regAttr 0 r
  if attrOrder a = 3 then len * pinned a / 8 else len

/-- The data size of a region of DRAM (Table 17-1). -/
def Dev.regData (d : Dev) (r : Nat) : Nat :=
  let h := d.regCapacity r
  match attrCode (d.regAttr 0 r) with
  | 0 => 256 * (h / 288)
  | 1 => 4096 * (h / 4224)
  | _ => h

/-- Which target's controller guards an address, or how else the address map treats it (Table 1-7). -/
inductive Guarded where
  | region (target : Nat)          -- 0 DRAM, 1 secure SRAM, 2 flash
  | rom                            -- boot ROM, read-only: any initiator reads it (DESIGN CHOICE, assumption log 73)
  | hapticRom                      -- haptic effect library, read-only: the island, and the sense domain's own reads
  | island                         -- island only: its TCM and the Registry
  | recorder                       -- read by I, E and O
  | window                         -- system cache direct window
  | none                           -- no access from a memory initiator
  deriving DecidableEq, Repr

/-- The address map (R16). Control spaces and doorbell pages take no DMA access (R45). -/
def guardOf (addr : Nat) : Guarded :=
  if addr < 0x40000 then .rom
  else if 0x80000 ≤ addr && addr < 0x100000 then .hapticRom
  else if 0x1000000 ≤ addr && addr < 0x1100000 then .island
  else if 0x2000000 ≤ addr && addr < 0x2200000 then .region 1
  else if 0x3000000 ≤ addr && addr < 0x3200000 then .island
  else if 0x4000000 ≤ addr && addr < 0x4100000 then .recorder
  else if 0x40000000 ≤ addr && addr < 0x48000000 then .region 2
  else if 0x80000000 ≤ addr && addr < 0x82000000 then .window
  else if 0x1000000000 ≤ addr && addr < 0x1800000000 then .region 0
  else .none

/-! ### Locked cache ways (R330) -/

/-- The ways of a mask in ascending order. -/
def waysOf (mask : Nat) : List Nat := (List.range 16).filter (fun w => mask.testBit w)

/-- Bytes of a way: 2 MiB. -/
def waySize : Nat := 0x200000

/-- The key in memory of byte `x` of a locked way. -/
def wayKey (way x : Nat) : Nat := 2 ^ 41 + way * waySize + x

/-- The locked partition whose range holds a DRAM address, and the key there. -/
def Dev.lockedKey (d : Dev) (addr : Nat) : Option Nat :=
  (List.range 16).findSome? (fun k =>
    let i := 0x2C41 + k
    let ways := waysOf (d.getO i 3)
    let base := d.getO i 5
    if d.getO i 1 = 1 && d.getO i 4 = 1 && base ≠ 0 && base ≤ addr && addr < base + ways.length * waySize then
      some (wayKey (ways.getD ((addr - base) / waySize) 0) ((addr - base) % waySize))
    else none)

/-- The DRAM address that a byte of the direct window stands for, if its way is locked. -/
def Dev.windowAddress (d : Dev) (addr : Nat) : Option Nat :=
  let way := (addr - 0x80000000) / waySize
  (List.range 16).findSome? (fun k =>
    let i := 0x2C41 + k
    let ways := waysOf (d.getO i 3)
    if d.getO i 1 = 1 && d.getO i 4 = 1 && d.getO i 5 ≠ 0 then
      (ways.findIdx? (· == way)).map (fun n => d.getO i 5 + n * waySize + (addr - 0x80000000) % waySize)
    else none)

/-! ### Where a DRAM byte lies (R316 to R319) -/

/-- The rank remap table at boot (Table 16-2) with `s` spares: entry 8 × logical rank + eighth. -/
def remapBoot (s entry : Nat) : Nat :=
  let l := entry / 8
  let e := entry % 8
  let used (p q : Nat) : Nat := 128 + 8 * p + q
  if s = 0 then used l e
  else if s = 1 then
    (if l % 2 = 1 ∧ e = 7 then 0 else if l = 15 then used (2 * e + 1) 7 else used l e)
  else
    (if l % 2 = 1 ∧ 6 ≤ e then 0 else if l = 13 then used (2 * e + 1) 6
     else if l = 15 then used (2 * e + 1) 7 else used l e)

/-- The rank remap table, 2C00h/0Dh. -/
def Dev.remapTable (d : Dev) : List Byte :=
  if d.hasB 0x2C00 0x0D then d.getB 0x2C00 0x0D
  else (List.range 128).map (fun e => BitVec.ofNat 8 (remapBoot (d.getO 0x2C00 0x04) e))

/-- Entry of the remap table for a logical rank and eighth. -/
def Dev.remapEntry (d : Dev) (entry : Nat) : Nat :=
  if d.hasB 0x2C00 0x0D then (byteAt (d.getB 0x2C00 0x0D) entry).toNat else remapBoot (d.getO 0x2C00 0x04) entry

/-- Channel, column, bank and row bits 2:0 of a position within a block, in orders A, B and C (Table 16-1). `r3` is row
bit 3. -/
def orderFields (order b r3 : Nat) : Nat × Nat × Nat × Nat :=
  let row := bits b 18 3
  match order with
  | 0 => (bits b 6 3, bits b 9 5, bits b 14 4, row)
  | 1 => (bits b 6 3 ^^^ bits b 9 3, bits b 9 5, bits b 14 4 ^^^ (8 * r3 + row), row)
  | _ => (bits b 6 3, bits b 13 5, bits b 9 4, row)

/-- The position within a block of a channel, column, bank and row bits 2:0: the other way round. -/
def orderPlace (order chan col bank row byte r3 : Nat) : Nat :=
  match order with
  | 0 => byte + 2 ^ 6 * chan + 2 ^ 9 * col + 2 ^ 14 * bank + 2 ^ 18 * row
  | 1 => byte + 2 ^ 6 * (chan ^^^ (col % 8)) + 2 ^ 9 * col + 2 ^ 14 * (bank ^^^ (8 * r3 + row)) + 2 ^ 18 * row
  | _ => byte + 2 ^ 6 * chan + 2 ^ 9 * bank + 2 ^ 13 * col + 2 ^ 18 * row

/-- A physical location as a key of memory: rank, eighth, row bits 12:0, bank, column, byte. -/
def dramKey (rank eighth row bank col byte : Nat) : Nat :=
  2 ^ 40 + (((((rank * 8 + eighth) * 8192 + row) * 16 + bank) * 32 + col) * 64 + byte)

/-- The `n`-th set bit of a channel set, counted from bit 0. -/
def nthSet (mask n : Nat) : Nat := ((List.range 8).filter (fun c => mask.testBit c)).getD n 0

/-- The order in which an address of region `r` is decoded: a block already done by a running remap has the new order
(R328). -/
def Dev.orderAt (d : Dev) (r addr : Nat) : Nat :=
  match d.dram.remaps with
  | m :: _ => if m.region = r ∧ (addr - d.regBase 0 r) / waySize < d.getO (0x2C20 + r) 4 then m.order
              else attrOrder (d.regAttr 0 r)
  | [] => attrOrder (d.regAttr 0 r)

/-- The location of a byte from its high bits `o` and its place in the block. -/
def Dev.placed (d : Dev) (o chan col bank row byte : Nat) : Option Nat :=
  let e := d.remapEntry (8 * (2 * chan + bits o 34 1) + bits o 31 3)
  if e < 128 then none
  else some (dramKey (bits e 3 4) (e % 8) (8 * bits o 21 10 + row) bank col byte)

/-- The key of a DRAM byte (R316 to R319); `none` where no location holds it. -/
def Dev.locate (d : Dev) (addr : Nat) : Option Nat :=
  let o := addr - dramBase
  if addr < dramBase ∨ d.visible ≤ o then none
  else
    match d.regionOf 0 addr with
    | none => none
    | some r =>
      let order := d.orderAt r addr
      if order = 3 then
        let a := d.regAttr 0 r
        let c := pinned a
        let u := addr - d.regBase 0 r
        if d.regCapacity r ≤ u then none
        else
          let q := u / (c * 0x40000)
          let v := u % (c * 0x40000)
          let chan := nthSet (attrChset a) (v / 64 % c)
          let p := v / (64 * c) * 64 + v % 64
          d.placed (d.regBase 0 r - dramBase + q * waySize) chan (bits p 6 5) (bits p 11 4) (bits p 15 3) (p % 64)
      else
        let f := orderFields order (o % waySize) (bits o 21 1)
        d.placed o f.1 f.2.1 f.2.2.1 f.2.2.2 (o % 64)

/-- The physical rank of a key. -/
def keyRank (key : Nat) : Nat := bits key 31 4

/-- The device address that a DRAM key holds now. -/
def Dev.unlocate (d : Dev) (key : Nat) : Option Nat :=
  let rank := keyRank key
  let eighth := bits key 28 3
  let row := bits key 15 13
  let bank := bits key 11 4
  let col := bits key 6 5
  match (List.range 128).find? (fun e => d.remapEntry e == 128 + 8 * rank + eighth) with
  | none => none
  | some e =>
    let lr := e / 8
    let chan := lr / 2
    let block := (lr % 2) * 2 ^ 34 + (e % 8) * 2 ^ 31 + row / 8 * 2 ^ 21
    match d.regionOf 0 (dramBase + block) with
    | none => none
    | some r =>
      let order := d.orderAt r (dramBase + block)
      if order = 3 then
        let a := d.regAttr 0 r
        let c := pinned a
        let q := (dramBase + block - d.regBase 0 r) / waySize
        let p := col * 64 + bank * 2 ^ 11 + (row % 8) * 2 ^ 15 + key % 64
        match ((List.range 8).filter (fun k => (attrChset a).testBit k)).findIdx? (· == chan) with
        | some n => some (d.regBase 0 r + q * (c * 0x40000) + p / 64 * (64 * c) + n * 64 + p % 64)
        | none => none
      else some (dramBase + block + orderPlace order chan col bank (row % 8) (key % 64) (row / 8 % 2))

/-! ### Raw bytes -/

/-- The byte at a key of memory; what nothing has written reads 00h (assumption log 6). -/
def Dev.rawGet (d : Dev) (key : Nat) : Byte := tabGet 0 d.mem key

/-- The canonical form of a memory: addresses rise strictly, and no listed byte is the one that an unlisted address reads as. -/
def Memory.wf (m : Tab Byte) : Bool := tabWf 0 m

/-- A byte of memory is written. -/
def Dev.rawSet (d : Dev) (key : Nat) (b : Byte) : Dev := { d with mem := tabSet 0 d.mem key b }

/-- The key of any byte of the device's memory that is not a control space. -/
def Dev.keyOf (d : Dev) (addr : Nat) : Option Nat :=
  match guardOf addr with
  | .none => none
  | .window => (d.windowAddress addr).bind d.lockedKey
  | .region 0 => match d.lockedKey addr with
    | some k => some k
    | none => d.locate addr
  | _ => some addr

/-- The byte at a device address, whatever guards it. -/
def Dev.byte (d : Dev) (addr : Nat) : Byte :=
  if 0x3000000 ≤ addr && addr < 0x3200000 then
    let e := (addr - 0x3000000) / 128
    byteAt (regBytes e (d.reg e)) (addr % 128)
  else
    match d.keyOf addr with
    | some k => d.rawGet k
    | none => 0

/-- Bytes from a device address, whatever guards them. -/
def Dev.bytesAt (d : Dev) (addr n : Nat) : List Byte := (List.range n).map (fun k => d.byte (addr + k))

/-- The key in a rank under carry also goes to the target rank (R326). -/
def Dev.mirrorKey (d : Dev) (key : Nat) : Option Nat :=
  match d.dram.carry with
  | some c => if 2 ^ 40 ≤ key ∧ key < 2 ^ 41 ∧ keyRank key = c.source then
      some (setBits key 31 4 c.target) else none
  | none => none

/-- A byte is put at a device address, whatever guards it. -/
def Dev.putByte (d : Dev) (addr : Nat) (b : Byte) : Dev :=
  match d.keyOf addr with
  | none => d
  | some k =>
    match d.mirrorKey k with
    | some m => (d.rawSet k b).rawSet m b
    | none => d.rawSet k b

/-- Bytes are put from a device address. -/
def Dev.putBytes (d : Dev) (addr : Nat) : List Byte → Dev
  | [] => d
  | b :: bs => (d.putByte addr b).putBytes (addr + 1) bs

/-! ### Committed blocks of the flash (R63, R404) -/

/-- The bytes of a bank from an address, unlisted ones 00h. -/
def tabBytes : Nat → Nat → Tab Byte → List Byte
  | 0, _, _ => []
  | n + 1, a, [] => 0 :: tabBytes n (a + 1) []
  | n + 1, a, (k, b) :: t => if k = a then b :: tabBytes n (a + 1) t else 0 :: tabBytes n (a + 1) ((k, b) :: t)

/-- Bytes of the flash. -/
def Dev.flashBytes (d : Dev) (base n : Nat) : List Byte :=
  tabBytes n base (d.mem.filter (fun p => base ≤ p.1 && p.1 < base + n))

/-- Bytes of the flash are programmed. -/
def Dev.flashPut (d : Dev) (base : Nat) (data : List Byte) : Dev :=
  { d with mem := (data.zip (List.range data.length)).foldl (fun m p => tabSet 0 m (base + p.2) p.1) d.mem }

/-- What an area of the flash held is gone. -/
def Dev.flashErase (d : Dev) (base size : Nat) : Dev :=
  { d with mem := d.mem.filter (fun p => !(base ≤ p.1 && p.1 < base + size)) }

/-- The magic of a block, and a commit word that is still to be written (erased flash reads FFh: PRESUMED, log 11). -/
def blockMagic : Nat := 0x54535850
def notCommitted : Nat := 0xFFFFFFFF

/-- The bytes of a block (Table 3-11) with a commit word. -/
def blockBytes (gen commit : Nat) (body : List Byte) : List Byte :=
  leBytes 4 blockMagic ++ leBytes 4 gen ++ leBytes 4 body.length ++ leBytes 2 1 ++ leBytes 2 0x00B0
    ++ leBytes 4 (crc32c gen body) ++ zeroBytes 8 ++ leBytes 4 commit ++ body

/-- A block in an area of the flash is valid when its magic, its commit word and its CRC match: its generation and body. -/
def Dev.blockAt (d : Dev) (base size : Nat) : Option (Nat × List Byte) :=
  let h := d.flashBytes base 32
  let gen := field h 4 4
  let n := field h 8 4
  if field h 0 4 ≠ blockMagic ∨ field h 28 4 ≠ gen ∨ size < 32 + n then none
  else
    let body := d.flashBytes (base + 32) n
    if field h 16 4 = crc32c gen body then some (gen, body) else none

/-- Generation `a` is newer than `b` (R63). -/
def newer (a b : Nat) : Bool := (a + 2 ^ 32 - b) % 2 ^ 32 < 2 ^ 31

/-- Of two areas of `size` bytes, one behind the other, the one that holds the newest valid block, its generation and body. -/
def Dev.newestBlock (d : Dev) (base size : Nat) : Option (Nat × Nat × List Byte) :=
  match d.blockAt base size, d.blockAt (base + size) size with
  | none, none => none
  | some a, none => some (0, a)
  | none, some b => some (1, b)
  | some a, some b => if newer b.1 a.1 then some (1, b) else some (0, a)

/-- Of `n` areas of `size` bytes, one behind the other, the one that holds the newest valid block, its generation and body. -/
def Dev.newestOf (d : Dev) (base size n : Nat) : Option (Nat × Nat × List Byte) :=
  (List.range n).foldl (fun best k =>
    match d.blockAt (base + k * size) size, best with
    | none, _ => best
    | some a, none => some (k, a)
    | some a, some b => if newer a.1 b.2.1 then some (k, a) else best) none

/-- The body and the header of a block are written, its commit word not yet. -/
def Dev.beginBlock (d : Dev) (base size gen : Nat) (body : List Byte) : Dev :=
  (d.flashErase base size).flashPut base (blockBytes gen notCommitted body)

/-- The commit word is written. -/
def Dev.sealBlock (d : Dev) (base gen : Nat) : Dev := d.flashPut (base + 28) (leBytes 4 gen)

/-- A block replaces the older of two, and is committed. -/
def Dev.replaceBlock (d : Dev) (base size : Nat) (body : List Byte) : Dev :=
  let (slot, gen) := match d.newestBlock base size with
    | some (s, g, _) => (1 - s, (g + 1) % 2 ^ 32)
    | none => (0, 1)
  (d.beginBlock (base + slot * size) size gen body).sealBlock (base + slot * size) gen

/-! ### Boot control and the retired list (Table 23-1, R348) -/

def bootControlBase : Nat := 0x47B10000
def retiredBase : Nat := 0x47B00000

/-- The boot control block in force: the newest valid copy; with none, slot A is preferred and valid (log 11). -/
def Dev.bootControl (d : Dev) : BootControl :=
  match d.newestBlock bootControlBase 0x8000 with
  | some (_, _, b) => { preferred := field b 0 1 % 2, slotA := field b 1 1, slotB := field b 2 1, training := field b 3 1 == 1 }
  | none => {}

/-- The boot control block is replaced, in the order of R63. -/
def Dev.setBootControl (d : Dev) (x : BootControl) : Dev :=
  if x = d.bootControl then d
  else d.replaceBlock bootControlBase 0x8000
    (leBytes 1 x.preferred ++ leBytes 1 x.slotA ++ leBytes 1 x.slotB ++ leBytes 1 (if x.training then 1 else 0))

/-- The state of a firmware slot. -/
def Dev.fwSlot (d : Dev) (s : Nat) : Nat := if s = 0 then d.bootControl.slotA else d.bootControl.slotB

/-- The saved list of retired frames: a block of four bytes a frame. -/
def Dev.savedRetired (d : Dev) : List Nat :=
  match d.newestBlock retiredBase 0x8000 with
  | some (_, _, b) => (List.range (b.length / 4)).map (fun k => field b (4 * k) 4)
  | none => []

/-- The list is saved. -/
def Dev.saveRetired (d : Dev) (l : List Nat) : Dev := d.replaceBlock retiredBase 0x8000 (l.flatMap (fun f => leBytes 4 f))

/-! ### Admission (R282) -/

/-- The first byte of an access that is not admitted (R16, R282). The rule gives the boot ROM's guard as "fixed" and names no
reader: every initiator reads it (DESIGN CHOICE, assumption log 73). DRAM that is not trained, or in self-refresh in
Keep-alive, admits no access but to locked ways (DEDUCED, assumption log 73). -/
def Dev.refusedAt (d : Dev) (code : Nat) (write : Bool) : Nat → Nat → Nat → Option Nat
  | 0, addr, n => if n = 0 then none else some addr
  | fuel + 1, addr, n =>
    let next (top : Nat) : Option Nat :=
      d.refusedAt code write fuel (addr + min n (top - addr)) (n - min n (top - addr))
    if n = 0 then none
    else
      match guardOf addr with
      | .rom => if write then some addr else next 0x40000
      | .hapticRom => if write || code ≠ 0 then some addr else next 0x100000
      | .island => if code = 0 then next (if addr < 0x2000000 then 0x1100000 else 0x3200000) else some addr
      | .recorder => if write || 0x20 < code then some addr else next 0x4100000
      | .none => some addr
      | .window =>
        match d.windowAddress addr with
        | none => some addr
        | some a =>
          match d.regionOf 0 a with
          | none => some addr
          | some r =>
            if !(admits (d.regAttr 0 r) code write) then some addr
            else
              let k := min n (waySize - addr % waySize)
              d.refusedAt code write fuel (addr + k) (n - k)
      | .region t =>
        match d.regionOf t addr with
        | none => some addr
        | some r =>
          let top := if t = 0 then min (d.regLimit 0 r) (d.regBase 0 r + d.regData r) else d.regLimit t r
          if !(admits (d.regAttr t r) code write) || (t == 2 && write) || top ≤ addr
              || (t == 0 && !(d.dram.trained && d.awake) && (d.lockedKey addr).isNone) then some addr
          else
            let k := min n (top - addr)
            d.refusedAt code write fuel (addr + k) (n - k)

/-- The whole access is admitted. -/
def Dev.admitted? (d : Dev) (code : Nat) (write : Bool) (addr n : Nat) : Bool := (d.refusedAt code write 64 addr n).isNone

/-- A refusal is counted and recorded by the controller in front of the address (R282). -/
def Dev.recordRefusal (d : Dev) (code : Nat) (write : Bool) (addr : Nat) : Dev :=
  match guardOf addr with
  | .region t =>
    let d := d.count 0x2A00 0x05
    let d := match d.regionOf t addr with
      | some r => d.count (regionIndex t r) 4
      | none => d
    (d.setO 0x2A00 0x06 addr).setO 0x2A00 0x07 (256 * code + 16 * t + (if write then 1 else 0))
  | .window =>
    ((d.count 0x2A00 0x05).setO 0x2A00 0x06 addr).setO 0x2A00 0x07 (256 * code + (if write then 1 else 0))
  | _ => d

/-! ### Ranks out of service (R325, Table 16-4) -/

def Dev.rankState (d : Dev) (p : Nat) : Nat := d.getO (0x2C10 + p) 1

/-- A rank's state is set, and the spares left are counted again (2C00h/05h). -/
def Dev.setRank (d : Dev) (p st : Nat) : Dev :=
  let d := d.setO (0x2C10 + p) 1 st
  d.setO 0x2C00 0x05 ((List.range 16).filter (fun q => d.rankState q == 1)).length

/-- The lowest-numbered spare. -/
def Dev.lowestSpare (d : Dev) : Option Nat := (List.range 16).find? (fun q => d.rankState q == 1)

/-- A carry of rank `p` starts, or the rank becomes Degraded when no spare is left. -/
def Dev.startCarry (d : Dev) (p : Nat) : Dev :=
  match d.lowestSpare with
  | some t =>
    let d := (d.setRank p 3).setRank t 4
    let d := { d with dram := { d.dram with carry := some { source := p, target := t } } }
    let d := (d.setO 0x2C00 0x0E 1).setO 0x2C00 0x0F 0
    let d := match d.dram.remaps with
      | m :: _ => if d.getO (0x2C20 + m.region) 3 = 2 then d.setO (0x2C20 + m.region) 3 3 else d
      | [] => d
    d.emergency 0xFF04 0x61 1 0xFF p [p, t]
  | none => (d.setRank p 6).log 0x60 2 0xFF p [p]

/-- The ways that lie in no enabled partition (2C40h/03h). -/
def Dev.freeWays (d : Dev) : Nat :=
  (List.range 16).foldl (fun m k =>
    if d.getO (0x2C41 + k) 1 = 1 then m - (m &&& d.getO (0x2C41 + k) 3) else m) 0xFFFF

/-- The remap at the head of the queue runs: from its first block, with the highest free way as staging, or where it was
paused (R328). -/
def Dev.runRemap (d : Dev) (m : Remap) : Dev :=
  let i := 0x2C20 + m.region
  let d := if d.getO 0x2C40 4 ≠ 0xFF then d
    else
      let way := ((List.range 16).reverse.find? (fun w => d.freeWays.testBit w)).getD 0xFF
      (d.setO 0x2C40 4 way).setO i 4 0
  ((d.setO 0x2C00 0x0E 2).setO 0x2C00 0x0F (d.getO i 4 * waySize)).setO i 3 2

/-- The next waiting rank is taken up, or the engine goes back to the remap it paused, or idles. -/
def Dev.nextCarry (d : Dev) : Dev :=
  match d.dram.waiting with
  | p :: rest => ({ d with dram := { d.dram with waiting := rest } }).startCarry p
  | [] =>
    match d.dram.remaps with
    | m :: _ => d.runRemap m
    | [] => (d.setO 0x2C00 0x0E 0).setO 0x2C00 0x0F 0

/-- A rank is put out of service (R325). A target that fails is retired and its carry starts again on the next spare
(R326); a failing spare is retired. -/
def Dev.rankOut (d : Dev) (p : Nat) : Dev :=
  match d.rankState p with
  | 0 =>
    match d.dram.carry with
    | some _ => ({ d with dram := { d.dram with waiting := d.dram.waiting ++ [p] } }).setRank p 2
    | none => d.startCarry p
  | 4 =>
    let d := (d.setRank p 5).log 0x60 3 0xFF p [p]
    match d.dram.carry with
    | some c =>
      let d := { d with dram := { d.dram with carry := none } }
      let d := d.startCarry c.source
      if d.dram.carry.isNone then d.nextCarry else d
    | none => d
  | _ => d

/-! ### Reading and writing protected data (R336 to R341) -/

/-- The result of a read: the bytes; an uncorrectable or poisoned unit; or a refused access. -/
inductive MemRes where
  | ok (data : List Byte)
  | bad (addr : Nat)
  | refused (addr : Nat)
  deriving DecidableEq, Repr

/-- Bytes of a unit and of its check word, for code S (0) and L (1). -/
def unitSize (code : Nat) : Nat := if code = 0 then 32 else 64
def checkSize (code : Nat) : Nat := if code = 0 then 4 else 2

/-- The address of the check bytes of the unit at offset `x` (Table 17-1). -/
def Dev.checkAddr (d : Dev) (r code x : Nat) : Nat :=
  d.regBase 0 r + d.regData r + checkSize code * (x / unitSize code)

/-- The check bytes of a unit. -/
def checkBytes (code : Nat) (data : List Byte) : List Byte := if code = 0 then rsCheck data else lineCheck data 0

/-- The check bytes that poison a unit (R338). -/
def poisonBytes (code : Nat) (data : List Byte) : List Byte :=
  if code = 0 then xorBytes (rsCheck data) poisonS else lineCheck data 0x1F

/-- What the unit at offset `x` of region `r` holds. -/
def Dev.decodeUnit (d : Dev) (r code x : Nat) : Decoded :=
  let n := unitSize code
  let u := x / n * n
  let data := d.bytesAt (d.regBase 0 r + u) n
  let check := d.bytesAt (d.checkAddr r code u) (checkSize code)
  if code = 0 then rsDecode data check else lineDecode data check

/-- The physical rank of a byte of DRAM. -/
def Dev.rankOf (d : Dev) (addr : Nat) : Nat :=
  match d.locate addr with
  | some k => keyRank k
  | none => 0

/-- The region's record notes an error: its address and detail (Table 17-6). -/
def Dev.noteError (d : Dev) (r addr kind : Nat) : Dev :=
  (d.setO (0x2D10 + r) 7 addr).setO (0x2D10 + r) 8 (256 * d.rankOf addr + kind)

/-- A unit is written with its check bytes. -/
def Dev.writeUnit (d : Dev) (r code u : Nat) (data check : List Byte) : Dev :=
  (d.putBytes (d.regBase 0 r + u) data).putBytes (d.checkAddr r code u) check

/-- A unit is written poisoned; it counts and is logged (R338). -/
def Dev.writePoison (d : Dev) (r code u : Nat) (data : List Byte) : Dev :=
  let addr := d.regBase 0 r + u
  let d := d.writeUnit r code u data (poisonBytes code data)
  let d := (d.count (0x2D10 + r) 6).noteError r addr 4
  d.log 0x69 4 (attrOwner (d.regAttr 0 r)) r [addr]

/-- An uncorrectable read counts, and in a filled region reports the data's rank (R341). -/
def Dev.uncorrectable (d : Dev) (r addr : Nat) : Dev :=
  let d := (d.count (0x2D10 + r) 5).noteError r addr 2
  if d.getO (0x2D10 + r) 3 = 1 then
    let p := d.rankOf addr
    let d := d.count 0x2D00 0x0A
    (d.count (0x2C10 + p) 4).rankOut p
  else d

/-- A unit is read (R336, R339, R341): its data when it can be had. -/
def Dev.readUnit (d : Dev) (r code u : Nat) : Option (List Byte) × Dev :=
  let addr := d.regBase 0 r + u
  match d.decodeUnit r code u with
  | .good => (some (d.bytesAt addr (unitSize code)), d)
  | .corrected data =>
    let d := d.writeUnit r code u data (checkBytes code data)
    let d := (d.count 0x2D00 0x09).count (0x2D10 + r) 4
    (some data, d.noteError r addr 1)
  | .poisoned => (none, (d.count 0x2D00 0x0B).noteError r addr 3)
  | .uncorrectable => (none, d.uncorrectable r addr)

/-- How a run of bytes from an address is read: by the unit of its region's code, or as stored. -/
def Dev.protection (d : Dev) (addr : Nat) : Option (Nat × Nat) :=
  match guardOf addr with
  | .region 0 =>
    match d.lockedKey addr, d.regionOf 0 addr with
    | none, some r => let c := attrCode (d.regAttr 0 r); if c = 2 then none else some (r, c)
    | _, _ => none
  | _ => none

/-- The byte lies in the array word whose failure sealed the recorder: 2F00h/09h names it (R370). -/
def Dev.logWordFailed (d : Dev) (addr : Nat) : Bool :=
  d.getO 0x2F00 1 == 2 && 0x4000000 ≤ addr && (addr - 0x4000000) / 8 == d.getO 0x2F00 9 % 2 ^ 17

/-- The byte lies in a word that no read can be had from: of the recorder's array, or of the secure SRAM (Table 17-4). -/
def Dev.wordFailed (d : Dev) (addr : Nat) : Bool := d.logWordFailed addr || d.prot.badSram.contains (addr / 8 * 8)

/-- The byte that a read without a unit of protection gets. A slot of the log at or above the commit sequence holds undefined
content (R362): a free value (assumption log 57). -/
def Dev.plainByte (d : Dev) (addr : Nat) : Byte :=
  if 0x4000000 ≤ addr && addr < 0x4100000 && 32 * d.committed ≤ addr - 0x4000000 then Config.freeByte d.free addr
  else d.byte addr

/-- Bytes are read in order; the first unit that cannot be had ends the read. -/
def Dev.readLoop (d : Dev) : Nat → Nat → Nat → MemRes × Dev
  | 0, _, _ => (.ok [], d)
  | fuel + 1, addr, n =>
    if n = 0 then (.ok [], d)
    else
      match d.protection addr with
      | none =>
        if d.wordFailed addr then (.bad addr, d)
        else
          let (res, d') := d.readLoop fuel (addr + 1) (n - 1)
          match res with
          | .ok rest => (.ok (d.plainByte addr :: rest), d')
          | other => (other, d')
      | some (r, code) =>
        let x := addr - d.regBase 0 r
        let u := x / unitSize code * unitSize code
        let k := min n (unitSize code - x % unitSize code)
        match d.readUnit r code u with
        | (none, d) => (.bad (d.regBase 0 r + u), d)
        | (some data, d) =>
          let (res, d) := d.readLoop fuel (addr + k) (n - k)
          match res with
          | .ok rest => (.ok ((data.drop (x % unitSize code)).take k ++ rest), d)
          | other => (other, d)

/-- A memory initiator with an owner code reads `n` bytes (R282, R336, R340). -/
def Dev.memRead (d : Dev) (code addr n : Nat) : MemRes × Dev :=
  match d.refusedAt code false 64 addr n with
  | some a => (.refused a, d.recordRefusal code false a)
  | none => d.readLoop n addr n

/-- Part of a unit is written: the rest is read, decoded and merged, and the unit is poisoned when that read fails
(R337). -/
def Dev.mergeUnit (d : Dev) (r code u off : Nat) (bytes : List Byte) : Dev :=
  let n := unitSize code
  let addr := d.regBase 0 r + u
  let old := d.bytesAt addr n
  let merged (o : List Byte) := o.take off ++ bytes ++ o.drop (off + bytes.length)
  match d.readUnit r code u with
  | (some data, d) => d.writeUnit r code u (merged data) (checkBytes code (merged data))
  | (none, d) => d.writePoison r code u (merged old)

/-- Bytes are written in order, by the unit of the region's code. -/
def Dev.writeLoop (d : Dev) : Nat → Nat → List Byte → Dev
  | 0, _, _ => d
  | _, _, [] => d
  | fuel + 1, addr, b :: bs =>
    match d.protection addr with
    | none => (d.putByte addr b).writeLoop fuel (addr + 1) bs
    | some (r, code) =>
      let n := unitSize code
      let x := addr - d.regBase 0 r
      let u := x / n * n
      let k := min (bs.length + 1) (n - x % n)
      let part := (b :: bs).take k
      let d := if k = n then d.writeUnit r code u part (checkBytes code part) else d.mergeUnit r code u (x % n) part
      d.writeLoop fuel (addr + k) ((b :: bs).drop k)

/-- Words of the secure SRAM that a write covers whole read again (Table 17-4). -/
def Dev.mendWords (d : Dev) (addr n : Nat) : Dev :=
  if d.prot.badSram.isEmpty then d
  else { d with prot := { d.prot with badSram := d.prot.badSram.filter (fun a => !(addr ≤ a && a + 8 ≤ addr + n)) } }

/-- The island writes into the Registry's own array: an entry in use whose bytes change fails its check, and the Registry seals
(R379). DESIGN CHOICE (assumption log 58): the check is made at the write, and the bytes written are not kept. -/
def Dev.registryWrite (d : Dev) (addr : Nat) (bytes : List Byte) : Dev :=
  let entry (k : Nat) : Nat := (addr + k - 0x3000000) / 128
  match (List.range bytes.length).find? (fun k => (d.reg (entry k)).state != 0 && byteAt bytes k != d.byte (addr + k)) with
  | some k => d.regSeal (entry k) 2
  | none => d

/-- A memory initiator with an owner code writes bytes; a refused write changes nothing but the controller's record. -/
def Dev.memWrite (d : Dev) (code addr : Nat) (bytes : List Byte) : Bool × Dev :=
  match d.refusedAt code true 64 addr bytes.length with
  | some a => (false, d.recordRefusal code true a)
  | none =>
    if 0x3000000 ≤ addr && addr < 0x3200000 then (true, d.registryWrite addr bytes)
    else (true, (d.writeLoop bytes.length addr bytes).mendWords addr bytes.length)

/-- The access lies wholly in one region of a target that admits it (the condition of many owning chapters). -/
def Dev.inOneRegion (d : Dev) (code : Nat) (write : Bool) (addr n : Nat) : Bool :=
  match guardOf addr with
  | .region t =>
    match d.regionOf t addr with
    | some r =>
      let top := if t = 0 then min (d.regLimit 0 r) (d.regBase 0 r + d.regData r) else d.regLimit t r
      admits (d.regAttr t r) code write && addr + n ≤ top
    | none => false
  | _ => false

/-! ### Host memory -/

/-- The key of a byte of the memory behind a host port. -/
def hostKey (port addr : Nat) : Nat := 2 ^ 64 * port + addr % 2 ^ 64

/-- Bytes of host memory; what nothing has written reads 00h (assumption log 7). -/
def Dev.hostRead (d : Dev) (port addr n : Nat) : List Byte :=
  (List.range n).map (fun k => tabGet 0 d.hostMem (hostKey port (addr + k)))

/-- Bytes of host memory are written. -/
def Dev.hostWrite (d : Dev) (port addr : Nat) (bytes : List Byte) : Dev :=
  { d with
    hostMem := (bytes.zip (List.range bytes.length)).foldl
      (fun m p => tabSet 0 m (hostKey port (addr + p.2)) p.1) d.hostMem }

end Sys2Proof.Machine
end

