-- ==== Sys2Proof/Machine/Completion.lean ====
section
/-! DEFINITION. How work that a block took is completed: writes into host memory with their dirty marks (R276), the status
fields of a block (R105), the completion record of a ring (R267), and the capture by the Registry between them (R376). -/

namespace Sys2Proof.Machine

/-! ### Instances and rings -/

/-- An instance's own state beside its objects. -/
def Dev.inst (d : Dev) (i : Nat) : Instance := tabGet {} d.host.instances i

/-- An instance's own state is replaced. -/
def Dev.setInst (d : Dev) (i : Nat) (x : Instance) : Dev :=
  { d with host := { d.host with instances := tabSet {} d.host.instances i x } }

/-- A ring beside its objects. -/
def Dev.ring (d : Dev) (i r : Nat) : Ring := tabGet {} d.host.rings (8 * i + r)

/-- A ring is replaced. -/
def Dev.setRing (d : Dev) (i r : Nat) (x : Ring) : Dev :=
  { d with host := { d.host with rings := tabSet {} d.host.rings (8 * i + r) x } }

/-- An object of ring `r` of instance `i` (Table 13-11): the ring set record and the subindex s + k. -/
def ringIndex (i : Nat) : Nat := 0x2950 + i
def ringSub (r k : Nat) : Nat := 0x10 * (r + 1) + k

def Dev.ringState (d : Dev) (i r : Nat) : Nat := d.getO (ringIndex i) (ringSub r 1)
def Dev.ringE (d : Dev) (i r : Nat) : Nat := d.getO (ringIndex i) (ringSub r 4)

/-- The state of an instance (Table 13-8). -/
def Dev.instState (d : Dev) (i : Nat) : Nat := d.getO (0x2910 + i) 0x01

/-- The port of an instance (R260). -/
def instPort (i : Nat) : Nat := i / 32

/-- The instance can still reach its host: Present or Quiescing (R274, R275), and not in D3hot. -/
def Dev.instLinked (d : Dev) (i : Nat) : Bool := (d.instState i == 1 || d.instState i == 2) && !(d.inst i).d3hot

/-! ### Dirty logging (R276) -/

/-- DL_STATUS bits 2:0 as 2910h + i/0Dh shows them. -/
def DirtyLog.status (l : DirtyLog) : Nat :=
  l.active % 2 + (if l.logging then 2 else 0) + (if l.overrun then 4 else 0)

/-- An instance's dirty log is replaced, and its status object follows. -/
def Dev.setLog (d : Dev) (i : Nat) (l : DirtyLog) : Dev :=
  (d.setInst i { d.inst i with log := l }).setO (0x2910 + i) 0x0D l.status

/-- The 4 KiB page of a host address is marked in the active bitmap, or OVERRUN is set. -/
def Dev.markPage (d : Dev) (i page : Nat) : Dev :=
  let l := (d.inst i).log
  if !l.logging then d
  else
    let p := page - l.base / 4096
    if page < l.base / 4096 ∨ l.pages ≤ p then d.setLog i { l with overrun := true }
    else
      let a := (if l.active = 0 then l.map0 else l.map1) + p / 8
      let old := (byteAt (d.hostRead (instPort i) a 1) 0).toNat
      d.hostWrite (instPort i) a [BitVec.ofNat 8 (old ||| 2 ^ (p % 8))]

/-- A TLP takes the link of a port out of L1 and its substates (R269). -/
def Dev.linkUse (d : Dev) (p : Nat) : Dev :=
  let st := d.getO (0x2901 + p) 1
  if 3 ≤ st ∧ st ≤ 5 then d.setO (0x2901 + p) 1 2 else d

/-- The device writes host memory on an instance's behalf, and the pages are marked. -/
def Dev.hostWriteFor (d : Dev) (i addr : Nat) (bytes : List Byte) : Dev :=
  let d := (d.linkUse (instPort i)).hostWrite (instPort i) addr bytes
  if bytes.isEmpty then d
  else
    let first := addr / 4096
    let last := (addr + bytes.length - 1) / 4096
    (List.range (last + 1 - first)).foldl (fun d k => d.markPage i (first + k)) d

/-! ### A block and its status fields (R105, R266) -/

/-- The memory that holds a block's `n` bytes from an offset, as an access by the submitter: on the device, or in the host
memory of a ring's instance. -/
def Dev.readBlock (d : Dev) (it : Item) (off n : Nat) : MemRes × Dev :=
  match it.ring with
  | none => d.memRead it.code (it.block + off) n
  | some r => (.ok (d.hostRead (instPort r.inst) (it.block + off) n), d)

/-- Status fields are written into a block as an access by the submitter; a refused write is logged and changes nothing
(R105), and one that cannot be delivered is discarded (R275). -/
def Dev.writeBlock (d : Dev) (it : Item) (off : Nat) (bytes : List Byte) : Dev :=
  match it.ring with
  | none =>
    let (ok, d) := d.memWrite it.code (it.block + off) bytes
    if ok then d else d.log 0x1A 0x1401 it.code 0xFF [it.block + off]
  | some r =>
    if d.instLinked r.inst then d.hostWriteFor r.inst (it.block + off) bytes
    else d.count (0x2910 + r.inst) 0x0C

/-! ### The completion record (R267, Table 13-6) -/

/-- A record's bytes. -/
def recordBytes (ref : RingRef) (phase status seq result number : Nat) (refused replayed : Bool) : List Byte :=
  leBytes 2 status ++ leBytes 1 ref.opcode
    ++ leBytes 1 (phase % 2 + (if refused then 2 else 0) + (if replayed then 4 else 0))
    ++ leBytes 2 ref.slot ++ zeroBytes 2 ++ leBytes 4 seq ++ leBytes 4 ref.tag
    ++ leBytes 8 result ++ leBytes 8 number

/-- The ring shows disabled when every taken item of a disabled ring has its record (R273). The row that ends the disable
is RING_DISABLE_COMPLETE; nothing else ends it here. -/
def Ring.drained (x : Ring) : Bool := x.open_.isEmpty && x.waiting.isNone

/-- A ring gets the record of a taken entry: written to slot CQ_TAIL, CQ_TAIL advances, and the completion source is
posted. An instance that cannot be reached gets none, the completion is counted as discarded and its entry dropped. -/
def Dev.ringRecord (d : Dev) (ref : RingRef) (entry : Option Nat) (status seq result : Nat) (refused replayed : Bool) : Dev :=
  let i := ref.inst
  let r := ref.ring
  let x := d.ring i r
  let d := if refused then d.count (0x2910 + i) 0x0A else d
  if !(d.instLinked i) then
    let d := d.setRing i r { x with open_ := x.open_.filter (fun k => k != ref.slot) }
    let d := d.count (0x2910 + i) 0x0C
    d.regEnded entry
  else
    let e := d.ringE i r
    let number := x.number + 1
    let d := d.hostWriteFor i (d.getO (ringIndex i) (ringSub r 3) + 32 * x.cqTail)
      (recordBytes ref x.phase status seq result number refused replayed)
    let wraps := x.cqTail + 1 == e
    let d := d.setRing i r { x with
      cqTail := if wraps then 0 else x.cqTail + 1
      phase := if wraps then 1 - x.phase else x.phase
      number := number
      open_ := x.open_.filter (fun k => k != ref.slot)
      records := x.records ++ [(x.cqTail, match entry with | some e => e + 1 | none => 0)] }
    let d := match entry with
      | some e => d.setReg e { d.reg e with number := number }
      | none => d
    let d := d.count (0x2910 + i) 0x0B
    if ref.noPost then d else d.postNamed (ringIndex i) (ringSub r 5)

/-! ### Completion of an item (R376) -/

/-- An item completes once: its completion is captured, the fields of its block are written, and a ring gets its record or
the journal entry of an on-chip item is freed. A completion that is not captured writes nothing. -/
def Dev.completeItem (d : Dev) (it : Item) (fields : List (Nat × List Byte)) (status result : Nat) : Dev :=
  let (captured, replayed, d) := d.capture it.entry it.gen status result
  if !captured then d
  else
    let d := fields.foldl (fun d f => d.writeBlock it f.1 f.2) d
    match it.ring with
    | some ref => d.ringRecord ref it.entry status it.seq result false replayed
    | none => d.regDone it.entry

/-- The journal entry of an item (Tables 20-1 and 20-2). -/
def entryOf (kind : Nat) (it : Item) (unit length : Nat) (extra : List Byte) : RegEntry :=
  { kind := kind, replay := it.replay, host := it.ring.isSome, owner := it.code, unit := unit, block := it.block
    length := length, sequence := it.seq, ring := it.ring.map (fun r => r.ring)
    slot := (it.ring.map (fun r => r.slot)).getD 0, tag := (it.ring.map (fun r => r.tag)).getD 0, extra := extra }

/-- An item is journaled (R372); the item names its entry from then on. A ring item was journaled when its entry was taken,
and its entry gets what the block says. -/
def Dev.journalItem (d : Dev) (kind : Nat) (it : Item) (unit length : Nat) (extra : List Byte) : Item × Dev :=
  match it.entry with
  | some e =>
    let old := d.reg e
    (it, d.setReg e { entryOf kind it unit length extra with
      state := old.state, generation := old.generation, replays := old.replays, replayed := old.replayed
      accepted := old.accepted })
  | none =>
    let (e, d) := d.journal (entryOf kind it unit length extra)
    ({ it with entry := e, gen := 0 }, d)

/-- The item came from a ring that is being disabled: in its block it is treated as by that block's disable (R273). -/
def Dev.ringCancels (d : Dev) (it : Item) : Bool :=
  match it.ring with
  | some r => d.ringState r.inst r.ring == 3
  | none => false

/-! ### Submitting on chip (R102) -/

/-- A block that on-chip software submits: refused when the submitter cannot read and write it, or when the read meets bad
data; otherwise its bytes. -/
def Dev.readSubmitted (d : Dev) (code addr n : Nat) : Option (List Byte) × Dev :=
  if !(d.admitted? code false addr n && d.admitted? code true addr n) then (none, d)
  else
    match d.memRead code addr n with
    | (.ok data, d) => (some data, d)
    | (_, d) => (none, d)

/-- A handshake of an on-chip submit with the Registry (R373): refused for want of an entry, which is counted. -/
def Dev.submitRoom (d : Dev) (code : Nat) : Bool := d.regRoom code

end Sys2Proof.Machine
end

