-- ==== Sys2Proof/Machine/Fp.lean ====
section
/-! DEFINITION. Binary floating point as the GPU uses it (R175, R183): FP32 with denormals flushed to zero and the sign kept,
FP16 with denormals, rounding to nearest even, and the conversions to and from unorm values. -/

namespace Sys2Proof.Machine

/-- A floating-point value: ± m × 2^e, an infinity or a NaN. -/
inductive Fp where
  | nan
  | inf (neg : Bool)
  | num (neg : Bool) (m : Nat) (e : Int)
  deriving DecidableEq, Repr

/-- The value of FP32 bits; a denormal reads as a zero of its sign. -/
def Fp.of32 (v : Nat) : Fp :=
  let neg := v.testBit 31
  let e : Nat := v / 2 ^ 23 % 256
  let m : Nat := v % 2 ^ 23
  if e = 255 then (if m = 0 then .inf neg else .nan)
  else if e = 0 then .num neg 0 0
  else .num neg (2 ^ 23 + m) ((e : Int) - 150)

/-- The value of FP16 bits. -/
def Fp.of16 (v : Nat) : Fp :=
  let neg := v.testBit 15
  let e : Nat := v / 1024 % 32
  let m : Nat := v % 1024
  if e = 31 then (if m = 0 then .inf neg else .nan)
  else if e = 0 then .num neg m (-24)
  else .num neg (1024 + m) ((e : Int) - 25)

/-- A natural number divided by 2^n, rounded to nearest even. -/
def roundShift (m n : Nat) : Nat :=
  let q := m / 2 ^ n
  let r := m % 2 ^ n
  if n = 0 then m
  else if 2 ^ (n - 1) < r ∨ (r = 2 ^ (n - 1) ∧ q % 2 = 1) then q + 1 else q

/-- m × 2^e in units of 2^q, rounded to nearest even. -/
def quantum (m : Nat) (e q : Int) : Nat := if q ≤ e then m * 2 ^ (e - q).toNat else roundShift m (q - e).toNat

/-- The exponent of the leading one of m × 2^e. -/
def leading (m : Nat) (e : Int) : Int := e + (Nat.log2 m : Nat)

/-- The bits of a NaN result: a free value among the NaNs of a width (no rule names one). -/
def nan32 : Nat := 0x7F800001 + Config.nanPayload 32 % (2 ^ 23 - 1)
def nan16 : Nat := 0x7C01 + Config.nanPayload 16 % (2 ^ 10 - 1)

/-- FP32 bits: rounded to nearest even, a denormal result flushed to a zero of its sign. -/
def Fp.to32 : Fp → Nat
  | .nan => nan32
  | .inf neg => (if neg then 2 ^ 31 else 0) + 0x7F800000
  | .num neg m e =>
    let sign := if neg then 2 ^ 31 else 0
    if m = 0 then sign
    else
      let l := leading m e
      let q := quantum m e (l - 23)
      let (q, l) := if q = 2 ^ 24 then (2 ^ 23, l + 1) else (q, l)
      if l < -126 then sign
      else if 127 < l then sign + 0x7F800000
      else sign + (l + 127).toNat * 2 ^ 23 + (q - 2 ^ 23)

/-- FP16 bits: rounded to nearest even, denormals kept. -/
def Fp.to16 : Fp → Nat
  | .nan => nan16
  | .inf neg => (if neg then 0x8000 else 0) + 0x7C00
  | .num neg m e =>
    let sign := if neg then 0x8000 else 0
    if m = 0 then sign
    else
      let l := max (leading m e) (-14)
      let q := quantum m e (l - 10)
      -- a carry out of the mantissa moves the exponent by itself
      let bits := if leading m e < -14 then q else (l + 14).toNat * 1024 + q
      sign + min bits 0x7C00

/-- The same value with the sign of a FP32 operation's result rounded to FP32. -/
def Fp.round (a : Fp) : Fp := Fp.of32 a.to32

def Fp.negate : Fp → Fp
  | .nan => .nan
  | .inf n => .inf (!n)
  | .num n m e => .num (!n) m e

/-- The integer ± m × 2^(e - q) for a q not above e. -/
def fixed (neg : Bool) (m : Nat) (e q : Int) : Int :=
  let v : Int := (m * 2 ^ (e - q).toNat : Nat)
  if neg then -v else v

/-- An exact sum. -/
def Fp.plus (a b : Fp) : Fp :=
  match a, b with
  | .nan, _ | _, .nan => .nan
  | .inf n, .inf n' => if n = n' then .inf n else .nan
  | .inf n, _ => .inf n
  | _, .inf n => .inf n
  | .num n m e, .num n' m' e' =>
    let q := min e e'
    let s := fixed n m e q + fixed n' m' e' q
    Fp.num (if s = 0 then n && n' else decide (s < 0)) s.natAbs q

/-- An exact product. -/
def Fp.times (a b : Fp) : Fp :=
  match a, b with
  | .nan, _ | _, .nan => .nan
  | .inf n, .inf n' => .inf (n != n')
  | .inf n, .num n' m _ => if m = 0 then .nan else .inf (n != n')
  | .num n m _, .inf n' => if m = 0 then .nan else .inf (n != n')
  | .num n m e, .num n' m' e' => Fp.num (n != n') (m * m') (e + e')

/-- A sum and a product, rounded to FP32. -/
def Fp.add (a b : Fp) : Fp := (a.plus b).round
def Fp.mul (a b : Fp) : Fp := (a.times b).round

/-- The value of the bits of a width of 16 or 32, and the bits of a value. -/
def Fp.ofBits (w v : Nat) : Fp := if w = 16 then Fp.of16 v else Fp.of32 v
def Fp.toBits (w : Nat) (a : Fp) : Nat := if w = 16 then a.to16 else a.to32

/-- a < b; false with a NaN. -/
def Fp.lt (a b : Fp) : Bool :=
  match a, b with
  | .nan, _ | _, .nan => false
  | .inf n, .inf n' => n && !n'
  | .inf n, _ => n
  | _, .inf n => !n
  | .num n m e, .num n' m' e' => let q := min e e'; fixed n m e q < fixed n' m' e' q

/-- a = b as values. -/
def Fp.eq (a b : Fp) : Bool :=
  match a, b with
  | .nan, _ | _, .nan => false
  | _, _ => !(a.lt b) && !(b.lt a)

/-- The smaller; with one NaN the other operand (R183). -/
def Fp.min (a b : Fp) : Fp := if a = .nan then b else if b.lt a then b else a
def Fp.max (a b : Fp) : Fp := if a = .nan then b else if a.lt b then b else a

/-- The rational value; none for an infinity or a NaN. -/
def Fp.rat : Fp → Option Rat
  | .num neg m e =>
    let v : Rat := if 0 ≤ e then (m : Rat) * (2 ^ e.toNat : Nat) else (m : Rat) / (2 ^ (-e).toNat : Nat)
    some (if neg then -v else v)
  | _ => none

/-- A rational number rounded to FP32. -/
def Fp.ofRat (x : Rat) : Fp :=
  let m := x.num.natAbs * 2 ^ 200
  (Fp.num (decide (x < 0)) (2 * (m / x.den) + (if m % x.den = 0 then 0 else 1)) (-201)).round

/-- FP32 bits within `err` of `x`: the free value where it lies there, and `x` rounded otherwise. -/
def nearBits (x err : Rat) (free : Nat) : Nat :=
  match (Fp.of32 free).rat with
  | some v => if x - err ≤ v ∧ v ≤ x + err then free % 2 ^ 32 else (Fp.ofRat x).to32
  | none => (Fp.ofRat x).to32

/-- sin 2πx from a Taylor polynomial, exact to 10^-10 (DESIGN CHOICE, assumption logs 38 and 40: R224 and R242 give no
precision; what depends on it is a free value, or bounded no closer than this). -/
def sinTurns (x : Rat) : Rat :=
  let x := x - x.floor
  let neg := 1 / 2 < x
  let x := if neg then x - 1 / 2 else x
  let x := if 1 / 4 < x then 1 / 2 - x else x
  let t : Rat := x * 62831853072 / 10000000000
  let (s, _) := (List.range 8).foldl (fun (p : Rat × Rat) n =>
    (p.1 + p.2, -p.2 * t * t / ((2 * n + 2) * (2 * n + 3) : Nat))) (0, t)
  if neg then -s else s

def fp0 : Fp := .num false 0 0
def fp1 : Fp := .num false 1 0

/-- A compare op (Table 9-5). -/
def compareOp (op : Nat) (a b : Fp) : Bool :=
  match op with
  | 0 => false
  | 1 => a.lt b
  | 2 => a.eq b
  | 3 => a.lt b || a.eq b
  | 4 => b.lt a
  | 5 => !(a.eq b)
  | 6 => b.lt a || a.eq b
  | _ => true

/-- A compare op on integers. -/
def compareNat (op a b : Nat) : Bool := compareOp op (.num false a 0) (.num false b 0)

/-- v / top as FP32. -/
def unormToFp (v top : Nat) : Fp :=
  let q := v * 2 ^ 64 / top
  let sticky := if v * 2 ^ 64 % top = 0 then 0 else 1
  (Fp.num false (2 * q + sticky) (-65)).round

/-- Clamped to 0.0 to 1.0, scaled by `top` and rounded to nearest even (R175); what a NaN becomes is not stated. -/
def fpToUnorm (top : Nat) : Fp → Nat
  | .nan => Config.nanUnorm top % (top + 1)
  | .inf neg => if neg then 0 else top
  | .num neg m e => if neg then 0 else Nat.min top (quantum (m * top) e 0)

end Sys2Proof.Machine
end

