-- ==== Sys2Proof/Machine/Mixer.lean ====
section
/-! DEFINITION. The mixer (12): rings, capture, tones and chimes as inputs, gains and their ramps, buses, the chain of a sink,
the low-latency path, and the blocks of 8 and 4 frames (R236 to R249). Samples are FP32 bits. -/

namespace Sys2Proof.Machine

/-! ### Objects -/

def inIndex (i : Nat) : Nat := 0x2801 + i
def busIndex (b : Nat) : Nat := 0x2821 + b
def sinkIndex (s : Nat) : Nat := 0x2831 + s
def headsetIndex (n : Nat) : Nat := 0x2840 + n
def tdmIndex (p : Nat) : Nat := 0x2842 + p
def pdmIndex (l : Nat) : Nat := 0x2844 + l

def Dev.inp (d : Dev) (i j : Nat) : Nat := d.getO (inIndex i) j
def Dev.snk (d : Dev) (s j : Nat) : Nat := d.getO (sinkIndex s) j

/-- The kind of an input: 0 tone, 1 ring, 2 capture, 3 chime (R236). -/
def Dev.inKind (d : Dev) (i : Nat) : Nat := if i < 8 then 0 else d.inp i 3

/-- Owners of audio units (Table 14-5, R234). -/
def Dev.inOwner (d : Dev) (i : Nat) : Nat := d.owner (blockId 5 i)
def Dev.busOwner (d : Dev) (b : Nat) : Nat := d.owner (blockId 5 (32 + b))
def Dev.sinkOwner (d : Dev) (s : Nat) : Nat := if s = 6 ∨ s = 7 then d.owner (blockId 5 (62 + (s - 6))) else d.owner (blockId 5 (48 + s))

def Dev.ain (d : Dev) (i : Nat) : AudioIn := tabGet {} d.audio.inputs i
def Dev.setAin (d : Dev) (i : Nat) (x : AudioIn) : Dev := { d with audio := { d.audio with inputs := tabSet {} d.audio.inputs i x } }
def Dev.sink (d : Dev) (s : Nat) : Sink := tabGet {} d.audio.sinks s
def Dev.setSink (d : Dev) (s : Nat) (x : Sink) : Dev := { d with audio := { d.audio with sinks := tabSet {} d.audio.sinks s x } }
def Dev.sinkCh (d : Dev) (s c : Nat) : SinkCh := tabGet {} (d.sink s).chans c
def Dev.setSinkCh (d : Dev) (s c : Nat) (x : SinkCh) : Dev := d.setSink s { d.sink s with chans := tabSet {} (d.sink s).chans c x }

/-- The bytes of an audio string object that has a default of its own. -/
def Dev.bytesOr (d : Dev) (i j : Nat) (dflt : List Byte) : List Byte := if d.hasB i j then d.getB i j else dflt

/-! ### Gains (R245) -/

/-- Mute, or off for a send. -/
def muted : Int := -32768

/-- The number of a gain: input i, bus 100h + b, sink 200h + s, send 400h + 16 i + b, duck 800h + 16 i + b. -/
def sendGain (i b : Nat) : Nat := 0x400 + 16 * i + b
def duckGain (i b : Nat) : Nat := 0x800 + 16 * i + b

/-- The level of a send object. -/
def Dev.sendLevel (d : Dev) (i b : Nat) : Int :=
  if d.hasB (inIndex i) 8 then asSigned 16 (field (d.getB (inIndex i) 8) (2 * b) 2) else muted

/-- The level that a gain's object asks for. -/
def Dev.gainLevel (d : Dev) (g : Nat) : Int :=
  if g < 0x100 then d.getI (inIndex g) 5 16
  else if g < 0x200 then d.getI (busIndex (g - 0x100)) 1 16
  else if g < 0x400 then d.getI (sinkIndex (g - 0x200)) 5 16
  else if g < 0x800 then d.sendLevel ((g - 0x400) / 16) (g % 16)
  else tabGet 0 d.audio.ducks (g - 0x800)

/-- The ramp time of a gain's own record in ms; a send uses its input's, a duck its bus's. -/
def Dev.rampTime (d : Dev) (g : Nat) : Nat :=
  if g < 0x100 then d.inp g 6
  else if g < 0x200 then d.getO (busIndex (g - 0x100)) 2
  else if g < 0x400 then d.snk (g - 0x200) 6
  else if g < 0x800 then d.inp ((g - 0x400) / 16) 6
  else d.getO (busIndex (g % 16)) 2

def Dev.gainCh (d : Dev) (g c : Nat) : GainCh := tabGet {} d.audio.gains (16 * g + c)
def Dev.setGainCh (d : Dev) (g c : Nat) (x : GainCh) : Dev :=
  { d with audio := { d.audio with gains := tabSet {} d.audio.gains (16 * g + c) x } }

/-- The level a channel has reached, where its object asks for `want`. -/
def GainCh.level (x : GainCh) (want : Int) : Int :=
  if !x.ramping then want
  else
    let k : Int := 5 * (x.taken : Int)
    if x.start ≤ x.target then min x.target (x.start + k) else max x.target (x.start - k)

/-- The end of a ramp from or to mute lies at −100.0 dB. -/
def rampEnd (l : Int) : Int := if l = muted then -1000 else l

/-- The channels that a gain has: those of a TDM sink are its slots. -/
def gainChannels (g : Nat) : List Nat := if g = 0x206 ∨ g = 0x207 then List.range 16 else [0, 1]

/-- A gain's level is about to change from `old`: each channel starts a ramp from the level that it has reached. -/
def Dev.startRamp (d : Dev) (g : Nat) (old new : Int) : Dev :=
  (gainChannels g).foldl (fun d c =>
    let x := d.gainCh g c
    let from_ := rampEnd (x.level old)
    let n := ceilDiv (rampEnd new - from_).natAbs 5
    d.setGainCh g c (if n = 0 then { x with ramping := false }
      else { x with ramping := true, start := from_, target := rampEnd new, steps := n, taken := 0,
                    from_ := d.audio.frames, ms := d.rampTime g })) d

/-- Steps of a ramp that are due at a core frame: step k at k × ramp time / n after the write. -/
def GainCh.due (x : GainCh) (frame : Nat) : Nat := min x.steps ((frame - x.from_) * x.steps / (48 * max 1 x.ms))

/-- A channel takes every step due by a core frame; at the last one the ramp is over. -/
def GainCh.take (x : GainCh) (frame : Nat) : GainCh :=
  let k := max x.taken (x.due frame)
  if k = x.steps then { x with ramping := false } else { x with taken := k }

/-- A zero crossing between consecutive samples: a change of sign, or exactly 0. -/
def crossing (prev v : Nat) : Bool := v % 2 ^ 31 == 0 || prev.testBit 31 != v.testBit 31

/-- FP32 bits hold no more than 10^(l/200), both sides taken to the power 200. -/
def belowLevel (bits : Nat) (l : Int) : Bool :=
  match Fp.of32 bits with
  | .num _ m e => m ^ 200 * 10 ^ (-l).toNat * 2 ^ (200 * e.toNat) ≤ 10 ^ l.toNat * 2 ^ (200 * (-e).toNat)
  | _ => false

/-- The greatest FP32 bits not above 10^(l/200), by bisection between `lo` and `hi`. -/
def levelBits (l : Int) : Nat → Nat → Nat → Nat
  | 0, lo, _ => lo
  | fuel + 1, lo, hi =>
    let m := (lo + hi) / 2
    if hi ≤ lo + 1 then lo else if belowLevel m l then levelBits l fuel m hi else levelBits l fuel lo m

/-- The FP32 factor of a level: 10^(l/200), rounded to one of its neighbours (free). -/
def factor (l : Int) : Fp :=
  if l = 0 then fp1 else if l = muted then fp0
  else Fp.of32 (levelBits l 32 0 0x7F800000 + (if Config.gainUp l then 1 else 0))

/-- A product of two samples or factors as FP32 bits. -/
def mul32 (v : Nat) (f : Fp) : Nat := (Fp.mul (Fp.of32 v) f).to32
def add32 (a b : Nat) : Nat := (Fp.add (Fp.of32 a) (Fp.of32 b)).to32

/-- A channel of a gain over the samples of a block that starts at a core frame; `f` is the factor of the level in force. -/
def gainRun (want : Int) : Nat → List Nat → GainCh → Fp → List Nat × GainCh
  | _, [], x, _ => ([], x)
  | frame, v :: vs, x, f =>
    let steps := x.ramping && crossing x.prev v
    let x := if steps then x.take frame else x
    let f := if steps then factor (x.level want) else f
    let (rest, x') := gainRun want (frame + 1) vs { x with prev := v } f
    (mul32 v f :: rest, x')

/-- A gain is applied to one channel of a block. -/
def Dev.applyGain (d : Dev) (g c frame : Nat) (vs : List Nat) : List Nat × Dev :=
  let want := d.gainLevel g
  let (out, x) := gainRun want frame vs (d.gainCh g c) (factor ((d.gainCh g c).level want))
  (out, d.setGainCh g c x)

/-- A send is off: neither set nor on its way to off. -/
def Dev.sendOff (d : Dev) (i b : Nat) : Bool :=
  d.sendLevel i b == muted && !(d.gainCh (sendGain i b) 0).ramping && !(d.gainCh (sendGain i b) 1).ramping

/-! ### Buses: who sends and who takes (Table 12-11) -/

/-- The byte of a transmit slot (R250): bit 7 on, bit 4 the channel, bits 3:0 the bus. -/
def Dev.slotByte (d : Dev) (p s : Nat) : Nat := (byteAt (d.bytesOr (tdmIndex p) 5 (zeroBytes 16)) s).toNat

/-- A sink takes a bus; a TDM sink by any enabled slot. -/
def Dev.sinkTakes (d : Dev) (s b : Nat) : Bool :=
  if s = 6 ∨ s = 7 then (List.range 16).any (fun k => let v := d.slotByte (s - 6) k; 128 ≤ v && v % 16 == b)
  else d.snk s 3 == b

/-- The senders and sinks of every bus are shown (/05h, /06h). -/
def Dev.busUse (d : Dev) : Dev :=
  (List.range 16).foldl (fun d b =>
    let senders := (List.range 32).foldl (fun m i => if d.sendLevel i b != muted then m + 2 ^ i else m) 0
    let sinks := (List.range 12).foldl (fun m s => if d.sinkTakes s b then m + 2 ^ s else m) 0
    (d.setO (busIndex b) 5 senders).setO (busIndex b) 6 sinks) d

/-- The send gains of an input are replaced: each one that changes or ramps starts a ramp from where it is. -/
def Dev.setSends (d : Dev) (i : Nat) (data : List Byte) : Dev :=
  let old := (List.range 16).map (fun b => (b, d.sendLevel i b))
  let d' := d.setB (inIndex i) 8 data
  let d' := old.foldl (fun d' p => d'.startRamp (sendGain i p.1) p.2 (d'.sendLevel i p.1)) d'
  d'.busUse

/-! ### The Registry entry of a stream position (Tables 20-1 and 20-3, kind 08h) -/

/-- Bytes 72 to 119 of the entry. -/
def streamExtra (d : Dev) (pos periods : Nat) : List Byte := leBytes 4 pos ++ leBytes 4 periods ++ leBytes 8 d.clock.ns

/-- A stream goes to run: it is journaled and issued. -/
def Dev.openStream (d : Dev) (code unit pos : Nat) : Option Nat × Dev :=
  let (e, d) := d.journal { kind := 8, replay := true, owner := code, unit := unit, extra := streamExtra d pos 0 }
  (e, d.regIssue e)

/-- The entry is rewritten after its position moved. -/
def Dev.moveStream (d : Dev) (entry : Option Nat) (pos periods : Nat) : Dev :=
  match entry with
  | some e => d.setReg e { d.reg e with extra := streamExtra d pos periods }
  | none => d

/-- The stream ends and its entry is freed. -/
def Dev.closeStream (d : Dev) (entry : Option Nat) : Dev :=
  d.regEnded entry

/-! ### Rings (R237, R238) -/

/-- Bytes per sample of a format (Table 12-2). -/
def sampleBytes (fmt : Nat) : Nat := if fmt = 1 then 2 else 4

/-- A stored sample as FP32 (Table 12-2). -/
def sampleIn (fmt v : Nat) : Nat :=
  let of (w : Nat) (e : Int) : Nat := let x := asSigned w v; (Fp.num (decide (x < 0)) x.natAbs e).to32
  match fmt with
  | 1 => of 16 (-15)
  | 2 => of 24 (-23)
  | 3 => of 32 (-31)
  | _ => if Fp.of32 v = .nan then 0 else v

/-- The bytes of ring memory for an owner: host memory through its instance, or device memory; none where the read fails. -/
def Dev.ringBytes (d : Dev) (code addr n : Nat) : Option (List Byte) × Dev :=
  if 0x40 ≤ code ∧ code < 0x80 then (some (d.hostRead (instPort (code - 0x40)) addr n), d)
  else match d.memRead code addr n with
    | (.ok data, d) => (some data, d)
    | (_, d) => (none, d)

/-- Frames available in a ring input. -/
def Dev.available (d : Dev) (i : Nat) : Nat := (d.inp i 0x12 + 2 ^ 32 - d.inp i 0x13) % 2 ^ 32

/-- The memory behind a unit can be reached: an instance's only while its link serves it. -/
def Dev.reachable (d : Dev) (code : Nat) : Bool := !(0x40 ≤ code && code < 0x80) || d.instLinked (code - 0x40)

/-- A position that advances by `n`, and wraps at 2^32, passes a multiple of the period: how many times. -/
def periodsPassed (period old n : Nat) : Nat :=
  if period = 0 then 0
  else if old + n < 2 ^ 32 then (old + n) / period - old / period
  else (2 ^ 32 - 1) / period - old / period + 1 + (old + n - 2 ^ 32) / period

/-- The input takes up to `n` frames from its ring: the frames (left, right), and whether one was missing. A missing frame is
0 and the read position stays; the frames of a failed read play as 0 and are passed (Table 17-3). -/
def Dev.ringTake (d : Dev) (i n : Nat) : List (Nat × Nat) × Bool × Dev :=
  let code := d.inOwner i
  let have_ := if d.reachable code then min n (d.available i) else 0
  let fmt := d.inp i 0x0C
  let ch := d.inp i 0x0D
  let size := sampleBytes fmt
  let pos := d.inp i 0x13
  let (got, d) := (List.range have_).foldl (fun (acc : List (Nat × Nat) × Dev) k =>
    let (out, d) := acc
    let q := (pos + k) % 2 ^ 32 % max 1 (d.inp i 0x0B)
    match d.ringBytes code (d.inp i 0x0A + q * ch * size) (ch * size) with
    | (some data, d) =>
      let l := sampleIn fmt (field data 0 size)
      (out ++ [(l, if ch = 2 then sampleIn fmt (field data size size) else l)], d)
    | (none, d) => (out ++ [(0, 0)], d.log 0x41 0x1701 code i [i])) ([], d)
  let new := (pos + have_) % 2 ^ 32
  let d := d.setO (inIndex i) 0x13 new
  let x := d.ain i
  let passed := periodsPassed (d.inp i 0x10) pos have_
  let d := (List.range passed).foldl (fun d _ => d.postNamed (inIndex i) 0x11) d
  let x := { x with entered := x.entered + have_, periods := x.periods + passed }
  let d := (d.setAin i x).moveStream (if have_ = 0 then none else x.entry) new x.periods
  let missing := have_ < n
  let d := if !missing then d.setAin i { d.ain i with under := false }
    else
      let d := (d.count (inIndex i) 0x1B).count 0x2800 5
      if x.under then d else (d.setAin i { d.ain i with under := true }).log 0x41 0x1702 code i [i]
  (got ++ List.replicate (n - have_) (0, 0), missing, d)

/-! ### Rate conversion (R239) -/

/-- Source frames per core frame in 1/480 of a frame, before the trim. -/
def rateStep (rate : Nat) : Nat := if rate = 0 then 160 else if rate = 1 then 320 else if rate = 2 then 441 else 480

/-- The converter's phase over `n` core frames: the source frames to take, and the phase after them. -/
def Dev.convert (d : Dev) (i n : Nat) : Nat × Nat :=
  let step : Int := (rateStep (d.inp i 0x0E) : Int) * (1000000 + d.getI (inIndex i) 0x0F 16)
  let p := (d.ain i).phase + n * step.toNat
  (p / 480000000, p % 480000000)

/-- `n` frames whose samples the spec does not give. -/
def freeFrames (k n : Nat) (stereo : Bool) : List (Nat × Nat) :=
  (List.range n).map (fun f => (Config.freeSample k f 0, if stereo then Config.freeSample k f 1 else Config.freeSample k f 0))

/-! ### Tones and chimes (R242, R243, Table 12-4) -/

def toneOn (w : Nat) : Nat := 48 * bits w 20 12
def toneOff (w : Nat) : Nat := 48 * bits w 8 12
def toneCount (w : Nat) : Nat := bits w 0 8

/-- A tone input stops: run reads 0. -/
def Dev.inputStops (d : Dev) (i : Nat) : Dev :=
  let d := d.setO (inIndex i) 4 0
  let d := if d.inp i 1 = 2 then d.setO (inIndex i) 1 1 else d
  let x := d.ain i
  (d.closeStream x.entry).setAin i { x with entry := none, fall := none, ended := false, ahead := 0, chime := [], under := false }

/-- The raised cosine: 0 at 0, 1 from 96 frames (2 ms) on. -/
def raised (n : Nat) : Rat := if 96 ≤ n then 1 else sinTurns ((n : Rat) / 384) * sinTurns ((n : Rat) / 384)

/-- The signal of a burst at a frame of it (R242): one tone of amplitude 1, or two of 0.5, from phase 0, with its rise and with
its fall inside ON; 0 in the gap. -/
def toneWave (w frame : Nat) : Rat :=
  let f1 := bits w 48 16
  let f2 := bits w 32 16
  let s (f : Nat) : Rat := sinTurns ((f * frame : Nat) / 48000)
  if toneOn w ≤ frame then 0
  else (if f2 = 0 then s f1 else (s f1 + s f2) / 2) * raised frame * raised (toneOn w - frame)

/-- One core frame of a cadence: its signal, and the input after it. A fall by a write of run lies over the burst. -/
def AudioIn.toneFrame (next : Nat) (x : AudioIn) : Rat × AudioIn :=
  if x.ended then (0, x)
  else
    let v := toneWave x.word x.at_
    let x := { x with at_ := x.at_ + 1, played := x.played + 1 }
    match x.fall with
    | some n => (v * raised n, { x with fall := some (n - 1), ended := n ≤ 1 })
    | none =>
      if x.at_ = toneOn x.word ∧ toneCount x.word ≠ 0 ∧ toneCount x.word ≤ x.bursts + 1 then (v, { x with ended := true })
      else if toneOn x.word + toneOff x.word ≤ x.at_ then (v, { x with at_ := 0, bursts := x.bursts + 1, word := next })
      else (v, x)

/-- `n` frames of a cadence, and the input after them. -/
def AudioIn.toneFrames (next : Nat) : Nat → AudioIn → List Rat × AudioIn
  | 0, x => ([], x)
  | n + 1, x =>
    let (v, x) := x.toneFrame next
    let (rest, x) := AudioIn.toneFrames next n x
    (v :: rest, x)

/-- The samples of signals as FP32, within 2^-23 (their last bits are free). -/
def signalFrames (k : Nat) (l : List Rat) : List (Nat × Nat) :=
  (l.zip (List.range l.length)).map (fun p =>
    let v := if p.1 = 0 then 0 else nearBits p.1 (1 / 8388608) (Config.freeSample k p.2 0)
    (v, v))

/-- A block of a tone; run reads 0 when the cadence ends. -/
def Dev.toneBlock (d : Dev) (i n : Nat) : List (Nat × Nat) × Dev :=
  let (k, d) := d.nextFree
  let (l, x) := (d.ain i).toneFrames (d.inp i 0x16) n
  let d := d.setAin i { x with ahead := 0 }
  (signalFrames k l, if x.ended then d.inputStops i else d)

/-- The chime area of flash (Table 23-1). -/
def chimeArea : Nat := 0x47000000

/-- A directory entry: offset, length in frames, and CRC-32C. -/
def Dev.chimeEntry (d : Dev) (n : Nat) : Nat × Nat × Nat :=
  let e := (List.range 12).map (fun k => d.rawGet (chimeArea + 12 * n + k))
  (field e 0 4, field e 4 4, field e 8 4)

/-- The samples of a chime, when its entry is not empty and its CRC-32C, with the chime's number as tag, fits. -/
def Dev.chimeData (d : Dev) (n : Nat) : Option (List Byte) :=
  let (off, len, crc) := d.chimeEntry n
  if len = 0 ∨ 0x800000 < off + 2 * len then none
  else
    let data := (List.range (2 * len)).map (fun k => d.rawGet (chimeArea + off + k))
    if crc32c n data = crc then some data else none

/-- A block of a chime: mono S16 at 48 kHz, under the fall that a write of run started. -/
def Dev.chimeBlock (d : Dev) (i n : Nat) : List (Nat × Nat) × Dev :=
  let (k, d) := d.nextFree
  (List.range n).foldl (fun (acc : List (Nat × Nat) × Dev) f =>
    let (out, d) := acc
    let x := d.ain i
    if d.inp i 1 ≠ 2 then (out ++ [(0, 0)], d)
    else
      let s := field x.chime 0 2
      let v := match x.fall with
        | some m => nearBits ((asSigned 16 s : Rat) / 32768 * raised m) (1 / 8388608) (Config.freeSample k f 0)
        | none => sampleIn 1 s
      let d := d.setAin i { x with chime := x.chime.drop 2, played := x.played + 1, fall := x.fall.map (· - 1) }
      (out ++ [(v, v)], if x.chime.length ≤ 2 ∨ x.fall = some 1 then d.inputStops i else d)) ([], d)

/-! ### Capture (R240, R253, R254) -/

def Dev.plug (d : Dev) (n : Nat) : Plug := tabGet {} d.audio.plugs n
def Dev.setPlug (d : Dev) (n : Nat) (x : Plug) : Dev := { d with audio := { d.audio with plugs := tabSet {} d.audio.plugs n x } }

/-- A capture source supplies 0: a TDM slot outside its port's receive mask (R240), a port or line that is disabled, a
microphone that has ramped to mute for 5 ms, no source. -/
def Dev.captureSilent (d : Dev) (code : Nat) : Bool :=
  if code < 2 then (match (d.plug code).muteAt with | some t => t + 240 ≤ d.audio.frames | none => false)
  else if 0x10 ≤ code ∧ code < 0x18 then d.getO (pdmIndex ((code - 0x10) / 2)) 1 == 0
  else if 0x20 ≤ code ∧ code ≤ 0x3F then
    let p := (code - 0x20) / 16
    d.getO (tdmIndex p) 1 == 0 || !((d.getO (tdmIndex p) 6).testBit (code % 16))
  else true

/-- What shapes a source's signal: the microphone's gain, the line's high-pass corner (R250). -/
def Dev.captureSetting (d : Dev) (code : Nat) : Nat :=
  if code < 2 then d.getO (headsetIndex code) 6
  else if 0x10 ≤ code ∧ code < 0x18 then d.getO (pdmIndex ((code - 0x10) / 2)) 3 else 0

/-- A sample of a capture source: what comes in from outside is a free value. -/
def Dev.captureSample (d : Dev) (k f code : Nat) : Nat :=
  if d.captureSilent code then 0 else Config.captureSample k code f (d.captureSetting code)

/-- A block of a capture input. -/
def Dev.captureBlock (d : Dev) (i n : Nat) : List (Nat × Nat) × Dev :=
  let (k, d) := d.nextFree
  let code := d.inp i 0x14
  let two := d.inp i 0x0D == 2
  let x := d.ain i
  let d := d.setAin i { x with played := x.played + n }
  ((List.range n).map (fun f =>
    let l := d.captureSample k f code
    (l, if two then d.captureSample k f (code + 1) else l)), d)

/-- A ring block: bypass at 48 kHz, and through the converter otherwise. -/
def Dev.ringBlock (d : Dev) (i n : Nat) : List (Nat × Nat) × Dev :=
  if d.inp i 0x0E = 3 then
    let (out, _, d) := d.ringTake i n
    (out, d)
  else
    let (take, phase) := d.convert i n
    let (_, _, d) := d.ringTake i take
    let d := d.setAin i { d.ain i with phase := phase }
    let (k, d) := d.nextFree
    (freeFrames k n (d.inp i 0x0D == 2), d)

/-- The input has a direct route (R248). -/
def Dev.routed (d : Dev) (i : Nat) : Bool := d.inp i 9 != 0xFF

/-- `n` frames of an input. An input that is being disabled ramps to mute: its samples are free values. -/
def Dev.inputBlock (d : Dev) (i n : Nat) : List (Nat × Nat) × Dev :=
  if d.audio.zeroed.contains (inIndex i) then (List.replicate n (0, 0), d)
  else if d.inp i 1 = 3 then
    let (k, d) := d.nextFree
    (freeFrames k n true, d)
  else if d.inp i 1 ≠ 2 then (List.replicate n (0, 0), d)
  else if 8 ≤ i ∧ (d.ain i).fall.isSome then d.chimeBlock i n   -- a chime falls to its end, whatever kind is written meanwhile
  else match d.inKind i with
    | 0 => d.toneBlock i n
    | 1 => d.ringBlock i n
    | 2 => d.captureBlock i n
    | _ => d.chimeBlock i n

/-! ### Buses (R243, R244) -/

/-- A chime that runs and sends to a bus lowers the bus's other inputs. -/
def Dev.ducking (d : Dev) (b : Nat) : Bool :=
  (List.range 32).any (fun i => d.inp i 1 == 2 && d.inKind i == 3 && d.sendLevel i b != muted)

/-- The duck of an input on a bus follows: a change ramps. -/
def Dev.duckNow (d : Dev) (i b : Nat) : Dev :=
  let old := tabGet 0 d.audio.ducks (16 * i + b)
  let new := if d.ducking b && d.inOwner i != 0 then d.getI (busIndex b) 4 16 else 0
  if new = old then d
  else
    let d := d.startRamp (duckGain i b) old new
    { d with audio := { d.audio with ducks := tabSet 0 d.audio.ducks (16 * i + b) new } }

/-- The sum of two channels of samples. -/
def addAll (a b : List Nat) : List Nat := (a.zip b).map (fun p => add32 p.1 p.2)

/-- One input's part of a bus. -/
def Dev.sendBlock (d : Dev) (i b c frame : Nat) (vs : List Nat) : List Nat × Dev :=
  let (vs, d) := d.applyGain (sendGain i b) c frame vs
  d.applyGain (duckGain i b) c frame vs

/-- The buses of a block (R244): each channel the sum over the inputs that send, in rising order, and the bus gain. The
result is by 2 × bus + channel. -/
def Dev.busBlock (d : Dev) (frame : Nat) (ins : List (Nat × List Nat × List Nat)) : Tab (List Nat) × Dev :=
  (List.range 32).foldl (fun (acc : Tab (List Nat) × Dev) bc =>
    let (out, d) := acc
    let b := bc / 2
    let c := bc % 2
    let from_ := ins.filter (fun p => !(d.sendOff p.1 b))
    let (sum, d) := from_.foldl (fun (acc : List Nat × Dev) p =>
      let (sum, d) := acc
      let d := if c = 0 then d.duckNow p.1 b else d
      let (vs, d) := d.sendBlock p.1 b c frame (if c = 0 then p.2.1 else p.2.2)
      (addAll sum vs, d)) (List.replicate 8 0, d)
    let (sum, d) := d.applyGain (0x100 + b) c frame sum
    (out ++ [(bc, sum)], d)) ([], d)

/-! ### Sinks (R246, R249) -/

/-- One biquad in transposed direct form II: the output and the two states. -/
def biquad (co : List Nat) (z1 z2 v : Nat) : Nat × Nat × Nat :=
  let k (n : Nat) : Fp := Fp.of32 (co.getD n 0)
  let y := add32 (mul32 v (k 0)) z1
  let neg (a : Fp) : Fp := Fp.negate a
  (y, add32 (add32 (mul32 v (k 1)) (mul32 y (neg (k 3)))) z2, add32 (mul32 v (k 2)) (mul32 y (neg (k 4))))

/-- The coefficients of biquad k of channel c; pass-through where nothing has been written. -/
def Dev.biquadAt (d : Dev) (s c k : Nat) : List Nat :=
  if d.hasB (sinkIndex s) 8 then
    let b := d.getB (sinkIndex s) 8
    (List.range 5).map (fun n => field b (200 * c + 20 * k + 4 * n) 4)
  else [0x3F800000, 0, 0, 0, 0]

/-- A section that passes the signal through and holds no state. -/
def passes (co : List Nat) (z1 z2 : Nat) : Bool := co == [0x3F800000, 0, 0, 0, 0] && z1 == 0 && z2 == 0

/-- The ten biquads on one sample. -/
def Dev.biquads (d : Dev) (s c : Nat) (z : List Nat) (v : Nat) : Nat × List Nat :=
  (List.range 10).foldl (fun (acc : Nat × List Nat) k =>
    let co := d.biquadAt s c k
    let z1 := acc.2.getD (2 * k) 0
    let z2 := acc.2.getD (2 * k + 1) 0
    if passes co z1 z2 then acc
    else
      let (y, a, b) := biquad co z1 z2 acc.1
      (y, ((padList 20 acc.2).set (2 * k) a).set (2 * k + 1) b)) (v, z)
where
  padList (n : Nat) (l : List Nat) : List Nat := l ++ List.replicate (n - l.length) 0

/-- Absolute value. -/
def abs32 (v : Nat) : Fp := Fp.of32 (v % 2 ^ 31)

/-- The limiter's ceiling: the threshold, and for a speaker the lower of it and (VIN − 1.0 V) / 11.0 V, 6 dB lower at
thermal step 3 (Table 23-10). -/
def Dev.ceiling (d : Dev) (s : Nat) : Fp :=
  let t := factor (d.getI (sinkIndex s) 9 16)
  if s < 4 then
    let c := Fp.min t (unormToFp (d.getO 0x3400 1 - 1000) 11000)
    if 3 ≤ d.getO 0x3400 7 then Fp.mul c (factor (-60)) else c
  else t

/-- The limiter on the samples of a block (R246; DESIGN CHOICE, assumption log 40: the rule gives no gain law). A sample above
the ceiling starts it for the release time; while it acts a sample is a free value of its sign no greater than the sample
came in and, once the 0.1 ms of attack (5 frames) have run from the greatest peak, no greater than the ceiling. -/
def limitRun (ceil : Fp) (release k c : Nat) : List Nat → SinkCh → List Nat × SinkCh
  | [], x => ([], x)
  | v :: vs, x =>
    let a := abs32 v
    let above := ceil.lt a
    let higher := above && (x.limit == 0 || (Fp.of32 x.peak).lt a)
    let x := { x with limit := if above then max 1 (48 * release) else x.limit - 1,
                      attack := if higher then 5 else x.attack - 1,
                      peak := if higher then v % 2 ^ 31 else x.peak }
    let x := if x.limit = 0 then { x with peak := 0, attack := 0 } else x
    let bound := if x.attack = 0 then Fp.min a ceil else a
    let free := Fp.of32 (Config.freeSample k vs.length c % 2 ^ 31)
    let m := if free.lt bound then free.to32 else bound.to32
    let out := if x.limit = 0 then v else m + (if v.testBit 31 then 2 ^ 31 else 0)
    let (rest, x) := limitRun ceil release k c vs x
    (out :: rest, x)

/-- A clip to ±1.0. -/
def clip32 (v : Nat) : Nat := if fp1.lt (abs32 v) then (if v.testBit 31 then 0xBF800000 else 0x3F800000) else v

/-- The chain of one channel over a block, steps 1 to 7: the samples, whether one clipped, and the device. -/
def Dev.chain (d : Dev) (s c frame : Nat) (vs : List Nat) : List Nat × Bool × Dev :=
  let (k, d) := d.nextFree
  let x := d.sinkCh s c
  let delay := d.snk s 0x0B
  let (vs, x) := vs.foldl (fun (acc : List Nat × SinkCh) v =>
    let (y, z) := d.biquads s c acc.2.z v
    let past := (y :: acc.2.past).take 961
    (acc.1 ++ [past.getD delay 0], { acc.2 with z := z, past := past })) ([], x)
  let route := x.route.take 8 ++ List.replicate (8 - x.route.length) 0
  let d := d.setSinkCh s c { x with route := x.route.drop 8, past := if x.past.all (· == 0) then [] else x.past }
  let (vs, d) := d.applyGain (0x200 + s) c frame (addAll vs route)
  let (vs, x) := limitRun (d.ceiling s) (d.snk s 0x0A) k (2 + c) vs (d.sinkCh s c)
  let d := d.setSinkCh s c x
  (vs.map clip32, vs.any (fun v => fp1.lt (abs32 v)), d)

/-- The bus channels that feed a sink (R246 step 1, R250). -/
def Dev.sinkFeed (d : Dev) (s : Nat) (buses : Tab (List Nat)) : List (Nat × List Nat) :=
  let ch (b c : Nat) : List Nat := tabGet (List.replicate 8 0) buses (2 * b + c)
  let b := d.snk s 3
  let none_ := List.replicate 8 0
  if s = 6 ∨ s = 7 then
    (List.range 16).map (fun k => let v := d.slotByte (s - 6) k; (k, if 128 ≤ v then ch (v % 16) (v / 16 % 2) else none_))
  else if b = 0xFF then (if s < 4 then [(0, none_)] else [(0, none_), (1, none_)])
  else if s < 4 then
    [(0, match d.snk s 4 with
      | 0 => ch b 0
      | 1 => ch b 1
      | _ => (addAll (ch b 0) (ch b 1)).map (fun v => mul32 v (Fp.num false 1 (-1))))]
  else [(0, ch b 0), (1, ch b 1)]

/-- A running input has its low-latency route on the sink. -/
def Dev.routeRuns (d : Dev) (s : Nat) : Bool := (List.range 32).any (fun i => d.inp i 1 == 2 && d.inp i 9 == s)

/-- STAGE_WAKE (R249): a stage that is down powers up. -/
def Dev.wakeStage (d : Dev) (s : Nat) : Dev :=
  if s < 4 ∧ d.snk s 1 = 2 then ((d.setO (sinkIndex s) 1 1).count (sinkIndex s) 0x17).count 0x2800 8 else d

/-- The headphones of a port are live (Table 12-6): in Three-pole, Four-pole and Unknown, until the first DET edge. -/
def Dev.headphonesLive (d : Dev) (n : Nat) : Bool :=
  let st := d.getO (headsetIndex n) 1
  (st == 3 || st == 4 || st == 5) && (d.plug n).present

/-- A sample, clipped to ±1.0, as an integer of `w` bits; the rounding is free. -/
def scaledOut (k n w v : Nat) : Nat :=
  match Fp.of32 v with
  | .num neg m e =>
    let sh := (w : Int) - 1 + e
    let q : Nat := if 0 ≤ sh then m * 2 ^ sh.toNat else m / 2 ^ (-sh).toNat
    let exact : Bool := 0 ≤ sh || m % 2 ^ (-sh).toNat == 0
    let low : Int := if neg then -((q : Int) + (if exact then 0 else 1)) else q
    let r : Int := if !exact && Config.sampleUp k n then low + 1 else low
    ofSigned w (min r ((2 ^ (w - 1) : Nat) - 1))
  | _ => 0

/-- A sample as a ring stores it (Table 12-2). -/
def sampleOut (k n fmt v : Nat) : Nat :=
  match fmt with
  | 1 => scaledOut k n 16 v
  | 2 => scaledOut k n 24 v
  | 3 => scaledOut k n 32 v
  | _ => v

/-- What leaves at the balls: through the look-ahead for a speaker, 0 where the output is held; on TDM the 32-bit words of the
slots, MSB first and left-justified at the sample width (R250). A sink being disabled ramps to mute: its samples are free
values. -/
def Dev.stageOut (d : Dev) (s c : Nat) (vs : List Nat) : List Nat × Dev :=
  let st := d.snk s 1
  let (k, d) := d.nextFree
  let free := (List.range 8).map (fun f => Config.freeSample k f (20 + c))
  let zero := List.replicate 8 0
  let word (vs : List Nat) : List Nat :=
    let w := d.getO (tdmIndex (s - 6)) 4
    (vs.zip (List.range 8)).map (fun p => scaledOut k (8 * c + p.2) w p.1 * 2 ^ (32 - w))
  if s < 4 then
    let x := d.sinkCh s c
    let line := List.replicate (96 - x.ahead.length) 0 ++ x.ahead ++ vs
    let ahead := line.drop 8
    let d := d.setSinkCh s c { x with ahead := if ahead.all (· == 0) then [] else ahead }
    (if st = 1 then line.take 8 else if st = 4 then free else zero, d)
  else if s = 6 ∨ s = 7 then
    (if d.getO (tdmIndex (s - 6)) 1 ≠ 1 then zero
     else if st = 4 then free.map (· % 2 ^ 32) else if st = 1 then word vs else zero, d)
  else if st = 4 then (free, d)
  else if st ≠ 1 then (zero, d)
  else if s < 6 then (if d.headphonesLive (s - 4) then vs else zero, d)
  else (vs, d)

/-! ### The pins of the ports (R250) -/

/-- TDMp_FSYNC during BCLK `n` of a frame of 512: half of the frame or one BCLK, active high or low (/03h bits 0 and 1). -/
def Dev.tdmFsync (d : Dev) (p n : Nat) : Bool :=
  let f := d.getO (tdmIndex p) 3
  (n % 512 < (if f.testBit 0 then 256 else 1)) != f.testBit 1

/-- The data bit of TDM port `p` during BCLK `n` of frame `frame` of the last block: slot by slot, MSB first, one BCLK late with
/03h bit 2. The frame before the block's first ends in a bit of the block before, which is over: 0. -/
def Dev.tdmData (d : Dev) (p frame n : Nat) : Bool :=
  let pos := 512 * frame + n
  let delay := if (d.getO (tdmIndex p) 3).testBit 2 then 1 else 0
  if pos < delay then false
  else
    let b := pos - delay
    (((d.sink (6 + p)).out.getD (b % 512 / 32) []).getD (b / 512) 0).testBit (31 - b % 32)

/-- Data is launched on the rising edge of TDMp_BCLK (/03h bit 3). -/
def Dev.tdmRising (d : Dev) (p : Nat) : Bool := (d.getO (tdmIndex p) 3).testBit 3

/-- TDMp_BCLK, TDMp_FSYNC and TDMp_MCLK run, at 24.576 MHz, 48 kHz and 12.288 MHz. -/
def Dev.tdmRuns (d : Dev) (p : Nat) : Bool := d.awake && d.getO (tdmIndex p) 1 != 0

/-- PDM_CLKn runs at 3.072 MHz while either of its two lines is enabled, and is held low otherwise. -/
def Dev.pdmClock (d : Dev) (n : Nat) : Bool := d.awake && [2 * n, 2 * n + 1].any (fun l => d.getO (pdmIndex l) 1 != 0)

/-! ### Record sinks (R238) -/

/-- Frames in a record sink's ring that have not been read. -/
def Dev.recorded (d : Dev) (s : Nat) : Nat := (d.snk s 0x14 + 2 ^ 32 - d.snk s 0x15) % 2 ^ 32

/-- A record sink runs: it is active and takes a bus. -/
def Dev.recording (d : Dev) (s : Nat) : Bool := 8 ≤ s && s < 12 && (d.snk s 1 == 1 || d.snk s 1 == 4) && d.snk s 3 != 0xFF

/-- The frames of a block are written into the ring; when it is full they are dropped and the block is counted. -/
def Dev.recordBlock (d : Dev) (s : Nat) (l r : List Nat) : Dev :=
  let code := d.sinkOwner s
  let fmt := d.snk s 0x10
  let size := sampleBytes fmt
  let frames := d.snk s 0x0F
  let (k, d) := d.nextFree
  let all := l.zip r
  let x := d.sink s
  -- at 16 kHz every third core frame makes one of the ring, whose value the converter gives
  let take := if d.snk s 0x11 = 3 then all
    else ((List.range 8).filter (fun f => (x.entered + f) % 3 == 0)).map (fun f => (Config.freeSample k f 40, Config.freeSample k f 41))
  let room := if d.reachable code then min take.length (frames - d.recorded s) else 0
  let pos := d.snk s 0x14
  let d := ((take.take room).zip (List.range room)).foldl (fun d p =>
    let q := (pos + p.2) % 2 ^ 32 % max 1 frames
    let a := d.snk s 0x0E + q * 2 * size
    let data := leBytes size (sampleOut k (2 * p.2) fmt p.1.1) ++ leBytes size (sampleOut k (2 * p.2 + 1) fmt p.1.2)
    if 0x40 ≤ code ∧ code < 0x80 then d.hostWriteFor (code - 0x40) a data else (d.memWrite code a data).2) d
  let passed := periodsPassed (d.snk s 0x12) pos room
  let d := d.setO (sinkIndex s) 0x14 (pos + room)
  let d := (List.range passed).foldl (fun d _ => d.postNamed (sinkIndex s) 0x13) d
  let d := d.setSink s { d.sink s with entered := x.entered + 8, periods := x.periods + passed }
  let d := d.moveStream (if room = 0 then none else x.entry) (d.snk s 0x14) (x.periods + passed)
  if room < take.length then (d.count (sinkIndex s) 0x16).count 0x2800 6 else d

/-! ### Headset ports: what the mixer sees of them (R251) -/

/-- A headset port's state changes: the event source is posted. -/
def Dev.setHeadset (d : Dev) (n st : Nat) : Dev :=
  if d.getO (headsetIndex n) 1 = st then d
  else (d.setO (headsetIndex n) 1 st).postNamed (headsetIndex n) 9

/-- Empty; a plug that shows goes on to Debounce. Nothing is plugged as far as the objects show. -/
def Dev.headsetEmpty (d : Dev) (n : Nat) : Dev :=
  let d := ((d.setHeadset n 0).setO (headsetIndex n) 3 0).setO (headsetIndex n) 7 0
  let d := d.setPlug n { d.plug n with remeasured := false, muteAt := none }
  if (d.plug n).present then d.setHeadset n 1 else d

/-- HSn_DET shows a plug to an Empty port, or none to one in Debounce: also an edge that came while the audio domain stood. -/
def Dev.watchPlugs (d : Dev) : Dev :=
  [0, 1].foldl (fun d n =>
    let st := d.getO (headsetIndex n) 1
    let there := (d.plug n).present
    if st = 0 ∧ there then d.setHeadset n 1 else if st = 1 ∧ !there then d.headsetEmpty n else d) d

/-! ### The blocks (R244, R248) -/

/-- A sink in a block. -/
def Dev.sinkBlock (d : Dev) (s frame : Nat) (buses : Tab (List Nat)) : Dev :=
  let feed := d.sinkFeed s buses
  let (done, clipped, d) := feed.foldl (fun (acc : List (Nat × List Nat) × Bool × Dev) p =>
    let (out, clipped, d) := acc
    let (vs, c, d) := d.chain s p.1 frame p.2
    (out ++ [(p.1, vs)], clipped || c, d)) ([], false, d)
  let d := if clipped then (d.count (sinkIndex s) 0x16).count 0x2800 7 else d
  let silence := if s < 4 then factor (d.getI (sinkIndex s) 0x0C 16) else fp1
  let some_ (p : Fp → Bool) : Bool := s < 4 && done.any (fun c => c.2.any (fun v => p (abs32 v)))
  let d := if some_ silence.lt then d.wakeStage s else d
  let quiet := !(some_ (fun v => !(v.lt silence)))
  let (out, d) := done.foldl (fun (acc : List (List Nat) × Dev) p =>
    let (vs, d) := acc.2.stageOut s p.1 p.2
    (acc.1 ++ [vs], d)) ([], d)
  let out := if d.audio.zeroed.contains (sinkIndex s) then out.map (fun l => l.map (fun _ => 0)) else out
  let d := d.setSink s { d.sink s with out := out, quiet := quiet }
  if d.recording s then d.recordBlock s (out.getD 0 []) (out.getD 1 []) else d

/-- The inputs that a block takes: those that run or fade, but a routed ring, which the low-latency path takes. -/
def Dev.mixerInputs (d : Dev) : List Nat :=
  (List.range 32).filter (fun i => (d.inp i 1 == 2 || d.inp i 1 == 3) && !(d.routed i && d.inKind i == 1))

/-- AUDIO_BLOCK: 8 frames. -/
def Dev.audioBlock (d : Dev) : Dev :=
  let frame := d.audio.frames
  let d := d.watchPlugs
  let (ins, d) := d.mixerInputs.foldl (fun (acc : List (Nat × List Nat × List Nat) × Dev) i =>
    let (out, d) := acc
    let (vs, d) := d.inputBlock i 8
    let (l, d) := d.applyGain i 0 frame (vs.map (fun p => p.1))
    let (r, d) := d.applyGain i 1 frame (vs.map (fun p => p.2))
    (out ++ [(i, l, r)], d)) ([], d)
  let (buses, d) := d.busBlock frame ins
  let buses := if d.audio.zeroed.isEmpty then buses else buses.map (fun p =>
    (p.1, if d.audio.zeroed.contains (busIndex (p.1 / 2)) then p.2.map (fun _ => 0) else p.2))
  let d := (List.range 12).foldl (fun d s => d.sinkBlock s frame buses) d
  { d with audio := { d.audio with frames := frame + 8, zeroed := [] } }

/-- The four frames of a routed input: a ring is read here; of a tone, whose progress the main path keeps, the next four that
this path has not taken since the last block. -/
def Dev.routeFrames (d : Dev) (i : Nat) : List (Nat × Nat) × Dev :=
  if d.inKind i = 1 then d.ringBlock i 4
  else
    let (k, d) := d.nextFree
    let x := d.ain i
    let (l, _) := x.toneFrames (d.inp i 0x16) (x.ahead + 4)
    (signalFrames k (l.drop x.ahead), d.setAin i { x with ahead := x.ahead + 4 })

/-- LOW_LATENCY_BLOCK: 4 frames of each routed input that runs, through its input gain, into its sink at step 4. -/
def Dev.lowLatencyBlock (d : Dev) : Dev :=
  let routed := (List.range 32).filter (fun i => d.inp i 1 == 2 && d.inp i 9 < 6)
  let sinks := (List.range 6).filter (fun s => routed.any (fun i => d.inp i 9 == s))
  sinks.foldl (fun d s =>
    let (sum, d) := (routed.filter (fun i => d.inp i 9 == s)).foldl (fun (acc : (List Nat × List Nat) × Dev) i =>
      let ((sl, sr), d) := acc
      let (vs, d) := d.routeFrames i
      let (l, d) := d.applyGain i 0 d.audio.frames (vs.map (fun p => p.1))
      let (r, d) := d.applyGain i 1 d.audio.frames (vs.map (fun p => p.2))
      ((addAll sl l, addAll sr r), d)) ((List.replicate 4 0, List.replicate 4 0), d)
    let mono := (addAll sum.1 sum.2).map (fun v => mul32 v (Fp.num false 1 (-1)))
    let put (d : Dev) (c : Nat) (vs : List Nat) : Dev :=
      d.setSinkCh s c { d.sinkCh s c with route := ((d.sinkCh s c).route ++ vs).take 16 }
    if s < 4 then put d 0 (match d.snk s 4 with | 0 => sum.1 | 1 => sum.2 | _ => mono)
    else put (put d 0 sum.1) 1 sum.2) d

/-! ### The stream position (R241) -/

/-- Bead action 07h on an input: position, rod position, time and count, in this order. -/
def Dev.sampleStream (d : Dev) (i rodPosition : Nat) : Dev :=
  let x := d.ain i
  let d := d.setO (inIndex i) 0x17
    (if d.inKind i = 1 then 65536 * x.entered + x.phase * 65536 / 480000000 else 65536 * x.played)
  ((d.setO (inIndex i) 0x18 rodPosition).setO (inIndex i) 0x19 d.clock.ns).count (inIndex i) 0x1A

/-- A crossing timeout passes: every channel of a gain takes every step due. -/
def Dev.gainTimeout (d : Dev) (g : Nat) : Dev :=
  (gainChannels g).foldl (fun d c =>
    let x := d.gainCh g c
    if x.ramping && x.taken < x.due d.audio.frames then d.setGainCh g c (x.take d.audio.frames) else d) d

end Sys2Proof.Machine
end

