-- ==== Sys2Proof/Machine/Audio.lean ====
section
/-! DEFINITION. The audio units as commands reach them (12): routing, run, ring positions, gains, stages, headset ports,
enables and hand-over (R234 to R238, R242, R243, R245, R248 to R256). -/

namespace Sys2Proof.Machine

/-! ### Routing (R235, R248) -/

/-- An input may be sent to a bus: both have one owner, or the input belongs to the island. -/
def Dev.sendAllowed (d : Dev) (i b : Nat) : Bool := d.inOwner i == 0 || d.inOwner i == d.busOwner b

/-- A sink of an owner may take a bus: it belongs to that owner or to the island. -/
def Dev.busAllowed (d : Dev) (owner b : Nat) : Bool := d.busOwner b == owner || d.busOwner b == 0

/-- A gain's value (R245). -/
def gainOk (v : Int) : Bool := v == muted || (-1000 ≤ v && v ≤ 120)

/-- A write of the sixteen send gains. -/
def sendsVerdict (i : Nat) (data : List Byte) (d : Dev) : Verdict :=
  let l (b : Nat) : Int := asSigned 16 (field data (2 * b) 2)
  let on := (List.range 16).filter (fun b => l b != muted)
  if data.length ≠ 32 then .error abortLength
  else if !((List.range 16).all (fun b => gainOk (l b))) then .error abortRange
  else if !(on.all (fun b => d.sendAllowed i b)) then .error abortAccess
  else if d.routed i ∧ d.inKind i = 1 ∧ !on.isEmpty then .error abortState
  else .ok (d.setSends i data)

/-- A write of a gain that is one number. -/
def gainVerdict (g i j v : Nat) (d : Dev) : Verdict :=
  if !(gainOk (asSigned 16 v)) then .error abortRange
  else
    let old := d.gainLevel g
    let d' := d.setO i j v
    .ok (d'.startRamp g old (d'.gainLevel g))

/-- The gain of an object: input, bus or sink. -/
def gainOf (i j : Nat) : Option Nat :=
  if 0x2801 ≤ i ∧ i ≤ 0x2820 ∧ j = 5 then some (i - 0x2801)
  else if 0x2821 ≤ i ∧ i ≤ 0x2830 ∧ j = 1 then some (0x100 + (i - 0x2821))
  else if 0x2831 ≤ i ∧ i ≤ 0x283C ∧ j = 5 then some (0x200 + (i - 0x2831))
  else none

/-- The unit that a capture source belongs to (Table 12-3). -/
def captureUnit (code : Nat) : Nat :=
  if code < 2 then 60 + code else if code < 0x18 then 64 + (code - 0x10) / 2 else if code < 0x30 then 62 else 63

/-- The ports of a capture source may serve an input: of both codes where it has two channels. -/
def Dev.captureAllowed (d : Dev) (i code channels : Nat) : Bool :=
  code == 0xFF || ((List.range channels).all (fun n => d.owner (blockId 5 (captureUnit (code + n))) == d.inOwner i))

/-- A capture source of an input with two channels has a neighbour in its row. -/
def captureRow (code channels : Nat) : Bool :=
  channels != 2 || code == 0xFF || (code != 1 && code != 0x17 && code != 0x2F && code != 0x3F)

/-- A direct route (R248). -/
def routeVerdict (i v : Nat) (d : Dev) : Verdict :=
  let kind := d.inKind i
  if v = 0xFF then .ok (d.setO (inIndex i) 9 v)
  else if 5 < v then .error abortRange
  else if d.sinkOwner v ≠ d.inOwner i ∧ d.inOwner i ≠ 0 then .error abortAccess
  else if !(kind == 0 || (kind == 1 && d.inp i 0x0E == 3)) then .error abortState
  else if kind = 1 ∧ ((List.range 32).any (fun k => k != i && d.inOwner k == d.inOwner i && d.inKind k == 1 && d.routed k)
      ∨ (List.range 16).any (fun b => d.sendLevel i b != muted)) then .error abortState
  else
    .ok ((d.setO (inIndex i) 9 v).wakeStage v)

/-- The ring of an input or record sink is aligned and lies wholly in one DRAM region that the owner may use, or in host memory
(R237). -/
def Dev.ringOk (d : Dev) (code : Nat) (write : Bool) (addr bytes : Nat) : Bool :=
  addr % 64 == 0 && ((0x40 ≤ code && code < 0x80) || (guardOf addr == .region 0 && d.inOneRegion code write addr bytes))

/-- A write of a ring's size or format is refused where it takes a ring that lies right out of its region; before an address is
set there is none to take out (DESIGN CHOICE, assumption log 41: R237 does not say when the place is checked). -/
def Dev.ringKept (d d' : Dev) (code : Nat) (write : Bool) (addr bytes bytes' : Nat) : Bool :=
  !(d.ringOk code write addr bytes) || d'.ringOk code write addr bytes'

/-- Bytes of a ring of an input or sink record, from its own objects. -/
def Dev.inRingBytes (d : Dev) (i : Nat) : Nat := d.inp i 0x0B * d.inp i 0x0D * sampleBytes (d.inp i 0x0C)
def Dev.sinkRingBytes (d : Dev) (s : Nat) : Nat := d.snk s 0x0F * 2 * sampleBytes (d.snk s 0x10)

/-- A period: 0, or 8 to half of the ring. -/
def periodOk (v frames : Nat) : Bool := v == 0 || (8 ≤ v && v ≤ frames / 2)

/-- A ring's length holds its period and the frames available (R238). -/
def framesOk (v available period : Nat) : Bool := available ≤ v && periodOk period v

/-- The write position of a ring input (R238). -/
def writePosVerdict (i v : Nat) (d : Dev) : Verdict :=
  let new := (v + 2 ^ 32 - d.inp i 0x13) % 2 ^ 32
  if d.inp i 1 = 0 ∨ d.inp i 1 = 3 then .error abortState
  else if d.inp i 0x0B < new ∨ new < d.available i then .error abortRange
  else .ok (d.setO (inIndex i) 0x12 v)

/-- The read position of a record sink: the roles swapped. -/
def readPosVerdict (s v : Nat) (d : Dev) : Verdict :=
  let new := (d.snk s 0x14 + 2 ^ 32 - v) % 2 ^ 32
  if d.recorded s < new then .error abortRange else .ok (d.setO (sinkIndex s) 0x15 v)

/-! ### Run (R237, R242, R243) -/

/-- A fall of 2 ms starts. -/
def Dev.startFall (d : Dev) (i : Nat) : Dev :=
  if d.inp i 1 ≠ 2 then d
  else if (d.ain i).fall.isSome then d else d.setAin i { d.ain i with fall := some 96, chime := if i < 8 then [] else (d.ain i).chime }

/-- An input goes to run. -/
def Dev.startInput (d : Dev) (i : Nat) : Dev :=
  let kind := d.inKind i
  let x : AudioIn := { d.ain i with ended := false, ahead := 0 }
  let go (d : Dev) : Dev :=
    let d := (d.setO (inIndex i) 4 1).setO (inIndex i) 1 2
    if d.inp i 9 < 4 then d.wakeStage (d.inp i 9) else d
  match kind with
  | 0 => go (d.setAin i { x with played := 0, word := d.inp i 0x16, at_ := 0, bursts := 0, fall := none })
  | 1 =>
    if d.inp i 1 = 2 ∧ x.fall.isNone then d
    else
      let (e, d) := d.openStream (d.inOwner i) i (d.inp i 0x13)
      go (d.setAin i { x with entry := e, periods := 0, under := false, fall := none, chime := [] })
  | 2 => go (d.setAin i { x with played := 0, fall := none, chime := [] })
  | _ =>
    match d.chimeData (d.inp i 0x15) with
    | some data => go (d.setAin i { x with played := 0, chime := data, fall := none })
    | none => d.log 0x41 0x1703 0 i [i, d.inp i 0x15]

/-- A write of run. -/
def runVerdict (i v : Nat) (d : Dev) : Verdict :=
  if d.inp i 1 = 0 ∨ d.inp i 1 = 3 then .error abortState
  else if v = 1 then .ok (d.startInput i)
  else if d.inp i 1 ≠ 2 then .ok (d.setO (inIndex i) 4 0)
  else if d.inKind i = 0 ∨ d.inKind i = 3 then .ok ((d.setO (inIndex i) 4 0).startFall i)
  else .ok (d.inputStops i)

/-! ### Disabling (R254) -/

def Dev.unitDisableAt (d : Dev) (i : Nat) : Dev :=
  { d with audio := { d.audio with disableAt := tabSet 0 d.audio.disableAt i d.clock.ns } }

/-- A record sink's stream follows whether it records (Table 20-1). -/
def Dev.recordStream (d : Dev) (s : Nat) : Dev :=
  let x := d.sink s
  if d.recording s ∧ x.entry = none then
    let (e, d) := d.openStream (d.sinkOwner s) (0x20 + s) (d.snk s 0x14)
    d.setSink s { x with entry := e, entered := 0, periods := 0 }
  else if !(d.recording s) then (d.closeStream x.entry).setSink s { x with entry := none }
  else d

/-- A port's microphone begins to ramp to mute. -/
def Dev.muteMic (d : Dev) (n : Nat) : Dev :=
  if (d.plug n).muteAt.isSome then d else d.setPlug n { d.plug n with muteAt := some d.audio.frames }

/-- A unit starts to be disabled; the result of the last block goes out in the ramp. -/
def Dev.disableAudio (d : Dev) (i : Nat) : Dev :=
  let st := d.getO i 1
  let d := d.unitDisableAt i
  if i ≤ 0x2820 then (if st = 1 ∨ st = 2 then d.setO i 1 3 else d)
  else if 0x2831 ≤ i ∧ i ≤ 0x283C then (if 1 ≤ st ∧ st ≤ 3 then d.setO i 1 4 else d)
  else if i = 0x2840 ∨ i = 0x2841 then
    ((d.muteMic (i - 0x2840)).setHeadset (i - 0x2840) 6 |>.setO i 3 0).setO i 7 0
  else if 0x2842 ≤ i ∧ i ≤ 0x2847 then (if st = 1 then d.setO i 1 2 else d)
  else d

/-- The disable of a unit ends: an input's run becomes 0, a stage is down, a clock stops. -/
def Dev.audioDisabled (d : Dev) (i : Nat) : Dev :=
  let st := d.getO i 1
  let us := (d.clock.ns - tabGet 0 d.audio.disableAt i) / 1000
  let d := { d with audio := { d.audio with disableAt := tabDrop i d.audio.disableAt } }
  if i ≤ 0x2820 then (if st = 3 then ((d.inputStops (i - 0x2801)).setO i 1 0).setO i 0x1C us else d)
  else if 0x2831 ≤ i ∧ i ≤ 0x283C then
    (if st = 4 then
      let d := (d.setO i 1 0).setO i 0x19 us
      let d := d.setSink (i - 0x2831) { d.sink (i - 0x2831) with out := [], faults := [] }
      d.recordStream (i - 0x2831)
     else d)
  else if 0x2842 ≤ i ∧ i ≤ 0x2847 then (if st = 2 then d.setO i 1 0 else d)
  else d

/-- A unit that shows disabled is enabled. -/
def Dev.enableAudio (d : Dev) (i : Nat) : Dev :=
  let st := d.getO i 1
  if i = 0x2840 ∨ i = 0x2841 then (if st = 6 then d.headsetEmpty (i - 0x2840) else d)
  else if st ≠ 0 then d
  else
    let d := d.setO i 1 1
    if 0x2831 ≤ i ∧ i ≤ 0x283C then d.recordStream (i - 0x2831) else d

/-- The unit is being disabled. -/
def Dev.audioDisabling (d : Dev) (i : Nat) : Bool :=
  let st := d.getO i 1
  if i ≤ 0x2820 then st == 3 else if 0x2831 ≤ i && i ≤ 0x283C then st == 4 else if 0x2842 ≤ i then st == 2 else false

/-- Records that have an enable: inputs, sinks, headset ports, TDM ports and PDM lines. -/
def hasEnable (i : Nat) : Bool := (0x2801 ≤ i && i ≤ 0x2820) || (0x2831 ≤ i && i ≤ 0x283C) || (0x2840 ≤ i && i ≤ 0x2847)

/-- A write of a unit's enable. -/
def audioEnableVerdict (i v : Nat) (d : Dev) : Verdict :=
  if v = 0 then .ok ((d.setO i 2 0).disableAudio i)
  else if d.audioDisabling i then .error abortState
  else .ok ((d.setO i 2 1).enableAudio i)

/-- The rw objects of a record go back to their defaults, but for those that `keep` names (R255). -/
def Dev.resetRw (d : Dev) (i : Nat) (keep : List Nat) : Dev :=
  (List.range 256).foldl (fun d j =>
    match objRow i j with
    | some r => if r.acc == .rw && !(keep.contains j) then
        { d.clearO i j with blobs := tabDrop (objKey i j) d.blobs } else d
    | none => d) d

/-- What a hand-over resets in a unit after its disable (R255): enable returns to its default with the rest. -/
def Dev.audioHandOver (d : Dev) (i : Nat) : Dev :=
  let keep := if 0x2831 ≤ i ∧ i ≤ 0x283C then [8, 9, 0x0A, 0x0B, 0x0C, 0x0D] else if i = 0x2842 ∨ i = 0x2843 then [3, 4] else []
  let d := (d.resetRw i keep).busUse
  let g := if i ≤ 0x2820 then some (i - 0x2801) else if i ≤ 0x2830 then some (0x100 + (i - 0x2821))
    else if i ≤ 0x283C then some (0x200 + (i - 0x2831)) else none
  let mine (k : Nat) : Bool := match g with
    | some g => k / 16 == g || (i ≤ 0x2820 && 0x400 ≤ k / 16 && (k / 16 % 0x400) / 16 == i - 0x2801)
    | none => false
  let d := { d with audio := { d.audio with gains := d.audio.gains.filter (fun p => !(mine p.1)) } }
  if d.getO i 2 = 1 then d.enableAudio i else d

/-- A bus passes to a new owner (R235): sends and sinks that cross owners are cut. -/
def Dev.busPassed (d : Dev) (b owner : Nat) : Dev :=
  let d := (List.range 32).foldl (fun d i =>
    if d.inOwner i ≠ 0 ∧ d.inOwner i ≠ owner ∧ d.sendLevel i b ≠ muted then
      d.setSends i (putField (d.getB (inIndex i) 8) (2 * b) 2 0x8000) else d) d
  let d := (List.range 12).foldl (fun d s =>
    if d.sinkOwner s ≠ owner ∧ d.snk s 3 = b then (d.setO (sinkIndex s) 3 0xFF).recordStream s else d) d
  let d := [0, 1].foldl (fun d p =>
    if d.owner (blockId 5 (62 + p)) = owner then d
    else (List.range 16).foldl (fun d k =>
      let v := d.slotByte p k
      if 128 ≤ v ∧ v % 16 = b then d.setB (tdmIndex p) 5 (putField (d.bytesOr (tdmIndex p) 5 (zeroBytes 16)) k 1 0) else d) d) d
  d.busUse

/-- A sink passes to a new owner (R235, R248, R255): the direct routes into it of inputs that belong neither to that owner nor to
the island are cut. -/
def Dev.sinkPassed (d : Dev) (s owner : Nat) : Dev :=
  (List.range 32).foldl (fun d i =>
    if d.inOwner i ≠ 0 ∧ d.inOwner i ≠ owner ∧ d.inp i 9 = s then d.setO (inIndex i) 9 0xFF else d) d

/-- A capture port passes to a new owner: a capture of another owner's input loses it, as R235 asks one owner of both (DESIGN
CHOICE, assumption log 41: R235 says so of buses alone). -/
def Dev.portPassed (d : Dev) (unit owner : Nat) : Dev :=
  (List.range 32).foldl (fun d i =>
    let code := d.inp i 0x14
    if code ≠ 0xFF ∧ d.inOwner i ≠ owner ∧ (List.range (d.inp i 0x0D)).any (fun n => captureUnit (code + n) == unit) then
      d.setO (inIndex i) 0x14 0xFF else d) d

/-- The audio domain stops (R256): speakers go to ground and headphones to 0 V, every run becomes 0; ring positions stay. -/
def Dev.audioStops (d : Dev) : Dev :=
  let d := (List.range 32).foldl (fun d i => d.inputStops i) d
  (List.range 12).foldl (fun d s => d.setSink s { d.sink s with out := [], chans := [] }) d

/-- On leaving Keep-alive each headset port starts again from Empty. -/
def Dev.audioResumes (d : Dev) : Dev :=
  [0, 1].foldl (fun d n => if d.getO (headsetIndex n) 1 = 6 then d else d.headsetEmpty n) d

/-! ### Writes of the other objects -/

/-- The first of some checks of an owning chapter that fails (Table 3-2: ranges, then owners, then the state), or the device. -/
def verdictOf (checks : List (Bool × Nat)) (d : Dev) : Verdict :=
  match firstAbort checks with
  | some a => .error a
  | none => .ok d

/-- A capture input suits its source: channels in one row, ports of its owner, the rate 48 kHz (R235, R240). -/
def Dev.captureChecks (d : Dev) (i code channels : Nat) : List (Bool × Nat) :=
  [(!(captureRow code channels), abortRange), (!(d.captureAllowed i code channels), abortAccess)]

/-- An input record (R236, R237, R240, R242). -/
def inputVerdict (i j v : Nat) (d : Dev) : Verdict :=
  let idx := inIndex i
  let code := d.inOwner i
  let running := d.inp i 4 == 1
  let capture := d.inKind i == 2
  let addr := d.inp i 0x0A
  let d' := d.setO idx j v
  match j with
  | 2 => audioEnableVerdict idx v d
  | 3 =>
    -- a capture has rate code 3 and a source that suits it; only a ring may have a route (R248)
    verdictOf ([(v == 3 && code != 0, abortAccess)]
      ++ (if v = 2 then [(!(d.captureAllowed i (d.inp i 0x14) (d.inp i 0x0D)), abortAccess),
                         (!(captureRow (d.inp i 0x14) (d.inp i 0x0D)) || d.inp i 0x0E != 3, abortState)] else [])
      ++ [(running && v != d.inp i 3, abortState), (v != 1 && d.routed i, abortState)]) d'
  | 4 => runVerdict i v d
  | 5 => gainVerdict i idx 5 v d
  | 9 => routeVerdict i v d
  | 0x0A =>
    verdictOf [(!(d.ringOk code false v (d.inRingBytes i)), abortRange), (running, abortState)]
      (((d'.setO idx 0x12 0).setO idx 0x13 0).setAin i { d.ain i with entered := 0, phase := 0 })
  | 0x0B =>
    verdictOf [(!(framesOk v (d.available i) (d.inp i 0x10)), abortRange),
               (!(d.ringKept d' code false addr (d.inRingBytes i) (d'.inRingBytes i)), abortRange), (running, abortState)] d'
  | 0x0C => verdictOf [(!(d.ringKept d' code false addr (d.inRingBytes i) (d'.inRingBytes i)), abortRange), (running, abortState)] d'
  | 0x0D =>
    verdictOf ([(!(d.ringKept d' code false addr (d.inRingBytes i) (d'.inRingBytes i)), abortRange)]
      ++ (if capture then d.captureChecks i (d.inp i 0x14) v else []) ++ [(running, abortState)]) d'
  | 0x0E => verdictOf [((capture || (d.inKind i == 1 && d.routed i)) && v != 3, abortState), (running, abortState)] d'
  | 0x0F => verdictOf [(running, abortState)] d'
  | 0x10 => verdictOf [(!(periodOk v (d.inp i 0x0B)), abortRange)] d'
  | 0x12 => writePosVerdict i v d
  | 0x14 => verdictOf (d.captureChecks i v (d.inp i 0x0D)) d'
  | 0x16 =>
    let f1 := bits v 48 16
    let f2 := bits v 32 16
    verdictOf [(f1 < 20 || 20000 < f1 || (f2 != 0 && (f2 < 20 || 20000 < f2)) || bits v 20 12 < 4, abortRange)] d'
  | _ => .ok d'

/-- A bus record. -/
def busVerdict (b j v : Nat) (d : Dev) : Verdict :=
  if j = 1 then gainVerdict (0x100 + b) (busIndex b) 1 v d else .ok (d.setO (busIndex b) j v)

/-- A sink record (R235, R237, R246). -/
def sinkVerdict (s j v : Nat) (d : Dev) : Verdict :=
  let idx := sinkIndex s
  let code := d.sinkOwner s
  let st := d.snk s 1
  let taken := d.snk s 3 != 0xFF
  let addr := d.snk s 0x0E
  let d' := d.setO idx j v
  match j with
  | 2 => audioEnableVerdict idx v d
  | 3 =>
    verdictOf [(s == 6 || s == 7, abortReadOnly), (v != 0xFF && !(d.busAllowed code v), abortAccess),
               (st == 0 || st == 4, abortState)] (d'.busUse.recordStream s)
  | 5 => gainVerdict (0x200 + s) idx 5 v d
  | 0x0E =>
    verdictOf [(!(d.ringOk code true v (d.sinkRingBytes s)), abortRange), (taken, abortState)]
      ((d'.setO idx 0x14 0).setO idx 0x15 0)
  | 0x0F =>
    verdictOf [(!(framesOk v (d.recorded s) (d.snk s 0x12)), abortRange),
               (!(d.ringKept d' code true addr (d.sinkRingBytes s) (d'.sinkRingBytes s)), abortRange), (taken, abortState)] d'
  | 0x10 => verdictOf [(!(d.ringKept d' code true addr (d.sinkRingBytes s) (d'.sinkRingBytes s)), abortRange), (taken, abortState)] d'
  | 0x11 => verdictOf [(taken, abortState)] d'
  | 0x12 => verdictOf [(!(periodOk v (d.snk s 0x0F)), abortRange)] d'
  | 0x15 => readPosVerdict s v d
  | _ => .ok d'

/-- The windows of the buttons (R253): four pairs in order that neither overlap nor reach 1 kΩ. -/
def windowsOk (data : List Byte) : Bool :=
  let lo (k : Nat) := field data (4 * k) 2
  let hi (k : Nat) := field data (4 * k + 2) 2
  (List.range 4).all (fun k => lo k ≤ hi k && hi k < 1000 &&
    (List.range 4).all (fun m => m == k || hi k < lo m || hi m < lo k))

/-- A headset port, a TDM port or a PDM line. -/
def portVerdict (i j v : Nat) (d : Dev) : Verdict :=
  if j = 2 then audioEnableVerdict i v d
  else if (i = 0x2842 ∨ i = 0x2843) ∧ j = 6 ∧ d.audioDisabling i then .error abortState
  else .ok (d.setO i j v)

/-- String objects: send gains, button windows and transmit slot maps, whose other bits keep 0 (R449). -/
def audioStringVerdict (i j : Nat) (data : List Byte) (d : Dev) : Verdict :=
  if i ≤ 0x2820 then sendsVerdict (i - 0x2801) data d
  else if data.length ≠ 16 then .error abortLength
  else if i = 0x2840 ∨ i = 0x2841 then (if windowsOk data then .ok (d.setB i j data) else .error abortRange)
  else
    let data := data.map (fun b => BitVec.ofNat 8 (setBits b.toNat 5 2 0))
    let on := data.filter (fun b => 128 ≤ b.toNat)
    if !(on.all (fun b => d.busAllowed (d.owner (blockId 5 (audioUnit i))) (b.toNat % 16))) then .error abortAccess
    else if d.audioDisabling i then .error abortState
    else .ok (d.setB i j data).busUse

/-- Any numeric object of audio. -/
def audioVerdict (i j v : Nat) (d : Dev) : Verdict :=
  if i ≤ 0x2820 then inputVerdict (i - 0x2801) j v d
  else if i ≤ 0x2830 then busVerdict (i - 0x2821) j v d
  else if i ≤ 0x283C then sinkVerdict (i - 0x2831) j v d
  else portVerdict i j v d

/-! ### Stages (R249, R250) -/

/-- Stage faults of a sink in the 60 s up to the last one. -/
def Dev.recentFaults (d : Dev) (s : Nat) : Nat :=
  let l := (d.sink s).faults
  (l.filter (fun t => l.headD 0 - t < 60000000000)).length

/-- A class-D stage stops in Fault. -/
def Dev.stageFault (d : Dev) (s : Nat) : Dev :=
  if d.snk s 1 = 1 ∨ d.snk s 1 = 2 then
    let d := ((d.setO (sinkIndex s) 1 3).count (sinkIndex s) 0x18).count 0x2800 9
    let d := d.setSink s { d.sink s with faults := (d.clock.ns :: (d.sink s).faults).take 3 }
    d.log 0x41 0x1704 (d.sinkOwner s) (32 + s) [s]
  else d

/-! ### Headset ports (R251 to R253) -/

/-- HSn_DET shows a plug, or its removal. -/
def Dev.detEdge (d : Dev) (n : Nat) (present : Bool) : Dev :=
  let d := d.setPlug n { d.plug n with present := present }
  let st := d.getO (headsetIndex n) 1
  if present ∧ st = 0 then d.setHeadset n 1
  else if !present ∧ st = 1 then d.headsetEmpty n
  else d

/-- The classification of Table 12-7, with the detection mode of R252. -/
def classify (mode za zb : Nat) : Nat :=
  let mic (z : Nat) : Bool := 1000 ≤ z && z ≤ 10000
  match mode with
  | 0 => if za < 70 ∧ zb < 70 then 1 else if mic za then 3 else if mic zb then 2 else 4
  | 1 => if mic zb then 2 else if zb < 70 then 1 else 4
  | _ => if mic za then 3 else if za < 70 then 1 else 4

/-- The measurement ends. -/
def Dev.classified (d : Dev) (n za zb : Nat) : Dev :=
  let mode := d.getO (headsetIndex n) 4
  let code := classify mode za zb
  let d := (d.setO (headsetIndex n) 3 code).setO (headsetIndex n) 0x0A (min 65535 (if mode = 2 then za else zb))
  d.setHeadset n (if code = 1 then 3 else if code = 4 then 5 else 4)

/-- The default windows of Table 12-13. -/
def windows0 : List Byte := [0, 70, 110, 180, 190, 300, 360, 680].flatMap (fun v => leBytes 2 v)

/-- The button whose window holds a resistance. -/
def Dev.buttonAt (d : Dev) (n z : Nat) : Option Nat :=
  let w := d.bytesOr (headsetIndex n) 8 windows0
  (List.range 4).find? (fun k => field w (4 * k) 2 ≤ z && z ≤ field w (4 * k + 2) 2)

/-- The resistance has stayed for 20 ms inside a window, or outside the pressed button's: while one is pressed the port's
microphone ramps to mute. -/
def Dev.buttons (d : Dev) (n z : Nat) : Dev :=
  let new := match d.buttonAt n z with
    | some k => 2 ^ k
    | none => 0
  let d := d.setO (headsetIndex n) 0x0A (min 65535 z)
  let d := if new = 0 then d.setPlug n { d.plug n with muteAt := none } else d.muteMic n
  if new = d.getO (headsetIndex n) 7 then d
  else ((d.setO (headsetIndex n) 7 new).count (headsetIndex n) 0x0C).postNamed (headsetIndex n) 9

/-! ### The meanings -/

/-- The audio domain runs (R256, R293). -/
def onAudio (f : Dev → Dev) (s : State) : Host.Outcome State Fault Refusal :=
  act (fun d => if d.awake && d.domainRuns 15 then f d else d) s

/-- AUDIO_BLOCK (R244). -/
def execAudioBlock (s : State) : Host.Outcome State Fault Refusal := onAudio Dev.audioBlock s

/-- LOW_LATENCY_BLOCK (R248). -/
def execLowLatencyBlock (s : State) : Host.Outcome State Fault Refusal := onAudio Dev.lowLatencyBlock s

/-- INPUT_RUN_WRITE (R242). -/
def execInputRunWrite (who : Init) (input value : Nat) (s : State) : Host.Outcome State Fault Refusal :=
  actServed (onUnit input 32 (fun d =>
    d.request who (inIndex input) 4 (numData (inIndex input) 4 value) (runVerdict input value))) s

/-- WRITE_POSITION_WRITE (R238). -/
def execWritePositionWrite (who : Init) (input value : Nat) (s : State) : Host.Outcome State Fault Refusal :=
  actServed (onUnit input 32 (fun d =>
    d.request who (inIndex input) 0x12 (numData (inIndex input) 0x12 value) (writePosVerdict input value))) s

/-- READ_POSITION_WRITE (R238). -/
def execReadPositionWrite (who : Init) (sink value : Nat) (s : State) : Host.Outcome State Fault Refusal :=
  actServed (onUnit sink 12 (fun d =>
    d.request who (sinkIndex sink) 0x15 (numData (sinkIndex sink) 0x15 value) (readPosVerdict sink value))) s

/-- GAIN_WRITE (R245): the input, send, bus or sink gain that the object names. -/
def execGainWrite (who : Init) (index sub : Nat) (data : List Byte) (s : State) : Host.Outcome State Fault Refusal :=
  actServed (fun d =>
    if 0x2801 ≤ index ∧ index ≤ 0x2820 ∧ sub = 8 then d.request who index 8 data (sendsVerdict (index - 0x2801) data)
    else match gainOf index sub with
      | some g => d.request who index sub data (gainVerdict g index sub (leNat data))
      | none => d) s

/-- GAIN_STEP_TIMEOUT (R245): for the sends of an input, each of its sixteen. -/
def execGainStepTimeout (index sub : Nat) (s : State) : Host.Outcome State Fault Refusal :=
  onAudio (fun d =>
    if 0x2801 ≤ index ∧ index ≤ 0x2820 ∧ sub = 8 then
      (List.range 16).foldl (fun d b => d.gainTimeout (sendGain (index - 0x2801) b)) d
    else if 0x2821 ≤ index ∧ index ≤ 0x2830 ∧ sub = 4 then
      (List.range 32).foldl (fun d i => d.gainTimeout (duckGain i (index - 0x2821))) d
    else match gainOf index sub with
      | some g => d.gainTimeout g
      | none => d) s

/-- STAGE_SILENCE_HOLD_EXPIRY (R249): nothing above the threshold has entered, and no running route keeps the stage up. -/
def execStageSilenceHoldExpiry (sink : Nat) (s : State) : Host.Outcome State Fault Refusal :=
  onAudio (onUnit sink 4 (fun d =>
    if d.snk sink 1 = 1 ∧ (d.sink sink).quiet ∧ d.snk sink 0x0D ≠ 0 ∧ !(d.routeRuns sink) then d.setO (sinkIndex sink) 1 2 else d)) s

/-- SPEAKER_STAGE_FAULT (R250). -/
def execSpeakerStageFault (sink : Nat) (s : State) : Host.Outcome State Fault Refusal :=
  onAudio (onUnit sink 4 (fun d => d.stageFault sink)) s

/-- STAGE_RETRY_EXPIRY (R250): not after a third fault within 60 s, and not while VIN is over 18.0 V. -/
def execStageRetryExpiry (sink : Nat) (s : State) : Host.Outcome State Fault Refusal :=
  onAudio (onUnit sink 4 (fun d =>
    if d.snk sink 1 = 3 ∧ d.recentFaults sink < 3 ∧ !d.power.overVolt then d.setO (sinkIndex sink) 1 1 else d)) s

/-- HEADSET_DET_EDGE (R251): the ball shows what it shows also while the audio domain stands. -/
def execHeadsetDetEdge (port : Nat) (present : Bool) (s : State) : Host.Outcome State Fault Refusal :=
  act (onUnit port 2 (fun d =>
    if d.awake && d.domainRuns 15 then d.detEdge port present
    else d.setPlug port { d.plug port with present := present })) s

/-- HEADSET_DEBOUNCE_EXPIRY (R251). -/
def execHeadsetDebounceExpiry (port : Nat) (s : State) : Host.Outcome State Fault Refusal :=
  onAudio (onUnit port 2 (fun d =>
    if d.getO (headsetIndex port) 1 = 1 ∧ (d.plug port).present then (d.count (headsetIndex port) 0x0B).setHeadset port 2 else d)) s

/-- HEADSET_MEASUREMENT_COMPLETE (R252). -/
def execHeadsetMeasurementComplete (port za zb : Nat) (s : State) : Host.Outcome State Fault Refusal :=
  onAudio (onUnit port 2 (fun d => if d.getO (headsetIndex port) 1 = 2 then d.classified port za zb else d)) s

/-- HEADSET_REMEASURE_EXPIRY (R251): once per plug. -/
def execHeadsetRemeasureExpiry (port : Nat) (s : State) : Host.Outcome State Fault Refusal :=
  onAudio (onUnit port 2 (fun d =>
    let st := d.getO (headsetIndex port) 1
    if (st = 3 ∨ st = 5) ∧ !(d.plug port).remeasured then
      (d.setPlug port { d.plug port with remeasured := true }).setHeadset port 2
    else d)) s

/-- HEADSET_WATCH_TICK (R251): a Three-pole port looks at ZA. -/
def execHeadsetWatchTick (port za : Nat) (s : State) : Host.Outcome State Fault Refusal :=
  onAudio (onUnit port 2 (fun d =>
    if d.getO (headsetIndex port) 1 = 3 then
      let d := d.setO (headsetIndex port) 0x0A (min 65535 za)
      if 1000 < za then d.setHeadset port 2 else d
    else d)) s

/-- HEADSET_PLUG_ABSENT_EXPIRY (R251). -/
def execHeadsetPlugAbsentExpiry (port : Nat) (s : State) : Host.Outcome State Fault Refusal :=
  onAudio (onUnit port 2 (fun d =>
    let st := d.getO (headsetIndex port) 1
    if 1 ≤ st ∧ st ≤ 5 ∧ !(d.plug port).present then
      ((if st = 1 then d else d.count (headsetIndex port) 0x0B).headsetEmpty port)
    else d)) s

/-- HEADSET_BUTTON_DEBOUNCE (R253). -/
def execHeadsetButtonDebounce (port resistance : Nat) (s : State) : Host.Outcome State Fault Refusal :=
  onAudio (onUnit port 2 (fun d => if d.getO (headsetIndex port) 1 = 4 then d.buttons port resistance else d)) s

/-- AUDIO_UNIT_ENABLE_WRITE (R254). -/
def execAudioUnitEnableWrite (who : Init) (index value : Nat) (s : State) : Host.Outcome State Fault Refusal :=
  actServed (fun d => if hasEnable index then d.request who index 2 (numData index 2 value) (audioEnableVerdict index value) else d) s

/-- AUDIO_DISABLE_COMPLETE (R254). -/
def execAudioDisableComplete (index : Nat) (s : State) : Host.Outcome State Fault Refusal :=
  onAudio (fun d => if hasEnable index then d.audioDisabled index else d) s

end Sys2Proof.Machine
end

