-- ==== Sys2Proof/Machine/Bands.lean ====
section
/-! DEFINITION. Band layers (08): bands, their states and pending counts, lead and margin, and how a deadline judges a band
(R149 to R158, R162). -/

namespace Sys2Proof.Machine

/-! ### Outputs and layers by number -/

/-- The output of a layer (R87). -/
def outputOf (layer : Nat) : Nat := layer / 6

/-- The record in force of a layer: 64 bytes of Table 5-4. -/
def Dev.layerRec (d : Dev) (layer : Nat) : List Byte := padTo 64 (d.getB (0x2310 + layer) 0x04)

/-- Fields of a layer record (Table 5-4). -/
def recSurface (r : List Byte) : Nat := field r 0 8
def recPlane (r : List Byte) : Nat := field r 8 8
def recPitch (r : List Byte) : Nat := field r 16 4
def recFormat (r : List Byte) : Nat := field r 20 1
def recFlags (r : List Byte) : Nat := field r 21 1
def recShow (r : List Byte) : Bool := (recFlags r).testBit 0
def recPts (r : List Byte) : Bool := (recFlags r).testBit 1
def recCheck (r : List Byte) : Bool := (recFlags r).testBit 2
def recAlphaMode (r : List Byte) : Nat := bits (recFlags r) 3 2
def recConv (r : List Byte) : Nat := bits (recFlags r) 5 2
def recAlpha (r : List Byte) : Nat := field r 22 1
def recBank (r : List Byte) : Nat := field r 23 1 % 4
def recEngine (r : List Byte) : Nat := bits (field r 23 1) 4 3
def recSrcX (r : List Byte) : Nat := field r 24 2
def recSrcY (r : List Byte) : Nat := field r 26 2
def recSrcW (r : List Byte) : Nat := field r 28 2
def recSrcH (r : List Byte) : Nat := field r 30 2
def recDstX (r : List Byte) : Nat := field r 32 2
def recDstY (r : List Byte) : Nat := field r 34 2
def recDstW (r : List Byte) : Nat := field r 36 2
def recDstH (r : List Byte) : Nat := field r 38 2
def recColour (r : List Byte) : Nat := field r 40 4
def recClear (r : List Byte) : Nat := field r 44 4
def recTable (r : List Byte) : Nat := field r 48 8

/-! ### Bands -/

/-- The band record of a layer. -/
def bandIndex (layer : Nat) : Nat := 0x2580 + layer

def Dev.band (d : Dev) (layer : Nat) : BandLayer := tabGet {} d.bands layer

def Dev.setBandLayer (d : Dev) (layer : Nat) (x : BandLayer) : Dev := { d with bands := tabSet {} d.bands layer x }

/-- The band count of a record with a height (R149). -/
def bandCountOf (dstH height : Nat) : Nat := ceilDiv dstH height

/-- The band count in force (/07h); 0 when the layer is not in band mode. -/
def Dev.bandCount (d : Dev) (layer : Nat) : Nat := d.getO (bandIndex layer) 0x07

/-- The target line of a band (R149). -/
def Dev.bandTarget (d : Dev) (layer b : Nat) : Nat := recDstY (d.layerRec layer) + b * (d.band layer).height

/-- The last line of a band. -/
def Dev.bandEnd (d : Dev) (layer b : Nat) : Nat :=
  let r := d.layerRec layer
  min (d.bandTarget layer (b + 1)) (recDstY r + recDstH r) - 1

/-- A field of `w` bits at position `k` of a string of bits held in an object. -/
def Dev.bitsAt (d : Dev) (i j k w : Nat) : Nat := bits (leNat (d.getB i j)) (w * k) w

/-- Such a field is set; the string keeps its length of `n` bytes, and a string of zeros is the default. -/
def Dev.setBitsAt (d : Dev) (i j n k w v : Nat) : Dev :=
  let x := setBits (leNat (d.getB i j)) (w * k) w v
  d.setB i j (if x = 0 then [] else leBytes n x)

/-- The state of a band (/10h, Table 8-2). -/
def Dev.bandState (d : Dev) (layer b : Nat) : Nat := d.bitsAt (bandIndex layer) 0x10 b 2
def Dev.setBandState (d : Dev) (layer b st : Nat) : Dev := d.setBitsAt (bandIndex layer) 0x10 64 b 2 st

/-- Buffer B is in front for a band (/0Fh). -/
def Dev.bandFront (d : Dev) (layer b : Nat) : Bool := d.bitsAt (bandIndex layer) 0x0F b 1 == 1

/-- The two buffers of a band change places (R150). -/
def Dev.bandSwap (d : Dev) (layer b : Nat) : Dev :=
  d.setBitsAt (bandIndex layer) 0x0F 32 b 1 (if d.bandFront layer b then 0 else 1)

/-- The pending count N of a band (R156). -/
def Dev.bandPending (d : Dev) (layer b : Nat) : Nat := tabGet 0 (d.band layer).pending b

def Dev.setBandPending (d : Dev) (layer b n : Nat) : Dev :=
  let x := d.band layer
  d.setBandLayer layer { x with pending := tabSet 0 x.pending b n }

/-- A swap that falls between the start of the band's fetch, 4 lines before its target line, and its last line waits for
that line (R154). -/
def Dev.bandInFetch (d : Dev) (layer b : Nat) : Bool :=
  let n := outputOf layer
  let line := d.rodLine n
  let target := d.bandTarget layer b
  let lines := d.rodLines n
  d.rodRuns n && ((target ≤ line + 4 && line < d.bandEnd layer b) || (target < 4 && lines ≤ line + 4 - target))

/-- A swap, at once or at the band's last line. -/
def Dev.bandShow (d : Dev) (layer b : Nat) : Dev :=
  let d := if d.bandInFetch layer b then
      let x := d.band layer
      d.setBandLayer layer { x with deferred := tabSet false x.deferred b true }
    else d.bandSwap layer b
  (d.setBandState layer b 0).count (bandIndex layer) 0x0D

/-- A swap deferred to a band's last line takes place. -/
def Dev.deferredSwaps (d : Dev) (n line : Nat) : Dev :=
  (List.range 6).foldl (fun d k =>
    let layer := 6 * n + k
    ((d.band layer).deferred.filter (fun p => d.bandEnd layer p.1 == line)).foldl (fun d p =>
      let x := d.band layer
      (d.setBandLayer layer { x with deferred := tabSet false x.deferred p.1 false }).bandSwap layer p.1) d) d

/-- The frame that a band judged now is to be shown in: the first whose fetch of the band, from 4 lines before its target
line (R150), has not begun. -/
def Dev.bandFrame (d : Dev) (layer b : Nat) : Nat :=
  let n := outputOf layer
  let target := d.bandTarget layer b
  let frame := d.rodFrame n
  if d.rodLine n + 4 < target then frame
  else if target < 4 && d.rodLines n + target ≤ d.rodLine n + 4 then frame + 2
  else frame + 1

/-- A miss: counted, recorded in /11h, and the miss source posted; the first of a layer in a frame is logged (R157,
R162). -/
def Dev.bandMiss (d : Dev) (layer b : Nat) : Dev :=
  let frame := d.rodFrame (outputOf layer)
  let shown := d.bandFrame layer b
  let d := ((d.count (bandIndex layer) 0x0C).count 0x25B0 0x03).setO (bandIndex layer) 0x11
    (b % 256 + 256 * (shown % 2 ^ 24))
  let d := if (d.band layer).missFrame = frame + 1 then d
    else (d.setBandLayer layer { d.band layer with missFrame := frame + 1 }).log 0x29 0x2A01 (d.owner (blockId 2 layer))
      layer [layer, b]
  d.postNamed (bandIndex layer) 0x0B

/-- A band has been judged: it no longer holds compute off any partition (R161). -/
def Dev.bandJudged (d : Dev) (layer b : Nat) : Dev :=
  let parts := d.gpu.parts.map (fun p => (p.1, { p.2 with hold := p.2.hold.filter (fun h => h != (layer, b)) }))
  { d with gpu := { d.gpu with parts := parts.filter (fun p => decide (p.2 ≠ {})) } }

/-- A deadline judges a band (Table 8-2, last column). -/
def Dev.bandDeadline (d : Dev) (layer b : Nat) : Dev :=
  if d.bandCount layer ≤ b then d
  else
    let d := d.bandJudged layer b
    match d.bandState layer b with
    | 0 => if d.bandPending layer b = 0 then d else d.bandMiss layer b
    | 1 => d.bandMiss layer b
    | 2 => d.bandShow layer b
    | _ => (d.bandMiss layer b).setBandState layer b 0

/-- Bands left Rendering become Abandoned (R163, R164): those that `mine` names. -/
def Dev.bandsAbandon (d : Dev) (bands : List (Nat × Nat)) : Dev :=
  bands.foldl (fun d p => if d.bandState p.1 p.2 = 1 then d.setBandState p.1 p.2 3 else d) d

/-- The band record returns to its defaults (R164); jobs keep the pending counts that they hold (R156). -/
def Dev.bandsReset (d : Dev) (layer : Nat) : Dev :=
  let d := d.clearIndex (bandIndex layer) []
  ((d.setB (bandIndex layer) 0x0F []).setB (bandIndex layer) 0x10 []).setBandLayer layer
    { pending := (d.band layer).pending }

/-! ### Lead and margin (R151, R152) -/

/-- Lead and margin as they fit into a VTOTAL: the largest margin, then the largest lead. -/
def fitLead (vtotal lead margin : Nat) : Nat × Nat :=
  if lead + margin ≤ vtotal - 1 then (lead, margin)
  else
    let m := min margin (vtotal - 1 - 8)
    (vtotal - 1 - m, m)

/-- The values in use are formed again; an event is logged when either is clamped. -/
def Dev.bandValues (d : Dev) (layer lead margin : Nat) : Dev :=
  let i := bandIndex layer
  let (l, m) := fitLead (d.rodVtotal (outputOf layer)) lead margin
  let d := (d.setO i 0x08 l).setO i 0x09 m
  if (l, m) = (lead, margin) then d else d.log 0x2A 0x2A02 (d.owner (blockId 2 layer)) layer [layer, l, m]

/-- The preemption bound in force in µs (R159, 25B0h/01h). -/
def Dev.preemptionBound (d : Dev) : Nat := if d.getO 0x3400 0x07 = 3 then 96 else 48

/-- The trim T of R67 in ppm: the trim limit of rod `n` while a lock source is set. -/
def Dev.trimPpm (d : Dev) (n : Nat) : Nat := if d.getO (rodIndex n) 0x0A = 0 then 0 else d.getO (rodIndex n) 0x0E

/-- The minimum safe margin (R152, /0Ah). -/
def Dev.safeMargin (d : Dev) (layer : Nat) : Nat :=
  let n := outputOf layer
  max 4 (ceilDiv (d.preemptionBound * d.force n 1 * (1000000 + d.trimPpm n)) (htotalOf (d.force n) * 1000000000000))

end Sys2Proof.Machine
end

