-- ==== Sys2Proof/Machine/Pts.lean ====
section
/-! DEFINITION. Packed tiles as arithmetic on bytes (06): the encoder (R116, with erratum B0-02), the decoder (R117), and
where a tile lies (R112). -/

namespace Sys2Proof.Machine

/-- Bytes of a pixel of a packed-tile format: A8 1, the others 4 (R113). -/
def ptsBpp (format : Nat) : Nat := if format = 8 then 1 else 4

/-- A pixel as its bytes, channel 0 first. -/
abbrev Pixel := List Byte

/-- The clear colour as a pixel of a format: R, G, B, A of the word in bits 7:0 to 31:24; BGRA takes them in its own byte
order, and A8 takes the alpha (R113). -/
def clearPixel (format word : Nat) : Pixel :=
  let b := leBytes 4 word
  match format with
  | 8 => [byteAt b 3]
  | 2 => [byteAt b 2, byteAt b 1, byteAt b 0, byteAt b 3]
  | _ => b

/-- How many bytes of a slot a reader fetches (Table 6-2). -/
def tileBytes (format hdr : Nat) : Nat :=
  let size := hdr % 32
  let raw := if format = 8 then 4 else 16
  if 128 ≤ hdr % 256 then 0 else if size = 0 then 16 else if size < raw then 16 * size else if format = 8 then 64 else 256

/-- The zigzag value of a difference (R115). -/
def zigzag (d : Int) : Nat := if 0 ≤ d then 2 * d.toNat else (-2 * d - 1).toNat

/-- The difference of a zigzag value. -/
def unzig (z : Nat) : Int := if z % 2 = 0 then (z / 2 : Nat) else -((z / 2 : Nat) : Int) - 1

/-- The residual of one channel: the pixel less its predictor, as a signed byte, in zigzag form. -/
def residual (pixel pred : Byte) : Nat := zigzag (asSigned 8 (pixel - pred).toNat)

/-- The predictor of pixel `k` (8y + x) of a tile (R115). -/
def predictor (k : Nat) : Nat := if k % 8 = 0 then k - 8 else k - 1

/-- Pixel `k` of a tile. -/
def tilePixel (tile : List Pixel) (k : Nat) : Pixel := tile.getD k []

/-- The residuals of pixels 1 to 63, each channel by channel. -/
def tileResiduals (bpp : Nat) (tile : List Pixel) : List (List Nat) :=
  (List.range 63).map (fun i =>
    let k := i + 1
    (List.range bpp).map (fun c => residual (byteAt (tilePixel tile k) c) (byteAt (tilePixel tile (predictor k)) c)))

/-- The bits that a value needs. -/
def bitsNeeded : Nat → Nat → Nat
  | 0, _ => 0
  | n + 1, v => if v = 0 then 0 else 1 + bitsNeeded n (v / 2)

/-- The width of a channel: the smallest w for which every value is below 2^w (R116). -/
def channelWidth (rs : List (List Nat)) (c : Nat) : Nat := rs.foldl (fun m r => max m (bitsNeeded 8 (r.getD c 0))) 0

/-- A number's low `w` bits, least significant first. -/
def lowBits (w v : Nat) : List Bool := (List.range w).map (fun k => v.testBit k)

/-- Bits packed into bytes, bit 0 first. -/
def packBits : Nat → List Bool → List Byte
  | 0, _ => []
  | n + 1, bs =>
    BitVec.ofNat 8 (((bs.take 8).zip (List.range 8)).foldl (fun acc p => acc + (if p.1 then 2 ^ p.2 else 0)) 0)
      :: packBits n (bs.drop 8)

/-- The encoder (R116): the header byte and the slot bytes that it covers, for a tile of 64 pixels. An A8 tile of width 5
is written raw (erratum B0-02). The rule gives bytes 0 to 3 of a solid tile's slot; bytes 4 to 15, which a reader fetches, are
written 0 (DESIGN CHOICE, assumption log 27). -/
def encodeTile (format : Nat) (tile : List Pixel) : Nat × List Byte :=
  let bpp := ptsBpp format
  let base := tilePixel tile 0
  let raw := (16, tile.flatMap (fun p => p))
  if tile.all (fun p => p == base) then (0, padTo 16 base)
  else
    let rs := tileResiduals bpp tile
    let widths := (List.range bpp).map (channelWidth rs)
    let sum := widths.foldl (· + ·) 0
    let s := bpp + 2 + ceilDiv (63 * sum) 8
    if (bpp = 4 ∧ 240 < s) ∨ (bpp = 1 ∧ (48 < s ∨ sum = 5)) then raw
    else
      let size := ceilDiv s 16
      let word := ((widths.zip (List.range bpp)).foldl (fun acc p => acc + p.1 * 16 ^ p.2) 0)
      let stream := rs.flatMap (fun r => (r.zip widths).flatMap (fun p => lowBits p.2 p.1))
      (size, padTo (16 * size) (base ++ leBytes 2 word ++ packBits (ceilDiv (63 * sum) 8) stream))

/-- The decoder (R117), from the header byte and the slot bytes fetched. -/
def decodeTile (format hdr clear : Nat) (slot : List Byte) : List Pixel :=
  let bpp := ptsBpp format
  let size := hdr % 32
  if 128 ≤ hdr % 256 then List.replicate 64 (clearPixel format clear)
  else if size = 0 then List.replicate 64 (slot.take bpp)
  else if (bpp = 4 ∧ 16 ≤ size) ∨ (bpp = 1 ∧ 4 ≤ size) then
    (List.range 64).map (fun k => (slot.drop (bpp * k)).take bpp)
  else
    let word := field slot bpp 2
    let widths := (List.range bpp).map (fun c => min 8 (bits word (4 * c) 4))
    let sum := widths.foldl (· + ·) 0
    let stream := leNat (slot.drop (bpp + 2))
    (List.range 63).foldl (fun px i =>
      let k := i + 1
      let at_ := i * sum
      let pred := tilePixel px (predictor k)
      let p := (List.range bpp).map (fun c =>
        let lo := at_ + (widths.take c).foldl (· + ·) 0
        byteAt pred c + BitVec.ofInt 8 (unzig (bits stream lo (widths.getD c 0))))
      px ++ [p]) [slot.take bpp]

/-- Where a tile's header byte and slot lie (R112). -/
def tileHeader (hdrBase columns tx ty : Nat) : Nat := hdrBase + ty * columns + tx
def tileSlot (slotBase columns tx ty : Nat) : Nat := slotBase + (ty * columns + tx) * 256

/-- A surface descriptor (Table 6-5). -/
structure PtsDesc where
  slots   : Nat
  headers : Nat
  columns : Nat
  rows    : Nat
  format  : Nat
  clear   : Nat
  deriving DecidableEq, Repr

/-- The 32 bytes of a descriptor; none when they break R112 or Table 6-5. -/
def ptsDesc (b : List Byte) : Option PtsDesc :=
  let x : PtsDesc := { slots := field b 0 8, headers := field b 8 8, columns := field b 16 2, rows := field b 18 2
                       format := field b 20 1, clear := field b 24 4 }
  let ok := x.slots % 256 == 0 && x.slots < 2 ^ 40 && x.headers % 256 == 0 && x.headers < 2 ^ 40
    && 1 ≤ x.columns && x.columns ≤ 512 && 1 ≤ x.rows && x.rows ≤ 512
    && (x.format == 1 || x.format == 2 || x.format == 8) && field b 21 3 == 0 && field b 28 4 == 0
  if ok then some x else none

end Sys2Proof.Machine
end

