-- ==== Sys2Proof/Machine/Pixel.lean ====
section
/-! DEFINITION. The pipe of one output (05): fetch and expansion of a layer's pixel, scaling, blending, and rounding to the
port (R86 to R96). -/

namespace Sys2Proof.Machine

/-! ### Fetch -/

/-- The data bytes of the unit at offset `u` of a protected region, corrected where the code can. -/
def Dev.peekUnit (d : Dev) (r code u : Nat) : List Byte :=
  match d.decodeUnit r code u with
  | .corrected data => data
  | _ => d.bytesAt (d.regBase 0 r + u) (unitSize code)

/-- A byte as a read returns it, without what the read records. -/
def Dev.peekByte (d : Dev) (addr : Nat) : Byte :=
  match d.protection addr with
  | none => d.byte addr
  | some (r, code) =>
    let x := addr - d.regBase 0 r
    byteAt (d.peekUnit r code (x / unitSize code * unitSize code)) (x % unitSize code)

def Dev.peek (d : Dev) (addr n : Nat) : List Byte := (List.range n).map (fun k => d.peekByte (addr + k))

/-- Bytes per pixel of the first plane (Table 5-1, R90). -/
def planeBpp (format : Nat) : Nat :=
  match format with
  | 3 => 2
  | 5 => 8
  | 6 | 7 | 8 => 1
  | _ => 4

/-! ### Twelve-bit channels (R89) -/

/-- Red, green, blue and alpha of 12 bits. -/
structure Rgba where
  r : Nat
  g : Nat
  b : Nat
  a : Nat
  deriving DecidableEq, Repr

/-- Every channel through a function. -/
def Rgba.map (f : Nat → Nat) (p : Rgba) : Rgba := { r := f p.r, g := f p.g, b := f p.b, a := f p.a }

/-- A quotient rounded to nearest, halves up (R86). -/
def roundDiv (a b : Nat) : Nat := (2 * a + b) / (2 * b)

def expand5 (v : Nat) : Nat := v * 128 + v * 4 + v / 8
def expand6 (v : Nat) : Nat := v * 64 + v
def expand8 (v : Nat) : Nat := v * 16 + v / 16
def expand10 (v : Nat) : Nat := v * 4 + v / 256
def expand2 (v : Nat) : Nat := v * 1365

/-- A binary16 value clamped to 0.0 to 1.0 and scaled to 0 to 4095; a NaN reads as 0. -/
def expandHalf (v : Nat) : Nat :=
  let e := bits v 10 5
  let m := v % 1024
  if e = 31 ∧ m ≠ 0 then 0
  else if v.testBit 15 then 0
  else if 15 ≤ e then 4095
  else if e = 0 then roundDiv (m * 4095) (2 ^ 24)
  else roundDiv ((1024 + m) * 4095) (2 ^ (25 - e))

/-- A word of bytes R, G, B, A. -/
def rgbaWord (w : Nat) : Rgba :=
  { r := expand8 (bits w 0 8), g := expand8 (bits w 8 8), b := expand8 (bits w 16 8), a := expand8 (bits w 24 8) }

/-- A colour object: R 23:16, G 15:8, B 7:0. -/
def rgbColour (w a : Nat) : Rgba :=
  { r := expand8 (bits w 16 8), g := expand8 (bits w 8 8), b := expand8 (bits w 0 8), a := a }

/-- Coefficients of a conversion (R89) in units of 2^-12, between 12-bit values: luma, Cr to red, Cb to green, Cr to green,
Cb to blue. The four sets are BT.601 limited and full, BT.709 limited and full. -/
def matrixOf (conv : Nat) : Nat × Nat × Nat × Nat × Nat :=
  let kr := if conv < 2 then 2990 else 2126
  let kb := if conv < 2 then 1140 else 722
  let kg := 10000 - kr - kb
  let yDen := if conv % 2 = 0 then 219 else 255
  let cDen := if conv % 2 = 0 then 224 else 255
  (roundDiv (4096 * 255) yDen,
   roundDiv (4096 * 255 * 2 * (10000 - kr)) (10000 * cDen),
   roundDiv (4096 * 255 * 2 * (10000 - kb) * kb) (10000 * kg * cDen),
   roundDiv (4096 * 255 * 2 * (10000 - kr) * kr) (10000 * kg * cDen),
   roundDiv (4096 * 255 * 2 * (10000 - kb)) (10000 * cDen))

/-- An integer clamped to a 12-bit channel. -/
def clamp12 (v : Int) : Nat := min 4095 v.toNat

/-- Luma and chroma, expanded to 12 bits, to RGB: each product rounded to nearest, halves up (R86). DESIGN CHOICE (assumption
log 21): black of a limited range and the centre of chroma are the expanded values of 16 and 128. -/
def yuvToRgb (conv y cb cr : Nat) : Rgba :=
  let (ky, krv, kgu, kgv, kbu) := matrixOf conv
  let y' : Int := (y : Int) - ((if conv % 2 = 0 then expand8 16 else 0 : Nat) : Int)
  let u : Int := (cb : Int) - (expand8 128 : Nat)
  let v : Int := (cr : Int) - (expand8 128 : Nat)
  let mul (k : Nat) (x : Int) : Int := ((k : Int) * x + 2048) / 4096
  { r := clamp12 (mul ky y' + mul krv v), g := clamp12 (mul ky y' - mul kgu u - mul kgv v)
    b := clamp12 (mul ky y' + mul kbu u), a := 4095 }

/-! ### A layer's source pixel -/

/-- The source of a layer: its record, and the surface and plane in use. -/
structure Source where
  layer   : Nat
  record  : List Byte
  surface : Nat
  plane   : Nat
  deriving DecidableEq, Repr

/-- The pixel of a packed-tile surface. -/
def Dev.ptsPixel (d : Dev) (slots headers columns format clear x y : Nat) : Pixel :=
  let hdr := (d.peekByte (tileHeader headers columns (x / 8) (y / 8))).toNat
  let slot := d.peek (tileSlot slots columns (x / 8) (y / 8)) (tileBytes format hdr)
  tilePixel (decodeTile format hdr clear slot) (8 * (y % 8) + x % 8)

/-- The chroma sample of a luma position, expanded to 12 bits: linear between co-sited columns, and then between rows that sit
midway, each quotient rounded (R86, R89). The samples stay within the source rectangle. -/
def Dev.chroma (d : Dev) (s : Source) (x y c : Nat) : Nat :=
  let r := s.record
  let lastX := (recSrcX r + recSrcW r) / 2 - 1
  let firstY := recSrcY r / 2
  let lastY := (recSrcY r + recSrcH r) / 2 - 1
  let at_ (cx cy : Nat) : Nat :=
    expand8 (d.peekByte (s.plane + min lastY (max firstY cy) * recPitch r + 2 * min lastX cx + c)).toNat
  let row (cy : Nat) : Nat := if x % 2 = 0 then at_ (x / 2) cy else roundDiv (at_ (x / 2) cy + at_ (x / 2 + 1) cy) 2
  let k := y / 2
  let near := row k
  let far := if y % 2 = 0 then (if k = 0 then row 0 else row (k - 1)) else row (k + 1)
  roundDiv (3 * near + far) 4

/-- The table of a layer in force: entry `k` as a word. -/
def Dev.tableWord (d : Dev) (layer k : Nat) : Nat := field (tabGet {} d.comp.layers layer).table (4 * k) 4

/-- The expanded pixel at surface position (x, y) (R88, R89). -/
def Dev.sourcePixel (d : Dev) (s : Source) (x y : Nat) : Rgba :=
  let r := s.record
  let f := recFormat r
  let px : List Byte :=
    if recPts r then d.ptsPixel s.surface s.plane (recPitch r) f (recClear r) x y
    else d.peek (s.surface + y * recPitch r + x * planeBpp f) (planeBpp f)
  let w := leNat px
  match f with
  | 1 => rgbaWord w
  | 2 => { r := expand8 (bits w 16 8), g := expand8 (bits w 8 8), b := expand8 (bits w 0 8), a := expand8 (bits w 24 8) }
  | 3 => { r := expand5 (bits w 11 5), g := expand6 (bits w 5 6), b := expand5 (bits w 0 5), a := 4095 }
  | 4 => { r := expand10 (bits w 0 10), g := expand10 (bits w 10 10), b := expand10 (bits w 20 10), a := expand2 (bits w 30 2) }
  | 5 => { r := expandHalf (bits w 0 16), g := expandHalf (bits w 16 16), b := expandHalf (bits w 32 16)
           a := expandHalf (bits w 48 16) }
  | 6 => yuvToRgb (recConv r) (expand8 w) (d.chroma s x y 0) (d.chroma s x y 1)
  | 7 => rgbaWord (d.tableWord s.layer w)
  | _ => rgbColour (recColour r) (expand8 w)

/-- Premultiplication by the alpha mode (R94): RGB565 and NV12 are opaque, and A8 is straight. -/
def premultiply (r : List Byte) (p : Rgba) : Rgba :=
  let f := recFormat r
  let mode := if f = 3 ∨ f = 6 then 2 else if f = 8 then 1 else recAlphaMode r
  match mode with
  | 0 => p
  | 1 => { r := roundDiv (p.r * p.a) 4095, g := roundDiv (p.g * p.a) 4095, b := roundDiv (p.b * p.a) 4095, a := p.a }
  | _ => { p with a := 4095 }

/-- The premultiplied pixel at a position relative to the source rectangle; outside it, the nearest on its edge (R92). -/
def Dev.edgePixel (d : Dev) (s : Source) (x y : Int) : Rgba :=
  let r := s.record
  let cx := min (recSrcW r - 1) x.toNat
  let cy := min (recSrcH r - 1) y.toNat
  premultiply r (d.sourcePixel s (recSrcX r + cx) (recSrcY r + cy))

/-! ### The scaler (R91 to R93) -/

/-- A record is scaled (R91). -/
def recScaled (r : List Byte) : Bool := recSrcW r != recDstW r || recSrcH r != recDstH r

/-- The source position of a destination column or row, with 20 fraction bits, truncated toward minus infinity. -/
def scalePosition (dx src dst : Nat) : Int :=
  (((2 * dx + 1) * src * 2 ^ 20 : Nat) - (dst * 2 ^ 20 : Nat) : Int) / ((2 * dst : Nat) : Int)

/-- A coefficient of the linear set (R93). -/
def linearCoefficient (vertical : Bool) (phase tap : Nat) : Int :=
  let near := if vertical then 1 else 3
  if tap = near then 1024 - 16 * (phase : Int) else if tap = near + 1 then 16 * (phase : Int) else 0

/-- A coefficient of a bank in force. -/
def Dev.coefficient (d : Dev) (bank : Nat) (vertical : Bool) (phase tap : Nat) : Int :=
  let b := tabGet [] d.comp.banks bank
  if b.isEmpty then linearCoefficient vertical phase tap
  else if vertical then asSigned 16 (field b (1024 + 2 * (4 * phase + tap)) 2)
  else asSigned 16 (field b (2 * (8 * phase + tap)) 2)

/-- One filter: the weighted sum of taps, rounded and clamped. -/
def filterSum (terms : List (Int × Rgba)) : Rgba :=
  let one (f : Rgba → Nat) : Nat := clamp12 ((terms.foldl (fun acc t => acc + t.1 * (f t.2 : Int)) 0 + 512) / 1024)
  { r := one (·.r), g := one (·.g), b := one (·.b), a := one (·.a) }

/-- The scaled pixel at a position of the destination rectangle: horizontally first, then vertically. -/
def Dev.scaledPixel (d : Dev) (s : Source) (dx dy : Nat) : Rgba :=
  let r := s.record
  let sx := scalePosition dx (recSrcW r) (recDstW r)
  let sy := scalePosition dy (recSrcH r) (recDstH r)
  let bank := 4 * outputOf s.layer + recBank r
  let one : Int := 2 ^ 20
  let px := ((sx % one) / 2 ^ 14).toNat
  let py := ((sy % one) / 2 ^ 14).toNat
  let row (t : Nat) : Rgba := filterSum ((List.range 8).map (fun u =>
    (d.coefficient bank false px u, d.edgePixel s (sx / one + u - 3) (sy / one + t - 1))))
  filterSum ((List.range 4).map (fun t => (d.coefficient bank true py t, row t)))

/-! ### Blending (R94) -/

/-- The plane alpha scales every channel. -/
def planeAlpha (pa : Nat) (p : Rgba) : Rgba := p.map (fun c => roundDiv (c * pa) 255)

/-- A premultiplied pixel over what lies below it. -/
def blend (c below : Rgba) : Rgba :=
  let blend (x y : Nat) : Nat := min 4095 (x + roundDiv (y * (4095 - c.a)) 4095)
  { r := blend c.r below.r, g := blend c.g below.g, b := blend c.b below.b, a := 4095 }

/-- The source that a layer shows on a line: in band mode the front buffer of the line's band (R150). -/
def Dev.layerSource (d : Dev) (layer y : Nat) : Source :=
  let r := d.layerRec layer
  let x := d.band layer
  let b := (y - recDstY r) / x.height
  if x.on && d.bandFront layer b then { layer := layer, record := r, surface := x.surface, plane := x.plane }
  else { layer := layer, record := r, surface := recSurface r, plane := recPlane r }

/-- What a layer contributes at (x, y) of the active area; nothing where it does not show (R87, R96). -/
def Dev.layerPixel (d : Dev) (layer x y : Nat) : Option Rgba :=
  let r := d.layerRec layer
  if recShow r && recDstX r ≤ x && x < recDstX r + recDstW r && recDstY r ≤ y && y < recDstY r + recDstH r then
    let halted := match (tabGet {} d.comp.layers layer).haltLine with
      | some h => decide (h ≤ y)
      | none => false
    if halted then some (rgbaWord (d.getO (0x2310 + layer) 0x03))
    else
      let s := d.layerSource layer y
      let p := if recScaled r then d.scaledPixel s (x - recDstX r) (y - recDstY r)
        else d.edgePixel s ((x : Int) - recDstX r) ((y : Int) - recDstY r)
      some (planeAlpha (recAlpha r) p)
  else none

/-- The blended pixel of an output at (x, y). -/
def Dev.blended (d : Dev) (n x y : Nat) : Rgba :=
  (List.range 6).foldl (fun acc k =>
    match d.layerPixel (6 * n + k) x y with
    | some p => blend p acc
    | none => acc) (rgbColour (tabGet {} d.comp.outputs n).background 4095)

/-! ### Dithering and rounding (R95) -/

/-- Table 5-2. -/
def ditherMatrix : List (List Nat) := [[0, 8, 2, 10], [12, 4, 14, 6], [3, 11, 1, 9], [15, 7, 13, 5]]

/-- The offsets of a frame. -/
def ditherOffset (frame : Nat) : Nat × Nat :=
  match frame % 4 with
  | 0 => (0, 0)
  | 1 => (2, 2)
  | 2 => (0, 2)
  | _ => (2, 0)

/-- A 12-bit channel as it leaves the port, at `bpc` bits. -/
def portChannel (dither : Bool) (bpc frame x y v : Nat) : Nat :=
  let (ox, oy) := ditherOffset frame
  let m := (ditherMatrix.getD ((y + oy) % 4) []).getD ((x + ox) % 4) 0
  if dither && bpc == 8 then min 255 ((v + m) / 16)
  else if dither && bpc == 6 then min 63 ((v + 4 * m) / 64)
  else min (2 ^ bpc - 1) ((v + 2 ^ (11 - bpc)) / 2 ^ (12 - bpc))

/-- The line that leaves the port of an output in state Active: one pixel as red 29:20, green 19:10, blue 9:0. -/
def Dev.composeLine (d : Dev) (n frame y : Nat) : List Nat :=
  let dither := (tabGet {} d.comp.outputs n).dither == 1
  let bpc := d.force n 0x0E
  (List.range (d.force n 2)).map (fun x =>
    let p := d.blended n x y
    let c (v : Nat) : Nat := portChannel dither bpc frame x y v
    c p.r * 2 ^ 20 + c p.g * 2 ^ 10 + c p.b)

end Sys2Proof.Machine
end

