-- ==== Sys2Proof/Machine/Layers.lean ====
section
/-! DEFINITION. Layers (05): validity of a record, extents, demand, the latch of records with their Nines bindings and
scalers, and halts (R87 to R101, R106). -/

namespace Sys2Proof.Machine

/-! ### Objects -/

def layerIndex (layer : Nat) : Nat := 0x2310 + layer
def Dev.layerState (d : Dev) (layer : Nat) : Nat := d.getO (layerIndex layer) 0x01
def Dev.setLayerState (d : Dev) (layer st : Nat) : Dev := d.setO (layerIndex layer) 0x01 st
def Dev.layer (d : Dev) (layer : Nat) : Layer := tabGet {} d.comp.layers layer
def Dev.setLayer (d : Dev) (layer : Nat) (x : Layer) : Dev :=
  { d with comp := { d.comp with layers := tabSet {} d.comp.layers layer x } }
def Dev.output (d : Dev) (n : Nat) : Output := tabGet {} d.comp.outputs n
def Dev.setOutput (d : Dev) (n : Nat) (x : Output) : Dev :=
  { d with comp := { d.comp with outputs := tabSet {} d.comp.outputs n x } }

/-- The state of an output (Table 4-3). -/
def outputIndex (n : Nat) : Nat := 0x2200 + 16 * n
def Dev.outState (d : Dev) (n : Nat) : Nat := d.getO (outputIndex n) 0x02

/-! ### Validity of a record (check 2 of Table 5-5) -/

/-- Bytes 20 to 23 are valid (R88, R89, R94, R97). -/
def recHeadOk (r : List Byte) : Bool :=
  let f := recFormat r
  let g := recFlags r
  1 ≤ f && f ≤ 8
    && !(g.testBit 7) && (f == 6 || recConv r == 0) && recAlphaMode r != 3
    && (!(recPts r) || f == 1 || f == 2 || f == 8)
    && (!(recCheck r) || (!(recPts r) && f != 6))
    && !((field r 23 1).testBit 7) && bits (field r 23 1) 2 2 == 0
    && (recCheck r || recEngine r == 0)

/-- Addresses, pitch and geometry against an active area (R90, R112). -/
def recBodyOk (r : List Byte) (hactive vactive : Nat) : Bool :=
  let f := recFormat r
  let align := if recPts r then 256 else 64
  recSurface r < 2 ^ 40 && recSurface r % align == 0
    && (if recPts r || f == 6 then recPlane r < 2 ^ 40 && recPlane r % align == 0 else recPlane r == 0)
    && 1 ≤ recSrcW r && 1 ≤ recSrcH r && 1 ≤ recDstW r && 1 ≤ recDstH r
    && (f != 6 || (recSrcX r % 2 == 0 && recSrcY r % 2 == 0 && recSrcW r % 2 == 0 && recSrcH r % 2 == 0))
    && recDstX r + recDstW r ≤ hactive && recDstY r + recDstH r ≤ vactive
    && (if recPts r then 1 ≤ recPitch r && recPitch r ≤ 512 && ceilDiv (recSrcX r + recSrcW r) 8 ≤ recPitch r
          && ceilDiv (recSrcY r + recSrcH r) 8 ≤ 512
        else recPitch r % 64 == 0 && (recSrcX r + recSrcW r) * planeBpp f ≤ recPitch r)
    && recColour r < 2 ^ 24
    && (!(recCheck r) || recTable r % 4 == 0)
    && field r 56 8 == 0

/-- What band mode asks of a record (R148). -/
def Dev.recBandOk (d : Dev) (layer : Nat) (r : List Byte) : Bool :=
  d.getO (bandIndex layer) 0x01 == 0 ||
    (let h := d.getO (bandIndex layer) 0x02
     !(recScaled r) && !(recCheck r) && recFormat r != 6 && recFormat r != 7 && bandCountOf (recDstH r) h ≤ 255
       && (!(recPts r) || (recSrcY r % 8 == 0 && h % 8 == 0
            && d.getO (bandIndex layer) 0x03 % 256 == 0 && d.getO (bandIndex layer) 0x04 % 256 == 0)))

/-- A record is valid for an active area; with SHOW = 0 only bytes 20 to 23 are looked at (R456). -/
def Dev.recOk (d : Dev) (layer : Nat) (r : List Byte) (p : Nat → Nat) : Bool :=
  recHeadOk r && (!(recShow r) || (recBodyOk r (p 2) (p 6) && d.recBandOk layer r))

/-! ### Extents (R103) -/

/-- The spans of memory that a record fetches: first byte and length. -/
def recExtents (r : List Byte) (surface plane : Nat) : List (Nat × Nat) :=
  let bpp := planeBpp (recFormat r)
  if recPts r then
    let c := recPitch r
    let tx0 := recSrcX r / 8
    let tx1 := ceilDiv (recSrcX r + recSrcW r) 8 - 1
    let ty0 := recSrcY r / 8
    let ty1 := ceilDiv (recSrcY r + recSrcH r) 8 - 1
    let first := tileSlot surface c tx0 ty0
    let h := tileHeader plane c tx0 ty0
    [(first, tileSlot surface c tx1 ty1 + 256 - first), (h, tileHeader plane c tx1 ty1 + 1 - h)]
  else
    let first := surface + recSrcY r * recPitch r + recSrcX r * bpp
    let main := (first, (recSrcH r - 1) * recPitch r + recSrcW r * bpp)
    if recFormat r = 6 then
      let f2 := plane + recSrcY r / 2 * recPitch r + recSrcX r
      [main, (f2, (recSrcH r / 2 - 1) * recPitch r + recSrcW r)]
    else [main]

/-- Every span that a record of a layer needs: its surface, buffer B of a band layer, and the check table. -/
def Dev.recSpans (d : Dev) (layer : Nat) (r : List Byte) : List (Nat × Nat) :=
  recExtents r (recSurface r) (recPlane r)
    ++ (if d.getO (bandIndex layer) 0x01 = 1 then
          recExtents r (d.getO (bandIndex layer) 0x03) (d.getO (bandIndex layer) 0x04) else [])
    ++ (if recCheck r then [(recTable r + 4 * recSrcY r, 4 * recSrcH r)] else [])

/-- Check 3: ownership of the layer and of the named engine, and every span in one readable region. -/
def Dev.recOwned (d : Dev) (code layer : Nat) (r : List Byte) : Bool :=
  d.owner (blockId 2 layer) == code &&
    (!(recShow r) ||
      ((!(recCheck r) || d.owner (blockId 8 (recEngine r)) == code)
        && (d.recSpans layer r).all (fun s => d.inOneRegion code false s.1 s.2)))

/-! ### Demand (R99) -/

/-- Bytes per pixel for admission, in 64ths (Table 5-1; PTS adds the header array). -/
def demandBpp (r : List Byte) : Nat :=
  (match recFormat r with
   | 3 => 128
   | 5 => 512
   | 6 => 96
   | 7 | 8 => 64
   | _ => 256) + (if recPts r then 1 else 0)

/-- The demand of a record in MB/s, rounded up, at timing `p` with trim `t` ppm. -/
def recDemand (r : List Byte) (p : Nat → Nat) (t : Nat) : Nat :=
  if !(recShow r) then 0
  else
    let w := if recPts r then 8 * (ceilDiv (recSrcX r + recSrcW r) 8 - recSrcX r / 8) else recSrcW r
    ceilDiv (w * demandBpp r * max (recSrcH r) (recDstH r) * p 1 * (1000000 + t))
      (64 * recDstH r * htotalOf p * 1000000 * 1000000)

/-- The pending record of a layer, if a commit holds one (each layer has at most one). -/
def pendingRec (commits : List Commit) (layer : Nat) : Option (List Byte) :=
  commits.findSome? (fun c =>
    if c.output = outputOf layer then (c.records.find? (fun p => p.1 == layer % 6)).map (fun p => p.2) else none)

/-- The demand of a layer: the larger of in force and pending. -/
def Dev.layerDemand (d : Dev) (commits : List Commit) (p : Nat → Nat) (layer : Nat) : Nat :=
  let t := d.trimPpm (outputOf layer)
  max (recDemand (d.layerRec layer) p t)
    (match pendingRec commits layer with
     | some r => recDemand r p t
     | none => 0)

/-- The demand of an output with some pending commits (R99). -/
def Dev.outDemand (d : Dev) (commits : List Commit) (p : Nat → Nat) (n : Nat) : Nat :=
  (List.range 6).foldl (fun acc k => acc + d.layerDemand commits p (6 * n + k)) 0

/-- The demand in force of an output. -/
def Dev.outForce (d : Dev) (n : Nat) : Nat := d.outDemand [] (d.force n) n

/-- The sets of channels to which order-D regions are pinned. -/
def Dev.pinnedSets (d : Dev) : List Nat :=
  ((List.range 32).filterMap (fun r =>
    let a := d.regAttr 0 r
    if attrEn a && attrOrder a == 3 then some (attrChset a) else none)).eraseDups

/-- A record's surface lies in a region pinned to a set. -/
def Dev.inPinned (d : Dev) (set : Nat) (r : List Byte) : Bool :=
  recShow r && (match d.regionOf 0 (recSurface r) with
    | some k => attrOrder (d.regAttr 0 k) == 3 && attrChset (d.regAttr 0 k) == set
    | none => false)

/-- The demand on a pinned set of all layers (R100). -/
def Dev.setDemand (d : Dev) (commits : List Commit) (set : Nat) : Nat :=
  (List.range 48).foldl (fun acc layer =>
    let n := outputOf layer
    let t := d.trimPpm n
    let r := d.layerRec layer
    let a := if d.inPinned set r then recDemand r (d.force n) t else 0
    let b := match pendingRec commits layer with
      | some q => if d.inPinned set q then recDemand q (d.force n) t else 0
      | none => 0
    acc + max a b) 0

/-! ### Scaling limits (R91) -/

/-- A scaled record keeps both limits at timing `p`. -/
def scaleOk (r : List Byte) (p : Nat → Nat) (t : Nat) : Bool :=
  !(recShow r) || !(recScaled r) ||
    (recDstW r ≤ 16 * recSrcW r && recSrcW r ≤ 4 * recDstW r
      && recDstH r ≤ 16 * recSrcH r && recSrcH r ≤ 4 * recDstH r
      && recSrcW r * p 1 * (1000000 + t) ≤ 1200000000 * recDstW r * 1000000)

/-! ### Nines bindings (R97, R356) -/

def ninesIndex (e : Nat) : Nat := 0x2E01 + e

/-- A binding ends: the engine is Idle again, unless it is being disabled, and keeps the CRC-32C setting. -/
def Dev.unbind (d : Dev) (layer : Nat) : Dev :=
  let e := d.getO (layerIndex layer) 0x08
  if e = 0xFF then d
  else
    let d := (d.setO (layerIndex layer) 0x08 0xFF).setO (ninesIndex e) 0x14 0xFF
    if d.getO (ninesIndex e) 0x01 = 5 then d.setO (ninesIndex e) 0x01 1 else d

/-- A record with CHECK = 1 binds its engine: row 7 of Table 18-2, TAG 01b, CMP 0. -/
def Dev.bind (d : Dev) (layer e : Nat) : Dev :=
  let st := d.getO (ninesIndex e) 0x01
  if st = 0 ∨ st = 6 then d
  else
    let i := ninesIndex e
    let d := (((d.setO i 0x03 0x720).setO i 0x04 0x1EDC6F41).setO i 0x05 0xFFFFFFFF).setO i 0x06 0xFFFFFFFF
    ((d.setO i 0x01 5).setO i 0x14 layer).setO (layerIndex layer) 0x08 e

/-! ### Scalers (R91) -/

/-- The layers of output `n` whose record in force is scaled. -/
def Dev.scaledLayers (d : Dev) (n : Nat) : List Nat :=
  (List.range 6).filter (fun k => let r := d.layerRec (6 * n + k); recShow r && recScaled r)

/-- A layer takes the lowest free scaler, unless it holds one; a scaler names its layer plus 1. -/
def takeScaler (s : Nat × Nat) (k : Nat) : Nat × Nat :=
  if s.1 = k ∨ s.2 = k then s else if s.1 = 0 then (k, s.2) else if s.2 = 0 then (s.1, k) else s

/-- The scalers of output `n` follow the records in force (R91): a layer no longer scaled gives its own back first, then each
scaled layer without one takes the lowest free. -/
def Dev.useScalers (d : Dev) (n : Nat) : Dev :=
  let x := d.output n
  let held := (d.scaledLayers n).map (fun k => 6 * n + k + 1)
  let keep (k : Nat) : Nat := if held.contains k then k else 0
  let s := held.foldl takeScaler (keep x.scalers.1, keep x.scalers.2)
  (d.setOutput n { x with scalers := s }).setO (0x2301 + n) 0x08 ((if s.1 = 0 then 0 else 1) + (if s.2 = 0 then 0 else 2))

/-! ### Records taking effect and going away -/

/-- The band settings of a layer are taken at a latch of a commit for it (R149). -/
def Dev.takeBands (d : Dev) (layer : Nat) (r : List Byte) : Dev :=
  let i := bandIndex layer
  let on := d.getO i 0x01 == 1 && recShow r
  let h := d.getO i 0x02
  let keep := (d.band layer).pending
  let d := ((d.setB i 0x0F []).setB i 0x10 []).setBandLayer layer
    { d.band layer with on := on, height := h, surface := d.getO i 0x03, plane := d.getO i 0x04
                        pending := keep, deferred := [], done := [], ahead := [], owed := [] }
  d.setO i 0x07 (if on then bandCountOf (recDstH r) h else 0)

/-- A record takes effect at a latch position (R104, R456). The scalers follow once every record of the latch is in force. -/
def Dev.putRecord (d : Dev) (layer pos : Nat) (r : List Byte) : Dev :=
  let d := d.unbind layer
  let d := d.setB (layerIndex layer) 0x04 (if r.all (· == 0) then [] else r)
  let d := (d.setLayerState layer (if recShow r then 2 else 1)).setO (layerIndex layer) 0x0A pos
  let d := d.takeBands layer r
  if recShow r && recCheck r then d.bind layer (recEngine r) else d

/-- A layer is emptied (R79, R106): 64 zero bytes in force, no binding, no scaler; the state it leaves. -/
def Dev.emptyLayer (d : Dev) (layer st : Nat) : Dev :=
  let d := (d.unbind layer).setB (layerIndex layer) 0x04 []
  let d := (d.setLayerState layer st).useScalers (outputOf layer)
  (d.setLayer layer { d.layer layer with haltLine := none }).takeBands layer []

/-- The disable of a layer ends (R106, R457); its band record returns to its defaults (R164). -/
def Dev.layerDisabled (d : Dev) (layer : Nat) : Dev :=
  (d.emptyLayer layer (if d.getO (layerIndex layer) 0x02 = 1 then 1 else 0)).bandsReset layer

/-! ### Halts (R96, R97) -/

/-- The first line of the output that reads source row `s`, counted from the source rectangle's first row. -/
def firstLineOf (r : List Byte) (s : Nat) : Nat :=
  if recScaled r then
    let reads (dy : Nat) : Bool :=
      let i := scalePosition dy (recSrcH r) (recDstH r) / (2 ^ 20 : Int)
      (List.range 4).any (fun t => min (recSrcH r - 1) (i + (t : Int) - 1).toNat == s)
    recDstY r + (((List.range (recDstH r)).find? reads).getD 0)
  else recDstY r + s

/-- The first source row, counted from the rectangle's first, that needs a byte; none when the record does not fetch it. -/
def rowOfByte (r : List Byte) (surface plane addr : Nat) : Option Nat :=
  let spans := recExtents r surface plane
  let inside (k : Nat) : Bool := match spans[k]? with
    | some s => s.1 ≤ addr && addr < s.1 + s.2
    | none => false
  let fromRow (y : Nat) : Nat := min (recSrcH r - 1) (y - recSrcY r)
  if inside 0 then
    some (if recPts r then fromRow ((addr - surface) / 256 / recPitch r * 8) else fromRow ((addr - surface) / recPitch r))
  else if inside 1 then
    some (if recPts r then fromRow ((addr - plane) / recPitch r * 8)
          else fromRow (2 * ((addr - plane) / recPitch r) - 1))
  else none

/-- A layer halts from an output line until the end of the frame; the first halt of a frame is counted in `tally` and
logged. -/
def Dev.haltLayer (d : Dev) (layer line tally what : Nat) : Dev :=
  let x := d.layer layer
  match x.haltLine with
  | some h => d.setLayer layer { x with haltLine := some (min h line) }
  | none =>
    let d := (d.setLayer layer { x with haltLine := some line }).count (layerIndex layer) tally
    let d := if d.layerState layer = 2 then d.setLayerState layer 3 else d
    d.log 0x19 what (d.owner (blockId 2 layer)) layer [layer, line]

end Sys2Proof.Machine
end

