-- ==== Sys2Proof/Machine/Composition.lean ====
section
/-! DEFINITION. Composition (05): commits, their checks and admission (R101 to R103), the latch (R104, R77), cancellation,
and the meanings of the family's commands. -/

namespace Sys2Proof.Machine

/-! ### A commit block (Table 5-3) -/

def hdrOutput (b : List Byte) : Nat := field b 0 1
def hdrMask (b : List Byte) : Nat := field b 1 1
def hdrFlags (b : List Byte) : Nat := field b 2 1
def hdrCount (b : List Byte) : Nat := field b 3 1
def hdrTarget (b : List Byte) : Nat := field b 8 8
def hdrReplay (b : List Byte) : Bool := (hdrFlags b).testBit 0
def hdrAtFrame (b : List Byte) : Bool := (hdrFlags b).testBit 1
def hdrReplace (b : List Byte) : Bool := (hdrFlags b).testBit 2

/-- The layers of a mask, ascending. -/
def maskLayers (mask : Nat) : List Nat := (List.range 6).filter (fun k => mask.testBit k)

/-- Bytes of a commit block: the header and one record for each set bit of the mask. -/
def commitLength (b : List Byte) : Nat := 32 + 64 * (maskLayers (hdrMask b)).length

/-- The records of a block with their layers, in ascending order. -/
def commitRecords (b : List Byte) : List (Nat × List Byte) :=
  let ks := maskLayers (hdrMask b)
  (ks.zip (List.range ks.length)).map (fun p => (p.1, padTo 64 ((b.drop (32 + 64 * p.2)).take 64)))

/-- The header is valid (check 2). `at_` is the output whose submit object took the block, if one did. -/
def hdrOk (b : List Byte) (addr : Nat) (at_ : Option Nat) : Bool :=
  hdrOutput b < 8 && (match at_ with | some n => hdrOutput b == n | none => true)
    && hdrMask b != 0 && hdrMask b < 64 && hdrFlags b < 8
    && hdrCount b == (maskLayers (hdrMask b)).length && hdrTarget b < 2 ^ 48 && addr % 64 == 0

/-! ### Checks (R103, Table 5-5) -/

/-- What the checks say: the status (0001h when all pass), the refusing layer, and the demand field. -/
structure CommitCheck where
  status : Nat
  layer  : Nat := 0xFFFF
  demand : Nat := 0
  deriving DecidableEq, Repr

/-- The timings a commit is judged by: the one in force and, while an apply is pending, the pending one (R452). -/
def Dev.timings (d : Dev) (n : Nat) : List (Nat → Nat) :=
  (d.force n) :: (match (d.output n).apply with
    | some l => [fun j => l.getD (j - 1) 0]
    | none => [])

/-- Pending commits that stay when a commit for some layers of an output is admitted with REPLACE. -/
def commitsKept (cs : List Commit) (n : Nat) (ks : List Nat) : List Commit :=
  cs.filter (fun c => !(c.output == n && c.records.any (fun p => ks.contains p.1)))

/-- A layer counts as scaled: by the commit's record when it has one, else when the record in force or pending is. -/
def Dev.countsScaled (d : Dev) (cs : List Commit) (recs : List (Nat × List Byte)) (n k : Nat) : Bool :=
  let scaled (r : List Byte) : Bool := recShow r && recScaled r
  match recs.find? (fun p => p.1 == k) with
  | some p => scaled p.2
  | none => scaled (d.layerRec (6 * n + k)) || (match pendingRec cs (6 * n + k) with | some r => scaled r | none => false)

/-- The engine of a checked record is bound to another layer, named by another pending record, or not idle. -/
def Dev.engineBusy (d : Dev) (cs : List Commit) (recs : List (Nat × List Byte)) (n k : Nat) (r : List Byte) : Bool :=
  let e := recEngine r
  let names (q : List Byte) : Bool := recShow q && recCheck q && recEngine q == e
  let st := d.getO (ninesIndex e) 0x01
  !(st == 1 || (st == 5 && d.getO (ninesIndex e) 0x14 == 6 * n + k))
    || recs.any (fun p => p.1 < k && names p.2)
    || cs.any (fun c => c.records.any (fun p => !(c.output == n && p.1 == k) && names p.2))

/-- The checks of a commit by a submitter, in the order of Table 5-5. DESIGN CHOICE (assumption log 24): while an apply is
pending the demand is the larger of those at the timing in force and at the pending timing. -/
def Dev.checkCommit (d : Dev) (code addr : Nat) (at_ : Option Nat) (b : List Byte) : CommitCheck :=
  let n := hdrOutput b
  let recs := commitRecords b
  let ks := recs.map (fun p => p.1)
  let layer (p : Nat × List Byte) : Nat := 6 * n + p.1
  if 8 ≤ n then { status := 0x12 }
  else if d.outState n = 0 ∨ (d.output n).disable.isSome then { status := 0x16 }
  else match recs.find? (fun p => d.layerState (layer p) == 0 || d.layerState (layer p) == 4) with
  | some p => { status := 0x16, layer := p.1 }
  | none =>
  if !(hdrOk b addr at_) then { status := 0x12 }
  else match recs.find? (fun p => (d.timings n).any (fun t => !(d.recOk (layer p) p.2 t))) with
  | some p => { status := 0x12, layer := p.1 }
  | none =>
  let others := if hdrReplace b then commitsKept d.comp.commits n ks else d.comp.commits
  let mine : Commit := { output := n, records := recs }
  let all := mine :: others
  let demand := (d.timings n).foldl (fun m t => max m (d.outDemand all t n)) 0
  match recs.find? (fun p => !(d.recOwned code (layer p) p.2)) with
  | some p => { status := 0x14, layer := p.1, demand := demand }
  | none =>
  let scaledNow := (List.range 6).filter (d.countsScaled others recs n)
  if 2 < scaledNow.length ∧ recs.any (fun p => recShow p.2 && recScaled p.2) then
    { status := 0x13, demand := demand
      layer := ((recs.filter (fun p => recShow p.2 && recScaled p.2)).map (fun p => p.1)).foldl max 0 }
  else match recs.find? (fun p => (d.timings n).any (fun t => !(scaleOk p.2 t (d.trimPpm n)))) with
  | some p => { status := 0x13, layer := p.1, demand := demand }
  | none =>
  match recs.find? (fun p => !(hdrReplace b) && (pendingRec d.comp.commits (layer p)).isSome) with
  | some p => { status := 0x15, layer := p.1, demand := demand }
  | none =>
  match recs.find? (fun p => recShow p.2 && recCheck p.2 && d.engineBusy others recs n p.1 p.2) with
  | some p => { status := 0x17, layer := p.1, demand := demand }
  | none =>
  if d.getO (0x2301 + n) 0x01 < demand then { status := 0x10, demand := demand }
  else if d.pinnedSets.any (fun s => popCount 8 s * 6000 < d.setDemand all s) then { status := 0x11, demand := demand }
  else { status := 1, demand := demand }

/-! ### Completion -/

/-- The status fields of a commit block. -/
def commitFields (status layer demand : Nat) : List (Nat × List Byte) :=
  [(16, leBytes 2 status ++ leBytes 2 layer ++ leBytes 4 demand)]

/-- The fields of a block that has latched: the status fields and the latch position, side by side, in one write. -/
def latchFields (demand pos : Nat) : List (Nat × List Byte) :=
  [(16, leBytes 2 0 ++ leBytes 2 0xFFFF ++ leBytes 4 demand ++ leBytes 8 pos)]

/-- A pending commit leaves with a final status. -/
def Dev.endCommit (d : Dev) (c : Commit) (status : Nat) : Dev :=
  let d := { d with comp := { d.comp with commits := d.comp.commits.filter (fun x => x != c) } }
  d.completeItem c.item (commitFields status 0xFFFF c.demand) status 0

/-- Every pending commit that `p` names completes with a status. -/
def Dev.endCommits (d : Dev) (p : Commit → Bool) (status : Nat) : Dev :=
  (d.comp.commits.filter p).foldl (fun d c => d.endCommit c status) d

/-- A commit touches a layer. -/
def Commit.touches (c : Commit) (layer : Nat) : Bool :=
  c.output == outputOf layer && c.records.any (fun p => p.1 == layer % 6)

/-- The first frame whose latch a request made now can reach: its line VACTIVE - 1 has not started (R70, R104). -/
def Dev.nextLatchFrame (d : Dev) (n : Nat) : Nat :=
  let f := d.rodFrame n
  if d.rodRuns n ∧ d.rodLine n + 1 < d.force n 6 then f else f + 1

/-- A commit block that has been read is journaled, checked, and admitted or refused (R103, R372). DESIGN CHOICE (assumption
log 24): a refusal counts in the record of the output that the header names, and in none when that is 8 or more. -/
def Dev.takeCommit (d : Dev) (it : Item) (at_ : Option Nat) (b : List Byte) : Dev :=
  let it := { it with seq := field b 4 4, replay := hdrReplay b }
  let n := hdrOutput b
  let x := d.checkCommit it.code it.block at_ b
  let extra := leBytes 8 (hdrTarget b) ++ leBytes 1 (hdrMask b) ++ leBytes 1 (hdrFlags b) ++ leBytes 4 x.demand
    ++ leBytes 8 d.clock.ns
  let (it, d) := d.journalItem 1 it n (commitLength b) extra
  if x.status = 1 then
    let ks := (commitRecords b).map (fun p => p.1)
    let gone (c : Commit) : Bool := c.output == n && c.records.any (fun p => ks.contains p.1)
    let d := if hdrReplace b then d.endCommits gone 0x21 else d
    let c : Commit := { item := it, output := n, records := commitRecords b
                        atFrame := if hdrAtFrame b then some (hdrTarget b) else none
                        from_ := d.nextLatchFrame n, demand := x.demand }
    let d := { d with comp := { d.comp with commits := d.comp.commits ++ [c] } }
    (commitFields 1 0xFFFF x.demand).foldl (fun d f => d.writeBlock it f.1 f.2) (d.regIssue it.entry)
  else
    let d := d.count 0x2300 0x04
    let d := if n < 8 then (d.count (0x2301 + n) 0x09).setO (0x2301 + n) 0x0A x.status else d
    d.completeItem it (commitFields x.status x.layer x.demand) x.status 0

/-- An on-chip submit of a commit (R102): the PX8 reads the header, then the records. -/
def Dev.submitCommit (d : Dev) (who : Init) (n addr : Nat) : Dev :=
  match d.checkWrite who (0x2301 + n) 0x06 (numData (0x2301 + n) 0x06 addr) with
  | some a => d.refuse a
  | none =>
    let code := initCode who
    match d.readSubmitted code addr 32 with
    | (none, _) => d.refuse abortAccess
    | (some h, d1) =>
      match d1.readSubmitted code addr (commitLength h) with
      | (none, _) => d.refuse abortAccess
      | (some b, d2) =>
        if !(d.submitRoom code) then (d.count 0x3000 0x09).refuse abortState
        else (d2.takeCommit { block := addr, code := code } (some n) b).accept

/-! ### The latch (R77, R104) -/

/-- A commit is due at the latch of a frame. -/
def Commit.due (c : Commit) (n frame : Nat) : Bool :=
  c.output == n && !c.held && c.from_ ≤ frame && (match c.atFrame with | some t => decide (t ≤ frame) | none => true)

/-- One commit takes effect: its records, its block and its record. -/
def Dev.latchCommit (d : Dev) (c : Commit) (pos : Nat) : Dev :=
  let d := { d with comp := { d.comp with commits := d.comp.commits.filter (fun x => x != c) } }
  let d := c.records.foldl (fun d p => d.putRecord (6 * c.output + p.1) pos p.2) d
  (d.count 0x2300 0x05).completeItem c.item (latchFields c.demand pos) 0 pos

/-- Tables, banks, background and dither written since the previous latch take effect (R104). -/
def Dev.latchTables (d : Dev) (n : Nat) : Dev :=
  let layers := (List.range 6).foldl (fun l k =>
    tabSet {} l (6 * n + k) { tabGet {} l (6 * n + k) with table := d.getB (layerIndex (6 * n + k)) 0x09 }) d.comp.layers
  let banks := (List.range 4).foldl (fun t b => tabSet [] t (4 * n + b) (d.getB (0x2340 + 4 * n + b) 0x01)) d.comp.banks
  let x := tabGet {} d.comp.outputs n
  { d with comp := { d.comp with
      layers := layers, banks := banks
      outputs := tabSet {} d.comp.outputs n { x with
        background := d.getO (0x2301 + n) 0x04, dither := d.getO (0x2301 + n) 0x05 } } }

/-- The composition latch of an output at a frame: due commits, tables, bindings of engines that are disabling (R357), layers
that are disabling, and the flip record. The
pending timing is applied by the caller before the flip record is written. -/
def Dev.latch (d : Dev) (n frame : Nat) : Dev :=
  let pos := 65536 * frame + d.rodLine n
  let due := d.comp.commits.filter (fun c => c.due n frame)
  let d := (due.foldl (fun d c => d.latchCommit c pos) d).useScalers n
  let d := d.latchTables n
  let d := ((List.range 6).filter (fun k =>
    let e := d.getO (layerIndex (6 * n + k)) 0x08
    e != 0xFF && d.getO (ninesIndex e) 0x01 == 6)).foldl (fun d k => d.unbind (6 * n + k)) d
  let d := ((List.range 6).filter (fun k => d.layerState (6 * n + k) == 4)).foldl (fun d k => d.layerDisabled (6 * n + k)) d
  if due.isEmpty then d
  else
    let i := outputIndex n + 4
    ((d.setO i 0x02 pos).setO i 0x03 d.clock.ns).count i 0x01

/-! ### Disabling a layer (R106) -/

/-- No latch comes for the layers of an output: it is Off, so no frame is in progress. -/
def Dev.noFrame (d : Dev) (n : Nat) : Bool := d.outState n == 0

/-- A layer starts to be disabled: pending commits that touch it complete with status 0020h, and the layer is emptied at
the next latch, or at once when no frame is in progress. -/
def Dev.disableLayer (d : Dev) (layer : Nat) : Dev :=
  let st := d.layerState layer
  if st = 0 ∨ st = 4 then d
  else
    let d := (d.setLayerState layer 4).endCommits (fun c => c.touches layer) 0x20
    if d.noFrame (outputOf layer) then d.layerDisabled layer else d

/-- A write of a layer's enable (R106, R457). -/
def layerEnableVerdict (layer v : Nat) (d : Dev) : Verdict :=
  let d := d.setO (layerIndex layer) 0x02 v
  if v = 0 then .ok (d.disableLayer layer)
  else .ok (if d.layerState layer = 0 then d.setLayerState layer 1 else d)

/-- A write of a reservation (R98). -/
def reservationVerdict (n v : Nat) (d : Dev) : Verdict :=
  let others := ((List.range 8).filter (fun m => m != n)).foldl (fun acc m => acc + d.getO (0x2301 + m) 0x01) 0
  if 48000 < others + v || v < d.outDemand d.comp.commits (d.force n) n then .error abortState
  else .ok (d.setO (0x2301 + n) 0x01 v)

/-- The line at which a failing byte first matters for a layer, by the record in force and its buffers. -/
def Dev.haltLineOf (d : Dev) (layer addr : Nat) : Option Nat :=
  let r := d.layerRec layer
  let x := d.band layer
  let a := rowOfByte r (recSurface r) (recPlane r) addr
  let b := if x.on then rowOfByte r x.surface x.plane addr else none
  match a, b with
  | some s, _ => some (firstLineOf r s)
  | none, some s => some (firstLineOf r s)
  | none, none =>
    if recCheck r && recTable r + 4 * recSrcY r ≤ addr && addr < recTable r + 4 * (recSrcY r + recSrcH r) then
      some (firstLineOf r ((addr - recTable r) / 4 - recSrcY r))
    else none

/-! ### The fetch of a line (R96, R97) -/

/-- The rows of the source rectangle, counted from its first, that output line `y` needs and the line before did not. -/
def newRows (r : List Byte) (y : Nat) : List Nat :=
  let dy := y - recDstY r
  if recScaled r then
    let taps (k : Nat) : List Nat :=
      let i := scalePosition k (recSrcH r) (recDstH r) / (2 ^ 20 : Int)
      ((List.range 4).map (fun (t : Nat) => min (recSrcH r - 1) (i + (t : Int) - 1).toNat)).eraseDups
    (taps dy).filter (fun s => dy == 0 || !((taps (dy - 1)).contains s))
  else [dy]

/-- The spans of memory that hold a row of a source: for packed tiles the header bytes and slots of the row's tiles, when
`tiles` says that they have not been fetched; for NV12 the chroma rows as well. -/
def Dev.rowSpans (d : Dev) (s : Source) (row : Nat) (tiles : Bool) : List (Nat × Nat) :=
  let r := s.record
  let y := recSrcY r + row
  let bpp := planeBpp (recFormat r)
  if recPts r then
    let c := recPitch r
    let tx0 := recSrcX r / 8
    let n := ceilDiv (recSrcX r + recSrcW r) 8 - tx0
    if !tiles then []
    else (tileHeader s.plane c tx0 (y / 8), n) :: (List.range n).map (fun k =>
      let hdr := (d.peekByte (tileHeader s.plane c (tx0 + k) (y / 8))).toNat
      (tileSlot s.surface c (tx0 + k) (y / 8), tileBytes (recFormat r) hdr))
  else
    let main := (s.surface + y * recPitch r + recSrcX r * bpp, recSrcW r * bpp)
    if recFormat r = 6 then
      let lastY := (recSrcY r + recSrcH r) / 2 - 1
      let other := if y % 2 = 0 then y / 2 - 1 else y / 2 + 1
      [y / 2, other].foldl (fun l k =>
        l ++ [(s.plane + min lastY (max (recSrcY r / 2) k) * recPitch r + recSrcX r, recSrcW r)]) [main]
    else [main]

/-- Spans are read one after the other; the first that fails ends the reads: bad data, or an address fault. -/
def Dev.fetchSpans (code : Nat) : List (Nat × Nat) → Dev → (Except Nat (List Byte)) × Dev
  | [], d => (.ok [], d)
  | x :: xs, d =>
    match d.memRead code x.1 x.2 with
    | (.ok data, d) =>
      match Dev.fetchSpans code xs d with
      | (.ok rest, d) => (.ok (data ++ rest), d)
      | other => other
    | (.bad _, d) => (.error 0x1901, d)
    | (.refused _, d) => (.error 0x1902, d)

/-- The word of the check table for surface line `y` is the check value of the line, with the address of its first fetched
byte as the tag (R97). -/
def Dev.lineChecks (d : Dev) (code : Nat) (s : Source) (y : Nat) (data : List Byte) : (Except Nat Bool) × Dev :=
  let r := s.record
  match Dev.fetchSpans code [(recTable r + 4 * y, 4)] d with
  | (.ok word, d) =>
    let a := s.surface + y * recPitch r + recSrcX r * planeBpp (recFormat r)
    (.ok (leNat word == crc32c a data), d)
  | (.error e, d) => (.error e, d)

/-- A layer fetches a row for output line `y`; a failed fetch halts it from that line on (R96), and on a layer bound to an
engine so does a failed check (R97). -/
def Dev.fetchRow (d : Dev) (layer y row : Nat) : Dev :=
  if (d.layer layer).haltLine.isSome then d
  else
    let s := d.layerSource layer y
    let code := d.owner (blockId 2 layer)
    let line := recSrcY s.record + row
    match Dev.fetchSpans code (d.rowSpans s row (row == 0 || line % 8 == 0)) d with
    | (.error e, d) => d.haltLayer layer y 0x06 e
    | (.ok data, d) =>
      if recCheck s.record && d.getO (layerIndex layer) 0x08 != 0xFF then
        match d.lineChecks code s line data with
        | (.error e, d) => d.haltLayer layer y 0x06 e
        | (.ok good, d) => if good then d else d.haltLayer layer y 0x07 0x1903
      else d

/-- The layers of output `n` that show on line `y` fetch what the line needs. -/
def Dev.fetchLine (d : Dev) (n y : Nat) : Dev :=
  (List.range 6).foldl (fun d k =>
    let r := d.layerRec (6 * n + k)
    if recShow r && recDstY r ≤ y && y < recDstY r + recDstH r then
      (newRows r y).foldl (fun d row => d.fetchRow (6 * n + k) y row) d
    else d) d

/-! ### The meanings -/

/-- COMMIT_SUBMIT (R102, R103). -/
def execCommitSubmit (who : Init) (output address : Nat) (s : State) : Host.Outcome State Fault Refusal :=
  actServed (onUnit output 8 (fun d => d.submitCommit who output address)) s

/-- RESERVATION_WRITE (R98). -/
def execReservationWrite (who : Init) (output value : Nat) (s : State) : Host.Outcome State Fault Refusal :=
  actServed (onUnit output 8 (fun d => d.request who (0x2301 + output) 0x01 (numData (0x2301 + output) 0x01 value)
    (reservationVerdict output value))) s

/-- LAYER_ENABLE_WRITE (R106, R457). -/
def execLayerEnableWrite (who : Init) (layer value : Nat) (s : State) : Host.Outcome State Fault Refusal :=
  actServed (onUnit layer 48 (fun d => d.request who (layerIndex layer) 0x02 (numData (layerIndex layer) 0x02 value)
    (layerEnableVerdict layer value))) s

/-- LAYER_FETCH_HALT (R96): a fetch met bad data or an address fault at a byte that the layer needs. An access that the
region controller refuses is counted there (R282). -/
def execLayerFetchHalt (layer address : Nat) (uncorrectable : Bool) (s : State) : Host.Outcome State Fault Refusal :=
  act (onUnit layer 48 (fun d =>
    if recShow (d.layerRec layer) && d.outState (outputOf layer) == 5 then
      match d.haltLineOf layer address with
      | none => d
      | some line =>
        let code := d.owner (blockId 2 layer)
        let d := if uncorrectable then d
          else match d.refusedAt code false 1 address 1 with
            | some a => d.recordRefusal code false a
            | none => d
        d.haltLayer layer line 0x06 (if uncorrectable then 0x1901 else 0x1902)
    else d)) s

/-- CHECKED_LINE_MISMATCH (R97): a surface line of a checked layer failed its check; counted as a check failure. -/
def execCheckedLineMismatch (layer line : Nat) (s : State) : Host.Outcome State Fault Refusal :=
  act (onUnit layer 48 (fun d =>
    let r := d.layerRec layer
    if recShow r && recCheck r && d.outState (outputOf layer) == 5 && recSrcY r ≤ line && line < recSrcY r + recSrcH r then
      d.haltLayer layer (firstLineOf r (line - recSrcY r)) 0x07 0x1903
    else d)) s

end Sys2Proof.Machine
end

