-- ==== Sys2Proof/Machine/Copy.lean ====
section
/-! DEFINITION. The copy engine (06): the checks of a job (R121, R122), its segments of 64 KiB, its completion, and the
disabling of a channel (R123). -/

namespace Sys2Proof.Machine

/-! ### Channels -/

def copyIndex (c : Nat) : Nat := 0x2401 + c

/-- A channel's queue, the job in hand first. -/
def Dev.chan (d : Dev) (c : Nat) : CopyChannel := tabGet {} d.copy c

/-- A channel's queue is replaced; its count of jobs follows (2401h + c/04h). -/
def Dev.setChan (d : Dev) (c : Nat) (x : CopyChannel) : Dev :=
  ({ d with copy := tabSet {} d.copy c x }).setO (copyIndex c) 0x04 x.jobs.length

def Dev.chanState (d : Dev) (c : Nat) : Nat := d.getO (copyIndex c) 0x01
def Dev.setChanState (d : Dev) (c st : Nat) : Dev := d.setO (copyIndex c) 0x01 st

/-! ### A job's fields (Table 6-6) -/

def jobOp (b : List Byte) : Nat := field b 0 1
def jobSource (b : List Byte) : Nat := field b 8 8
def jobDest (b : List Byte) : Nat := field b 16 8
def jobWidth (b : List Byte) : Nat := field b 24 4
def jobHeight (b : List Byte) : Nat := field b 28 4
def jobSrcPitch (b : List Byte) : Nat := field b 32 4
def jobDstPitch (b : List Byte) : Nat := field b 36 4
def jobTx (b : List Byte) : Nat := field b 44 2
def jobTy (b : List Byte) : Nat := field b 46 2

/-- The descriptor that a job names, if its operation has one. -/
def jobDescriptor (b : List Byte) : Option Nat :=
  if jobOp b = 2 ∨ jobOp b = 5 then some (jobDest b) else if jobOp b = 3 then some (jobSource b) else none

/-- Tiles of a job's rectangle, across and down. -/
def jobTiles (b : List Byte) : Nat × Nat :=
  if jobOp b = 5 then (jobWidth b, jobHeight b) else (ceilDiv (jobWidth b) 8, ceilDiv (jobHeight b) 8)

/-- Bytes of a row of a linear source or destination. -/
def jobRow (b : List Byte) (x : Option PtsDesc) : Nat :=
  match x with
  | some p => jobWidth b * ptsBpp p.format
  | none => jobWidth b

/-! ### Linear addresses: device memory, or host memory through the instance of a ring (R266) -/

/-- The host address that a linear address of an item means, if it means one. -/
def hostAddress (it : Item) (a : Nat) : Option (Nat × Nat) :=
  match it.ring with
  | some r => if a.testBit 63 then some (r.inst, a % 2 ^ 63) else none
  | none => none

/-- A linear read as an access by the submitter. -/
def Dev.linearRead (d : Dev) (it : Item) (base off n : Nat) : MemRes × Dev :=
  match hostAddress it base with
  | some (i, a) => if d.instLinked i then (.ok (d.hostRead (instPort i) (a + off) n), d) else (.refused (a + off), d)
  | none => d.memRead it.code (base + off) n

/-- A linear write as an access by the submitter. -/
def Dev.linearWrite (d : Dev) (it : Item) (base off : Nat) (bytes : List Byte) : Bool × Dev :=
  match hostAddress it base with
  | some (i, a) => if d.instLinked i then (true, d.hostWriteFor i (a + off) bytes) else (false, d)
  | none => d.memWrite it.code (base + off) bytes

/-! ### Checks (R122, Table 6-7) -/

/-- The fields of a job are valid, apart from its descriptor. A width of 0 is refused as a height of 0 is, though Table 6-6 says
"1 or more" of the height alone (DESIGN CHOICE, assumption log 26). -/
def jobOk (b : List Byte) (addr : Nat) : Bool :=
  let op := jobOp b
  addr % 64 == 0 && 1 ≤ op && op ≤ 5 && field b 1 1 < 2 && field b 2 2 == 0 && field b 50 2 == 0
    && 1 ≤ jobWidth b && 1 ≤ jobHeight b
    && (if op = 4 ∨ op = 5 then jobSource b == 0 else true)
    && (if op = 4 then jobWidth b % 64 == 0 && jobDest b % 64 == 0 && (jobHeight b == 1 || jobDstPitch b % 64 == 0) else true)
    && (match jobDescriptor b with | some a => a % 32 == 0 | none => true)

/-- The tiles of a job lie inside its surface. -/
def jobInside (b : List Byte) (x : PtsDesc) : Bool :=
  jobTx b + (jobTiles b).1 ≤ x.columns && jobTy b + (jobTiles b).2 ≤ x.rows

/-- The bytes from the first to the last of a job's rows from a linear base. -/
def rowExtent (b : List Byte) (pitch row : Nat) : Nat := (jobHeight b - 1) * pitch + row

/-- The ranges of a job: whether it writes there, the address and the length. -/
def jobRanges (b : List Byte) (x : Option PtsDesc) : List (Bool × Nat × Nat) :=
  let row := jobRow b x
  let tiles (write : Bool) : List (Bool × Nat × Nat) :=
    match x with
    | none => []
    | some p =>
      let t := jobTiles b
      let first := jobTy b * p.columns + jobTx b
      let last := (jobTy b + t.2 - 1) * p.columns + jobTx b + t.1 - 1
      (write, p.headers + first, last + 1 - first) ::
        (if jobOp b = 5 then [] else [(write, p.slots + 256 * first, 256 * (last + 1 - first))])
  match jobOp b with
  | 1 => [(false, jobSource b, rowExtent b (jobSrcPitch b) row), (true, jobDest b, rowExtent b (jobDstPitch b) row)]
  | 2 => (false, jobSource b, rowExtent b (jobSrcPitch b) row) :: tiles true
  | 3 => tiles false ++ [(true, jobDest b, rowExtent b (jobDstPitch b) row)]
  | 4 => [(true, jobDest b, rowExtent b (jobDstPitch b) row)]
  | _ => tiles true

/-- A range lies wholly in one region that the submitter may use; host memory has none. -/
def Dev.jobRangeOk (d : Dev) (it : Item) (r : Bool × Nat × Nat) : Bool :=
  (hostAddress it r.2.1).isSome || d.inOneRegion it.code r.1 r.2.1 r.2.2

/-- Two sets of rows share a byte: some row of one meets some row of the other. -/
def rowsOverlap (h a pa b pb row : Nat) : Bool :=
  (List.range h).any (fun k => (List.range h).any (fun l => a + k * pa < b + l * pb + row && b + l * pb < a + k * pa + row))

/-- Source and destination of a copy overlap. -/
def jobOverlaps (b : List Byte) : Bool :=
  jobOp b == 1 && jobSource b / 2 ^ 63 == jobDest b / 2 ^ 63
    && jobSource b < jobDest b + rowExtent b (jobDstPitch b) (jobWidth b)
    && jobDest b < jobSource b + rowExtent b (jobSrcPitch b) (jobWidth b)
    && rowsOverlap (jobHeight b) (jobSource b) (jobSrcPitch b) (jobDest b) (jobDstPitch b) (jobWidth b)

/-- The checks of a job on a channel: its status (0001h when it is accepted), and its descriptor as read, an access by the
submitter. -/
def Dev.checkCopy (d : Dev) (it : Item) (c : Nat) (b : List Byte) : Nat × List Byte × Dev :=
  if !(jobOk b it.block) then (0x12, [], d)
  else
    let rest (d : Dev) (x : Option PtsDesc) : Nat :=
      if it.code ≠ d.owner (blockId 7 c) ∨ !((jobRanges b x).all (d.jobRangeOk it)) then 0x14
      else if d.getO (copyIndex c) 0x02 = 0 ∨ d.chanState c = 0 ∨ d.chanState c = 3 then 0x16
      else if jobOverlaps b then 0x19
      else 1
    match jobDescriptor b with
    | none => (rest d none, [], d)
    | some a =>
      match d.memRead it.code a 32 with
      | (.refused _, d) => (0x14, [], d)
      | (.bad _, d) => (0x30, [], d)
      | (.ok bytes, d) =>
        match ptsDesc bytes with
        | none => (0x12, bytes, d)
        | some p => (if jobInside b p then rest d (some p) else 0x12, bytes, d)

/-! ### Completion -/

/-- The fields that completion writes into a job. -/
def copyFields (status tiles moved : Nat) : List (Nat × List Byte) :=
  [(48, leBytes 2 status), (52, leBytes 4 tiles), (56, leBytes 8 moved)]

/-- A job ends: its last status, its block and record, and the completion source of a job from the submit object. -/
def Dev.finishCopy (d : Dev) (c : Nat) (it : Item) (status tiles moved : Nat) : Dev :=
  let d := d.setO (copyIndex c) 0x06 status
  let d := d.completeItem it (copyFields status tiles moved) status moved
  if it.ring.isSome then d else d.post (97 + c)

/-- A job leaves its channel with a status. -/
def Dev.endCopy (d : Dev) (c : Nat) (j : CopyJob) (status moved : Nat) : Dev :=
  let x := d.chan c
  let rest := x.jobs.erase j
  let d := d.setChan c { x with jobs := rest }
  let d := if rest.isEmpty && d.chanState c == 2 then d.setChanState c 1 else d
  let d := (d.count (copyIndex c) 0x05).count 0x2400 0x03
  d.finishCopy c j.item status j.tiles moved

/-! ### Submitting (R121) -/

/-- A job that has been read is journaled, checked, and queued or refused; one that ends with status 0030h counts as a halt
(Table 6-8). -/
def Dev.takeCopy (d : Dev) (it : Item) (c : Nat) (b : List Byte) : Dev :=
  let it := { it with seq := field b 4 4, replay := (field b 1 1).testBit 0 }
  let (status, desc, d) := d.checkCopy it c b
  let (it, d) := d.journalItem 2 it c 64 []
  if status = 1 then
    let x := d.chan c
    let d := (d.setChan c { x with jobs := x.jobs ++ [{ item := it, body := b ++ desc }] }).setChanState c 2
    (copyFields 1 0 0).foldl (fun d f => if f.1 = 48 then d.writeBlock it f.1 f.2 else d) d
  else
    let d := d.finishCopy c it status 0 0
    if status = 0x30 then d.count 0x2400 0x04 else d

/-- A channel has 16 jobs that it has not completed. -/
def Dev.chanFull (d : Dev) (c : Nat) : Bool := 16 ≤ (d.chan c).jobs.length

/-- An on-chip submit of a copy job. -/
def Dev.submitCopy (d : Dev) (who : Init) (c addr : Nat) : Dev :=
  match d.checkWrite who (copyIndex c) 0x03 (numData (copyIndex c) 0x03 addr) with
  | some a => d.refuse a
  | none =>
    let code := initCode who
    match d.readSubmitted code addr 64 with
    | (none, _) => d.refuse abortAccess
    | (some b, d1) =>
      if d.chanFull c then d.refuse abortState
      else if !(d.submitRoom code) then (d.count 0x3000 0x09).refuse abortState
      else (d1.takeCopy { block := addr, code := code } c b).accept

/-! ### Segments (R122) -/

/-- Bytes of a segment. -/
def segmentBytes : Nat := 65536

/-- The pieces of rows that the bytes from `pos` to `stop` of a rectangle lie in: row, column and length. -/
def rowPieces (width : Nat) : Nat → Nat → Nat → List (Nat × Nat × Nat)
  | 0, _, _ => []
  | fuel + 1, pos, stop =>
    if stop ≤ pos ∨ width = 0 then []
    else
      let n := min (width - pos % width) (stop - pos)
      (pos / width, pos % width, n) :: rowPieces width fuel (pos + n) stop

/-- A piece of a job: how far it came, or the status of a halt. -/
abbrev Moved := CopyJob × Dev

/-- The status of a halt for a read that failed. -/
def readHalt (r : MemRes) : Nat :=
  match r with
  | .bad _ => 0x30
  | _ => 0x31

/-- One piece of a copy. -/
def Dev.copyPiece (m : Moved) (p : Nat × Nat × Nat) : Moved :=
  let (j, d) := m
  if j.halt.isSome then m
  else
    match d.linearRead j.item (jobSource j.body) (p.1 * jobSrcPitch j.body + p.2.1) p.2.2 with
    | (.ok bytes, d) =>
      let (ok, d) := d.linearWrite j.item (jobDest j.body) (p.1 * jobDstPitch j.body + p.2.1) bytes
      if ok then ({ j with moved := j.moved + p.2.2 }, d) else ({ j with halt := some 0x31 }, d)
    | (r, d) => ({ j with halt := some (readHalt r) }, d)

/-- One piece of a fill: byte `k` of a row is byte `k` mod 4 of the pattern. -/
def Dev.fillPiece (m : Moved) (p : Nat × Nat × Nat) : Moved :=
  let (j, d) := m
  if j.halt.isSome then m
  else
    let pattern := (j.body.drop 40).take 4
    let bytes := (List.range p.2.2).map (fun k => byteAt pattern ((p.2.1 + k) % 4))
    let (ok, d) := d.linearWrite j.item (jobDest j.body) (p.1 * jobDstPitch j.body + p.2.1) bytes
    if ok then ({ j with moved := j.moved + p.2.2 }, d) else ({ j with halt := some 0x31 }, d)

/-- Rows of a linear rectangle that tile `(i, j)` covers, and the bytes of each. -/
def tileRows (b : List Byte) (x : PtsDesc) (i j : Nat) : Nat × Nat :=
  (min 8 (jobHeight b - 8 * j), min 8 (jobWidth b - 8 * i) * ptsBpp x.format)

/-- The rows of a tile are read from a linear rectangle. -/
def Dev.readRows (d : Dev) (it : Item) (base pitch off n : Nat) : Nat → Except Nat (List (List Byte)) × Dev
  | 0 => (.ok [], d)
  | k + 1 =>
    match d.readRows it base pitch off n k with
    | (.error e, d) => (.error e, d)
    | (.ok rows, d) =>
      match d.linearRead it base (k * pitch + off) n with
      | (.ok bytes, d) => (.ok (rows ++ [bytes]), d)
      | (r, d) => (.error (readHalt r), d)

/-- Rows are written into a linear rectangle. -/
def Dev.writeRows (d : Dev) (it : Item) (base pitch off : Nat) : Nat → List (List Byte) → Bool × Dev
  | _, [] => (true, d)
  | k, row :: rows =>
    match d.linearWrite it base (k * pitch + off) row with
    | (false, d) => (false, d)
    | (true, d) => d.writeRows it base pitch off (k + 1) rows

/-- The 64 pixels of a tile from the rows read: the last column, and then the last row, is repeated. -/
def tileOf (bpp : Nat) (rows : List (List Byte)) : List Pixel :=
  (List.range 64).map (fun k =>
    let row := rows.getD (min (k / 8) (rows.length - 1)) []
    (row.drop (bpp * min (k % 8) (row.length / bpp - 1))).take bpp)

/-- One tile of an encode: its slot bytes, then its header byte (R116, R119). -/
def Dev.encodePiece (x : PtsDesc) (m : Moved) (t : Nat) : Moved :=
  let (j, d) := m
  if j.halt.isSome then m
  else
    let b := j.body
    let i := t % (jobTiles b).1
    let l := t / (jobTiles b).1
    let (rows, n) := tileRows b x i l
    let pitch := jobSrcPitch b
    match d.readRows j.item (jobSource b) pitch (8 * l * pitch + 8 * i * ptsBpp x.format) n rows with
    | (.error e, d) => ({ j with halt := some e }, d)
    | (.ok got, d) =>
      let (size, slot) := encodeTile x.format (tileOf (ptsBpp x.format) got)
      match d.memWrite j.item.code (tileSlot x.slots x.columns (jobTx b + i) (jobTy b + l)) slot with
      | (false, d) => ({ j with halt := some 0x31 }, d)
      | (true, d) =>
        match d.memWrite j.item.code (tileHeader x.headers x.columns (jobTx b + i) (jobTy b + l)) (leBytes 1 size) with
        | (false, d) => ({ j with halt := some 0x31 }, d)
        | (true, d) => ({ j with moved := j.moved + rows * n, tiles := j.tiles + (if size < 16 then 1 else 0) }, d)

/-- One tile of a decode. -/
def Dev.decodePiece (x : PtsDesc) (m : Moved) (t : Nat) : Moved :=
  let (j, d) := m
  if j.halt.isSome then m
  else
    let b := j.body
    let i := t % (jobTiles b).1
    let l := t / (jobTiles b).1
    match d.memRead j.item.code (tileHeader x.headers x.columns (jobTx b + i) (jobTy b + l)) 1 with
    | (.ok hdr, d) =>
      let h := leNat hdr
      let slotRead := d.memRead j.item.code (tileSlot x.slots x.columns (jobTx b + i) (jobTy b + l)) (tileBytes x.format h)
      match slotRead with
      | (.ok slot, d) =>
        let px := decodeTile x.format h x.clear slot
        let (rows, n) := tileRows b x i l
        let lines := (List.range rows).map (fun y => ((px.drop (8 * y)).flatMap (fun p => p)).take n)
        let pitch := jobDstPitch b
        let (ok, d) := d.writeRows j.item (jobDest b) pitch (8 * l * pitch + 8 * i * ptsBpp x.format) 0 lines
        if ok then ({ j with moved := j.moved + rows * n }, d) else ({ j with halt := some 0x31 }, d)
      | (r, d) => ({ j with halt := some (readHalt r) }, d)
    | (r, d) => ({ j with halt := some (readHalt r) }, d)

/-- One tile of a clear: 80h into its header byte, and no slot is read. -/
def Dev.clearPiece (x : PtsDesc) (m : Moved) (t : Nat) : Moved :=
  let (j, d) := m
  if j.halt.isSome then m
  else
    let b := j.body
    let i := t % (jobTiles b).1
    let l := t / (jobTiles b).1
    let (ok, d) := d.memWrite j.item.code (tileHeader x.headers x.columns (jobTx b + i) (jobTy b + l)) [0x80]
    if ok then ({ j with moved := j.moved + 1 }, d) else ({ j with halt := some 0x31 }, d)

/-- Where a job's last segment ends: bytes of its rows, or tiles. -/
def jobEnd (b : List Byte) : Nat :=
  if jobOp b = 1 ∨ jobOp b = 4 then jobWidth b * jobHeight b else (jobTiles b).1 * (jobTiles b).2

/-- Tiles in a segment of 64 KiB: an uncompressed tile of the format each, or a header byte for a clear. -/
def tilesPerSegment (b : List Byte) (x : PtsDesc) : Nat := if jobOp b = 5 then segmentBytes else segmentBytes / (64 * ptsBpp x.format)

/-- The next segment of a job. Its descriptor is the one read when the job was checked. -/
def Dev.segmentOf (d : Dev) (j : CopyJob) : Moved :=
  let b := j.body
  if jobOp b = 1 ∨ jobOp b = 4 then
    let stop := min (j.pos + segmentBytes) (jobEnd b)
    let pieces := rowPieces (jobWidth b) segmentBytes j.pos stop
    let m := pieces.foldl (if jobOp b = 1 then Dev.copyPiece else Dev.fillPiece) (j, d)
    ({ m.1 with pos := stop }, m.2)
  else
    match ptsDesc (b.drop 64) with
    | none => ({ j with halt := some 0x31 }, d)
    | some x =>
      let stop := min (j.pos + tilesPerSegment b x) (jobEnd b)
      let tiles := (List.range (stop - j.pos)).map (fun k => j.pos + k)
      let piece := if jobOp b = 2 then Dev.encodePiece x else if jobOp b = 3 then Dev.decodePiece x else Dev.clearPiece x
      let m := tiles.foldl piece (j, d)
      ({ m.1 with pos := stop }, m.2)

/-- A channel moves the next segment of the job in hand, if that job's operation is `op`: never while it is disabling, and
never after a halt or the last segment. -/
def Dev.copySegment (d : Dev) (c op : Nat) : Dev :=
  let x := d.chan c
  match x.jobs with
  | [] => d
  | j :: rest =>
    if jobOp j.body ≠ op ∨ d.chanState c ≠ 2 ∨ d.ringCancels j.item ∨ j.halt.isSome ∨ jobEnd j.body ≤ j.pos then d
    else
      let (j, d) := (d.regIssue j.item.entry).segmentOf j
      d.setChan c { d.chan c with jobs := j :: rest }

/-! ### Disabling (R123) -/

/-- The disable ends: the job in hand and the queued jobs are cancelled, and the channel shows disabled, or idle when its
enable has been written 1 again; on the way into Keep-alive the enable does not count (R414). -/
def Dev.chanDisabled (d : Dev) (c : Nat) : Dev :=
  let jobs := (d.chan c).jobs
  let d := (jobs.zip (List.range jobs.length)).foldl
    (fun d p => d.endCopy c p.1 0x20 (if p.2 = 0 then p.1.moved else 0)) d
  let d := d.setO (copyIndex c) 0x07 ((d.clock.ns - (d.chan c).disableAt) / 1000)
  d.setChanState c (if d.getO (copyIndex c) 0x02 = 0 || !d.running then 0 else 1)

/-- A channel starts to be disabled. -/
def Dev.disableChan (d : Dev) (c : Nat) : Dev :=
  let st := d.chanState c
  if st = 0 ∨ st = 3 then d
  else
    let d := d.setChan c { d.chan c with disableAt := d.clock.ns }
    if (d.chan c).jobs.isEmpty then d.chanDisabled c else d.setChanState c 3

/-- A write of a channel's enable. -/
def copyEnableVerdict (c v : Nat) (d : Dev) : Verdict :=
  let d := d.setO (copyIndex c) 0x02 v
  if v = 0 then .ok (d.disableChan c)
  else .ok (if d.chanState c = 0 && d.running then d.setChanState c 1 else d)

/-! ### The meanings -/

/-- COPY_JOB_SUBMIT (R121). -/
def execCopyJobSubmit (who : Init) (channel address : Nat) (s : State) : Host.Outcome State Fault Refusal :=
  actServed (onUnit channel 32 (fun d => d.submitCopy who channel address)) s

/-- COPY_JOB_COPY (R122): the next segment of a copy. -/
def execCopyJobCopy (channel : Nat) (s : State) : Host.Outcome State Fault Refusal :=
  act (onUnit channel 32 (fun d => d.copySegment channel 1)) s

/-- ENCODE (R122): the next segment of an encode. -/
def execEncode (channel : Nat) (s : State) : Host.Outcome State Fault Refusal :=
  act (onUnit channel 32 (fun d => d.copySegment channel 2)) s

/-- DECODE (R122): the next segment of a decode. -/
def execDecode (channel : Nat) (s : State) : Host.Outcome State Fault Refusal :=
  act (onUnit channel 32 (fun d => d.copySegment channel 3)) s

/-- FILL (R122): the next segment of a fill. -/
def execFill (channel : Nat) (s : State) : Host.Outcome State Fault Refusal :=
  act (onUnit channel 32 (fun d => d.copySegment channel 4)) s

/-- CLEAR (R122): the next segment of a clear. -/
def execClear (channel : Nat) (s : State) : Host.Outcome State Fault Refusal :=
  act (onUnit channel 32 (fun d => d.copySegment channel 5)) s

/-- COPY_JOB_COMPLETE (R122): the job in hand has moved its last segment. -/
def execCopyJobComplete (channel : Nat) (s : State) : Host.Outcome State Fault Refusal :=
  act (onUnit channel 32 (fun d =>
    match (d.chan channel).jobs with
    | [] => d
    | j :: _ => if j.halt.isNone && jobEnd j.body ≤ j.pos then d.endCopy channel j 0 j.moved else d)) s

/-- COPY_JOB_HALT (R122): the job in hand met bad data or an address fault; the channel goes on with its next job. -/
def execCopyJobHalt (channel : Nat) (s : State) : Host.Outcome State Fault Refusal :=
  act (onUnit channel 32 (fun d =>
    match (d.chan channel).jobs with
    | [] => d
    | j :: _ =>
      match j.halt with
      | none => d
      | some st => (d.endCopy channel j st j.moved).count 0x2400 0x04)) s

/-- COPY_CHANNEL_ENABLE_WRITE (R123). -/
def execCopyChannelEnableWrite (who : Init) (channel value : Nat) (s : State) : Host.Outcome State Fault Refusal :=
  actServed (onUnit channel 32 (fun d => d.request who (copyIndex channel) 0x02 (numData (copyIndex channel) 0x02 value)
    (copyEnableVerdict channel value))) s

/-- COPY_CHANNEL_DISABLE_COMPLETE (R123). -/
def execCopyChannelDisableComplete (channel : Nat) (s : State) : Host.Outcome State Fault Refusal :=
  act (onUnit channel 32 (fun d => if d.chanState channel == 3 then d.chanDisabled channel else d)) s

end Sys2Proof.Machine
end

