-- ==== Sys2Proof/Machine/Reals.lean ====
section
/-! DEFINITION. The real functions of Table 9-8 as rational numbers, each closer to its function than 2^-50 of itself, and the
values that a precision allows: any, within the bound (R183 bounds the error and gives no value). -/

namespace Sys2Proof.Machine

/-- The integer square root, by bisection between `lo` and `hi`. -/
def isqrt (n : Nat) : Nat → Nat → Nat → Nat
  | 0, lo, _ => lo
  | fuel + 1, lo, hi =>
    let m := (lo + hi) / 2
    if hi ≤ lo + 1 then lo else if m * m ≤ n then isqrt n fuel m hi else isqrt n fuel lo m

/-! ### Fixed point with 96 fraction bits -/

def fixOne : Nat := 2 ^ 96
def fixLn2 : Nat := 54916777467707473351141471128
def fixPi : Nat := 248902613312231085230521944622

def fixOf (x : Rat) : Int := (x * (fixOne : Nat)).floor
def fixRat (i : Int) : Rat := (i : Rat) / ((fixOne : Nat) : Rat)

/-- 2 to a power, as a rational. -/
def twoTo (e : Int) : Rat := if 0 ≤ e then ((2 ^ e.toNat : Nat) : Rat) else 1 / ((2 ^ (-e).toNat : Nat) : Rat)

/-- The sum of a series whose term n + 1 is term n times `t`² (or `t`) over `den n`. -/
def fixSeries (t : Int) (den : Nat → Int) : Nat → Nat → Int → Int
  | 0, _, _ => 0
  | fuel + 1, n, term => term + fixSeries t den fuel (n + 1) (term * t / (fixOne : Int) / den n)

/-- 2^x. -/
def exp2Real (x : Rat) : Rat :=
  let n := x.floor
  let t := fixOf (x - (n : Rat)) * (fixLn2 : Int) / (fixOne : Int)
  twoTo n * fixRat (fixSeries t (fun n => (n : Int) + 1) 32 0 (fixOne : Int))

/-- The fraction bits of log2 of a fixed-point number from 1 up to 2. -/
def fixLog2 : Nat → Nat → Nat → Nat
  | 0, _, acc => acc
  | fuel + 1, y, acc =>
    let y := y * y / fixOne
    if 2 * fixOne ≤ y then fixLog2 fuel (y / 2) (2 * acc + 1) else fixLog2 fuel y (2 * acc)

/-- log2 of m × 2^e for m above 0. -/
def log2Real (m : Nat) (e : Int) : Rat :=
  let l := Nat.log2 m
  (e + (l : Nat) : Int) + (fixLog2 64 (m * fixOne / 2 ^ l) 0 : Nat) / ((2 ^ 64 : Nat) : Rat)

/-- √(m × 2^e). -/
def sqrtReal (m : Nat) (e : Int) : Rat :=
  let (m, e) := if e % 2 = 0 then (m, e) else (2 * m, e - 1)
  let n := m * 2 ^ 128
  (isqrt n (Nat.log2 n + 2) 0 (2 ^ (Nat.log2 n / 2 + 1)) : Nat) * twoTo (e / 2 - 64)

/-- sin x and cos x for x from -π to π. -/
def sinReal (x : Rat) : Rat :=
  let t := fixOf x
  fixRat (fixSeries (-(t * t / (fixOne : Int))) (fun n => ((2 * n + 2) * (2 * n + 3) : Nat)) 30 0 t)
def cosReal (x : Rat) : Rat :=
  let t := fixOf x
  fixRat (fixSeries (-(t * t / (fixOne : Int))) (fun n => ((2 * n + 1) * (2 * n + 2) : Nat)) 30 0 (fixOne : Int))

/-! ### Allowed values -/

/-- The unit in the last place of a width's format at a real number. -/
def ulpAt (w : Nat) (x : Rat) : Rat :=
  let (p, low) : Int × Int := if w = 16 then (10, -14) else (23, -126)
  let m := x.num.natAbs * 2 ^ 300 / x.den
  twoTo (max low (leading m (-300)) - p)

/-- A rational number, rounded to a width. -/
def ratBits (w : Nat) (x : Rat) : Nat :=
  let m := x.num.natAbs * 2 ^ 300
  (Fp.num (decide (x < 0)) (2 * (m / x.den) + (if m % x.den = 0 then 0 else 1)) (-301)).toBits w

/-- Bits of a width within `err` of a real number: the free ones where they lie there, and the rounded number otherwise. -/
def within (w : Nat) (x err : Rat) (free : Nat) : Nat :=
  let v := Fp.ofBits w free
  match v.rat with
  | some y => if x - err ≤ y ∧ y ≤ x + err then v.toBits w else ratBits w x
  | none => ratBits w x

/-- Bits within a number of units in the last place. -/
def withinUlp (w : Nat) (x ulps : Rat) (free : Nat) : Nat := within w x (ulps * ulpAt w x) free

/-- x / y (Table 9-8). The quotient of an operand that is not finite, or by zero, is a free value: no rule states it. -/
def Fp.quotient (w : Nat) (x y : Fp) (free : Nat) : Nat :=
  match x.rat, y.rat with
  | some a, some b => if b = 0 then free % 2 ^ w else withinUlp w (a / b) (if w = 16 then 1 else 5 / 2) free
  | _, _ => free % 2 ^ w

/-- √x, and its inverse. -/
def Fp.root (w : Nat) (x : Fp) (free : Nat) : Nat :=
  match x with
  | .num neg m e =>
    if m = 0 then x.toBits w
    else if neg then free % 2 ^ w
    else withinUlp w (sqrtReal m e) (if w = 16 then 1 else 2) free
  | _ => free % 2 ^ w
def Fp.inverseRoot (w : Nat) (x : Fp) (free : Nat) : Nat :=
  match x with
  | .num neg m e =>
    if m = 0 ∨ neg then free % 2 ^ w else withinUlp w (1 / sqrtReal m e) (if w = 16 then 1 else 2) free
  | _ => free % 2 ^ w

/-- 2^x and log2 x. -/
def Fp.exp2 (w : Nat) (x : Fp) (free : Nat) : Nat :=
  match x.rat with
  | some a =>
    if 200 < a then (Fp.inf false).toBits w
    else if a < -200 then 0
    else withinUlp w (exp2Real a) (if w = 16 then 1 else 3) free
  | none => free % 2 ^ w
def Fp.log2 (w : Nat) (x : Fp) (free : Nat) : Nat :=
  match x with
  | .num neg m e =>
    if m = 0 ∨ neg then free % 2 ^ w
    else
      let y := log2Real m e
      if w ≠ 16 ∧ -1 ≤ y ∧ y ≤ 1 then within w y (1 / 2097152) free else withinUlp w y (if w = 16 then 1 else 3) free
  | _ => free % 2 ^ w

/-- sin x and cos x from -π to π; beyond, Table 9-8 states nothing. -/
def Fp.circular (w : Nat) (f : Rat → Rat) (x : Fp) (free : Nat) : Nat :=
  match x.rat with
  | some a =>
    if (fixPi : Int) < (fixOf a).natAbs then free % 2 ^ w
    else within w (f a) (if w = 16 then 1 / 128 else 1 / 2048) free
  | none => free % 2 ^ w

end Sys2Proof.Machine
end

