-- ==== Sys2Proof/Machine/Spirv.lean ====
section
/-! DEFINITION. SPIR-V modules as words (R182): instructions, decorations, types, layouts, and the checks 0040h and 0041h of
Table 9-7. The numbers are those of SPIR-V 1.6 and GLSL.std.450 (PRESUMED, assumption log 33: R182 names both publications
and repeats neither). -/

namespace Sys2Proof.Machine

/-- An instruction: its opcode, result type and result (0: none), and the operand words after them. -/
structure SInst where
  op   : Nat := 0
  ty   : Nat := 0
  id   : Nat := 0
  args : List Nat := []
  deriving DecidableEq, Repr

def SInst.arg (i : SInst) (n : Nat) : Nat := i.args.getD n 0

/-- A module: its instructions, the values given to its specialisation constants, and the leaves of the constants evaluated
so far. -/
structure Module where
  insts  : List SInst := []
  spec   : List (Nat × Nat) := []
  consts : Tab (List Nat) := []
  deriving DecidableEq, Repr

/-! ### Words to instructions -/

def span (a b : Nat) : List Nat := List.range' a (b + 1 - a)

/-- Opcodes without a result, with a result only, and with a result type and a result: those of the capabilities of R182. -/
def plainOps : List Nat :=
  [0] ++ span 2 6 ++ [8, 10, 14, 15, 16, 17, 56, 62, 63, 71, 72, 74, 75, 99, 224, 225, 228] ++ span 246 247 ++ span 249 255
    ++ [317, 330, 331, 332, 4416, 5380, 5632, 5633]
def resultOps : List Nat := [7, 11] ++ span 19 30 ++ [32, 33, 73, 248]
def typedOps : List Nat :=
  [1, 12, 41, 42, 43, 44, 46] ++ span 48 52 ++ [54, 55, 57, 59, 60, 61, 65, 66, 68] ++ span 77 84 ++ span 86 98 ++ [100]
    ++ span 103 106 ++ span 109 116 ++ [124] ++ span 126 152 ++ [154, 155, 156, 157] ++ span 164 191 ++ span 194 205
    ++ span 207 215 ++ [227, 229, 230] ++ span 232 242 ++ [245] ++ span 333 366 ++ [400]

/-- An instruction from its opcode and its operand words. -/
def instOf (op : Nat) (ws : List Nat) : SInst :=
  if typedOps.contains op then { op := op, ty := ws.getD 0 0, id := ws.getD 1 0, args := ws.drop 2 }
  else if resultOps.contains op then { op := op, id := ws.getD 0 0, args := ws.drop 1 }
  else { op := op, args := ws }

/-- The instructions of a stream; none when a word count does not fit. -/
def parseInsts : Nat → List Nat → Option (List SInst)
  | _, [] => some []
  | 0, _ => none
  | fuel + 1, w :: ws =>
    let n := w / 65536
    if n = 0 ∨ ws.length + 1 < n then none
    else (parseInsts fuel (ws.drop (n - 1))).map (fun is => instOf (w % 65536) (ws.take (n - 1)) :: is)

/-- A word with its bytes turned round. -/
def swapWord (w : Nat) : Nat := bits w 24 8 + bits w 16 8 * 256 + bits w 8 8 * 65536 + bits w 0 8 * 16777216

/-- The words of a module in its own byte order, as its first word tells it. -/
def moduleOrder (ws : List Nat) : List Nat := if ws.headD 0 = 0x03022307 then ws.map swapWord else ws

/-- The instructions of a module whose header is one of SPIR-V 1.6. -/
def parseModule (ws : List Nat) : Option (List SInst) :=
  let ws := moduleOrder ws
  if ws.length < 5 ∨ ws.getD 0 0 ≠ 0x07230203 ∨ ws.getD 1 0 ≠ 0x00010600 ∨ ws.getD 4 0 ≠ 0 then none
  else
    match parseInsts ws.length (ws.drop 5) with
    | some is => if is.all (fun i => i.id < ws.getD 3 0 && i.ty < ws.getD 3 0) then some is else none
    | none => none

/-! ### Looking up -/

def Module.find (m : Module) (id : Nat) : SInst := (m.insts.find? (fun i => i.id == id && id != 0)).getD {}

/-- The type of a result. -/
def Module.typeOf (m : Module) (id : Nat) : Nat := (m.find id).ty

/-- Bytes of a string operand. -/
def stringWords : List Nat → List Nat
  | [] => []
  | w :: ws =>
    let b := [bits w 0 8, bits w 8 8, bits w 16 8, bits w 24 8]
    let s := b.takeWhile (· != 0)
    if s.length < 4 then s else s ++ stringWords ws

/-- How many words a string operand takes. -/
def stringSize (ws : List Nat) : Nat := (stringWords ws).length / 4 + 1

/-- The literals of a decoration of an object; none without it. -/
def Module.deco (m : Module) (id d : Nat) : Option (List Nat) :=
  let direct (x : Nat) : Option (List Nat) :=
    (m.insts.find? (fun i => (i.op == 71 || i.op == 332) && i.arg 0 == x && i.arg 1 == d)).map (fun i => i.args.drop 2)
  (direct id).or ((m.insts.filter (fun i => i.op == 74 && (i.args.drop 1).contains id)).findSome? (fun i => direct (i.arg 0)))

/-- The literals of a decoration of a structure's member. -/
def Module.memberDeco (m : Module) (id k d : Nat) : Option (List Nat) :=
  (m.insts.find? (fun i => i.op == 72 && i.arg 0 == id && i.arg 1 == k && i.arg 2 == d)).map (fun i => i.args.drop 3)

def Module.decoNat (m : Module) (id d : Nat) : Nat := ((m.deco id d).getD []).headD 0

/-- A constant's leaves, and a constant integer. -/
def Module.constOf (m : Module) (id : Nat) : List Nat := tabGet [] m.consts id
def Module.constNat (m : Module) (id : Nat) : Nat := (m.constOf id).headD 0

/-! ### Types -/

/-- A scalar type. -/
inductive Scalar where
  | bool
  | int (w : Nat) (signed : Bool)
  | flt (w : Nat)
  deriving DecidableEq, Repr

/-- Its width in bits; a Boolean has one bit, and takes 4 bytes where it must be stored. -/
def Scalar.width : Scalar → Nat
  | .bool => 1
  | .int w _ => w
  | .flt w => w
def Scalar.bytes : Scalar → Nat
  | .bool => 4
  | .int w _ => w / 8
  | .flt w => w / 8

/-- The scalars of a type, in order: a matrix by columns. A value is the list of its scalars' bits. -/
def Module.scalarsIn (m : Module) : Nat → Nat → List Scalar
  | 0, _ => []
  | fuel + 1, t =>
    let i := m.find t
    let times (n : Nat) : List Scalar :=
      let e := m.scalarsIn fuel (i.arg 0)
      (List.range n).flatMap (fun _ => e)
    match i.op with
    | 20 => [.bool]
    | 21 => [.int (i.arg 0) (i.arg 1 == 1)]
    | 22 => [.flt (i.arg 0)]
    | 23 | 24 => times (i.arg 1)
    | 28 => times (m.constNat (i.arg 1))
    | 30 => i.args.flatMap (m.scalarsIn fuel)
    | _ => []

/-- Types are no deeper than the module is long. -/
def Module.scalars (m : Module) (t : Nat) : List Scalar := m.scalarsIn m.insts.length t
def Module.leaves (m : Module) (t : Nat) : Nat := (m.scalars t).length
def Module.scalar (m : Module) (t : Nat) : Scalar := (m.scalars t).headD .bool

/-- The type of part `k` of a composite, and the leaves before it. -/
def Module.part (m : Module) (t k : Nat) : Nat × Nat :=
  let i := m.find t
  if i.op = 30 then (i.arg k, ((i.args.take k).map m.leaves).foldl (· + ·) 0)
  else (i.arg 0, k * m.leaves (i.arg 0))

/-- How many parts a composite has. -/
def Module.parts (m : Module) (t : Nat) : Nat :=
  let i := m.find t
  match i.op with
  | 23 | 24 => i.arg 1
  | 28 => m.constNat (i.arg 1)
  | 30 => i.args.length
  | _ => 0

/-- The type that a chain of literal indexes reaches, and the leaves before it. -/
def Module.partAt (m : Module) (t : Nat) (ks : List Nat) : Nat × Nat :=
  ks.foldl (fun p k => let q := m.part p.1 k; (q.1, p.2 + q.2)) (t, 0)

/-! ### Layouts of buffers -/

/-- A place in a buffer: byte offset, type, and how the matrix there lies (its stride, and by rows), and the stride between the
components of a vector there (0: packed). -/
structure Place where
  off    : Nat := 0
  ty     : Nat := 0
  stride : Nat := 0
  rows   : Bool := false
  comp   : Nat := 0
  deriving DecidableEq, Repr

/-- Part `k` of what lies at a place. -/
def Module.placePart (m : Module) (p : Place) (k : Nat) : Place :=
  let i := m.find p.ty
  match i.op with
  | 30 =>
    let d (n : Nat) : Nat := ((m.memberDeco p.ty k n).getD []).headD 0
    { off := p.off + d 35, ty := i.arg k, stride := d 7, rows := (m.memberDeco p.ty k 4).isSome }
  | 28 | 29 => { p with off := p.off + k * m.decoNat p.ty 6, ty := i.arg 0 }
  | 24 =>
    let n := (m.scalar p.ty).bytes
    if p.rows then { off := p.off + k * n, ty := i.arg 0, comp := p.stride } else { off := p.off + k * p.stride, ty := i.arg 0 }
  | _ =>
    let n := (m.scalar p.ty).bytes
    { off := p.off + k * (if p.comp = 0 then n else p.comp), ty := i.arg 0 }

/-- The byte offset and the size of every leaf at a place. -/
def Module.layoutIn (m : Module) : Nat → Place → List (Nat × Nat)
  | 0, _ => []
  | fuel + 1, p =>
    let i := m.find p.ty
    if [23, 24, 28, 30].contains i.op then (List.range (m.parts p.ty)).flatMap (fun k => m.layoutIn fuel (m.placePart p k))
    else [(p.off, (m.scalar p.ty).bytes)]
def Module.layout (m : Module) (p : Place) : List (Nat × Nat) := m.layoutIn m.insts.length p

/-! ### Entry points -/

/-- The execution models: Vertex 0, Fragment 4, GLCompute 5. The entry point is the first of its model (R181). -/
def Module.entry (m : Module) (model : Nat) : Option SInst := m.insts.find? (fun i => i.op == 15 && i.arg 0 == model)

/-- The operands of an execution mode of an entry point. -/
def Module.mode (m : Module) (e : SInst) (mode : Nat) : Option (List Nat) :=
  (m.insts.find? (fun i => (i.op == 16 || i.op == 331) && i.arg 0 == e.arg 1 && i.arg 1 == mode)).map (fun i => i.args.drop 2)

/-- The variables of an entry point's interface. -/
def Module.interface (m : Module) (e : SInst) : List SInst :=
  let ids := (e.args.drop 2).drop (stringSize (e.args.drop 2))
  m.insts.filter (fun i => i.op == 59 && ids.contains i.id)

/-- A variable's storage class, and the type that it holds. -/
def SInst.storage (v : SInst) : Nat := v.arg 0
def Module.pointee (m : Module) (v : SInst) : Nat := (m.find v.ty).arg 1

/-- A descriptor variable's type without its array, and how many elements the array has. -/
def Module.elements (m : Module) (t : Nat) : Nat × Nat :=
  let i := m.find t
  if i.op = 28 then (i.arg 0, m.constNat (i.arg 1)) else (t, 1)

/-- The entry type of Table 9-3 that a variable declares; 0 for a variable that is no descriptor. -/
def Module.descriptorKind (m : Module) (v : SInst) : Nat :=
  let i := m.find (m.elements (m.pointee v)).1
  match v.storage with
  | 2 => 1
  | 12 => 2
  | 0 => (match i.op with
    | 25 => if i.arg 5 = 2 then 4 else 3
    | 26 => 5
    | 27 => 6
    | _ => 0)
  | _ => 0

/-- Set, binding and entry type of every descriptor that an entry point uses. -/
def Module.bindings (m : Module) (e : SInst) : List (Nat × Nat × Nat) :=
  (m.interface e).flatMap (fun v =>
    let k := m.descriptorKind v
    if k = 0 then []
    else (List.range (m.elements (m.pointee v)).2).map (fun n => (m.decoNat v.id 34, m.decoNat v.id 33 + n, k)))

/-! ### The contract (R182) -/

/-- Capabilities, in the order of the rule: Shader, Matrix, Float16, Int8, Int16, Int64, Int64Atomics, the storage
capabilities of 8 and 16 bits, StoragePushConstant16, ImageQuery, DerivativeControl, the two without a format,
SampledBuffer, ImageBuffer, VulkanMemoryModel, DemoteToHelperInvocation, DenormFlushToZero, RoundingModeRTE, and the seven
GroupNonUniform capabilities. -/
def capabilities : List Nat :=
  [1, 0, 9, 39, 22, 11, 12, 4448, 4433, 4449, 4434, 4435, 50, 51, 56, 55, 46, 47, 5345, 5379, 4465, 4467, 61, 62, 63, 64, 65,
   66, 68]

/-- Execution modes: those of the Shader capability but OriginLowerLeft, and the three float controls that the rule accepts. -/
def modeInside (mode width : Nat) : Bool :=
  [6, 7, 9, 12, 14, 15, 16, 17, 38].contains mode || (mode == 4460 && width == 32) || (mode == 4462 && (width == 16 || width == 32))

/-- Instructions of GLSL.std.450 that need no further capability. -/
def glslInside (n : Nat) : Bool := 1 ≤ n && n ≤ 81 && !([47, 59, 65, 76, 77, 78].contains n)

/-- "GLSL.std.450" -/
def glslName : List Nat := [71, 76, 83, 76, 46, 115, 116, 100, 46, 52, 53, 48]

/-- Where the image operands of an instruction stand. -/
def imageMaskAt (op : Nat) : Nat :=
  match op with
  | 89 | 90 | 93 | 94 | 96 | 97 => 3
  | 99 => 3
  | _ => 2
def usesImageMask (op : Nat) : Bool := (87 ≤ op && op ≤ 99)

/-- Bits of the image operands that need no further capability: Bias, Lod, Grad, ConstOffset, the memory model's, the two
extensions and Nontemporal. -/
def imageMaskInside (mask : Nat) : Bool := (mask &&& (0xFFFFFFFF - 0x7F0F)) == 0

/-- One instruction lies inside the contract. -/
def instInside (i : SInst) : Bool :=
  match i.op with
  | 10 => false
  | 11 => stringWords i.args == glslName
  | 12 => glslInside (i.arg 1)
  | 14 => i.arg 0 == 0 && (i.arg 1 == 1 || i.arg 1 == 3)
  | 15 => [0, 4, 5].contains (i.arg 0)
  | 16 | 331 => modeInside (i.arg 1) (i.arg 2)
  | 17 => capabilities.contains (i.arg 0)
  | 22 => i.arg 0 == 32 || i.arg 0 == 16
  | 25 => (i.arg 1 == 1 || i.arg 1 == 5) && i.arg 3 == 0 && i.arg 4 == 0
  | n =>
    if usesImageMask n then imageMaskInside (i.arg (imageMaskAt n))
    else if (349 ≤ n && n ≤ 364) || n == 342 then i.arg 1 ≤ 2
    else plainOps.contains n || resultOps.contains n || typedOps.contains n

/-- Check 0041h passes. -/
def Module.inside (m : Module) : Bool := m.insts.all instInside

end Sys2Proof.Machine
end

