-- ==== Sys2Proof/Machine/ShaderMath.lean ====
section
/-! DEFINITION. What a shader's arithmetic computes (R183): FP32 with flush, FP16 with denormals, wrapping integers, the
precisions of Table 9-8, and GLSL.std.450. A `Nat` operand named `f` is a free value: where SPIR-V leaves a result undefined or
the rules state no precision, the result is it (assumption log 33). A value is the list of its scalars' bits. -/

namespace Sys2Proof.Machine

def boolNat (b : Bool) : Nat := if b then 1 else 0

/-! ### Conversions -/

/-- A value truncated toward zero. -/
def Fp.trunc : Fp → Int
  | .num neg m e => let n : Int := ((if 0 ≤ e then m * 2 ^ e.toNat else m / 2 ^ (-e).toNat : Nat) : Int); if neg then -n else n
  | _ => 0

/-- To an integer: toward zero, saturating; what a NaN becomes is a free value. -/
def fpToInt (w : Nat) (signed : Bool) (x : Fp) (f : Nat) : Nat :=
  let lo : Int := if signed then -((2 ^ (w - 1) : Nat) : Int) else 0
  let hi : Int := if signed then ((2 ^ (w - 1) : Nat) : Int) - 1 else ((2 ^ w : Nat) : Int) - 1
  match x with
  | .nan => f % 2 ^ w
  | .inf neg => ofSigned w (if neg then lo else hi)
  | _ => ofSigned w (max lo (min hi x.trunc))

/-- An integer as a floating-point value. -/
def intToFp (i : Int) : Fp := .num (decide (i < 0)) i.natAbs 0

/-- Rounded to the precision of FP16, a denormal flushed to zero (OpQuantizeToF16). -/
def quantizeHalf (x : Fp) : Fp :=
  let y := Fp.of16 x.to16
  match y with
  | .num neg m e => if m ≠ 0 ∧ leading m e < -14 then .num neg 0 0 else y
  | _ => y

/-- Rounded to an integral value by a rule on floor and fraction. -/
def Fp.integral (rule : Int → Rat → Int) (x : Fp) : Fp :=
  match x with
  | .num neg _ _ =>
    match x.rat with
    | some v =>
      let i := rule v.floor (v - (v.floor : Rat))
      .num neg i.natAbs 0
    | none => x
  | _ => x
def Fp.floorOf (x : Fp) : Fp :=
  match x.rat with
  | some v => if v.floor = 0 then (match x with | .num neg _ _ => .num neg 0 0 | y => y) else intToFp v.floor
  | none => x
def Fp.truncOf (x : Fp) : Fp := match x with | .num neg _ _ => .num neg x.trunc.natAbs 0 | y => y
def Fp.ceilOf (x : Fp) : Fp := (Fp.floorOf x.negate).negate
def Fp.evenOf (x : Fp) : Fp :=
  x.integral (fun n r => if r < 1 / 2 then n else if 1 / 2 < r then n + 1 else if n % 2 = 0 then n else n + 1)
/-- Halves go the way a free value says (GLSL.std.450 Round). -/
def Fp.roundOf (f : Nat) (x : Fp) : Fp :=
  x.integral (fun n r => if r < 1 / 2 then n else if 1 / 2 < r then n + 1 else if f % 2 = 0 then n else n + 1)

/-! ### Integers -/

/-- A quotient and a remainder toward zero. -/
def quot (a b : Int) : Int := Int.tdiv a b
def remTrunc (a b : Int) : Int := Int.tmod a b
/-- A remainder with the sign of the divisor. -/
def remFloor (a b : Int) : Int := Int.fmod a b

def reverseBits (w v : Nat) : Nat := (List.range w).foldl (fun acc i => 2 * acc + boolNat (v.testBit i)) 0
def bitCount (w v : Nat) : Nat := ((List.range w).filter (fun i => v.testBit i)).length

/-- The highest bit equal to `b` below `w`; all ones when there is none. -/
def highBit (w v : Nat) (b : Bool) : Nat :=
  match ((List.range w).reverse).find? (fun i => v.testBit i == b) with
  | some i => i
  | none => 2 ^ w - 1
def lowBit (w v : Nat) : Nat :=
  match (List.range w).find? (fun i => v.testBit i) with
  | some i => i
  | none => 2 ^ w - 1

/-- A shift amount that is less than the width. -/
def shifted (w s f : Nat) (g : Nat → Nat) : Nat := if s < w then g s else f % 2 ^ w

/-! ### Operations on scalars -/

/-- A comparison of floating-point values, ordered or unordered. -/
def fpCompare (op : Nat) (a b : Fp) : Bool :=
  let un := a == .nan || b == .nan
  match op with
  | 180 => a.eq b
  | 181 => un || a.eq b
  | 182 => !un && !(a.eq b)
  | 183 => un || !(a.eq b)
  | 184 => a.lt b
  | 185 => un || a.lt b
  | 186 => b.lt a
  | 187 => un || b.lt a
  | 188 => a.lt b || a.eq b
  | 189 => un || a.lt b || a.eq b
  | 190 => b.lt a || a.eq b
  | _ => un || b.lt a || a.eq b

/-- x − y × trunc(x / y) or x − y × floor(x / y), as those operations compute it. -/
def fpRemainder (w : Nat) (floor : Bool) (x y : Fp) (f : Nat) : Nat :=
  let q := Fp.ofBits w (x.quotient w y f)
  let t := if floor then q.floorOf else q.truncOf
  let p := Fp.ofBits w ((y.times t).toBits w)
  (x.plus p.negate).toBits w

/-- An operation on the scalars of a component: `a` is the operands' type and `r` the result's. -/
def scalarOp (op : Nat) (a r : Scalar) (x y z u f : Nat) : Nat :=
  let w := a.width
  let n := r.width
  let sx := asSigned w x
  let sy := asSigned w y
  let fx := Fp.ofBits w x
  let fy := Fp.ofBits w y
  match op with
  | 109 => fpToInt n false fx f
  | 110 => fpToInt n true fx f
  | 111 => (intToFp sx).toBits n
  | 112 => (intToFp (x : Int)).toBits n
  | 113 => x % 2 ^ n
  | 114 => ofSigned n sx
  | 115 => fx.toBits n
  | 116 => (quantizeHalf fx).toBits n
  | 126 => ofSigned n (-sx)
  | 127 => fx.negate.toBits n
  | 128 => (x + y) % 2 ^ n
  | 129 => (fx.plus fy).toBits n
  | 130 => ofSigned n ((x : Int) - y)
  | 131 => (fx.plus fy.negate).toBits n
  | 132 => x * y % 2 ^ n
  | 133 => (fx.times fy).toBits n
  | 134 => if y = 0 then f % 2 ^ n else x / y
  | 135 => if y = 0 then f % 2 ^ n else ofSigned n (quot sx sy)
  | 136 => fx.quotient w fy f
  | 137 => if y = 0 then f % 2 ^ n else x % y
  | 138 => if y = 0 then f % 2 ^ n else ofSigned n (remTrunc sx sy)
  | 139 => if y = 0 then f % 2 ^ n else ofSigned n (remFloor sx sy)
  | 140 => fpRemainder w false fx fy f
  | 141 => fpRemainder w true fx fy f
  | 156 => boolNat (fx == .nan)
  | 157 => boolNat (match fx with | .inf _ => true | _ => false)
  | 164 => boolNat (x == y)
  | 165 => boolNat (x != y)
  | 166 => x ||| y
  | 167 => x &&& y
  | 168 => 1 - x
  | 169 => if x = 0 then z else y
  | 170 => boolNat (x == y)
  | 171 => boolNat (x != y)
  | 172 => boolNat (y < x)
  | 173 => boolNat (sy < sx)
  | 174 => boolNat (y ≤ x)
  | 175 => boolNat (sy ≤ sx)
  | 176 => boolNat (x < y)
  | 177 => boolNat (sx < sy)
  | 178 => boolNat (x ≤ y)
  | 179 => boolNat (sx ≤ sy)
  | 194 => shifted w y f (fun s => x / 2 ^ s)
  | 195 => shifted w y f (fun s => ofSigned n (sx / ((2 ^ s : Nat) : Int)))
  | 196 => shifted w y f (fun s => x * 2 ^ s % 2 ^ n)
  | 197 => x ||| y
  | 198 => x ^^^ y
  | 199 => x &&& y
  | 200 => 2 ^ n - 1 - x
  | 201 => if w < z + u then f % 2 ^ n else if u = 0 then x else setBits x z u y
  | 202 => if w < y + z then f % 2 ^ n else if z = 0 then 0 else ofSigned n (asSigned z (bits x y z))
  | 203 => if w < y + z then f % 2 ^ n else bits x y z
  | 204 => reverseBits w x
  | 205 => bitCount w x
  | _ => if 180 ≤ op ∧ op ≤ 191 then boolNat (fpCompare op fx fy) else f % 2 ^ n

/-- Which operations go component by component. -/
def componentwise (op : Nat) : Bool :=
  (109 ≤ op && op ≤ 116) || (126 ≤ op && op ≤ 141) || op == 156 || op == 157 || (164 ≤ op && op ≤ 191)
    || (194 ≤ op && op ≤ 205)

/-- Component `k` of an operand; a single scalar serves every component. -/
def comp (v : List Nat) (k : Nat) : Nat := if v.length = 1 then v.headD 0 else v.getD k 0

/-! ### Sums of products -/

/-- x × y + z: fused, or with the product rounded. -/
def mulAdd (w : Nat) (fused : Bool) (x y z : Fp) : Fp :=
  let p := x.times y
  Fp.ofBits w ((Fp.plus (if fused then p else Fp.ofBits w (p.toBits w)) z).toBits w)

/-- A sum of products in order, each step rounded; the multiply and the add of a step are fused, or not, as a free value says
(DESIGN CHOICE, assumption log 33). -/
def dotOf (w : Nat) (noFuse : Bool) (xs ys : List Nat) (f : Nat) : Nat :=
  let terms := (xs.zip ys).map (fun p => (Fp.ofBits w p.1, Fp.ofBits w p.2))
  match terms with
  | [] => 0
  | (a, b) :: rest =>
    let first := Fp.ofBits w ((a.times b).toBits w)
    ((rest.zip (List.range rest.length)).foldl
      (fun acc t => mulAdd w (!noFuse && f.testBit t.2) t.1.1 t.1.2 acc) first).toBits w

/-- Rows of a list of leaves cut into columns of `n`. -/
def columnsOf (n : Nat) (v : List Nat) : List (List Nat) :=
  (List.range (v.length / max 1 n)).map (fun k => (v.drop (k * n)).take n)
def rowsOf (n : Nat) (v : List Nat) : List (List Nat) :=
  let cs := columnsOf n v
  (List.range n).map (fun r => cs.map (fun c => c.getD r 0))

/-! ### GLSL.std.450 -/

def hi32 (v : Nat) : Nat := v / 2 ^ 32 % 2 ^ 32

/-- A normalised integer of `w` bits packed from FP32, halves to even; a NaN is a free value. -/
def packNorm (w : Nat) (signed : Bool) (v f : Nat) : Nat :=
  let top := if signed then 2 ^ (w - 1) - 1 else 2 ^ w - 1
  match (Fp.of32 v) with
  | .nan => f % 2 ^ w
  | .inf neg => if neg then (if signed then 2 ^ w - top else 0) else top
  | .num neg m e =>
    let q := min top (quantum (m * top) e 0)
    if neg then (if signed then (2 ^ w - q) % 2 ^ w else 0) else q

/-- FP32 from a normalised integer. -/
def unpackNorm (w : Nat) (signed : Bool) (v : Nat) : Nat :=
  if signed then
    let i := max (-((2 ^ (w - 1) - 1 : Nat) : Int)) (asSigned w v)
    let x := unormToFp i.natAbs (2 ^ (w - 1) - 1)
    (if i < 0 then x.negate else x).to32
  else (unormToFp v (2 ^ w - 1)).to32

/-- FP arithmetic on bits of a width, each result rounded. -/
def addF (w a b : Nat) : Nat := ((Fp.ofBits w a).plus (Fp.ofBits w b)).toBits w
def subF (w a b : Nat) : Nat := ((Fp.ofBits w a).plus (Fp.ofBits w b).negate).toBits w
def mulF (w a b : Nat) : Nat := ((Fp.ofBits w a).times (Fp.ofBits w b)).toBits w
def divF (w a b f : Nat) : Nat := (Fp.ofBits w a).quotient w (Fp.ofBits w b) f
def minF (w a b : Nat) : Nat := ((Fp.ofBits w a).min (Fp.ofBits w b)).toBits w
def maxF (w a b : Nat) : Nat := ((Fp.ofBits w a).max (Fp.ofBits w b)).toBits w
def negF (w a : Nat) : Nat := (Fp.ofBits w a).negate.toBits w
def numF (w : Nat) (x : Rat) : Nat := ratBits w x
def lessF (w a b : Nat) : Bool := (Fp.ofBits w a).lt (Fp.ofBits w b)

/-- t²(3 − 2t) with t = clamp((x − e0) / (e1 − e0)). -/
def smoothF (w e0 e1 x f : Nat) : Nat :=
  let t := divF w (subF w x e0) (subF w e1 e0) f
  let t := minF w (maxF w t (numF w 0)) (numF w 1)
  mulF w (mulF w t t) (subF w (numF w 3) (mulF w (numF w 2) t))

/-- A component of an instruction of GLSL.std.450 that works by components; `a` is the operands' type. -/
def glslScalar (n : Nat) (a : Scalar) (x y z f : Nat) : Nat :=
  let w := a.width
  let sx := asSigned w x
  let sy := asSigned w y
  let sz := asSigned w z
  let fx := Fp.ofBits w x
  let mag := Fp.ofBits w (x % 2 ^ (w - 1))
  match n with
  | 1 => (fx.roundOf f).toBits w
  | 2 => fx.evenOf.toBits w
  | 3 => fx.truncOf.toBits w
  | 4 => mag.toBits w
  | 5 => ofSigned w sx.natAbs
  | 6 => (match fx with
    | .nan => f % 2 ^ w
    | .inf neg => (Fp.num neg 1 0).toBits w
    | .num neg m _ => if m = 0 then fx.toBits w else (Fp.num neg 1 0).toBits w)
  | 7 => ofSigned w (if sx < 0 then -1 else if sx = 0 then 0 else 1)
  | 8 => fx.floorOf.toBits w
  | 9 => fx.ceilOf.toBits w
  | 10 => subF w x (fx.floorOf.toBits w)
  | 11 => mulF w x (numF w (fixRat fixPi / 180))
  | 12 => mulF w x (numF w (180 / fixRat fixPi))
  | 13 => fx.circular w sinReal f
  | 14 => fx.circular w cosReal f
  | 26 => (Fp.ofBits w (mulF w y (fx.log2 w f))).exp2 w (f / 2 ^ 32)
  | 27 => (Fp.ofBits w (mulF w x (numF w (1 / fixRat fixLn2)))).exp2 w f
  | 28 => mulF w (fx.log2 w f) (numF w (fixRat fixLn2))
  | 29 => fx.exp2 w f
  | 30 => fx.log2 w f
  | 31 => fx.root w f
  | 32 => fx.inverseRoot w f
  | 37 | 79 => minF w x y
  | 38 => min x y
  | 39 => ofSigned w (min sx sy)
  | 40 | 80 => maxF w x y
  | 41 => max x y
  | 42 => ofSigned w (max sx sy)
  | 43 | 81 => minF w (maxF w x y) z
  | 44 => min (max x y) z
  | 45 => ofSigned w (min (max sx sy) sz)
  | 46 => addF w (mulF w x (subF w (numF w 1) z)) (mulF w y z)
  | 48 => if lessF w y x then numF w 0 else numF w 1
  | 49 => smoothF w x y z f
  | 50 => (mulAdd w true fx (Fp.ofBits w y) (Fp.ofBits w z)).toBits w
  | 53 => (match fx with
    | .num neg m e => (Fp.num neg m (e + max (-512) (min 512 (asSigned 32 y)))).toBits w
    | v => v.toBits w)
  | 73 => lowBit w x
  | 74 => if sx < 0 then highBit w x false else if x = 0 then 2 ^ w - 1 else highBit w x true
  | 75 => highBit w x true
  | _ => f % 2 ^ w

/-- The length of a vector: the root of its sum of squares. -/
def lengthF (w : Nat) (v : List Nat) (f : Nat) : Nat := (Fp.ofBits w (dotOf w false v v f)).root w (f / 16)

/-- x = significand × 2^exponent with the significand from 0.5 up to 1; free for what is not finite. -/
def frexpF (w x f : Nat) : Nat × Nat :=
  match Fp.ofBits w x with
  | .num neg m e =>
    if m = 0 then (x, 0)
    else
      let l := leading m e + 1
      ((Fp.num neg m (e - l)).toBits w, ofSigned 32 l)
  | _ => (x, f % 2 ^ 32)

/-- An instruction of GLSL.std.450 on whole values, but those that store through a pointer: `a` is the first operand's scalar
type, `n` the result's leaves, and `f` a free value for each component. -/
def glslOp (g : Nat) (a : Scalar) (n : Nat) (xs : List (List Nat)) (f : Nat → Nat) : List Nat :=
  let w := a.width
  let v (k : Nat) : List Nat := xs.getD k []
  let x := v 0
  let y := v 1
  let s (k : Nat) : Nat := (v k).headD 0
  let each (h : Nat → Nat) : List Nat := (List.range n).map h
  match g with
  | 54 => [(x.zip [0, 8, 16, 24]).foldl (fun acc p => acc + packNorm 8 true p.1 (f 0) * 2 ^ p.2) 0]
  | 55 => [(x.zip [0, 8, 16, 24]).foldl (fun acc p => acc + packNorm 8 false p.1 (f 0) * 2 ^ p.2) 0]
  | 56 => [(x.zip [0, 16]).foldl (fun acc p => acc + packNorm 16 true p.1 (f 0) * 2 ^ p.2) 0]
  | 57 => [(x.zip [0, 16]).foldl (fun acc p => acc + packNorm 16 false p.1 (f 0) * 2 ^ p.2) 0]
  | 58 => [(x.zip [0, 16]).foldl (fun acc p => acc + (Fp.of32 p.1).to16 * 2 ^ p.2) 0]
  | 60 => each (fun k => unpackNorm 16 true (bits (s 0) (16 * k) 16))
  | 61 => each (fun k => unpackNorm 16 false (bits (s 0) (16 * k) 16))
  | 62 => each (fun k => (Fp.of16 (bits (s 0) (16 * k) 16)).to32)
  | 63 => each (fun k => unpackNorm 8 true (bits (s 0) (8 * k) 8))
  | 64 => each (fun k => unpackNorm 8 false (bits (s 0) (8 * k) 8))
  | 36 =>
    let whole := x.map (fun c => (Fp.ofBits w c).truncOf.toBits w)
    (x.zip whole).map (fun p => subF w p.1 p.2) ++ whole
  | 52 => let ps := x.map (fun c => frexpF w c (f 0)); ps.map (·.1) ++ ps.map (·.2)
  | 66 => [lengthF w x (f 0)]
  | 67 => [lengthF w ((x.zip y).map (fun p => subF w p.1 p.2)) (f 0)]
  | 68 =>
    let c (i j : Nat) : Nat := subF w (mulF w (x.getD i 0) (y.getD j 0)) (mulF w (x.getD j 0) (y.getD i 0))
    [c 1 2, c 2 0, c 0 1]
  | 69 =>
    let r := (Fp.ofBits w (dotOf w false x x (f 0))).inverseRoot w (f 1)
    x.map (fun c => mulF w c r)
  | 70 =>
    let d := dotOf w false (v 2) y (f 0)
    if lessF w d 0 then x else x.map (negF w)
  | 71 =>
    let d := mulF w (numF w 2) (dotOf w false y x (f 0))
    (x.zip y).map (fun p => subF w p.1 (mulF w d p.2))
  | 72 =>
    let eta := s 2
    let d := dotOf w false y x (f 0)
    let one := numF w 1
    let k := subF w one (mulF w (mulF w eta eta) (subF w one (mulF w d d)))
    if lessF w k 0 then each (fun _ => 0)
    else
      let t := addF w (mulF w eta d) ((Fp.ofBits w k).root w (f 1))
      (x.zip y).map (fun p => subF w (mulF w eta p.1) (mulF w t p.2))
  | _ => each (fun k => glslScalar g a (comp x k) (comp y k) (comp (v 2) k) (f k))

/-! ### Instructions on values -/

/-- Bits of leaves of one width cut into leaves of another. -/
def recut (old new n : Nat) (x : List Nat) : List Nat :=
  let all := x.foldr (fun v acc => v + acc * 2 ^ old) 0
  (List.range n).map (fun k => bits all (k * new) new)

/-- An instruction whose operands are values: `tys` are the operands' types, `noFuse` its NoContraction decoration. None when it
is no such instruction. -/
def Module.valueOp (m : Module) (op ty : Nat) (tys : List Nat) (xs : List (List Nat)) (noFuse : Bool) (f : Nat → Nat) :
    Option (List Nat) :=
  let t (k : Nat) : Nat := tys.getD k 0
  let v (k : Nat) : List Nat := xs.getD k []
  let x := v 0
  let y := v 1
  let a := m.scalar (if op = 169 then t 1 else t 0)
  let r := m.scalar ty
  let w := a.width
  let n := m.leaves ty
  let each (h : Nat → Nat) : List Nat := (List.range n).map h
  let height (k : Nat) : Nat := m.leaves ((m.find (t k)).arg 0)
  match op with
  | 77 => some [x.getD (y.headD 0) (f 0 % 2 ^ w)]
  | 78 => some (x.set ((v 2).headD 0) (y.headD 0))
  | 80 => some (xs.flatMap id)
  | 83 | 400 => some x
  | 84 => some ((rowsOf (height 0) x).flatMap id)
  | 124 => some (recut w r.width n x)
  | 142 | 143 => some (x.map (fun c => mulF w c (y.headD 0)))
  | 144 => some ((columnsOf (height 1) y).map (fun c => dotOf w noFuse x c (f 0)))
  | 145 => some ((rowsOf (height 0) x).map (fun c => dotOf w noFuse c y (f 0)))
  | 146 =>
    let rows := rowsOf (height 0) x
    some ((columnsOf (height 1) y).flatMap (fun c => rows.map (fun q => dotOf w noFuse q c (f 0))))
  | 147 => some (y.flatMap (fun c => x.map (fun q => mulF w q c)))
  | 148 => some [dotOf w noFuse x y (f 0)]
  | 149 => some ((x.zip y).map (fun p => (p.1 + p.2) % 2 ^ w) ++ (x.zip y).map (fun p => (p.1 + p.2) / 2 ^ w))
  | 150 => some ((x.zip y).map (fun p => ofSigned w ((p.1 : Int) - p.2)) ++ (x.zip y).map (fun p => boolNat (p.1 < p.2)))
  | 151 => some ((x.zip y).map (fun p => p.1 * p.2 % 2 ^ w) ++ (x.zip y).map (fun p => p.1 * p.2 / 2 ^ w))
  | 152 =>
    let prod (p : Nat × Nat) : Nat := ofSigned (2 * w) (asSigned w p.1 * asSigned w p.2)
    some ((x.zip y).map (fun p => prod p % 2 ^ w) ++ (x.zip y).map (fun p => prod p / 2 ^ w))
  | 154 => some [boolNat (x.any (· != 0))]
  | 155 => some [boolNat (x.all (· != 0))]
  | _ =>
    if componentwise op then
      some (each (fun k => scalarOp op a r (comp x k) (comp y k) (comp (v 2) k) (comp (v 3) k) (f k)))
    else none

/-! ### Constants -/

/-- The value of a specialisation constant, or its default. -/
def Module.specialised (m : Module) (i : SInst) (old : List Nat) : List Nat :=
  match m.deco i.id 1 with
  | none => old
  | some l =>
    match m.spec.find? (fun p => p.1 == l.headD 0) with
    | none => old
    | some p => match m.scalar i.ty with
      | .bool => [boolNat (p.2 != 0)]
      | s => [p.2 % 2 ^ s.width]

/-- The leaves of a composite with one part replaced. -/
def Module.inserted (m : Module) (t : Nat) (ks : List Nat) (new old : List Nat) : List Nat :=
  let q := m.partAt t ks
  old.take q.2 ++ new ++ old.drop (q.2 + m.leaves q.1)
def Module.extracted (m : Module) (t : Nat) (ks : List Nat) (x : List Nat) : List Nat :=
  let q := m.partAt t ks
  (x.drop q.2).take (m.leaves q.1)

/-- A shuffle of two vectors; a component FFFF_FFFFh has no source. -/
def shuffle (x y : List Nat) (ks : List Nat) (f : Nat → Nat) : List Nat := ks.map (fun k => (x ++ y).getD k (f k))

/-- An instruction of an OpSpecConstantOp. -/
def Module.specOp (m : Module) (i : SInst) : List Nat :=
  let ids := i.args.drop 1
  let tys := ids.map m.typeOf
  let f (k : Nat) : Nat := Config.freeIn 0 i.id k
  match i.arg 0 with
  | 79 => shuffle (m.constOf (i.arg 1)) (m.constOf (i.arg 2)) (i.args.drop 3) f
  | 81 => m.extracted (tys.headD 0) (i.args.drop 2) (m.constOf (i.arg 1))
  | 82 => m.inserted i.ty (i.args.drop 3) (m.constOf (i.arg 1)) (m.constOf (i.arg 2))
  | op => (m.valueOp op i.ty tys (ids.map m.constOf) false f).getD []

/-- The leaves of a constant. -/
def Module.constant (m : Module) (i : SInst) : List Nat :=
  match i.op with
  | 41 => [1]
  | 42 => [0]
  | 48 => m.specialised i [1]
  | 49 => m.specialised i [0]
  | 43 | 50 =>
    let w := (m.scalar i.ty).width
    let v := [(i.arg 0 + 2 ^ 32 * i.arg 1) % 2 ^ w]
    if i.op = 50 then m.specialised i v else v
  | 44 | 51 => i.args.flatMap m.constOf
  | 46 => List.replicate (m.leaves i.ty) 0
  | 52 => m.specOp i
  | _ => []

def isConstant (op : Nat) : Bool := (41 ≤ op && op ≤ 46) || (48 ≤ op && op ≤ 52)

/-- A module with its constants evaluated, in the order in which they stand. -/
def elaborate (insts : List SInst) (spec : List (Nat × Nat)) : Module :=
  insts.foldl (fun m i => if isConstant i.op then { m with consts := tabSet [] m.consts i.id (m.constant i) } else m)
    { insts := insts, spec := spec }

/-! ### The limits of Table 9-9 and the interface (0043h) -/

/-- The workgroup size: the WorkgroupSize constant, LocalSizeId or LocalSize. -/
def Module.groupSize (m : Module) (e : SInst) : List Nat :=
  match m.insts.find? (fun i => i.op == 71 && i.arg 1 == 11 && i.arg 2 == 25) with
  | some i => m.constOf (i.arg 0)
  | none =>
    match m.mode e 38 with
    | some ids => ids.map m.constNat
    | none => (m.mode e 17).getD []

/-- The bytes of a type as it lies in shared memory: its scalars one after the other (DESIGN CHOICE, assumption log 34). -/
def Module.sharedBytes (m : Module) (t : Nat) : Nat := ((m.scalars t).map Scalar.bytes).foldl (· + ·) 0

/-- Leaves of an interface variable with the location and the component that each takes: a scalar of 64 bits takes two. -/
def Module.slotsIn (m : Module) : Nat → Nat → Nat → Nat → List (Nat × Nat × Scalar) × Nat
  | 0, _, loc, _ => ([], loc)
  | fuel + 1, t, loc, c =>
    let i := m.find t
    match i.op with
    | 24 | 28 | 30 =>
      (List.range (m.parts t)).foldl (fun acc k =>
        let (l, next) := m.slotsIn fuel (m.part t k).1 acc.2 c
        (acc.1 ++ l, next)) ([], loc)
    | _ =>
      let ss := m.scalars t
      let step (s : Scalar) : Nat := if s.width = 64 then 2 else 1
      let (l, used) := ss.foldl (fun acc s => (acc.1 ++ [(loc + (c + acc.2) / 4, (c + acc.2) % 4, s)], acc.2 + step s)) ([], 0)
      (l, loc + max 1 ((c + used + 3) / 4))

/-- The slots of a variable with a Location; none for a built-in. -/
def Module.slots (m : Module) (v : SInst) : List (Nat × Nat × Scalar) :=
  match m.deco v.id 30 with
  | some l => (m.slotsIn m.insts.length (m.pointee v) (l.headD 0) (m.decoNat v.id 31)).1
  | none =>
    -- a block whose members carry locations
    let t := m.pointee v
    (List.range (m.parts t)).flatMap (fun k =>
      match m.memberDeco t k 30 with
      | some l => (m.slotsIn m.insts.length (m.part t k).1 (l.headD 0) (((m.memberDeco t k 31).getD []).headD 0)).1
      | none => [])

/-- The interface variables of a storage class: Input 1, Output 3. -/
def Module.vars (m : Module) (e : SInst) (storage : Nat) : List SInst :=
  (m.interface e).filter (fun v => v.storage == storage)

/-- A module keeps within the limits of Table 9-9 for a stage. -/
def Module.withinLimits (m : Module) (e : SInst) (model : Nat) : Bool :=
  let g := m.groupSize e
  let x := g.getD 0 1
  let y := g.getD 1 1
  let z := g.getD 2 1
  let shared := (((m.vars e 4).map (fun v => m.sharedBytes (m.pointee v))).foldl (· + ·) 0)
  (model != 5 || (x ≤ 1024 && y ≤ 1024 && z ≤ 64 && x * y * z ≤ 1024))
    && shared ≤ 32768
    && (m.vars e 9).all (fun v => (m.layout { ty := m.pointee v }).all (fun p => p.1 + p.2 ≤ 256))
    && (m.bindings e).all (fun b => b.1 < 8 && b.2.1 < 1024)
    && (m.vars e 1 ++ m.vars e 3).all (fun v => (m.slots v).all (fun s => s.1 < (if model = 4 ∧ v.storage = 3 then 8 else 32)))

/-- Every input of the fragment stage has an output of the vertex stage at its place and of its type. -/
def stagesMatch (mv : Module) (ev : SInst) (mf : Module) (ef : SInst) : Bool :=
  let outs := (mv.vars ev 3).flatMap mv.slots
  ((mf.vars ef 1).flatMap mf.slots).all (fun s => outs.contains s)

/-- The status that the module checks give (Table 9-7): 0040h, 0041h or 0043h, or 0 when they pass. `first` and `second` are the
words of the modules, each with what SPIR-V's own rules say of its validity beyond what is checked here. -/
def checkModules (kind : Nat) (first second : List Nat × Bool) (spec : List (Nat × Nat)) : Nat :=
  let ms : List ((List Nat × Bool) × Nat) := if kind = 2 then [(first, 5)] else [(first, 0), (second, 4)]
  let parsed := ms.map (fun p => ((parseModule p.1.1).map (fun is => elaborate is spec), p))
  let entry (p : Option Module × (List Nat × Bool) × Nat) : Option (Module × SInst) :=
    p.1.bind (fun m => (m.entry p.2.2).map (fun e => (m, e)))
  let bad (p : Option Module × (List Nat × Bool) × Nat) : Bool :=
    match entry p with
    | none => true
    | some (m, e) => !p.2.1.2 || (p.2.2 == 5 && (m.groupSize e).length != 3)
  if parsed.any bad then 0x40
  else if parsed.any (fun p => p.1.any (fun m => !m.inside)) then 0x41
  else if parsed.any (fun p => match entry p with | some (m, e) => !(m.withinLimits e p.2.2) | none => false) then 0x43
  else match parsed.map entry with
    | [some (mv, ev), some (mf, ef)] => if stagesMatch mv ev mf ef then 0 else 0x43
    | _ => 0

end Sys2Proof.Machine
end

