-- ==== Sys2Proof/Machine/Gpu.lean ====
section
/-! DEFINITION. The GPU's structure (07): cores and partitions (R128, R129, R131), memory as a partition sees it (R127, R142),
the queues and their jobs from submit to completion (R132 to R136), preemption (R159 to R161), core faults (R143, R163), and
the disabling of a queue (R144). -/

namespace Sys2Proof.Machine

/-! ### Partitions and cores -/

/-- An owner code that has a partition record (R145). -/
def partOk (o : Nat) : Bool := (1 ≤ o && o ≤ 0x20) || (0x40 ≤ o && o ≤ 0x7F)

/-- The partition record of an owner. -/
def partIndex (o : Nat) : Nat := if o ≤ 0x20 then 0x2510 + o else 0x2531 + (o - 0x40)

/-- Subindex `k` of queue `q` in a partition record (R147). -/
def queueSub (q k : Nat) : Nat := 0x10 + 8 * q + k

def Dev.part (d : Dev) (o : Nat) : Partition := tabGet {} d.gpu.parts o
def Dev.setPart (d : Dev) (o : Nat) (x : Partition) : Dev :=
  { d with gpu := { d.gpu with parts := tabSet {} d.gpu.parts o x } }

def Dev.gq (d : Dev) (o q : Nat) : GpuQueue := tabGet {} (d.part o).queues q

/-- A queue is replaced, and its count of jobs follows. -/
def Dev.setGq (d : Dev) (o q : Nat) (x : GpuQueue) : Dev :=
  let p := d.part o
  (d.setPart o { p with queues := tabSet {} p.queues q x }).setO (partIndex o) (queueSub q 3) x.jobs.length

def Dev.gqState (d : Dev) (o q : Nat) : Nat := d.getO (partIndex o) (queueSub q 1)
def Dev.setGqState (d : Dev) (o q st : Nat) : Dev := d.setO (partIndex o) (queueSub q 1) st

/-- The state of a core (Table 7-2). -/
def Dev.gpuCore (d : Dev) (c : Nat) : Nat := d.getO (0x2501 + c) 0x02
def Dev.setGpuCore (d : Dev) (c st : Nat) : Dev := d.setO (0x2501 + c) 0x02 st

/-- The cores of an owner, ascending (R128): a Leaving core still works for its owner, though its hand-over shows FFh (R292). -/
def Dev.coresOf (d : Dev) (o : Nat) : List Nat :=
  (List.range 16).filter (fun c => d.ownerByte (blockId 6 c) == o && d.gpuCore c != 0 && d.gpuCore c != 4)

/-- Its Member cores: k0 to k(m-1) of R130. -/
def Dev.members (d : Dev) (o : Nat) : List Nat := (d.coresOf o).filter (fun c => d.gpuCore c == 2)

/-- Cores that may run compute. -/
def Dev.computeCores (d : Dev) (o : Nat) : List Nat := (d.coresOf o).filter (fun c => d.gpuCore c == 1 || d.gpuCore c == 2)

/-- Cores that take new work, or will after their reset: every core but a Leaving one. -/
def Dev.staying (d : Dev) (o : Nat) : List Nat := (d.coresOf o).filter (fun c => d.gpuCore c != 3)

/-- The core whose slice owns the screen tile of a pixel (R130), by the map of the last reshape point (R129). -/
def Dev.sliceOf (d : Dev) (o x y : Nat) : Option Nat :=
  let k := (d.part o).map
  k[(x / 16 + 3 * (y / 16)) % k.length]?

/-- A core's place in its partition's list (2501h + c/03h). -/
def Dev.tileSlotOf (d : Dev) (c : Nat) : Nat :=
  match (d.part (d.owner (blockId 6 c))).map.findIdx? (· == c) with
  | some k => if d.gpuCore c = 2 then k else 0xFF
  | none => 0xFF

/-- The mask of a partition's cores (/01h) and its L2 share in KiB (/04h): 512 for each Member core that the hashing takes in,
which changes at a reshape point only (R129; DESIGN CHOICE, assumption log 29). -/
def Dev.coreMask (d : Dev) (o : Nat) : Nat :=
  ((List.range 16).filter (fun c => d.owner (blockId 6 c) == o)).foldl (fun m c => m + 2 ^ c) 0
def Dev.l2Share (d : Dev) (o : Nat) : Nat := 512 * (d.part o).map.length

/-- The GPU clock in force in MHz (R126, Tables 1-5 and 7-1): 0 while the domain is stopped. -/
def Dev.gpuClock (d : Dev) : Nat :=
  if !(d.domainRuns 5) then 0
  else match d.getO 0x2002 0x02 with
    | 1 => 1200
    | 2 => if d.getO 0x3400 0x07 = 3 then 400 else 800
    | 3 => 0
    | 4 => 0
    | _ => 1600

/-- An area of 4 MiB is a valid spill area of an owner (R131). -/
def Dev.spillOk (d : Dev) (o a : Nat) : Bool :=
  a % 4096 == 0 && d.inOneRegion o false a 0x400000 && d.inOneRegion o true a 0x400000
    && guardOf a == .region 0
    && (match d.regionOf 0 a with | some r => attrCode (d.regAttr 0 r) < 2 | none => false)

def Dev.spillValid (d : Dev) (o : Nat) : Bool := d.spillOk o (d.getO (partIndex o) 0x02)

/-- A write of the spill area address (R131). -/
def spillVerdict (o v : Nat) (d : Dev) : Verdict :=
  if !(d.spillOk o v) then .error abortRange
  else if !(d.gq o 1).jobs.isEmpty then .error abortState
  else .ok (d.setO (partIndex o) 0x02 v)

/-- The state of a partition (/06h): 0 no cores, 1 idle, 2 busy, 3 awaiting a reshape point. -/
def Dev.partState (d : Dev) (o : Nat) : Nat :=
  if (d.coresOf o).isEmpty then 0
  else if (d.coresOf o).any (fun c => d.gpuCore c == 1) then 3
  else if (List.range 4).any (fun q => !(d.gq o q).jobs.isEmpty) then 2 else 1

/-! ### Memory as a partition sees it (R127, R142) -/

/-- The GPU reaches only the DRAM window and the system cache direct window. -/
def gpuReach (addr n : Nat) : Bool :=
  (guardOf addr == .region 0 && addr + n ≤ 0x1800000000) || (guardOf addr == .window && addr + n ≤ 0x82000000)

/-- Bytes with the partition's dirty bytes over them. -/
def overlay (dirty : Tab Nat) (addr : Nat) (bytes : List Byte) : List Byte :=
  (bytes.zip (List.range bytes.length)).map (fun p =>
    match tabGet 0 dirty (addr + p.2) with
    | 0 => p.1
    | v + 1 => BitVec.ofNat 8 v)

/-- The device with memory as a partition's L2 last took it in. -/
def Dev.viewed (d : Dev) (o : Nat) : Dev := { d with mem := (d.part o).view }

/-- The bytes that a partition sees, without what the read records. -/
def Dev.gpuPeek (d : Dev) (o addr n : Nat) : List Byte :=
  let data := (List.range n).map (fun k =>
    let v := d.viewed o
    match v.protection (addr + k) with
    | none => v.byte (addr + k)
    | some (r, code) =>
      let x := addr + k - v.regBase 0 r
      let u := x / unitSize code * unitSize code
      match v.decodeUnit r code u with
      | .corrected data => byteAt data (x % unitSize code)
      | _ => v.byte (addr + k))
  overlay (d.part o).dirty addr data

/-- A read by a job of the partition: checked and decoded as an access by the owner, with the data of its own view. -/
def Dev.gpuRead (d : Dev) (o addr n : Nat) : MemRes × Dev :=
  if n = 0 then (.ok [], d)
  else if !(gpuReach addr n) then (.refused addr, d)
  else
    match d.memRead o addr n with
    | (.ok _, d) => (.ok (d.gpuPeek o addr n), d)
    | (r, d) => (r, d)

/-- A write by a job of the partition: into its L2. -/
def Dev.gpuWrite (d : Dev) (o addr : Nat) (bytes : List Byte) : Bool × Dev :=
  if bytes.isEmpty then (true, d)
  else if !(gpuReach addr bytes.length) then (false, d)
  else
    match d.refusedAt o true 64 addr bytes.length with
    | some a => (false, d.recordRefusal o true a)
    | none =>
      let p := d.part o
      let dirty := (bytes.zip (List.range bytes.length)).foldl (fun t x => tabSet 0 t (addr + x.2) (x.1.toNat + 1)) p.dirty
      (true, d.setPart o { p with dirty := dirty })

/-- Dirty bytes as runs of neighbours. -/
def dirtyRuns (t : Tab Nat) : List (Nat × List Byte) :=
  t.foldr (fun p acc =>
    let b := BitVec.ofNat 8 (p.2 - 1)
    match acc with
    | (a, bs) :: rest => if a = p.1 + 1 then (p.1, b :: bs) :: rest else (p.1, [b]) :: acc
    | [] => [(p.1, [b])]) []

/-- A held tile is encoded into the L2: slot bytes first, then the header byte (R119, R176). -/
def Dev.putTile (d : Dev) (o : Nat) (t : HeldTile) : Dev :=
  let (size, out) := encodeTile t.format t.pixels
  ((d.gpuWrite o t.slot out).2.gpuWrite o t.header (leBytes 1 size)).2

/-- The held tiles whose slots `mine` names are flushed. -/
def Dev.flushTiles (d : Dev) (o : Nat) (mine : Nat → Bool) : Dev :=
  let p := d.part o
  (p.tiles.filter (fun t => mine t.slot)).foldl (fun d t => d.putTile o t)
    (d.setPart o { p with tiles := p.tiles.filter (fun t => !(mine t.slot)) })

/-- Held tiles and then dirty bytes that `mine` names are written back as accesses by the owner; the partition keeps seeing
them. -/
def Dev.writeBack (d : Dev) (o : Nat) (mine : Nat → Bool) : Dev :=
  let d := d.flushTiles o mine
  let p := d.part o
  (dirtyRuns (p.dirty.filter (fun x => mine x.1))).foldl (fun d run =>
      let (_, d) := d.memWrite o run.1 run.2
      let view := ((d.viewed o).memWrite o run.1 run.2).2.mem
      d.setPart o { d.part o with view := view })
    (d.setPart o { p with dirty := p.dirty.filter (fun x => !(mine x.1)) })

/-- All dirty lines are written back. -/
def Dev.flushL2 (d : Dev) (o : Nat) : Dev := d.writeBack o (fun _ => true)

/-- The partition's L2 shares are invalidated: it sees memory as it is now, and its own dirty bytes. -/
def Dev.invalidateL2 (d : Dev) (o : Nat) : Dev := d.setPart o { d.part o with view := d.mem }

/-! ### Compute held off the cores (R159, R161) -/

/-- Compute of a partition is held. -/
def Dev.computeHeld (d : Dev) (o : Nat) : Bool :=
  let p := d.part o
  !p.hold.isEmpty || p.request.isSome || ((d.gq o 1).jobs.head?.bind (fun j => j.awaySince)).isSome

/-- The job in hand of a queue is replaced. -/
def Dev.setHead (d : Dev) (o q : Nat) (j : GpuJob) : Dev :=
  let x := d.gq o q
  d.setGq o q { x with jobs := j :: x.jobs.drop 1 }

/-- The compute job in hand is preempted: it keeps its place (R161). -/
def Dev.preemptCompute (d : Dev) (o : Nat) : Dev :=
  match (d.gq o 1).jobs with
  | j :: _ => if j.started && j.awaySince.isNone then
      d.setHead o 1 { j with awaySince := some d.clock.ns, preempts := j.preempts + 1 } else d
  | [] => d

/-- A preemption request for a band (R159). -/
def Dev.preempt (d : Dev) (layer b : Nat) : Dev :=
  if d.bandCount layer ≤ b then d
  else
    let st := d.bandState layer b
    let o := d.owner (blockId 2 layer)
    if st = 2 ∨ (st = 0 ∧ d.bandPending layer b = 0) ∨ !(partOk o) ∨ (d.computeCores o).isEmpty then d
    else
      let p := d.part o
      let d := d.setPart o { p with
        hold := if p.hold.contains (layer, b) then p.hold else p.hold ++ [(layer, b)]
        request := if p.hold.isEmpty && p.request.isNone then some (d.clock.ns, layer) else p.request }
      ((d.count 0x25B0 0x04).count (bandIndex layer) 0x0E).preemptCompute o

/-- Wave state of a core written into its slot of the spill area (R160): up to 128 KiB, of content that nothing gives. -/
def Dev.spillCore (d : Dev) (o c : Nat) : Dev :=
  if d.spillValid o then
    let (k, d) := d.nextFree
    let n := Config.freeNat k % 0x20001
    (d.gpuWrite o (d.getO (partIndex o) 0x02 + c * 0x40000) ((List.range n).map (Config.freeByte k))).2
  else d

/-- The wave state of a preempted job, of every core that may run compute. -/
def Dev.spillWaves (d : Dev) (o : Nat) : Dev :=
  if (d.gq o 1).jobs.any (fun j => j.awaySince.isSome) then (d.computeCores o).foldl (fun d c => d.spillCore o c) d else d

/-- The last core is free of compute: the time is recorded (R159). -/
def Dev.preempted (d : Dev) (o : Nat) : Dev :=
  let p := d.part o
  match p.request with
  | none => d
  | some (at_, layer) =>
    let t := d.clock.ns - at_
    let d := d.setPart o { p with request := none }
    let d := if d.getO 0x25B0 0x05 < t then d.setO 0x25B0 0x05 t else d
    let d := d.setO (bandIndex layer) 0x13 t
    let d := if 1000 * d.preemptionBound < t then d.count (bandIndex layer) 0x12 else d
    d.spillWaves o

/-- The hold ends when every band that caused it is Ready or judged; preempted waves resume (R161). -/
def Dev.holdEnds (d : Dev) (o : Nat) : Dev :=
  let p := d.part o
  if p.request.isSome || !(p.hold.all (fun h => d.bandState h.1 h.2 == 2)) then d
  else
    let d := d.setPart o { p with hold := [] }
    match (d.gq o 1).jobs with
    | j :: _ =>
      match j.awaySince with
      | some t => d.setHead o 1 { j with awaySince := none, away := j.away + (d.clock.ns - t) }
      | none => d
    | [] => d

/-! ### A job's descriptor (Table 7-3) -/

def gjQueue (b : List Byte) : Nat := field b 0 1
def gjBuffer (b : List Byte) : Nat := field b 8 8
def gjLength (b : List Byte) : Nat := field b 16 4
def gjBudget (b : List Byte) : Nat := field b 20 4

/-- Check 2: queue code, alignment, length, reserved fields. -/
def gjOk (b : List Byte) (addr : Nat) : Bool :=
  addr % 64 == 0 && gjQueue b < 4 && field b 1 1 < 2 && field b 2 2 == 0
    && gjBuffer b % 64 == 0 && gjBuffer b < 2 ^ 40
    && gjLength b % 4 == 0 && 4 ≤ gjLength b && gjLength b ≤ 16777216
    && (gjQueue b == 1 || gjBudget b == 0) && field b 26 2 == 0 && field b 54 2 == 0

/-- The checks of Table 7-4, in order: 0001h when all pass. -/
def Dev.checkGpuJob (d : Dev) (o addr : Nat) (b : List Byte) : Nat :=
  let q := gjQueue b
  if !(partOk o) || (d.coresOf o).isEmpty then 0x16
  else if q < 4 ∧ (d.getO (partIndex o) (queueSub q 0) = 0 ∨ d.gqState o q = 0 ∨ d.gqState o q = 3) then 0x16
  else if !(gjOk b addr) then 0x12
  else if !(d.inOneRegion o false (gjBuffer b) (gjLength b)) then 0x14
  else if q = 1 ∧ !(d.spillValid o) then 0x18
  else 1

/-! ### Bands that a job will draw (R156) -/

/-- The bands named by the BAND_BEGIN packets at the top level of a buffer. -/
def Dev.bandsNamed (d : Dev) (buf len : Nat) : Nat → Nat → List (Nat × Nat)
  | 0, _ => []
  | fuel + 1, pos =>
    if len < pos + 4 then []
    else
      let h := leNat (d.bytesAt (buf + pos) 4)
      let n := h % 65536
      if n = 0 ∨ len < pos + 4 * n then []
      else
        let rest := d.bandsNamed buf len fuel (pos + 4 * n)
        if h / 2 ^ 24 = 0x20 ∧ 2 ≤ n then
          let w := leNat (d.bytesAt (buf + pos + 4) 4)
          (w % 64, w / 256 % 256) :: rest
        else rest

/-- A job's bands are counted as pending. -/
def Dev.countBands (d : Dev) (j : GpuJob) : GpuJob × Dev :=
  if gjQueue j.body = 2 then
    let named := (d.bandsNamed (gjBuffer j.body) (gjLength j.body) (gjLength j.body / 4) 0).filter (fun p => p.1 < 48)
    ({ j with named := named },
     named.foldl (fun d p => d.setBandPending p.1 p.2 (d.bandPending p.1 p.2 + 1)) d)
  else (j, d)

/-- The counts that a job still holds are removed. -/
def Dev.dropCounts (d : Dev) (j : GpuJob) : Dev :=
  j.named.foldl (fun d p => d.setBandPending p.1 p.2 (d.bandPending p.1 p.2 - 1)) d

/-- A band that a job left Rendering is Abandoned. -/
def Dev.abandonBand (d : Dev) (j : GpuJob) : Dev :=
  match j.band with
  | some b => d.bandsAbandon [b]
  | none => d

/-- A job that completes leaves its bands. -/
def Dev.dropBands (d : Dev) (j : GpuJob) : Dev := (d.dropCounts j).abandonBand j

/-! ### Completion (R136) -/

/-- Offsets 28 to 63 of a descriptor. -/
def gjOutcome (packet start stop run preempts detail : Nat) : List Byte :=
  leBytes 4 packet ++ leBytes 8 start ++ leBytes 8 stop ++ leBytes 4 run ++ leBytes 2 preempts ++ zeroBytes 2 ++ leBytes 8 detail

/-- Nanoseconds since a job started, less those preempted. -/
def Dev.jobTime (d : Dev) (j : GpuJob) : Nat :=
  d.clock.ns - j.startAt - (j.away + (match j.awaySince with | some t => d.clock.ns - t | none => 0))

/-- The run time of a job in µs (Table 7-3): the time with waves resident, which nothing in the state shows, so a free value
no greater than the time in hand less what was preempted, and on the side of the budget that the job ended on. -/
def Dev.runTime (d : Dev) (j : GpuJob) : Nat × Dev :=
  let most := d.jobTime j / 1000
  let budget := gjBudget j.body
  let lo := if j.overran then min budget most else 0
  let hi := if j.overran || budget == 0 then most else min budget most
  let (k, d) := d.nextFree
  (if j.started then lo + Config.freeNat k % (hi - lo + 1) else 0, d)

/-- A job completes with a status: lines written back, the descriptor, its status, and the completion. The start time of a
job that never started is a free value. -/
def Dev.finishGpuJob (d : Dev) (o q : Nat) (j : GpuJob) (status : Nat) : Dev :=
  let d := d.flushL2 o
  let (k, d) := d.nextFree
  let start := if j.started then j.startAt else Config.freeNat k % 2 ^ 64
  let (run, d) := d.runTime j
  let d := if q < 4 then d.setO (partIndex o) (queueSub q 5) status else d
  let fields := [(28, gjOutcome j.packet start d.clock.ns run j.preempts j.detail), (24, leBytes 2 status)]
  let d := d.completeItem j.item fields status d.clock.ns
  if j.item.ring.isSome || 4 ≤ q then d else d.postNamed (partIndex o) (queueSub q 6)

/-- Time with work resident on the cores of a partition (2501h + c/05h): what a job adds is a free value. -/
def Dev.busyTime (d : Dev) (o : Nat) : Dev :=
  (d.coresOf o).foldl (fun d c => let (k, d) := d.nextFree; d.countBy (0x2501 + c) 0x05 (Config.freeNat k)) d

/-- The job at a place of a queue leaves it with a final status. -/
def Dev.endGpuJob (d : Dev) (o q : Nat) (j : GpuJob) (status : Nat) : Dev :=
  let x := d.gq o q
  let rest := x.jobs.filter (fun k => k.number != j.number)
  let d := d.setGq o q { x with jobs := rest }
  let d := if rest.isEmpty && d.gqState o q == 2 then d.setGqState o q 1 else d
  let d := (d.count (partIndex o) (queueSub q 4)).count 0x2500 0x08
  let d := if j.started then d.busyTime o else d
  (d.dropBands j).finishGpuJob o q j status

/-! ### Submitting (R134) -/

/-- A descriptor that has been read is journaled, checked, and queued or refused. -/
def Dev.takeGpuJob (d : Dev) (it : Item) (b : List Byte) : Dev :=
  let it := { it with seq := field b 4 4, replay := (field b 1 1).testBit 0 }
  let o := it.code
  let q := gjQueue b
  let status := d.checkGpuJob o it.block b
  let (it, d) := d.journalItem 3 it (q % 4 + 256 * o) 64 []
  if status = 1 then
    let n := d.gpu.accepted + 1
    let (j, d) := d.countBands { item := it, number := n, body := b }
    let x := d.gq o q
    let d := (({ d with gpu := { d.gpu with accepted := n } }).setGq o q { x with jobs := x.jobs ++ [j] }).setGqState o q 2
    d.writeBlock it 24 (leBytes 2 1)
  else if partOk o then d.finishGpuJob o q { item := it, body := b } status
  else d.completeItem it [(24, leBytes 2 status)] status 0

/-- The queue that a descriptor names holds 64 jobs. -/
def Dev.gqFull (d : Dev) (o : Nat) (b : List Byte) : Bool := gjQueue b < 4 && 64 ≤ (d.gq o (gjQueue b)).jobs.length

/-- An on-chip submit of a GPU job. -/
def Dev.submitGpuJob (d : Dev) (who : Init) (o q addr : Nat) : Dev :=
  match d.checkWrite who (partIndex o) (queueSub q 2) (numData (partIndex o) (queueSub q 2) addr) with
  | some a => d.refuse a
  | none =>
    match d.readSubmitted o addr 64 with
    | (none, _) => d.refuse abortAccess
    | (some b, d1) =>
      if d.gqFull o b then d.refuse abortState
      else if !(d.submitRoom o) then (d.count 0x3000 0x09).refuse abortState
      else (d1.takeGpuJob { block := addr, code := o } b).accept

/-! ### Starting, halting and completing -/

/-- Jobs in hand on graphics, band and copy. -/
def Dev.drawing (d : Dev) (o : Nat) : Bool :=
  [0, 2, 3].any (fun q => match (d.gq o q).jobs with | j :: _ => j.started | [] => false)

/-- A reshape point (R129): lines written back and invalidated, Joining cores become Members, the map names the Members, and
the reshape is counted. -/
def Dev.reshape (d : Dev) (o : Nat) : Dev :=
  if d.drawing o || (d.coresOf o).isEmpty then d
  else
    let d := (d.flushL2 o).invalidateL2 o
    let d := ((d.coresOf o).filter (fun c => d.gpuCore c == 1)).foldl (fun d c => d.setGpuCore c 2) d
    (d.setPart o { d.part o with map := d.members o }).count (partIndex o) 0x09

/-- Before a job draws with no other in hand, a map that names a core no longer a Member, or none, gives way at this reshape
point: no new work starts on a Leaving core (Table 7-2). -/
def Dev.freshMap (d : Dev) (o q : Nat) : Dev :=
  let map := (d.part o).map
  if q != 1 && (map.isEmpty || map.any (fun c => d.gpuCore c != 2)) then d.reshape o else d

/-- The job at the head of a queue starts: from known state, with the L2 invalidated (R135, R142). Graphics, band and copy
need a Member core; compute may use a Joining one. -/
def Dev.gpuStart (d : Dev) (o q : Nat) : Dev :=
  match (d.gq o q).jobs with
  | [] => d
  | j :: _ =>
    let cores := if q = 1 then d.computeCores o else d.members o
    if j.started || j.held || cores.isEmpty || d.gqState o q != 2 || !d.gpuRuns then d
    else
      let d := (((d.freshMap o q).invalidateL2 o).regIssue j.item.entry).setHead o q
        { j with started := true, startAt := d.clock.ns }
      d.writeBlock j.item 24 (leBytes 2 2)

/-- The buffer that a job runs: address and length. -/
def GpuJob.buffer (j : GpuJob) : Nat × Nat := j.called.getD (gjBuffer j.body, gjLength j.body)

/-- A called buffer that has ended returns to the job's own. -/
def GpuJob.norm (j : GpuJob) : GpuJob :=
  match j.called with
  | some (_, len) => if len ≤ j.pc then { j with called := none, pc := j.back } else j
  | none => j

/-- The job runs: nothing that it waits for. -/
def GpuJob.runs (j : GpuJob) : Bool :=
  j.started && !j.held && j.halt.isNone && j.wait.isNone && j.rodWait.isNone && !j.closing

/-- Every packet of the job has been executed. -/
def GpuJob.atEnd (j : GpuJob) : Bool := j.called.isNone && gjLength j.body ≤ j.pc

/-- The job in hand completes (R136). -/
def Dev.gpuComplete (d : Dev) (o q : Nat) : Dev :=
  match (d.gq o q).jobs with
  | [] => d
  | j :: _ =>
    if j.runs && j.atEnd && j.band.isNone && j.awaySince.isNone then d.endGpuJob o q j (if j.overran then 3 else 0) else d

/-! ### Faults (R143, R163, Table 20-5) -/

/-- A job in hand is stopped by a core fault and handed to the Registry; it has not completed, so its pending counts stay
(R156). -/
def Dev.holdGpuJob (d : Dev) (o q : Nat) : Dev :=
  match (d.gq o q).jobs with
  | [] => d
  | j :: _ =>
    if !j.started then d
    else
      let (_, d) := d.regHold j.item.entry
      let d := d.abandonBand j
      d.setHead o q { j with held := true, started := false, band := none, closing := false
                             wait := none, rodWait := none, halt := none, awaySince := none }

/-- A core becomes Faulted: the jobs in hand of its partition that had work on it stop, those whose queues `had` names by
its bits (R143). -/
def Dev.gpuFault (d : Dev) (c had : Nat) : Dev :=
  if d.gpuCore c ≠ 2 then d
  else
    let o := d.ownerByte (blockId 6 c)
    let d := ((d.setGpuCore c 5).count 0x2500 0x09).count (0x2501 + c) 0x04
    let d := d.transientFault 0x8101 c
    ((List.range 4).filter (fun q => had.testBit q)).foldl (fun d q => d.holdGpuJob o q) (d.flushL2 o)

/-- A held job is re-issued from its first packet, or lost (R375, R378). -/
def Dev.reissueGpuJob (d : Dev) (o q : Nat) : Dev :=
  match (d.gq o q).jobs with
  | [] => d
  | j :: _ =>
    if !j.held then d
    else
      let reach := match j.item.ring with | some r => d.instancePresent r.inst | none => true
      let (res, d) := d.readBlock j.item 0 64
      let readable := reach && (match res with | .ok _ => true | _ => false)
      let body := match res with | .ok b => b | _ => j.body
      let (again, d) := d.regReissue j.item.entry j.item.replay readable
      if again then
        let it := { j.item with gen := d.regGeneration j.item.entry }
        let (j, d) := (d.dropCounts j).countBands { item := it, number := j.number, body := body }
        (d.setHead o q j).count (partIndex o) 0x08
      else d.endGpuJob o q j 0x22

/-- The reset of a core ends: a Faulted core is a Member again; a Resetting core is Unowned until the owner byte names its new
owner (R291). Jobs that the core's fault stopped go on, on the partition as it now stands. -/
def Dev.gpuResetDone (d : Dev) (c : Nat) : Dev :=
  if d.gpuCore c = 5 ∨ d.gpuCore c = 4 then
    let o := d.ownerByte (blockId 6 c)
    let d := d.setGpuCore c (if d.gpuCore c = 5 then 2 else 0)
    if partOk o then (List.range 4).foldl (fun d q => d.reissueGpuJob o q) d else d
  else d

/-! ### Disabling (R144) -/

/-- Every job of a queue is cancelled. -/
def Dev.cancelGpuJobs (d : Dev) (o q : Nat) : Dev :=
  (d.gq o q).jobs.foldl (fun d j => d.endGpuJob o q j 0x20) d

/-- A queue shows disabled, or idle when its enable has been written 1 again. On the way into Keep-alive its enable keeps its
value and does not count (R414), nor does it once the partition has no core left to work on (R129, R147). -/
def Dev.gqDisabled (d : Dev) (o q : Nat) : Dev :=
  let d := d.cancelGpuJobs o q
  let d := d.setO (partIndex o) (queueSub q 7) ((d.clock.ns - (d.gq o q).disableAt) / 1000)
  d.setGqState o q (if d.getO (partIndex o) (queueSub q 0) = 0 || !d.running || (d.staying o).isEmpty then 0 else 1)

/-- A queue starts to be disabled. -/
def Dev.disableGq (d : Dev) (o q : Nat) : Dev :=
  let st := d.gqState o q
  if st = 0 ∨ st = 3 then d
  else
    let d := d.setGq o q { d.gq o q with disableAt := d.clock.ns }
    if (d.gq o q).jobs.isEmpty then d.gqDisabled o q else d.setGqState o q 3

/-- A write of a queue's enable. -/
def gqEnableVerdict (o q v : Nat) (d : Dev) : Verdict :=
  let d := d.setO (partIndex o) (queueSub q 0) v
  if v = 0 then .ok (d.disableGq o q)
  else .ok (if d.gqState o q = 0 && d.running then d.setGqState o q 1 else d)

/-- Some core of the partition is Leaving. -/
def Dev.leaving (d : Dev) (o : Nat) : Bool := (d.coresOf o).any (fun c => d.gpuCore c == 3)

/-- The disable grace expires: the job in hand of a disabling queue, or the graphics, band or copy job that still has work
on a Leaving core, is stopped (R129, R144). -/
def Dev.graceExpires (d : Dev) (o q : Nat) : Dev :=
  match (d.gq o q).jobs with
  | [] => d
  | j :: _ =>
    if j.started && (d.gqState o q == 3 || d.ringCancels j.item || (q != 1 && d.leaving o)) then
      let j := if q = 1 && j.awaySince.isNone then { j with preempts := j.preempts + 1 } else j
      d.endGpuJob o q j 0x20
    else d

/-- A core starts to leave its partition at a release or a revocation (Table 7-2). With the last core the four queues are
disabled first; with others left, the compute waves on it are preempted and resume on those. A Faulted core holds no work and
is reset at once. -/
def Dev.leaveCore (d : Dev) (c : Nat) : Dev :=
  let o := d.ownerByte (blockId 6 c)
  let st := d.gpuCore c
  if !([1, 2, 5].contains st) then d
  else
    let d := d.setGpuCore c (if st = 5 then 4 else 3)
    if !(partOk o) then d
    else if (d.staying o).isEmpty then
      let d := (List.range 4).foldl (fun d q => d.disableGq o q) d
      if st = 5 then (List.range 4).foldl (fun d q => if d.gqState o q = 3 then d.gqDisabled o q else d) d else d
    else
      match (d.gq o 1).jobs with
      | j :: _ =>
        if st != 5 && j.started && j.awaySince.isNone then
          (d.setHead o 1 { j with preempts := j.preempts + 1 }).spillCore o c else d
      | [] => d

/-- Work is left on a Leaving core: a job that draws holds tiles on it, and on the last core any job in hand runs there. -/
def Dev.workLeft (d : Dev) (o : Nat) : Bool :=
  d.drawing o || ((d.staying o).isEmpty && (d.gq o 1).jobs.any (fun j => j.started))

/-- No work is left on a Leaving core: its L2 share is written back and it is being reset, and what it leaves of the
partition is reshaped. -/
def Dev.coreDrained (d : Dev) (c : Nat) : Dev :=
  let o := d.ownerByte (blockId 6 c)
  if d.gpuCore c ≠ 3 || d.workLeft o then d
  else
    let last := (d.staying o).isEmpty
    let d := if last && partOk o then
        (List.range 4).foldl (fun d q => if d.gqState o q = 3 then d.gqDisabled o q else d) d else d
    let d := ((d.flushL2 o).invalidateL2 o).setGpuCore c 4
    if last then d.setPart o { d.part o with map := [] } else d.reshape o

/-- A core comes to an owner: Joining, and the queues that its loss of the last one had disabled take jobs again (R147). -/
def Dev.joinCore (d : Dev) (c o : Nat) : Dev :=
  let d := d.setGpuCore c 1
  if !(partOk o) then d
  else (List.range 4).foldl (fun d q =>
    if d.gqState o q = 0 && d.getO (partIndex o) (queueSub q 0) = 1 && d.running then d.setGqState o q 1 else d) d

/-! ### The meanings of the queue's own commands -/

/-- A command names a partition and a queue. -/
def onQueue (o q : Nat) (f : Dev → Dev) (d : Dev) : Dev := if partOk o && q < 4 then f d else d

/-- A command names a partition. -/
def onPartition (o : Nat) (f : Dev → Dev) (d : Dev) : Dev := if partOk o then f d else d

/-- GPU_JOB_SUBMIT (R134). -/
def execGpuJobSubmit (who : Init) (partition queue address : Nat) (s : State) : Host.Outcome State Fault Refusal :=
  actServed (onQueue partition queue (fun d => d.submitGpuJob who partition queue address)) s

/-- GPU_JOB_START (R132, R135). -/
def execGpuJobStart (partition queue : Nat) (s : State) : Host.Outcome State Fault Refusal :=
  act (onQueue partition queue (fun d => d.gpuStart partition queue)) s

/-- GPU_JOB_COMPLETE (R136). -/
def execGpuJobComplete (partition queue : Nat) (s : State) : Host.Outcome State Fault Refusal :=
  act (onQueue partition queue (fun d => d.gpuComplete partition queue)) s

/-- BUDGET_OVERRUN (R135): the compute job in hand passes its budget; counted and logged once, and it runs on. -/
def execBudgetOverrun (partition : Nat) (s : State) : Host.Outcome State Fault Refusal :=
  act (onPartition partition (fun d =>
    match (d.gq partition 1).jobs with
    | [] => d
    | j :: _ =>
      if j.started && gjBudget j.body != 0 && !j.overran && j.awaySince.isNone && 1000 * gjBudget j.body < d.jobTime j then
        ((d.setHead partition 1 { j with overran := true }).count (partIndex partition) 0x07).log 0x2A 0x2A03 partition 1 [j.item.seq]
      else d)) s

/-- GPU_CORE_FAULT (R129, R143): a parity error, or no instruction retired for 10 ms. -/
def execGpuCoreFault (failed : FailedCore) (s : State) : Host.Outcome State Fault Refusal :=
  actAwake (onUnit failed.core 16 (fun d => d.gpuFault failed.core failed.queues)) s

/-- GPU_CORE_RESET_DONE (R129). -/
def execGpuCoreResetDone (core : Nat) (s : State) : Host.Outcome State Fault Refusal :=
  actAwake (onUnit core 16 (fun d => d.gpuResetDone core)) s

/-- CORE_LEAVING_DRAINED (R129). -/
def execCoreLeavingDrained (core : Nat) (s : State) : Host.Outcome State Fault Refusal :=
  act (onUnit core 16 (fun d => d.coreDrained core)) s

/-- RESHAPE_POINT (R129). -/
def execReshapePoint (partition : Nat) (s : State) : Host.Outcome State Fault Refusal :=
  act (onPartition partition (fun d => d.reshape partition)) s

/-- GPU_QUEUE_ENABLE_WRITE (R144). -/
def execGpuQueueEnableWrite (who : Init) (partition queue value : Nat) (s : State) : Host.Outcome State Fault Refusal :=
  actServed (onQueue partition queue (fun d =>
    d.request who (partIndex partition) (queueSub queue 0) (numData (partIndex partition) (queueSub queue 0) value)
      (gqEnableVerdict partition queue value))) s

/-- DISABLE_GRACE_EXPIRY (R144). -/
def execDisableGraceExpiry (partition queue : Nat) (s : State) : Host.Outcome State Fault Refusal :=
  act (onQueue partition queue (fun d => d.graceExpires partition queue)) s

/-- GPU_QUEUE_DISABLE_COMPLETE (R144): no job is in hand any more. -/
def execGpuQueueDisableComplete (partition queue : Nat) (s : State) : Host.Outcome State Fault Refusal :=
  act (onQueue partition queue (fun d =>
    if d.gqState partition queue = 3 ∧ !((d.gq partition queue).jobs.any (fun j => j.started)) then
      d.gqDisabled partition queue else d)) s

/-- PREEMPTION_COMPLETE (R159). -/
def execPreemptionComplete (partition : Nat) (s : State) : Host.Outcome State Fault Refusal :=
  act (onPartition partition (fun d => d.preempted partition)) s

/-- PREEMPTION_HOLD_END (R161). -/
def execPreemptionHoldEnd (partition : Nat) (s : State) : Host.Outcome State Fault Refusal :=
  act (onPartition partition (fun d => d.holdEnds partition)) s

end Sys2Proof.Machine
end

