-- ==== Sys2Proof/Machine/Raster.lean ====
section
/-! DEFINITION. The rasteriser (R171): primitives of a topology, clipping, snapping, which samples a triangle, a line and a
point cover, and the weights that interpolate at a sample. Coordinates run right and down. -/

namespace Sys2Proof.Machine

/-- A vertex in clip coordinates, with the shares that the primitive's vertices have in it. -/
structure Clip where
  x : Rat
  y : Rat
  z : Rat
  w : Rat
  share : List Rat := []
  deriving DecidableEq, Repr

/-- A snapped position: 1/256 pixel. -/
structure Pos where
  x : Int
  y : Int
  deriving DecidableEq, Repr

/-! ### Primitives (Table 9-6, raster word) -/

/-- The vertices of each primitive, the provoking vertex first, from a list of `n` vertices. -/
def primitivesOf (topology n : Nat) : List (List Nat) :=
  match topology with
  | 0 => (List.range n).map (fun i => [i])
  | 1 => (List.range (n / 2)).map (fun i => [2 * i, 2 * i + 1])
  | 2 => (List.range (n - 1)).map (fun i => [i, i + 1])
  | 3 => (List.range (n / 3)).map (fun i => [3 * i, 3 * i + 1, 3 * i + 2])
  | 4 => (List.range (n - 2)).map (fun i => if i % 2 = 0 then [i, i + 1, i + 2] else [i, i + 2, i + 1])
  | _ => (List.range (n - 2)).map (fun i => [i + 1, i + 2, 0])

/-! ### Clipping -/

/-- Distances to the clip planes: −w ≤ x, y ≤ w, and 0 ≤ z ≤ w unless depth clamp is set. A vertex is inside when all are
at least 0. -/
def clipPlanes (depthClamp : Bool) : List (Clip → Rat) :=
  [fun v => v.w + v.x, fun v => v.w - v.x, fun v => v.w + v.y, fun v => v.w - v.y]
    ++ (if depthClamp then [fun v => v.w] else [fun v => v.z, fun v => v.w - v.z])

/-- The point of an edge where a distance is 0. -/
def clipCut (p : Clip → Rat) (a b : Clip) : Clip :=
  let t := p a / (p a - p b)
  { x := a.x + t * (b.x - a.x), y := a.y + t * (b.y - a.y), z := a.z + t * (b.z - a.z), w := a.w + t * (b.w - a.w)
    share := (a.share.zip b.share).map (fun s => s.1 + t * (s.2 - s.1)) }

/-- A polygon against one plane. -/
def clipPolygon (p : Clip → Rat) (poly : List Clip) : List Clip :=
  let next := poly.drop 1 ++ poly.take 1
  (poly.zip next).flatMap (fun e =>
    let inA := decide (0 ≤ p e.1)
    let inB := decide (0 ≤ p e.2)
    (if inA then [e.1] else []) ++ (if inA != inB then [clipCut p e.1 e.2] else []))

/-- A segment against one plane. -/
def clipSegment (p : Clip → Rat) (s : Option (Clip × Clip)) : Option (Clip × Clip) :=
  match s with
  | none => none
  | some (a, b) =>
    if 0 ≤ p a ∧ 0 ≤ p b then some (a, b)
    else if 0 ≤ p a then some (a, clipCut p a b)
    else if 0 ≤ p b then some (clipCut p a b, b)
    else none

/-! ### The viewport and snapping -/

/-- The viewport: x, y, width, height, and the depths of z = 0 and z = w. The transform takes −1 to the left and upper side
(assumption log 31). -/
structure Viewport where
  x : Rat
  y : Rat
  w : Rat
  h : Rat
  near : Rat
  far : Rat
  deriving DecidableEq, Repr

/-- A coordinate with 8 fraction bits, within ±32 768 pixels. -/
def snap (v : Rat) : Int :=
  let s := v * 256
  let f := s.floor
  let r := if (f : Rat) = s then f else if Config.snapUp v then f + 1 else f
  max (-8388608) (min 8388608 r)

/-- A corner of what a primitive shows: its snapped position, depth and 1/w, and the vertices' shares in it. -/
structure Corner where
  pos   : Pos
  depth : Rat
  invW  : Rat
  share : List Rat
  deriving DecidableEq, Repr

/-- A clip position on the screen. -/
def toScreen (vp : Viewport) (v : Clip) : Corner :=
  let i : Rat := if v.w = 0 then 0 else 1 / v.w
  { pos := { x := snap (vp.x + (v.x * i + 1) / 2 * vp.w), y := snap (vp.y + (v.y * i + 1) / 2 * vp.h) }
    depth := vp.near + v.z * i * (vp.far - vp.near), invW := i, share := v.share }

/-! ### Coverage -/

/-- The sample of pixel (x, y). -/
def samplePos (x y : Nat) : Pos := { x := 256 * (x : Int) + 128, y := 256 * (y : Int) + 128 }

/-- Which side of the edge a → b a point lies on; positive to its right as the edge is walked, coordinates running down. -/
def edgeSide (a b p : Pos) : Int := (b.x - a.x) * (p.y - a.y) - (b.y - a.y) * (p.x - a.x)

/-- An edge of a triangle walked clockwise is a top edge or a left edge. -/
def topLeft (a b : Pos) : Bool := (a.y == b.y && a.x < b.x) || b.y < a.y

/-- A clockwise triangle covers a sample: inside, or on a top or left edge. -/
def insideEdge (a b p : Pos) : Bool := 0 < edgeSide a b p || (edgeSide a b p == 0 && topLeft a b)

/-- A triangle covers a sample; one of zero area covers none. -/
def triangleCovers (a b c p : Pos) : Bool :=
  let area := edgeSide a b c
  if area = 0 then false
  else
    let (b, c) := if area < 0 then (c, b) else (b, c)
    insideEdge a b p && insideEdge b c p && insideEdge c a p

/-- A polygon as a fan of triangles. -/
def polygonCovers (poly : List Pos) (p : Pos) : Bool :=
  match poly with
  | a :: rest => ((rest.zip (rest.drop 1)).any (fun e => triangleCovers a e.1 e.2 p))
  | [] => false

/-- The distance |dx| + |dy| of a point, in sample units scaled by `den`, from a sample. -/
def diamondAt (a b p : Pos) (num den : Int) : Int :=
  let dx := a.x * den + (b.x - a.x) * num - p.x * den
  let dy := a.y * den + (b.y - a.y) * num - p.y * den
  dx.natAbs + dy.natAbs

/-- A point lies inside the diamond of a pixel: less than half a pixel away. -/
def inDiamond (p q : Pos) : Bool := ((q.x - p.x).natAbs + (q.y - p.y).natAbs : Nat) < 128

/-- The diamond-exit rule: the line passes through the pixel's diamond and does not end in it. The distance along a segment
is least at an end or where it crosses the sample's row or column. -/
def lineCovers (a b p : Pos) : Bool :=
  let dx := b.x - a.x
  let dy := b.y - a.y
  let crosses (num den : Int) : Bool :=
    let (num, den) := if den < 0 then (-num, -den) else (num, den)
    den ≠ 0 && 0 ≤ num && num ≤ den && diamondAt a b p num den < 128 * den
  (inDiamond p a || crosses (p.x - a.x) dx || crosses (p.y - a.y) dy) && !(inDiamond p b)

/-- A point of `size` pixels centred on its vertex covers a sample; its top and left edges count. -/
def pointCovers (v : Pos) (size : Rat) (p : Pos) : Bool :=
  let h : Rat := 128 * size
  let dx : Rat := ((p.x - v.x : Int) : Rat)
  let dy : Rat := ((p.y - v.y : Int) : Rat)
  decide (-h ≤ dx) && decide (dx < h) && decide (-h ≤ dy) && decide (dy < h)

/-! ### A primitive's coverage -/

/-- What a primitive covers on the screen. -/
inductive Shape where
  | nothing
  | polygon (ps : List Corner)
  | line (a b : Corner)
  | point (v : Corner) (size : Rat)
  deriving DecidableEq, Repr

/-- A shape covers a pixel's sample. -/
def Shape.covers (s : Shape) (x y : Nat) : Bool :=
  let p := samplePos x y
  match s with
  | .nothing => false
  | .polygon ps => polygonCovers (ps.map (·.pos)) p
  | .line a b => lineCovers a.pos b.pos p
  | .point v n => pointCovers v.pos n p

/-! ### Interpolation -/

/-- A mixture of corners: depth and 1/w are linear on the screen, and the vertices' shares in perspective. -/
def mixCorners (cs : List (Rat × Corner)) : Rat × Rat × List Rat :=
  let sum (f : Corner → Rat) : Rat := cs.foldl (fun acc c => acc + c.1 * f c.2) 0
  let i := sum (·.invW)
  (sum (·.depth), i,
   (List.range 3).map (fun k => if i = 0 then 0 else sum (fun c => c.invW * c.share.getD k 0) / i))

/-- The weights of a triangle's corners at a sample, linear on the screen. -/
def triangleWeights (a b c p : Pos) : List Rat :=
  let area : Rat := ((edgeSide a b c : Int) : Rat)
  [((edgeSide b c p : Int) : Rat) / area, ((edgeSide c a p : Int) : Rat) / area, ((edgeSide a b p : Int) : Rat) / area]

/-- The triangle of a polygon that serves a sample: one that covers it, or else (a helper invocation) one that has an area. -/
def servingTriangle (ps : List Corner) (p : Pos) : Option (Corner × Corner × Corner) :=
  match ps with
  | a :: rest =>
    let ts := (rest.zip (rest.drop 1)).map (fun e => (a, e.1, e.2))
    (ts.find? (fun t => triangleCovers t.1.pos t.2.1.pos t.2.2.pos p)).or
      (ts.find? (fun t => edgeSide t.1.pos t.2.1.pos t.2.2.pos != 0))
  | [] => none

/-- Depth, 1/w and the vertices' shares at the sample of a pixel, which may lie left of or above the origin. -/
def Shape.at (s : Shape) (p : Pos) : Rat × Rat × List Rat :=
  match s with
  | .nothing => (0, 0, [])
  | .polygon ps =>
    match servingTriangle ps p with
    | some (a, b, c) => mixCorners ((triangleWeights a.pos b.pos c.pos p).zip [a, b, c])
    | none => (0, 0, [])
  | .line a b =>
    let dx := b.pos.x - a.pos.x
    let dy := b.pos.y - a.pos.y
    let len : Rat := ((dx * dx + dy * dy : Int) : Rat)
    let t : Rat := if len = 0 then 0 else (((p.x - a.pos.x) * dx + (p.y - a.pos.y) * dy : Int) : Rat) / len
    mixCorners [(1 - t, a), (t, b)]
  | .point v _ => mixCorners [(1, v)]

/-- PointCoord: from the upper left corner of the point. -/
def Shape.pointCoord (s : Shape) (p : Pos) : Rat × Rat :=
  match s with
  | .point v n => (((p.x - v.pos.x : Int) : Rat) / (256 * n) + 1 / 2, ((p.y - v.pos.y : Int) : Rat) / (256 * n) + 1 / 2)
  | _ => (0, 0)

/-- Twice the signed area of a polygon; positive when it is walked clockwise. -/
def polygonArea (ps : List Pos) : Int :=
  ((ps.zip (ps.drop 1 ++ ps.take 1)).foldl (fun acc e => acc + (e.1.x * e.2.y - e.2.x * e.1.y)) 0)

/-- The fields of a raster word (Table 9-6): depth clamp, front face clockwise, cull. -/
def rasterCull (word : Nat) : Nat := bits word 3 2
def rasterClockwise (word : Nat) : Bool := word.testBit 5
def rasterClamp (word : Nat) : Bool := word.testBit 6

/-- A primitive of clip positions on the screen, clipped, snapped and culled; and whether it shows its front. -/
def shapeOf (word : Nat) (vp : Viewport) (vs : List Clip) (size : Rat) : Shape × Bool :=
  let planes := clipPlanes (rasterClamp word)
  let unit (k : Nat) : List Rat := (List.range 3).map (fun i => if i = k then 1 else 0)
  let vs := (vs.zip (List.range vs.length)).map (fun v => { v.1 with share := unit v.2 })
  match vs with
  | [v] => if planes.all (fun p => decide (0 ≤ p v)) then (.point (toScreen vp v) (max 1 (min 64 size)), true) else (.nothing, true)
  | [a, b] =>
    match planes.foldl (fun s p => clipSegment p s) (some (a, b)) with
    | some (a, b) => (.line (toScreen vp a) (toScreen vp b), true)
    | none => (.nothing, true)
  | _ =>
    let ps := (planes.foldl (fun poly p => clipPolygon p poly) vs).map (toScreen vp)
    let front := decide (0 < polygonArea (ps.map (·.pos))) == rasterClockwise word
    if (rasterCull word = 1 ∧ front) ∨ (rasterCull word = 2 ∧ !front) then (.nothing, front) else (.polygon ps, front)

end Sys2Proof.Machine
end

