-- ==== Sys2Proof/Machine/Surfaces.lean ====
section
/-! DEFINITION. What shaders and the pixel output work on (09): surfaces and their pixels (R167, R168, R176), and descriptor
sets (R169). -/

namespace Sys2Proof.Machine

/-! ### Formats (Table 9-1) -/

/-- How a channel is stored. -/
inductive Chan where
  | none
  | unorm (lo w : Nat)
  | half (lo : Nat)
  | single (lo : Nat)
  deriving DecidableEq, Repr

/-- Red, green, blue and alpha of a colour format. -/
def formatChannels (f : Nat) : List Chan :=
  match f with
  | 0x01 => [.unorm 0 8, .unorm 8 8, .unorm 16 8, .unorm 24 8]
  | 0x02 => [.unorm 16 8, .unorm 8 8, .unorm 0 8, .unorm 24 8]
  | 0x03 => [.unorm 11 5, .unorm 5 6, .unorm 0 5, .none]
  | 0x04 => [.unorm 0 10, .unorm 10 10, .unorm 20 10, .unorm 30 2]
  | 0x05 => [.half 0, .half 16, .half 32, .half 48]
  | 0x08 => [.none, .none, .none, .unorm 0 8]
  | 0x10 => [.unorm 0 8, .none, .none, .none]
  | 0x11 => [.unorm 0 8, .unorm 8 8, .none, .none]
  | 0x12 => [.half 0, .none, .none, .none]
  | 0x13 => [.half 0, .half 16, .none, .none]
  | 0x14 => [.single 0, .none, .none, .none]
  | 0x16 => [.single 0, .single 32, .single 64, .single 96]
  | _ => []

/-- Bytes per pixel; 0 for a code that the GPU does not know. -/
def formatBpp (f : Nat) : Nat :=
  match f with
  | 0x08 | 0x10 => 1
  | 0x03 | 0x11 | 0x12 => 2
  | 0x01 | 0x02 | 0x04 | 0x13 | 0x14 | 0x18 | 0x19 => 4
  | 0x05 => 8
  | 0x16 => 16
  | _ => 0

def formatTarget (f : Nat) : Bool := !(formatChannels f).isEmpty
def formatDepth (f : Nat) : Bool := f == 0x18 || f == 0x19
def formatSampled (f : Nat) : Bool := formatTarget f || formatDepth f
def formatStorage (f : Nat) : Bool := [0x01, 0x02, 0x05, 0x08, 0x10, 0x11, 0x12, 0x13, 0x14, 0x16].contains f

/-- A channel's value; an absent colour reads 0 and an absent alpha 1. -/
def Chan.get (c : Chan) (alpha : Bool) (v : Nat) : Fp :=
  match c with
  | .none => if alpha then fp1 else fp0
  | .unorm lo w => unormToFp (bits v lo w) (2 ^ w - 1)
  | .half lo => (Fp.of16 (bits v lo 16)).round
  | .single lo => Fp.of32 (bits v lo 32)

/-- The value that a depth format stores. -/
def depthValue (f v : Nat) : Fp := if f = 0x18 then Fp.of32 v else unormToFp (v % 2 ^ 24) (2 ^ 24 - 1)

/-- A channel takes a value (R175). -/
def Chan.put (c : Chan) (v : Nat) (x : Fp) : Nat :=
  match c with
  | .none => v
  | .unorm lo w => setBits v lo w (fpToUnorm (2 ^ w - 1) x)
  | .half lo => setBits v lo 16 x.to16
  | .single lo => setBits v lo 32 x.to32

/-! ### Surfaces (R168) -/

/-- A surface: linear, or packed tiles. -/
structure Surface where
  base   : Nat := 0
  pitch  : Nat := 0
  width  : Nat := 0
  height : Nat := 0
  format : Nat := 0
  mips   : Nat := 1
  pts    : Option PtsDesc := none
  deriving DecidableEq, Repr

/-- A linear surface descriptor (Table 9-2); none when it breaks the table. -/
def linearDesc (b : List Byte) : Option Surface :=
  let s : Surface := { base := field b 0 8, pitch := field b 24 4, width := field b 16 2, height := field b 18 2
                       format := field b 20 1, mips := field b 21 1 }
  let ok := s.base % 256 == 0 && s.base < 2 ^ 40 && field b 8 8 == 0
    && 1 ≤ s.width && s.width ≤ 16384 && 1 ≤ s.height && s.height ≤ 16384 && formatBpp s.format != 0
    && 1 ≤ s.mips && s.mips ≤ 15 && s.mips ≤ Nat.log2 (max s.width s.height) + 1
    && field b 22 2 == 0 && s.pitch % 64 == 0 && s.width * formatBpp s.format ≤ s.pitch && field b 28 4 == 0
  if ok then some s else none

/-- A packed-tile surface of 8C × 8R pixels. -/
def ptsSurface (x : PtsDesc) : Surface :=
  { base := x.slots, pitch := x.columns, width := 8 * x.columns, height := 8 * x.rows, format := x.format, pts := some x }

/-- Where mip level `k` starts after the base, and its pitch. -/
def levelAt (s : Surface) : Nat → Nat × Nat
  | 0 => (0, s.pitch)
  | k + 1 =>
    let (off, pitch) := levelAt s k
    (ceilDiv (off + pitch * max 1 (s.height / 2 ^ k)) 256 * 256,
     ceilDiv (max 1 (s.width / 2 ^ (k + 1)) * formatBpp s.format) 64 * 64)

/-- The bytes of a surface: ranges of memory. -/
def Surface.extents (s : Surface) : List (Nat × Nat) :=
  match s.pts with
  | some x => [(x.slots, 256 * x.columns * x.rows), (x.headers, x.columns * x.rows)]
  | none =>
    let k := s.mips - 1
    let (off, pitch) := levelAt s k
    [(s.base, off + pitch * (max 1 (s.height / 2 ^ k) - 1) + max 1 (s.width / 2 ^ k) * formatBpp s.format)]

/-- The status of a halt for a read that failed. -/
def gpuHalt (r : MemRes) : Nat :=
  match r with
  | .bad _ => 0x30
  | _ => 0x31

/-- A surface named by a descriptor address with bit 0 marking packed tiles. -/
def Dev.readSurface (d : Dev) (o v : Nat) : Except Nat Surface × Dev :=
  let a := v - v % 2
  if a % 32 ≠ 0 then (.error 0x32, d)
  else
    match d.gpuRead o a 32 with
    | (.ok b, d) =>
      let s := if v % 2 = 1 then (ptsDesc b).map ptsSurface else linearDesc b
      ((match s with | some s => .ok s | none => .error 0x32), d)
    | (r, d) => (.error (gpuHalt r), d)

/-- A pixel of one level of a surface, as a number; packed tiles have one level. -/
def Dev.pixelGet (d : Dev) (o : Nat) (s : Surface) (level x y : Nat) : Except Nat Nat × Dev :=
  match s.pts with
  | none =>
    let (off, pitch) := levelAt s level
    match d.gpuRead o (s.base + off + y * pitch + x * formatBpp s.format) (formatBpp s.format) with
    | (.ok b, d) => (.ok (leNat b), d)
    | (r, d) => (.error (gpuHalt r), d)
  | some p =>
    match d.gpuRead o (tileHeader p.headers p.columns (x / 8) (y / 8)) 1 with
    | (.ok h, d) =>
      match d.gpuRead o (tileSlot p.slots p.columns (x / 8) (y / 8)) (tileBytes p.format (leNat h)) with
      | (.ok slot, d) => (.ok (leNat (tilePixel (decodeTile p.format (leNat h) p.clear slot) (8 * (y % 8) + x % 8))), d)
      | (r, d) => (.error (gpuHalt r), d)
    | (r, d) => (.error (gpuHalt r), d)

/-- A pixel of a linear surface's level 0 is written. -/
def Dev.pixelPut (d : Dev) (o : Nat) (s : Surface) (x y v : Nat) : Except Nat Unit × Dev :=
  let n := formatBpp s.format
  let (ok, d) := d.gpuWrite o (s.base + y * s.pitch + x * n) (leBytes n v)
  (if ok then .ok () else .error 0x31, d)

/-! ### Tiles in the slice (R176) -/

/-- Whether the slice needs room, and which held tile it then flushes, is not stated: a free value decides both. -/
def Dev.makeRoom (d : Dev) (o : Nat) : Dev :=
  let (k, d) := d.nextFree
  let n := Config.freeNat k
  let tiles := (d.part o).tiles
  match tiles[n / 2 % tiles.length]? with
  | some t => if n % 2 = 1 then d.flushTiles o (fun a => a == t.slot) else d
  | none => d

/-- A fragment reaches a tile: it is decoded, unless the slice holds it already. -/
def Dev.holdTile (d : Dev) (o : Nat) (p : PtsDesc) (tx ty : Nat) : Except Nat HeldTile × Dev :=
  let ha := tileHeader p.headers p.columns tx ty
  let sa := tileSlot p.slots p.columns tx ty
  match (d.part o).tiles.find? (fun t => t.slot == sa) with
  | some t => (.ok t, d)
  | none =>
    let d := d.makeRoom o
    match (d.refusedAt o true 64 sa 256).or (d.refusedAt o true 64 ha 1) with
    | some a => (.error 0x31, d.recordRefusal o true a)
    | none =>
      match d.gpuRead o ha 1 with
      | (.ok h, d) =>
        match d.gpuRead o sa (tileBytes p.format (leNat h)) with
        | (.ok slot, d) =>
          let t : HeldTile := { slot := sa, header := ha, format := p.format
                                pixels := decodeTile p.format (leNat h) p.clear slot }
          (.ok t, d.setPart o { d.part o with tiles := (d.part o).tiles ++ [t] })
        | (r, d) => (.error (gpuHalt r), d)
      | (r, d) => (.error (gpuHalt r), d)

/-- A pixel of a target, as the fragment that reaches it finds it. -/
def Dev.targetGet (d : Dev) (o : Nat) (s : Surface) (x y : Nat) : Except Nat Nat × Dev :=
  match s.pts with
  | none => d.pixelGet o s 0 x y
  | some p =>
    match d.holdTile o p (x / 8) (y / 8) with
    | (.ok t, d) => (.ok (leNat (tilePixel t.pixels (8 * (y % 8) + x % 8))), d)
    | (.error e, d) => (.error e, d)

/-- A pixel of a target is written: into the decoded tile that the slice holds, or into memory. -/
def Dev.targetPut (d : Dev) (o : Nat) (s : Surface) (x y v : Nat) : Except Nat Unit × Dev :=
  match s.pts with
  | none => d.pixelPut o s x y v
  | some p =>
    let sa := tileSlot p.slots p.columns (x / 8) (y / 8)
    let put (t : HeldTile) : HeldTile :=
      if t.slot = sa then { t with pixels := t.pixels.set (8 * (y % 8) + x % 8) (leBytes (formatBpp s.format) v) } else t
    (.ok (), d.setPart o { d.part o with tiles := (d.part o).tiles.map put })

/-! ### State registers (Table 7-7) -/

def GpuJob.reg (j : GpuJob) (n : Nat) : Nat := tabGet 0 j.regs n
def GpuJob.reg64 (j : GpuJob) (n : Nat) : Nat := j.reg n + 2 ^ 32 * j.reg (n + 1)

/-- A REAL32 register as a rational; an infinity or a NaN as 0. -/
def fpRat : Fp → Rat
  | .num neg m e =>
    let v : Rat := if 0 ≤ e then (m * 2 ^ e.toNat : Nat) else (m : Rat) / ((2 ^ (-e).toNat : Nat) : Rat)
    if neg then -v else v
  | _ => 0

def GpuJob.viewport (j : GpuJob) : Viewport :=
  let r (n : Nat) : Rat := fpRat (Fp.of32 (j.reg n))
  { x := r 0x20, y := r 0x21, w := r 0x22, h := r 0x23, near := r 0x24, far := r 0x25 }

/-! ### Pipelines (Table 9-6) -/

def pcRaster (b : List Byte) : Nat := field b 76 4
def pcDepth (b : List Byte) : Nat := field b 80 8
def pcFormat (b : List Byte) (n : Nat) : Nat := field b (88 + n) 1
def pcBlend (b : List Byte) (n : Nat) : Nat := field b (128 + 4 * n) 4
def pcCode (b : List Byte) : Nat := field b 32 8

/-- The pipeline that a job may use under a handle (R186). -/
def Dev.pipeline (d : Dev) (o handle number : Nat) : Option Pipeline :=
  d.gpu.pipes.find? (fun p => p.handle == handle && p.owner == o
    && (match p.destroyed with | some n => number ≤ n | none => true))

/-! ### Descriptor sets (R169) -/

/-- A resolved entry: its type, the bytes it gives access to, and its surface. -/
structure Entry where
  set     : Nat
  binding : Nat
  kind    : Nat
  base    : Nat := 0
  length  : Nat := 0
  sampler : Nat := 0
  surface : Option Surface := none
  deriving DecidableEq, Repr

/-- A sampler word is valid (Table 9-4); a depth compare needs a depth format. -/
def samplerOk (w : Nat) (format : Option Nat) : Bool :=
  bits w 56 8 == 0 && bits w 29 3 == 0 && bits w 3 13 == 0 && bits w 23 2 != 3 && bits w 20 3 ≤ 4
    && (!(w.testBit 25) || (match format with | some f => formatDepth f | none => true))

/-- Every extent of a surface is admitted for the owner. -/
def Dev.surfaceAdmitted (d : Dev) (o : Nat) (write : Bool) (s : Surface) : Bool :=
  s.extents.all (fun e => gpuReach e.1 e.2 && (d.refusedAt o write 64 e.1 e.2).isNone)

/-- An entry as a shader's binding declares it: the entry, or the status of a halt. -/
def Dev.resolveEntry (d : Dev) (o : Nat) (j : GpuJob) (set binding kind : Nat) : Except Nat Entry × Dev :=
  match d.gpuRead o (j.reg64 (0x40 + 2 * set) + 32 * binding) 32 with
  | (.ok b, d) =>
    let t := field b 0 1
    let a := field b 8 8
    let x := field b 16 8
    let e : Entry := { set := set, binding := binding, kind := t, sampler := if 5 ≤ t then x else 0 }
    if t ≠ kind ∨ t = 0 ∨ 6 < t ∨ field b 1 7 ≠ 0 ∨ field b 24 8 ≠ 0 then (.error 0x32, d)
    else if t ≤ 2 then
      if a % (if t = 1 then 16 else 4) ≠ 0 ∨ x = 0 ∨ 2 ^ 31 < x then (.error 0x32, d)
      else if !(gpuReach a x) || (d.refusedAt o false 64 a x).isSome then (.error 0x31, d)
      else (.ok { e with base := a, length := x }, d)
    else if t = 5 then (if a = 0 ∧ samplerOk x none then .ok e else .error 0x32, d)
    else
      match d.readSurface o a with
      | (.error s, d) => (.error s, d)
      | (.ok s, d) =>
        -- a storage image uses level 0 only (R168)
        let s := if t = 4 then { s with mips := 1 } else s
        let fits := if t = 4 then formatStorage s.format && s.pts.isNone && x == 0
          else if t = 3 then formatSampled s.format && x == 0
          else formatSampled s.format && samplerOk x (some s.format)
        if !fits then (.error 0x32, d)
        else if !(d.surfaceAdmitted o false s) then (.error 0x31, d)
        else
          let first := s.extents.headD (0, 0)
          (.ok { e with base := first.1, length := first.2, surface := some s }, d)
  | (r, d) => (.error (gpuHalt r), d)

/-- Every binding that a pipeline's shaders use. -/
def Dev.resolveAll (d : Dev) (o : Nat) (j : GpuJob) : List (Nat × Nat × Nat) → Except Nat (List Entry) × Dev
  | [] => (.ok [], d)
  | (set, binding, kind) :: rest =>
    match d.resolveEntry o j set binding kind with
    | (.error s, d) => (.error s, d)
    | (.ok e, d) =>
      match d.resolveAll o j rest with
      | (.ok es, d) => (.ok (e :: es), d)
      | (.error s, d) => (.error s, d)

end Sys2Proof.Machine
end

