-- ==== Sys2Proof/Machine/Texture.lean ====
section
/-! DEFINITION. The sampler (R177, R178): sampler words, addressing, the level of detail, the footprint, filtering, compares,
and reads and writes of single texels (R170). `f` gives the free numbers of a sample. -/

namespace Sys2Proof.Machine

/-- A result that may be a halt, and the device. -/
abbrev Got (α : Type) := Except Nat α × Dev

/-- What follows a result; a halt stays. -/
def andThen {α β : Type} (g : Got α) (h : α → Dev → Got β) : Got β :=
  match g with
  | (.ok a, d) => h a d
  | (.error e, d) => (.error e, d)

/-! ### The sampler word (Table 9-4) -/

def swLinear (w : Nat) (mag : Bool) : Bool := w.testBit (if mag then 0 else 1)
def swMip (w : Nat) : Bool := w.testBit 2
def swAddr (w : Nat) (v : Bool) : Nat := bits w (if v then 18 else 16) 2
def swAniso (w : Nat) : Nat := bits w 20 3
def swBorder (w : Nat) : Nat := bits w 23 2
def swCompare (w : Nat) : Bool := w.testBit 25
def swCompareOp (w : Nat) : Nat := bits w 26 3
/-- Levels of detail have 8 fraction bits. -/
def swMaxLod (w : Nat) : Int := 16 * (bits w 32 8 : Nat)
def swMinLod (w : Nat) : Int := 16 * (bits w 40 8 : Nat)
def swBias (w : Nat) : Int := 16 * asSigned 8 (bits w 48 8)

/-- The colour beyond the edge. -/
def borderColour (w : Nat) : List Fp :=
  match swBorder w with
  | 0 => [fp0, fp0, fp0, fp0]
  | 1 => [fp0, fp0, fp0, fp1]
  | _ => [fp1, fp1, fp1, fp1]

/-- The texel of a row or column of `n` that a position names; none on the border. -/
def addressed (mode n : Nat) (i : Int) : Option Nat :=
  match mode with
  | 0 => some (i % (n : Int)).toNat
  | 1 => let j := (i % (2 * n : Int)).toNat; some (if j < n then j else 2 * n - 1 - j)
  | 2 => some (min (n - 1) i.toNat)
  | _ => if 0 ≤ i ∧ i < (n : Int) then some i.toNat else none

/-! ### Texels -/

/-- The size of a level. -/
def Surface.sizeAt (s : Surface) (k : Nat) : Nat × Nat := (max 1 (s.width / 2 ^ k), max 1 (s.height / 2 ^ k))

/-- The value of a texel (Table 9-1): depth formats give their depth. -/
def texelValue (f v : Nat) : List Fp :=
  if formatDepth f then [depthValue f v, fp0, fp0, fp1]
  else
    let cs := formatChannels f
    (List.range 4).map (fun c => (cs.getD c .none).get (c == 3) v)

/-- A channel's stored bits, for an image of an integer type (DESIGN CHOICE, assumption log 34: Table 9-1 has no integer
format). -/
def Chan.raw (c : Chan) (alpha : Bool) (v : Nat) : Nat :=
  match c with
  | .none => if alpha then 1 else 0
  | .unorm lo w => bits v lo w
  | .half lo => bits v lo 16
  | .single lo => bits v lo 32
def Chan.putRaw (c : Chan) (v x : Nat) : Nat :=
  match c with
  | .none => v
  | .unorm lo w => setBits v lo w x
  | .half lo => setBits v lo 16 x
  | .single lo => setBits v lo 32 x

/-- A texel as the scalars of a sampled type, and a pixel that takes them. -/
def texelScalars (s : Scalar) (f v : Nat) : List Nat :=
  match s with
  | .int w _ => (List.range 4).map (fun c => ((formatChannels f).getD c .none).raw (c == 3) v % 2 ^ w)
  | _ => (texelValue f v).map (fun x => x.toBits s.width)
def pixelOf (s : Scalar) (f old : Nat) (xs : List Nat) : Nat :=
  ((formatChannels f).zip xs).foldl (fun v c => match s with
    | .int _ _ => c.1.putRaw v c.2
    | _ => c.1.put v (Fp.ofBits s.width c.2)) old

/-- What a sample works on: the surface, the sampler word, and whether the job renders to the surface, which leaves what it
samples undefined (R176). -/
structure Sampled where
  owner    : Nat
  surface  : Surface
  word     : Nat
  rendered : Bool
  deriving DecidableEq, Repr

/-- The value of a texel at a level, or the border's. -/
def Dev.texel (d : Dev) (t : Sampled) (level : Nat) (i j : Int) (f : Nat) : Got (List Fp) :=
  let (w, h) := t.surface.sizeAt level
  match addressed (swAddr t.word false) w i, addressed (swAddr t.word true) h j with
  | some x, some y =>
    if t.rendered then (.ok ((List.range 4).map (fun c => Fp.of32 (bits f (32 * c) 32))), d)
    else andThen (d.pixelGet t.owner t.surface level x y) (fun v d => (.ok (texelValue t.surface.format v), d))
  | _, _ => (.ok (borderColour t.word), d)

/-! ### Filtering -/

/-- A weighted texel is added, after its compare with a reference where there is one: the reference stands left of the op
(DESIGN CHOICE, assumption log 34). -/
def addTexel (t : Sampled) (ref : Option Fp) (weight : Rat) (acc c : List Fp) : List Fp :=
  if weight = 0 then acc
  else
    let c := match ref with
      | some r => [if compareOp (swCompareOp t.word) r (c.getD 0 fp0) then fp1 else fp0, fp0, fp0, fp1]
      | none => c
    let k : Fp := .num (decide (weight < 0)) (weight * ((2 ^ 64 : Nat) : Rat)).floor.natAbs (-64)
    (acc.zip c).map (fun p => p.1.plus (k.times p.2))

/-- A coordinate in texels less one half, with 8 fraction bits; which of its two neighbours an inexact one takes is a free
value. -/
def fixCoord (x : Rat) (f : Nat) : Int :=
  let y := x * 256
  if ((y.floor : Int) : Rat) = y ∨ f % 2 = 0 then y.floor else y.floor + 1

/-- One level at a position, filtered and added with a weight. -/
def Dev.filterLevel (d : Dev) (t : Sampled) (ref : Option Fp) (level : Nat) (linear : Bool) (u v : Rat) (off : Int × Int)
    (weight : Rat) (acc : List Fp) (f : Nat → Nat) : Got (List Fp) :=
  let (w, h) := t.surface.sizeAt level
  let x := u * (w : Rat)
  let y := v * (h : Rat)
  if linear then
    let fx := fixCoord (x - 1 / 2) (f 0)
    let fy := fixCoord (y - 1 / 2) (f 1)
    let a : Rat := ((fx % 256 : Int) : Rat) / 256
    let b : Rat := ((fy % 256 : Int) : Rat) / 256
    [(0, 0, (1 - a) * (1 - b)), (1, 0, a * (1 - b)), (0, 1, (1 - a) * b), (1, 1, a * b)].foldl
      (fun (g : Got (List Fp)) (q : Int × Int × Rat) => andThen g (fun acc d =>
        if q.2.2 = 0 then (.ok acc, d)
        else andThen (d.texel t level (fx / 256 + q.1 + off.1) (fy / 256 + q.2.1 + off.2) (f 2)) (fun c d =>
          (.ok (addTexel t ref (weight * q.2.2) acc c), d)))) (.ok acc, d)
  else
    andThen (d.texel t level (x.floor + off.1) (y.floor + off.2) (f 2)) (fun c d =>
      (.ok (addTexel t ref weight acc c), d))

/-- The levels that a level of detail takes, with their weights: one, or two between which it lies (R178). A surface with one
level filters as if MIP were 0. Halves between levels go as a free value says. -/
def levelsOf (t : Sampled) (lod : Int) (f : Nat) : List (Nat × Rat) :=
  let last := t.surface.mips - 1
  let clamp (k : Int) : Nat := min last k.toNat
  if lod ≤ 0 ∨ last = 0 then [(0, 1)]
  else if swMip t.word then
    let a : Rat := ((lod % 256 : Int) : Rat) / 256
    [(clamp (lod / 256), 1 - a), (clamp (lod / 256 + 1), a)]
  else
    let r := lod % 256
    [(clamp (lod / 256 + (if 128 < r ∨ (r = 128 ∧ f % 2 = 1) then 1 else 0)), 1)]

/-- Probes at positions, each with the levels of the level of detail. -/
def Dev.probes (d : Dev) (t : Sampled) (ref : Option Fp) (lod : Int) (off : Int × Int) (ps : List (Rat × Rat)) (f : Nat → Nat) :
    Got (List Fp) :=
  let linear := swLinear t.word (decide (lod ≤ 0))
  let ls := levelsOf t lod (f 0)
  let share : Rat := 1 / (ps.length : Rat)
  (ps.zip (List.range ps.length)).foldl (fun (g : Got (List Fp)) p =>
    (ls.zip (List.range ls.length)).foldl (fun g l => andThen g (fun acc d =>
      d.filterLevel t ref l.1.1 linear p.1.1 p.1.2 off (share * l.1.2) acc (fun k => f (8 * p.2 + 4 * l.2 + k + 1)))) g)
    (.ok [fp0, fp0, fp0, fp0], d)

/-! ### The level of detail (R178) -/

/-- Half of log2 of a positive number, with 8 fraction bits; the last of them goes as a free value says. -/
def halfLog2Fix (x : Rat) (f : Nat) : Int :=
  ((log2Real x.num.natAbs 0 - log2Real x.den 0) * 128).floor + ((f % 2 : Nat) : Int)

/-- The footprint of a pixel: the derivatives of the position in texels along x and y. -/
structure Footprint where
  dux : Rat
  dvx : Rat
  duy : Rat
  dvy : Rat
  deriving DecidableEq, Repr

/-- The major axis of a footprint and the squares of both axes' lengths: the axes are the two derivatives (DESIGN CHOICE,
assumption log 34). -/
def Footprint.axes (p : Footprint) : (Rat × Rat) × Rat × Rat :=
  let a := p.dux * p.dux + p.dvx * p.dvx
  let b := p.duy * p.duy + p.dvy * p.dvy
  if b ≤ a then ((p.dux, p.dvx), a, b) else ((p.duy, p.dvy), b, a)

/-- The probes: the smallest power of two that is at least the ratio of the axes, and at most 2^ANISO; 1 without ANISO or
MIN. -/
def probeCount (word : Nat) (major minor : Rat) : Nat :=
  if swAniso word = 0 ∨ !(swLinear word false) then 1
  else
    match (List.range (swAniso word)).find? (fun k => decide (major ≤ ((4 ^ k : Nat) : Rat) * minor)) with
    | some k => 2 ^ k
    | none => 2 ^ swAniso word

/-- A level of detail with the biases, clamped. -/
def clampLod (word : Nat) (lod bias : Int) : Int := max (swMinLod word) (min (swMaxLod word) (lod + swBias word + bias))

/-- The level of detail of a footprint, from the major axis divided by the probes, before biases and clamps. -/
def Footprint.lod (p : Footprint) (n f : Nat) : Int :=
  let (_, major, _) := p.axes
  if major = 0 then -1048576
  else halfLog2Fix (major / ((n * n : Nat) : Rat)) f

/-- A sample with a footprint: N probes spaced along the major axis. -/
def Dev.sampleFootprint (d : Dev) (t : Sampled) (ref : Option Fp) (u v : Rat) (p : Footprint) (bias : Int) (off : Int × Int)
    (f : Nat → Nat) : Got (List Fp) :=
  let ((mu, mv), major, minor) := p.axes
  let n := probeCount t.word major minor
  let lod := clampLod t.word (p.lod n (f 0)) bias
  let at_ (k : Nat) : Rat × Rat :=
    let s : Rat := (2 * k + 1 : Nat) / (2 * n : Nat) - 1 / 2
    (u + s * mu / (t.surface.width : Rat), v + s * mv / (t.surface.height : Rat))
  d.probes t ref lod off ((List.range n).map at_) (fun k => f (k + 1))

/-- A sample at a level of detail that the shader gives, with 8 fraction bits. -/
def Dev.sampleLod (d : Dev) (t : Sampled) (ref : Option Fp) (u v : Rat) (lod : Int) (off : Int × Int) (f : Nat → Nat) :
    Got (List Fp) :=
  d.probes t ref (clampLod t.word lod 0) off [(u, v)] f

/-- The four texels of a bilinear footprint at level 0, as a gather orders them. -/
def Dev.gather (d : Dev) (t : Sampled) (ref : Option Fp) (component : Nat) (u v : Rat) (off : Int × Int) (f : Nat → Nat) :
    Got (List Fp) :=
  let i := fixCoord (u * (t.surface.width : Rat) - 1 / 2) (f 0) / 256 + off.1
  let j := fixCoord (v * (t.surface.height : Rat) - 1 / 2) (f 1) / 256 + off.2
  [(0, 1), (1, 1), (1, 0), (0, 0)].foldl (fun (g : Got (List Fp)) (q : Int × Int) => andThen g (fun acc d =>
    andThen (d.texel t 0 (i + q.1) (j + q.2) (f 2)) (fun c d =>
      (.ok (acc ++ [(addTexel t ref 1 [fp0, fp0, fp0, fp0] c).getD (if ref.isSome then 0 else component) fp0]), d))))
    (.ok [], d)

/-- A texel by its integer position at a level, as scalars of a type; outside the surface every channel is 0 (R170). -/
def Dev.fetchTexel (d : Dev) (o : Nat) (s : Surface) (ty : Scalar) (level x y : Nat) : Got (List Nat) :=
  let (w, h) := s.sizeAt level
  if w ≤ x ∨ h ≤ y ∨ s.mips ≤ level then (.ok [0, 0, 0, 0], d)
  else andThen (d.pixelGet o s level x y) (fun v d => (.ok (texelScalars ty s.format v), d))

/-- A texel of level 0 is written; outside the surface nothing happens (R170). -/
def Dev.storeTexel (d : Dev) (o : Nat) (s : Surface) (ty : Scalar) (x y : Nat) (xs : List Nat) : Got Unit :=
  if s.width ≤ x ∨ s.height ≤ y then (.ok (), d)
  else d.pixelPut o s x y (pixelOf ty s.format 0 xs)

end Sys2Proof.Machine
end

