-- ==== Sys2Proof/Machine/Shader.lean ====
section
/-! DEFINITION. Shaders run (R170, R182 to R184): invocations that execute a module's instructions one at a time in an order
that free values choose, with the operations that a subgroup, a quad or a workgroup makes together. -/

namespace Sys2Proof.Machine

/-! ### Pointers, values, invocations -/

/-- A pointer: its storage class and variable; in a buffer, set, binding and place; elsewhere the leaf of the variable where it
points; at a texel, its position. `outside` marks an index beyond its array. -/
structure Ptr where
  storage : Nat := 0
  var     : Nat := 0
  leaf    : Nat := 0
  outside : Bool := false
  set     : Nat := 0
  binding : Nat := 0
  place   : Place := {}
  texel   : Option (Nat × Nat) := none
  deriving DecidableEq, Repr

/-- What a result holds: the bits of its scalars, a pointer, or an image and a sampler by set and binding. -/
inductive Val where
  | data (xs : List Nat)
  | ptr (p : Ptr)
  | image (img : Nat × Nat) (sampler : Nat × Nat)
  deriving DecidableEq, Repr

def Val.leaves : Val → List Nat
  | .data xs => xs
  | _ => []

/-- An invocation: its workgroup, subgroup and lane; where it executes; results and variables; the calls that it is in, each with
the position and block to return to; its current block; and what its stage gives it. -/
structure Invocation where
  group    : Nat := 0
  sub      : Nat := 0
  lane     : Nat := 0
  pc       : Nat := 0
  env      : Tab Val := []
  mem      : Tab (List Nat) := []
  calls    : List (Nat × Nat) := []
  block    : Nat := 0
  helper   : Bool := false
  killed   : Bool := false
  done     : Bool := false
  waiting  : Bool := false
  builtins : List (Nat × List Nat) := []
  inputs   : List (Nat × Nat × Nat) := []    -- location, component, bits
  deriving DecidableEq, Repr

/-- A stage of a packet: the module and its entry point, whose owner and entries, the push constants' bytes, the packet's free
value, and the slots of packed tiles that the job renders to. -/
structure Stage where
  m        : Module
  entry    : SInst
  model    : Nat
  owner    : Nat
  entries  : List Entry
  push     : List Byte
  k        : Nat
  rendered : List Nat
  deriving DecidableEq, Repr

/-- What invocations share: the device, workgroup memory (by workgroup and variable), and how many free numbers were drawn. -/
structure World where
  dev    : Dev
  shared : Tab (List Nat) := []
  draws  : Nat := 0
  halt   : Option Nat := none
  deriving DecidableEq, Repr

/-- The free numbers of the step in hand. -/
def Stage.free (st : Stage) (w : World) (i : Nat) : Nat := Config.freeIn st.k w.draws i

/-! ### Operands -/

/-- The entry of a binding, of one of the types of Table 9-3. -/
def Stage.entryOf (st : Stage) (set binding : Nat) (kinds : List Nat) : Option Entry :=
  st.entries.find? (fun e => e.set == set && e.binding == binding && kinds.contains e.kind)

/-- The pointer that a variable is. -/
def Stage.varPtr (st : Stage) (v : SInst) : Ptr :=
  { storage := v.storage, var := v.id, set := st.m.decoNat v.id 34, binding := st.m.decoNat v.id 33
    place := { ty := st.m.pointee v } }

/-- The value of a result: of this invocation, of a constant, of a variable of the module, or undefined. -/
def Stage.value (st : Stage) (w : World) (v : Invocation) (id : Nat) : Val :=
  match tabGet (.data []) v.env id with
  | .data [] =>
    let i := st.m.find id
    if i.op = 59 then .ptr (st.varPtr i)
    else if i.op = 1 then .data ((List.range (st.m.leaves i.ty)).map (fun k => st.free w k % 2 ^ (st.m.scalar i.ty).width))
    else .data (st.m.constOf id)
  | x => x

def Stage.data (st : Stage) (w : World) (v : Invocation) (id : Nat) : List Nat := (st.value w v id).leaves
def Stage.num (st : Stage) (w : World) (v : Invocation) (id : Nat) : Nat := (st.data w v id).headD 0
def Stage.pointer (st : Stage) (w : World) (v : Invocation) (id : Nat) : Ptr :=
  match st.value w v id with
  | .ptr p => p
  | _ => { outside := true }

/-- The variable's content before anything is stored: free values. -/
def Stage.undefinedLeaves (st : Stage) (w : World) (t : Nat) : List Nat :=
  ((st.m.scalars t).zip (List.range (st.m.leaves t))).map (fun s => st.free w s.2 % 2 ^ s.1.width)

/-! ### Access chains -/

/-- One index of an access chain: an element of an array of descriptors, a part of what a buffer holds, or leaves. -/
def Stage.chainStep (st : Stage) (p : Ptr) (k : Nat) : Ptr :=
  let t := st.m.find p.place.ty
  if [0, 2, 12].contains p.storage ∧ t.op = 28 ∧ p.place.ty = st.m.pointee (st.m.find p.var) then
    { p with binding := p.binding + k, place := { ty := t.arg 0 }, outside := p.outside || decide (st.m.parts p.place.ty ≤ k) }
  else if [2, 9, 12].contains p.storage then { p with place := st.m.placePart p.place k }
  else
    let (ty, n) := st.m.part p.place.ty k
    { p with place := { ty := ty }, leaf := p.leaf + n, outside := p.outside || decide (st.m.parts p.place.ty ≤ k) }

/-! ### Loads and stores -/

/-- Leaves of a buffer (R170): outside the entry's range they read 0. -/
def Dev.loadBuffer (d : Dev) (o : Nat) (e : Entry) : List (Nat × Nat) → Got (List Nat)
  | [] => (.ok [], d)
  | (off, n) :: rest =>
    let one : Got Nat :=
      if e.length < off + n then (.ok 0, d)
      else match d.gpuRead o (e.base + off) n with
        | (.ok b, d) => (.ok (leNat b), d)
        | (r, d) => (.error (gpuHalt r), d)
    andThen one (fun v d => andThen (d.loadBuffer o e rest) (fun vs d => (.ok (v :: vs), d)))

/-- Leaves stored to a buffer; those outside the entry's range are discarded (R170). -/
def Dev.storeBuffer (d : Dev) (o : Nat) (e : Entry) (ls : List ((Nat × Nat) × Nat)) : Got Unit :=
  ls.foldl (fun (g : Got Unit) l => andThen g (fun _ d =>
    if e.length < l.1.1 + l.1.2 then (.ok (), d)
    else
      let (ok, d) := d.gpuWrite o (e.base + l.1.1) (leBytes l.1.2 l.2)
      (if ok then .ok () else .error 0x31, d))) (.ok (), d)

/-- The place of a texel of a storage image. -/
def texelPlace (e : Entry) (xy : Nat × Nat) : Option Nat :=
  e.surface.bind (fun s => if s.width ≤ xy.1 ∨ s.height ≤ xy.2 then none
    else some (s.base + xy.2 * s.pitch + xy.1 * formatBpp s.format))

/-- A workgroup variable's place in what is shared. -/
def sharedKey (v : Invocation) (var : Nat) : Nat := v.group * 2 ^ 32 + var

/-- The whole content of a variable that is no buffer. -/
def Stage.content (st : Stage) (w : World) (v : Invocation) (p : Ptr) : List Nat :=
  let l := if p.storage = 4 then tabGet [] w.shared (sharedKey v p.var) else tabGet [] v.mem p.var
  if l.isEmpty then st.undefinedLeaves w (st.m.pointee (st.m.find p.var)) else l

/-- A load. -/
def Stage.load (st : Stage) (w : World) (v : Invocation) (p : Ptr) : Got (List Nat) :=
  let n := st.m.leaves p.place.ty
  if p.outside then
    (.ok (if p.storage = 2 ∨ p.storage = 12 then List.replicate n 0 else st.undefinedLeaves w p.place.ty), w.dev)
  else match p.storage with
    | 2 | 12 =>
      match st.entryOf p.set p.binding [1, 2] with
      | some e => w.dev.loadBuffer st.owner e (st.m.layout p.place)
      | none => (.ok (List.replicate n 0), w.dev)
    | 9 => (.ok ((st.m.layout p.place).map (fun l => field st.push l.1 l.2)), w.dev)
    | _ => (.ok (((st.content w v p).drop p.leaf).take n), w.dev)

/-- A store; a helper invocation writes nothing, and neither does a store beyond an array. -/
def Stage.store (st : Stage) (w : World) (v : Invocation) (p : Ptr) (xs : List Nat) : World × Invocation :=
  if p.outside then (w, v)
  else match p.storage with
    | 12 =>
      if v.helper then (w, v)
      else match st.entryOf p.set p.binding [2] with
        | none => (w, v)
        | some e =>
          match w.dev.storeBuffer st.owner e ((st.m.layout p.place).zip xs) with
          | (.ok _, d) => ({ w with dev := d }, v)
          | (.error s, d) => ({ w with dev := d, halt := some s }, v)
    | 2 | 9 => (w, v)
    | _ =>
      let old := st.content w v p
      let new := old.take p.leaf ++ xs ++ old.drop (p.leaf + xs.length)
      if p.storage = 4 then ({ w with shared := tabSet [] w.shared (sharedKey v p.var) new }, v)
      else (w, { v with mem := tabSet [] v.mem p.var new })

/-! ### Going on -/

/-- The next instruction. -/
def Invocation.next (v : Invocation) : Invocation := { v with pc := v.pc + 1 }

/-- A result is set, and the next instruction follows. -/
def Invocation.set (v : Invocation) (i : SInst) (x : Val) : Invocation := { v with env := tabSet (.data []) v.env i.id x, pc := v.pc + 1 }

/-- What a device operation answers becomes the result; a halt ends the packet. -/
def setGot (w : World) (v : Invocation) (i : SInst) (g : Got (List Nat)) : World × Invocation :=
  match g with
  | (.ok xs, d) => ({ w with dev := d }, v.set i (.data xs))
  | (.error s, d) => ({ w with dev := d, halt := some s }, v)

/-- The position of the instruction that has a result. -/
def Module.position (m : Module) (id : Nat) : Nat := (m.insts.findIdx? (fun i => i.id == id)).getD m.insts.length

/-- A branch: the phis of the block take their values together. -/
def Stage.jump (st : Stage) (w : World) (v : Invocation) (target : Nat) : Invocation :=
  let at_ := st.m.position target + 1
  let phis := (st.m.insts.drop at_).takeWhile (fun i => [8, 245, 317].contains i.op)
  let pick (i : SInst) : Nat :=
    (((columnsOf 2 i.args).find? (fun p => p.getD 1 0 == v.block)).getD []).headD 0
  let env := (phis.filter (fun i => i.op == 245)).foldl
    (fun e i => tabSet (.data []) e i.id (st.value w v (pick i))) v.env
  { v with env := env, block := target, pc := at_ + phis.length }

/-- The target of a switch: a literal of the selector's width, or the default. -/
def Stage.switchTarget (st : Stage) (i : SInst) (sel : Nat) : Nat :=
  let n := if (st.m.scalar (st.m.typeOf (i.arg 0))).width = 64 then 3 else 2
  let mask := 2 ^ (st.m.scalar (st.m.typeOf (i.arg 0))).width
  match (columnsOf n (i.args.drop 2)).find? (fun c => (leNat32 (c.take (n - 1))) % mask == sel) with
  | some c => c.getD (n - 1) 0
  | none => i.arg 1
where
  leNat32 (ws : List Nat) : Nat := ws.foldr (fun x acc => x + 2 ^ 32 * acc) 0

/-- A call: the parameters take the arguments. -/
def Stage.call (st : Stage) (w : World) (v : Invocation) (i : SInst) : Invocation :=
  let at_ := st.m.position (i.arg 0) + 1
  let ps := (st.m.insts.drop at_).takeWhile (fun i => [8, 55, 317].contains i.op)
  let env := ((ps.filter (fun p => p.op == 55)).zip (i.args.drop 1)).foldl
    (fun e p => tabSet (.data []) e p.1.id (st.value w v p.2)) v.env
  { v with env := env, calls := (v.pc, v.block) :: v.calls, pc := at_ + ps.length }

/-- A return, from a function or from the entry point. -/
def Stage.ret (st : Stage) (v : Invocation) (x : Option Val) : Invocation :=
  match v.calls with
  | [] => { v with done := true }
  | (pc, block) :: rest =>
    let v := { v with calls := rest, block := block, pc := pc }
    match x with
    | some x => v.set (st.m.insts.getD pc {}) x
    | none => v.next

/-! ### Atomics (R170, R184) -/

/-- What an atomic operation stores over a value: `x` is its operand, `y` the comparator. -/
def atomicNew (op w old x y : Nat) : Option Nat :=
  let s := asSigned w
  match op with
  | 227 => none
  | 228 | 229 => some x
  | 230 => if old = y then some x else none
  | 232 => some ((old + 1) % 2 ^ w)
  | 233 => some ((old + 2 ^ w - 1) % 2 ^ w)
  | 234 => some ((old + x) % 2 ^ w)
  | 235 => some ((old + 2 ^ w - x) % 2 ^ w)
  | 236 => some (if s x < s old then x else old)
  | 237 => some (min x old)
  | 238 => some (if s old < s x then x else old)
  | 239 => some (max x old)
  | 240 => some (old &&& x)
  | 241 => some (old ||| x)
  | _ => some (old ^^^ x)

/-- The bytes of memory that an atomic on a buffer or an image works on: none outside the range. -/
def Stage.atomicPlace (st : Stage) (p : Ptr) (n : Nat) : Option Nat :=
  if p.outside then none
  else match p.texel with
    | some xy => (st.entryOf p.set p.binding [4]).bind (fun e => texelPlace e xy)
    | none => (st.entryOf p.set p.binding [2]).bind (fun e => if e.length < p.place.off + n then none else some (e.base + p.place.off))

/-- An atomic operation on a pointer: the old value, and the new one stored. A helper invocation changes nothing. -/
def Stage.atomic (st : Stage) (w : World) (v : Invocation) (i : SInst) : World × Invocation :=
  let ptrAt := 0
  let p := st.pointer w v (i.arg ptrAt)
  let ty := st.m.scalar p.place.ty
  let bitsOf := ty.width
  let x := st.num w v (i.arg (if i.op = 230 then 4 else 3))
  let y := st.num w v (i.arg 5)
  let answer (w : World) (old : Nat) : World × Invocation := (w, if i.id = 0 then v.next else v.set i (.data [old]))
  if p.storage = 12 ∨ p.storage = 11 then
    match st.atomicPlace p (bitsOf / 8) with
    | none => answer w 0
    | some a =>
      match w.dev.gpuRead st.owner a (bitsOf / 8) with
      | (.ok b, d) =>
        let old := leNat b
        match (if v.helper then none else atomicNew i.op bitsOf old x y) with
        | none => answer { w with dev := d } old
        | some new =>
          let (ok, d) := d.gpuWrite st.owner a (leBytes (bitsOf / 8) new)
          if ok then answer { w with dev := d } old else ({ w with dev := d, halt := some 0x31 }, v)
      | (r, d) => ({ w with dev := d, halt := some (gpuHalt r) }, v)
  else
    let old := (((st.content w v p).drop p.leaf).headD 0)
    let (w, v') := match atomicNew i.op bitsOf old x y with
      | none => (w, v)
      | some new => st.store w v p [new]
    (w, if i.id = 0 then v'.next else v'.set i (.data [old]))

/-! ### Images -/

/-- The optional operands of an image instruction, from its mask on. -/
structure ImageOps where
  bias  : Option Nat := none
  lod   : Option Nat := none
  gradX : Nat := 0
  gradY : Nat := 0
  grad  : Bool := false
  off   : Option Nat := none
  deriving DecidableEq, Repr

def imageOps (i : SInst) : ImageOps :=
  let rest := i.args.drop (imageMaskAt i.op)
  let mask := rest.headD 0
  let n0 := 1
  let n1 := n0 + boolNat (mask.testBit 0)
  let n2 := n1 + boolNat (mask.testBit 1)
  let n3 := n2 + 2 * boolNat (mask.testBit 2)
  { bias := if mask.testBit 0 then rest[n0]? else none, lod := if mask.testBit 1 then rest[n1]? else none
    grad := mask.testBit 2, gradX := rest.getD n2 0, gradY := rest.getD (n2 + 1) 0
    off := if mask.testBit 3 then rest[n3]? else none }

/-- A coordinate as a number; one that is not finite is a free value. -/
def coordRat (w v f : Nat) : Rat := ((Fp.ofBits w v).rat).getD ((f % 65536 : Nat) / 65536)

/-- The first two coordinates, divided by the last one where the instruction projects. -/
def Stage.coords (st : Stage) (w : World) (v : Invocation) (i : SInst) : Rat × Rat :=
  let t := st.m.scalar (st.m.typeOf (i.arg 1))
  let xs := st.data w v (i.arg 1)
  let c (k : Nat) : Rat := coordRat t.width (xs.getD k 0) (st.free w (1000 + k))
  let q := if 91 ≤ i.op ∧ i.op ≤ 94 then c 2 else 1
  if q = 0 then (coordRat 32 0x7F800000 (st.free w 1003), coordRat 32 0x7F800000 (st.free w 1004)) else (c 0 / q, c 1 / q)

/-- What a sampled image samples: none when its entries are not there. -/
def Stage.sampled (st : Stage) (w : World) (v : Invocation) (id : Nat) : Option Sampled :=
  match st.value w v id with
  | .image img smp =>
    match (st.entryOf img.1 img.2 [3, 6]).bind (fun e => e.surface), st.entryOf smp.1 smp.2 [5, 6] with
    | some s, some e =>
      some { owner := st.owner, surface := s, word := e.sampler
             rendered := match s.pts with | some p => st.rendered.contains p.slots | none => st.rendered.contains s.base }
    | _, _ => none
  | _ => none

/-- The integer offset of a sample. -/
def Stage.offset (st : Stage) (w : World) (v : Invocation) (o : ImageOps) : Int × Int :=
  match o.off with
  | some id => let xs := st.data w v id; (asSigned 32 (xs.getD 0 0), asSigned 32 (xs.getD 1 0))
  | none => (0, 0)

/-- Components of a sample as its result type takes them: a compare gives one. -/
def Stage.texelResult (st : Stage) (i : SInst) (c : List Fp) : List Nat :=
  (c.take (st.m.leaves i.ty)).map (fun x => x.toBits (st.m.scalar i.ty).width)

/-- A sample (R177, R178): with a footprint, or with the level of detail that the instruction gives. Whether the compare of the
sampler word fits the instruction is the shader's concern; where it does not, the sample is a free value. -/
def Stage.sample (st : Stage) (w : World) (v : Invocation) (i : SInst) (foot : Footprint) : World × Invocation :=
  let o := imageOps i
  let f (k : Nat) : Nat := st.free w k
  let compare := [89, 90, 93, 94, 97].contains i.op
  let undefined := setGot w v i (.ok (st.undefinedLeaves w i.ty), w.dev)
  match st.sampled w v (i.arg 0) with
  | none => undefined
  | some t =>
    if swCompare t.word != compare then undefined
    else
      let (u, y) := st.coords w v i
      let ref : Option Fp := if compare then some (Fp.of32 (st.num w v (i.arg 2))) else none
      let off := st.offset w v o
      let fix (id : Nat) : Int := (coordRat (st.m.scalar (st.m.typeOf id)).width (st.num w v id) (f 1005) * 256).floor
      let grad (id : Nat) : Rat × Rat :=
        let xs := st.data w v id
        let n := (st.m.scalar (st.m.typeOf id)).width
        (coordRat n (xs.getD 0 0) (f 1006) * (t.surface.width : Rat), coordRat n (xs.getD 1 0) (f 1007) * (t.surface.height : Rat))
      let got : Got (List Fp) :=
        if i.op = 96 ∨ i.op = 97 then
          w.dev.gather t ref (if i.op = 96 then st.num w v (i.arg 2) else 0) u y off f
        else match o.lod with
          | some id => w.dev.sampleLod t ref u y (fix id) off f
          | none =>
            let foot := if o.grad then { dux := (grad o.gradX).1, dvx := (grad o.gradX).2
                                         duy := (grad o.gradY).1, dvy := (grad o.gradY).2 : Footprint } else foot
            w.dev.sampleFootprint t ref u y foot ((o.bias.map fix).getD 0) off f
      setGot w v i (andThen got (fun c d => (.ok (st.texelResult i c), d)))

/-- The texel that integer coordinates name: of a buffer, texel i in rows (DESIGN CHOICE, assumption log 34). -/
def Stage.texelAt (st : Stage) (w : World) (v : Invocation) (s : Surface) (id : Nat) : Nat × Nat :=
  let xs := st.data w v id
  if xs.length = 1 then (xs.headD 0 % max 1 s.width, xs.headD 0 / max 1 s.width) else (xs.getD 0 0, xs.getD 1 0)

/-- The surface and the sampled type of an image operand. -/
def Stage.imageOf (st : Stage) (w : World) (v : Invocation) (id : Nat) : Option Surface :=
  match st.value w v id with
  | .image img _ => (st.entryOf img.1 img.2 [3, 4, 6]).bind (fun e => e.surface)
  | _ => none

/-- Instructions on images without a sampler. -/
def Stage.imageInst (st : Stage) (w : World) (v : Invocation) (i : SInst) : World × Invocation :=
  match st.imageOf w v (i.arg 0) with
  | none => if i.id = 0 then (w, v.next) else setGot w v i (.ok (st.undefinedLeaves w i.ty), w.dev)
  | some s =>
    match i.op with
    | 95 | 98 =>
      let (x, y) := st.texelAt w v s (i.arg 1)
      let level := ((imageOps i).lod.map (st.num w v)).getD 0
      if st.rendered.contains s.base then setGot w v i (.ok (st.undefinedLeaves w i.ty), w.dev)
      else setGot w v i (andThen (w.dev.fetchTexel st.owner s (st.m.scalar i.ty) level x y)
        (fun c d => (.ok (c.take (st.m.leaves i.ty)), d)))
    | 99 =>
      if v.helper then (w, v.next)
      else
        let (x, y) := st.texelAt w v s (i.arg 1)
        match w.dev.storeTexel st.owner s (st.m.scalar (st.m.typeOf (i.arg 2))) x y (st.data w v (i.arg 2)) with
        | (.ok _, d) => ({ w with dev := d }, v.next)
        | (.error e, d) => ({ w with dev := d, halt := some e }, v)
    | 103 =>
      let (x, y) := s.sizeAt (st.num w v (i.arg 1))
      (w, v.set i (.data [x, y]))
    | 104 => (w, v.set i (.data (if st.m.leaves i.ty = 1 then [s.width * s.height] else [s.width, s.height])))
    | _ => (w, v.set i (.data [s.mips]))

/-- The pointer to a texel. -/
def Stage.texelPtr (st : Stage) (w : World) (v : Invocation) (i : SInst) : Ptr :=
  let p := st.pointer w v (i.arg 0)
  let s := ((st.entryOf p.set p.binding [4]).bind (fun e => e.surface)).getD {}
  { p with storage := 11, place := { ty := (st.m.find i.ty).arg 1 }, texel := some (st.texelAt w v s (i.arg 1)) }

/-- A load of an opaque variable: an image, a sampler, or both. -/
def Stage.loadOpaque (p : Ptr) : Val := .image (p.set, p.binding) (p.set, p.binding)

/-! ### One instruction -/

/-- An add of a product: fused (R183), unless one of the two results is decorated NoContraction. -/
def Stage.fusedAdd (st : Stage) (w : World) (v : Invocation) (i : SInst) : Option (List Nat) :=
  let product (id : Nat) : Option SInst :=
    let q := st.m.find id
    if q.op = 133 ∧ (st.m.deco id 42).isNone ∧ (st.m.deco i.id 42).isNone then some q else none
  let width := (st.m.scalar i.ty).width
  let fuse (q : SInst) (other : Nat) : List Nat :=
    let a := st.data w v (q.arg 0)
    let b := st.data w v (q.arg 1)
    let c := st.data w v other
    (List.range (st.m.leaves i.ty)).map (fun k =>
      (mulAdd width true (Fp.ofBits width (comp a k)) (Fp.ofBits width (comp b k)) (Fp.ofBits width (comp c k))).toBits width)
  match product (i.arg 0), product (i.arg 1) with
  | some q, some r => some (if st.free w 0 % 2 = 0 then fuse q (i.arg 1) else fuse r (i.arg 0))
  | some q, none => some (fuse q (i.arg 1))
  | none, some r => some (fuse r (i.arg 0))
  | none, none => none

/-- An instruction of GLSL.std.450; two of them store through a pointer. -/
def Stage.extInst (st : Stage) (w : World) (v : Invocation) (i : SInst) : World × Invocation :=
  let ids := i.args.drop 2
  let a := st.m.scalar (st.m.typeOf (ids.headD 0))
  let n := st.m.leaves i.ty
  let run (g : Nat) : List Nat := glslOp g a n (ids.map (st.data w v)) (st.free w)
  let halves (g : Nat) : World × Invocation :=
    let xs := run g
    let (w, v) := st.store w v (st.pointer w v (ids.getD 1 0)) (xs.drop n)
    (w, v.set i (.data (xs.take n)))
  match i.arg 1 with
  | 35 => halves 36
  | 51 => halves 52
  | g => (w, v.set i (.data (run g)))

/-- Operations that a subgroup, a quad or a workgroup makes together. A footprint needs a quad only in a fragment shader. -/
def implicitLod (op : Nat) : Bool := [87, 89, 91, 93, 105].contains op
def Stage.collective (st : Stage) (op : Nat) : Bool :=
  op == 224 || (207 ≤ op && op ≤ 215) || (333 ≤ op && op ≤ 366) || (implicitLod op && st.model == 4)

/-- An invocation executes the instruction where it stands. -/
def Stage.execute (st : Stage) (w : World) (v : Invocation) (i : SInst) : World × Invocation :=
  let num (k : Nat) : Nat := st.num w v (i.arg k)
  let dat (k : Nat) : List Nat := st.data w v (i.arg k)
  let result (xs : List Nat) : World × Invocation := (w, v.set i (.data xs))
  match i.op with
  | 12 => st.extInst w v i
  | 57 => (w, st.call w v i)
  | 59 =>
    let init := if i.args.length = 2 then st.m.constOf (i.arg 1) else st.undefinedLeaves w (st.m.pointee i)
    (w, { v with mem := tabSet [] v.mem i.id init }.set i (.ptr (st.varPtr i)))
  | 60 => (w, v.set i (.ptr (st.texelPtr w v i)))
  | 61 =>
    let p := st.pointer w v (i.arg 0)
    if p.storage = 0 then (w, v.set i (Stage.loadOpaque p)) else setGot w v i (st.load w v p)
  | 62 => let (w, v) := st.store w v (st.pointer w v (i.arg 0)) (dat 1); (w, v.next)
  | 63 =>
    match st.load w v (st.pointer w v (i.arg 1)) with
    | (.ok xs, d) => let (w, v) := st.store { w with dev := d } v (st.pointer w v (i.arg 0)) xs; (w, v.next)
    | (.error e, d) => ({ w with dev := d, halt := some e }, v)
  | 65 | 66 =>
    (w, v.set i (.ptr ((i.args.drop 1).foldl (fun p id => st.chainStep p (st.num w v id)) (st.pointer w v (i.arg 0)))))
  | 68 =>
    let p := st.pointer w v (i.arg 0)
    let q := st.m.placePart p.place (i.arg 1)
    let len := ((st.entryOf p.set p.binding [1, 2]).map (fun e => e.length)).getD 0
    result [(len - q.off) / max 1 (st.m.decoNat q.ty 6)]
  | 79 => result (shuffle (dat 0) (dat 1) (i.args.drop 2) (st.free w))
  | 81 => result (st.m.extracted (st.m.typeOf (i.arg 0)) (i.args.drop 1) (dat 0))
  | 82 => result (st.m.inserted i.ty (i.args.drop 2) (dat 0) (dat 1))
  | 83 => (w, v.set i (st.value w v (i.arg 0)))
  | 86 =>
    match st.value w v (i.arg 0), st.value w v (i.arg 1) with
    | .image img _, .image _ smp => (w, v.set i (.image img smp))
    | x, _ => (w, v.set i x)
  | 100 => (w, v.set i (st.value w v (i.arg 0)))
  | 129 =>
    result ((st.fusedAdd w v i).getD
      (((st.m.valueOp 129 i.ty (i.args.map st.m.typeOf) (i.args.map (st.data w v)) false (st.free w))).getD []))
  | 105 => result ((st.undefinedLeaves w i.ty))
  | 249 => (w, st.jump w v (i.arg 0))
  | 250 => (w, st.jump w v (if num 0 = 0 then i.arg 2 else i.arg 1))
  | 251 => (w, st.jump w v (st.switchTarget i (num 0)))
  | 252 | 4416 => (w, { v with killed := true, done := true })
  | 253 => (w, st.ret v none)
  | 254 => (w, st.ret v (some (st.value w v (i.arg 0))))
  | 255 => (w, { v with done := true })
  | 248 => (w, { v with block := i.id }.next)
  | 5380 => (w, { v with helper := true, killed := true }.next)
  | op =>
    if (87 ≤ op ∧ op ≤ 94) ∨ op = 96 ∨ op = 97 then st.sample w v i { dux := 0, dvx := 0, duy := 0, dvy := 0 }
    else if [95, 98, 99, 103, 104, 106].contains op then st.imageInst w v i
    else if 227 ≤ op ∧ op ≤ 242 then st.atomic w v i
    else if typedOps.contains op then
      result ((st.m.valueOp op i.ty (i.args.map st.m.typeOf) (i.args.map (st.data w v)) (st.m.deco i.id 42).isSome
        (st.free w)).getD (st.undefinedLeaves w i.ty))
    else (w, v.next)

/-! ### What invocations do together -/

/-- The value of the invocation in a lane of the subgroup; a free value where there is none. -/
def atLane (ps : List (Invocation × List Nat)) (lane : Nat) (free : List Nat) : List Nat :=
  ((ps.find? (fun p => p.1.lane == lane)).map (·.2)).getD free

/-- The operation that a group operation folds with, as a core instruction or one of GLSL.std.450, and its identity. -/
def foldStep (op : Nat) (s : Scalar) (a b : Nat) : Nat :=
  let core (n : Nat) : Nat := scalarOp n s s a b 0 0 0
  let glsl (n : Nat) : Nat := glslScalar n s a b 0 0
  match op with
  | 349 => core 128
  | 350 => core 129
  | 351 => core 132
  | 352 => core 133
  | 353 => glsl 39
  | 354 => glsl 38
  | 355 => glsl 37
  | 356 => glsl 42
  | 357 => glsl 41
  | 358 => glsl 40
  | 359 => core 199
  | 360 => core 197
  | 361 => core 198
  | 362 => core 167
  | 363 => core 166
  | _ => core 165
def foldIdentity (op : Nat) (s : Scalar) : Nat :=
  let w := s.width
  match op with
  | 351 => 1
  | 352 => (fp1).toBits w
  | 353 => 2 ^ (w - 1) - 1
  | 354 => 2 ^ w - 1
  | 355 => (Fp.inf false).toBits w
  | 356 => 2 ^ (w - 1)
  | 358 => (Fp.inf true).toBits w
  | 359 => 2 ^ w - 1
  | 362 => 1
  | _ => 0

/-- A mask over the lanes for which a test holds. -/
def laneMask (ps : List (Invocation × List Nat)) (p : List Nat → Bool) : Nat :=
  ps.foldl (fun m x => if p x.2 then m + 2 ^ x.1.lane else m) 0

/-- The lanes of a mask that a group operation of bit count takes: all, up to a lane, or before it. -/
def countLanes (operation lane mask : Nat) : Nat :=
  match operation with
  | 0 => bitCount 32 mask
  | 1 => bitCount (lane + 1) mask
  | _ => bitCount lane mask

/-- What one invocation gets from an operation of its subgroup. `ps` holds the invocations that take part, by lane, each with
the leaves of the value operand; `x` is the last operand's first leaf of this one. Sums go in lane order (DESIGN CHOICE,
assumption log 33). -/
def Stage.groupResult (st : Stage) (w : World) (i : SInst) (ps : List (Invocation × List Nat)) (v : Invocation)
    (own : List Nat) (x : Nat) : List Nat :=
  let free := st.undefinedLeaves w i.ty
  let first := (ps.head?.map (fun p => p.2)).getD free
  match i.op with
  | 333 => [boolNat ((ps.head?.map (fun p => p.1.lane)) == some v.lane)]
  | 334 => [boolNat (ps.all (fun p => p.2 != [0]))]
  | 335 => [boolNat (ps.any (fun p => p.2 != [0]))]
  | 336 => [boolNat (ps.all (fun p => p.2 == first))]
  | 337 => atLane ps x free
  | 338 => first
  | 339 => [laneMask ps (fun l => l != [0]), 0, 0, 0]
  | 340 => [boolNat ((own.headD 0).testBit v.lane)]
  | 341 => [boolNat (((own.zip [0, 32, 64, 96]).foldl (fun (acc : Nat) (p : Nat × Nat) => acc + p.1 * 2 ^ p.2) 0).testBit x)]
  | 342 => [countLanes (i.arg 1) v.lane (own.headD 0)]
  | 343 => [lowBit 32 (own.headD 0)]
  | 344 => [highBit 32 (own.headD 0) true]
  | 345 => atLane ps x free
  | 346 => atLane ps (v.lane ^^^ x) free
  | 347 => if v.lane < x then free else atLane ps (v.lane - x) free
  | 348 => atLane ps (v.lane + x) free
  | 365 => atLane ps (v.lane / 4 * 4 + x % 4) free
  | 366 => atLane ps (v.lane ^^^ (x % 3 + 1)) free
  | op =>
    let s := st.m.scalar i.ty
    let part := match i.arg 1 with
      | 0 => ps
      | 1 => ps.filter (fun p => p.1.lane ≤ v.lane)
      | _ => ps.filter (fun p => p.1.lane < v.lane)
    match part with
    | [] => List.replicate (st.m.leaves i.ty) (foldIdentity op s)
    | p :: rest => rest.foldl (fun acc q => (acc.zip q.2).map (fun c => foldStep op s c.1 c.2)) p.2

/-- The difference of an operand along a row (or column) of a quad: of this invocation's own row, or of either. -/
def Stage.difference (st : Stage) (w : World) (ps : List (Invocation × List Nat)) (v : Invocation) (alongY fine : Bool)
    (width : Nat) (free : List Nat) : List Nat :=
  let base := v.lane / 4 * 4
  let q := v.lane % 4
  let other := if fine then (if alongY then q % 2 else q / 2) else st.free w 1100 % 2
  let (a, b) := if alongY then (other, other + 2) else (2 * other, 2 * other + 1)
  let get (k : Nat) : List Nat := atLane ps (base + k) free
  ((get b).zip (get a)).map (fun p => subF width p.1 p.2)

/-- The derivatives of an operand. -/
def Stage.derivative (st : Stage) (w : World) (i : SInst) (ps : List (Invocation × List Nat)) (v : Invocation) : List Nat :=
  let n := (st.m.scalar i.ty).width
  let free := st.undefinedLeaves w i.ty
  let fine := 210 ≤ i.op && i.op ≤ 212
  let dif (alongY : Bool) : List Nat := st.difference w ps v alongY fine n free
  let mag (x : Nat) : Nat := (Fp.ofBits n (x % 2 ^ (n - 1))).toBits n
  match (i.op - 207) % 3 with
  | 0 => dif false
  | 1 => dif true
  | _ => ((dif false).zip (dif true)).map (fun p => addF n (mag p.1) (mag p.2))

/-- The footprint of a pixel from the coordinates of its quad. -/
def Stage.footprint (st : Stage) (w : World) (i : SInst) (ps : List (Invocation × List Nat)) (v : Invocation) : Footprint :=
  let n := (st.m.scalar (st.m.typeOf (i.arg 1))).width
  let size : Rat × Rat := match st.sampled w v (i.arg 0) with
    | some t => ((t.surface.width : Rat), (t.surface.height : Rat))
    | none => (1, 1)
  let project (xs : List Nat) : List Nat :=
    if 91 ≤ i.op ∧ i.op ≤ 94 then xs.map (fun c => divF n c (xs.getD 2 0) (st.free w 1101)) else xs
  let ps := ps.map (fun p => (p.1, project p.2))
  let free := (List.range 2).map (fun k => st.free w (1102 + k) % 2 ^ n)
  let d (alongY : Bool) (k : Nat) : Rat :=
    coordRat n ((st.difference w ps v alongY false n free).getD k 0) (st.free w (1104 + k))
  { dux := d false 0 * size.1, dvx := d false 1 * size.2, duy := d true 0 * size.1, dvy := d true 1 * size.2 }

/-- OpImageQueryLod: the level that the clamp leaves, and the one before it. -/
def Stage.queryLod (st : Stage) (w : World) (i : SInst) (v : Invocation) (p : Footprint) : List Nat :=
  match st.sampled w v (i.arg 0) with
  | none => st.undefinedLeaves w i.ty
  | some t =>
    let (_, major, minor) := p.axes
    let lod := p.lod (probeCount t.word major minor) (st.free w 0)
    let last : Int := 256 * ((t.surface.mips - 1 : Nat) : Int)
    let show_ (x : Int) : Nat := ratBits 32 ((x : Rat) / 256)
    [show_ (max 0 (min last (clampLod t.word lod 0))), show_ (lod + swBias t.word)]

/-- Which operand of an operation the others of its group read, and which one is the invocation's own index. -/
def valueOperand (op : Nat) : Nat :=
  if 207 ≤ op ∧ op ≤ 215 then 0
  else if implicitLod op then 1
  else if (349 ≤ op ∧ op ≤ 364) ∨ op = 342 then 2
  else 1

/-- Which invocations wait with another one: those of its subgroup, of its quad, or of its workgroup. -/
def Stage.together (st : Stage) (i : SInst) (a b : Invocation) : Bool :=
  if (207 ≤ i.op ∧ i.op ≤ 215) ∨ implicitLod i.op then a.sub == b.sub && a.lane / 4 == b.lane / 4
  else if i.op = 224 ∧ st.m.constNat (i.arg 0) = 2 then a.group == b.group
  else a.sub == b.sub

/-- One invocation of a group gets its part. -/
def Stage.collect (st : Stage) (i : SInst) (ps : List (Invocation × List Nat)) (w : World) (v : Invocation) :
    World × Invocation :=
  let v := { v with waiting := false }
  let own := st.data w v (i.arg (valueOperand i.op))
  if i.op = 224 then (w, v.next)
  else if 207 ≤ i.op ∧ i.op ≤ 215 then (w, v.set i (.data (st.derivative w i ps v)))
  else if i.op = 105 then (w, v.set i (.data (st.queryLod w i v (st.footprint w i ps v))))
  else if implicitLod i.op then st.sample w v i (st.footprint w i ps v)
  else (w, v.set i (.data (st.groupResult w i ps v own (st.num w v (i.arg 2)))))

/-! ### Running -/

/-- The invocations of a stage, and what they share. -/
structure Pool where
  world : World
  invs  : List Invocation
  deriving DecidableEq, Repr

/-- The least position at which an invocation waits. -/
def leastWaiting (vs : List Invocation) : Option Invocation :=
  vs.foldl (fun best v =>
    if !v.waiting || v.done then best
    else match best with
      | none => some v
      | some b => if v.pc < b.pc then some v else best) none

/-- No invocation can go on by itself: those that wait together at the least position do their operation. Which invocations meet
at an operation is SPIR-V's to say where control flow is uniform, and a choice elsewhere (DESIGN CHOICE, assumption log
33). -/
def Stage.meet (st : Stage) (p : Pool) (lead : Invocation) : Pool :=
  let i := st.m.insts.getD lead.pc {}
  let isPart (v : Invocation) : Bool := v.waiting && !v.done && v.pc == lead.pc && st.together i lead v
  let ps := (p.invs.filter isPart).map (fun v => (v, st.data p.world v (i.arg (valueOperand i.op))))
  let (w, invs) := p.invs.foldl (fun (acc : World × List Invocation) v =>
    if isPart v then
      let (w, v) := st.collect i ps acc.1 v
      ({ w with draws := w.draws + 1 }, v :: acc.2)
    else (acc.1, v :: acc.2)) (p.world, [])
  { world := w, invs := invs.reverse }

/-- One of a list, as a number chooses. -/
def oneOf {α : Type} (l : List α) (n : Nat) : Option α :=
  match l with
  | [x] => some x
  | l => l[n % l.length]?

/-- One step of a pool: an invocation that a free value chooses executes an instruction, or those that wait meet. None when all
are done, or a halt ended the packet. -/
def Stage.stepPool (st : Stage) (p : Pool) : Option Pool :=
  if p.world.halt.isSome then none
  else
    let w := { p.world with draws := p.world.draws + 1 }
    let ready := (p.invs.zip (List.range p.invs.length)).filter (fun v => !v.1.done && !v.1.waiting)
    match oneOf ready (st.free p.world 0) with
    | some (v, n) =>
      match st.m.insts[v.pc]? with
      | none => some { world := w, invs := p.invs.set n { v with done := true } }
      | some i =>
        if st.collective i.op then some { world := w, invs := p.invs.set n { v with waiting := true } }
        else
          let (w, v) := st.execute w v i
          some { world := { w with draws := w.draws + 1 }, invs := p.invs.set n v }
    | none => (leastWaiting p.invs).map (st.meet { p with world := w })

/-- A pool runs to its end; none when it has none within so many steps. -/
def Stage.run (st : Stage) : Nat → Pool → Option Pool
  | 0, _ => none
  | fuel + 1, p =>
    match st.stepPool p with
    | none => some p
    | some p => st.run fuel p

/-- More steps than any packet could make in a century. -/
def endless : Nat := 2 ^ 64

/-! ### Inputs and outputs -/

/-- The built-in that a variable, or a part of a block, is. -/
def Stage.builtinParts (st : Stage) (v : SInst) : List (Nat × Nat) :=
  match st.m.deco v.id 11 with
  | some l => [(l.headD 0, 0)]
  | none =>
    let t := st.m.pointee v
    (List.range (st.m.parts t)).filterMap (fun k => ((st.m.memberDeco t k 11).map (fun l => (l.headD 0, k))))

/-- The leaves of an input variable. -/
def Stage.inputLeaves (st : Stage) (w : World) (v : Invocation) (x : SInst) : List Nat :=
  let undefined := st.undefinedLeaves w (st.m.pointee x)
  match st.m.deco x.id 11 with
  | some l => ((v.builtins.find? (fun b => b.1 == l.headD 0)).map (fun b => b.2)).getD undefined
  | none =>
    ((st.m.slots x).zip undefined).map (fun s =>
      ((v.inputs.find? (fun i => i.1 == s.1.1 && i.2.1 == s.1.2.1)).map (fun i => i.2.2)).getD s.2)

/-- An invocation at the start of its entry point: module variables have their inputs or initial values. -/
def Stage.begin (st : Stage) (w : World) (v : Invocation) : Invocation :=
  let vars := st.m.insts.filter (fun i => i.op == 59 && [1, 3, 6].contains i.storage)
  let first (x : SInst) : List Nat :=
    if x.storage = 1 then st.inputLeaves w v x
    else if x.args.length = 2 then st.m.constOf (x.arg 1)
    else st.undefinedLeaves w (st.m.pointee x)
  let mem := vars.foldl (fun t x => tabSet [] t x.id (first x)) []
  { v with mem := mem, pc := st.m.position (st.entry.arg 1) + 1 }

/-- What an invocation leaves in its outputs: locations, components and bits. -/
def Stage.outputs (st : Stage) (v : Invocation) : List (Nat × Nat × Nat) :=
  (st.m.vars st.entry 3).flatMap (fun x =>
    ((st.m.slots x).zip (tabGet [] v.mem x.id)).map (fun s => (s.1.1, s.1.2.1, s.2)))

/-- What it leaves in a built-in output; none when the stage has no such output. -/
def Stage.builtinOut (st : Stage) (v : Invocation) (b : Nat) : Option (List Nat) :=
  (st.m.vars st.entry 3).findSome? (fun x =>
    ((st.builtinParts x).find? (fun p => p.1 == b)).map (fun p =>
      let l := tabGet [] v.mem x.id
      if (st.m.deco x.id 11).isSome then l else st.m.extracted (st.m.pointee x) [p.2] l))

/-- The stage has an output at a Location. -/
def Stage.hasOutput (st : Stage) (loc : Nat) : Bool :=
  (st.m.vars st.entry 3).any (fun x => (st.m.slots x).any (fun s => s.1 == loc))

/-- The masks over lanes that a subgroup's built-ins give. -/
def laneBuiltins (lane : Nat) : List (Nat × List Nat) :=
  let mask (p : Nat → Bool) : List Nat := [((List.range 32).filter p).foldl (fun m k => m + 2 ^ k) 0, 0, 0, 0]
  [(36, [32]), (41, [lane]), (4416, mask (· == lane)), (4417, mask (fun k => lane ≤ k)), (4418, mask (fun k => lane < k)),
   (4419, mask (· ≤ lane)), (4420, mask (· < lane))]

/-- A stage runs on invocations, in order in subgroups of 32. None when it never ends. -/
def Stage.runAll (st : Stage) (d : Dev) (vs : List Invocation) : Option Pool :=
  let w : World := { dev := d }
  st.run endless { world := w, invs := vs.map (st.begin w) }

end Sys2Proof.Machine
end

