-- ==== Sys2Proof/Machine/Shade.lean ====
section
/-! DEFINITION. Draws and dispatches (09): vertices, primitives and fragments through their shaders (R171, R173), and the pixel
output with its depth, stencil and blend stages (R172, R175, R176). -/

namespace Sys2Proof.Machine

/-- A step of a draw: the halt that it met, if any, and the device. -/
abbrev Halted := Option Nat × Dev

/-! ### The pixel output (R172, R173, R175) -/

/-- A colour target: its number, surface and blend word. -/
structure Target where
  n       : Nat
  surface : Surface
  blend   : Nat
  deriving DecidableEq, Repr

/-- A blend factor for channel `c` (Table 9-6). -/
def blendFactor (code c : Nat) (src dst const_ : List Fp) : Fp :=
  let at_ (l : List Fp) (n : Nat) : Fp := l.getD n fp0
  let inv (x : Fp) : Fp := fp1.add x.negate
  match code with
  | 0 => fp0
  | 1 => fp1
  | 2 => at_ src c
  | 3 => inv (at_ src c)
  | 4 => at_ dst c
  | 5 => inv (at_ dst c)
  | 6 => at_ src 3
  | 7 => inv (at_ src 3)
  | 8 => at_ dst 3
  | 9 => inv (at_ dst 3)
  | 10 => at_ const_ c
  | 11 => inv (at_ const_ c)
  | 12 => at_ const_ 3
  | 13 => inv (at_ const_ 3)
  | _ => if c = 3 then fp1 else (at_ src 3).min (inv (at_ dst 3))

/-- A blend op on one channel, each operation rounded to FP32; min and max ignore the factors. -/
def blendOp (op : Nat) (s d fs fd : Fp) : Fp :=
  match op with
  | 0 => (s.mul fs).add (d.mul fd)
  | 1 => (s.mul fs).add (d.mul fd).negate
  | 2 => (d.mul fd).add (s.mul fs).negate
  | 3 => s.min d
  | _ => s.max d

/-- A fragment's four channels over the target's. -/
def blendPixel (word : Nat) (src dst const_ : List Fp) : List Fp :=
  if !(word.testBit 31) then src
  else (List.range 4).map (fun c =>
    let s := src.getD c fp0
    let d := dst.getD c fp0
    if c < 3 then
      blendOp (bits word 24 3) s d (blendFactor (bits word 19 5) c src dst const_) (blendFactor (bits word 14 5) c src dst const_)
    else
      blendOp (bits word 11 3) s d (blendFactor (bits word 6 5) c src dst const_) (blendFactor (bits word 1 5) c src dst const_))

/-- The value that a target's pixel takes from a fragment's output. -/
def writtenPixel (f word old : Nat) (src const_ : List Fp) : Nat :=
  let cs := formatChannels f
  let get (c : Nat) : Fp := (cs.getD c .none).get (c == 3) old
  let out := blendPixel word src ((List.range 4).map get) const_
  (List.range 4).foldl (fun v c => if word.testBit (27 + c) then (cs.getD c .none).put v (out.getD c fp0) else v) old

/-- A stencil op (Table 9-6). -/
def stencilOp (op ref v : Nat) : Nat :=
  match op with
  | 0 => v
  | 1 => 0
  | 2 => ref % 256
  | 3 => min 255 (v + 1)
  | 4 => v - 1
  | 5 => 255 - v
  | 6 => (v + 1) % 256
  | _ => (v + 255) % 256

/-- The depth that a depth format stores for a value. -/
def depthBits (f v : Nat) (z : Fp) : Nat := if f = 0x18 then z.to32 else setBits v 0 24 (fpToUnorm (2 ^ 24 - 1) z)

/-- The depth and stencil tests of a fragment against the stored value: whether it passes, and the value afterwards. -/
def depthStencil (word f v ref : Nat) (front : Bool) (z : Fp) : Bool × Nat :=
  let side := bits word (if front then 24 else 36) 12
  let r := bits ref (if front then 0 else 8) 8
  let stencil := f == 0x19 && word.testBit 5
  let stored := bits v 24 8
  let mask := bits word 8 8
  let sPass := !stencil || compareNat (bits side 9 3) (r &&& mask) (stored &&& mask)
  let z' := if f = 0x19 then unormToFp (fpToUnorm (2 ^ 24 - 1) z) (2 ^ 24 - 1) else z
  let zPass := !(word.testBit 0) || compareOp (bits word 2 3) z' (depthValue f v)
  let op := if !sPass then bits side 0 3 else if !zPass then bits side 3 3 else bits side 6 3
  let wmask := bits word 16 8
  let v := if stencil then setBits v 24 8 ((stored &&& (255 - wmask)) ||| (stencilOp op r stored &&& wmask)) else v
  let pass := sPass && zPass
  (pass, if pass && word.testBit 0 && word.testBit 1 then depthBits f v z else v)

/-- The depth and stencil stage of a fragment: whether it goes on, with the depth target updated. -/
def Dev.depthStage (d : Dev) (o : Nat) (p : Pipeline) (j : GpuJob) (ds : Option Surface) (front : Bool) (x y : Nat) (z : Fp) :
    Got Bool :=
  match ds with
  | none => (.ok true, d)
  | some s => andThen (d.pixelGet o s 0 x y) (fun v d =>
      let (pass, v') := depthStencil (pcDepth p.body) s.format v (j.reg 0x28) front z
      if v' = v then (.ok pass, d) else andThen (d.pixelPut o s x y v') (fun _ d => (.ok pass, d)))

/-- The colour stage of a fragment: each target that has an output takes it (R175). -/
def Dev.colourStage (d : Dev) (o : Nat) (p : Pipeline) (j : GpuJob) (ts : List Target) (x y : Nat)
    (outs : List (Nat × List Fp)) : Got Unit :=
  let const_ := (List.range 4).map (fun c => Fp.of32 (j.reg (0x29 + c)))
  ts.foldl (fun (g : Got Unit) (t : Target) => andThen g (fun _ d =>
    match outs.find? (fun q => q.1 == t.n) with
    | none => (.ok (), d)
    | some src =>
      if pcFormat p.body t.n = 0 then (.ok (), d)
      else andThen (d.targetGet o t.surface x y) (fun v d =>
        d.targetPut o t.surface x y (writtenPixel t.surface.format t.blend v src.2 const_)))) (.ok (), d)

/-! ### Targets of a draw -/

/-- The back buffer of the open band, and the rows that its scissor leaves (R155). -/
def Dev.bandTargetOf (d : Dev) (layer b : Nat) : Surface × Nat × Nat :=
  let r := d.layerRec layer
  let x := d.band layer
  let (surface, plane) := if d.bandFront layer b then (recSurface r, recPlane r) else (x.surface, x.plane)
  let w := recSrcX r + recSrcW r
  let h := recSrcY r + recSrcH r
  let top := recSrcY r + b * x.height
  let s : Surface :=
    if recPts r then
      ptsSurface { slots := surface, headers := plane, columns := recPitch r, rows := ceilDiv h 8, format := recFormat r
                   clear := recClear r }
    else { base := surface, pitch := recPitch r, width := w, height := h, format := recFormat r }
  (s, top, min h (top + x.height))

/-- The colour targets of a job, with target 0 replaced while a band is open. -/
def Dev.targetsOf (d : Dev) (o : Nat) (j : GpuJob) (p : Pipeline) : List Nat → Except Nat (List Target) × Dev
  | [] => (.ok [], d)
  | n :: rest =>
    let got : Except Nat (Option Surface) × Dev :=
      match n, j.band with
      | 0, some (l, b) => (.ok (some (d.bandTargetOf l b).1), d)
      | _, _ =>
        let v := j.reg64 (2 * n)
        if v = 0 then (.ok none, d)
        else match d.readSurface o v with
          | (.ok s, d) => (if formatTarget s.format then .ok (some s) else .error 0x32, d)
          | (.error e, d) => (.error e, d)
    match got with
    | (.error e, d) => (.error e, d)
    | (.ok s, d) =>
      match d.targetsOf o j p rest with
      | (.error e, d) => (.error e, d)
      | (.ok ts, d) =>
        (.ok (match s with
          | some s => { n := n, surface := s, blend := pcBlend p.body n } :: ts
          | none => ts), d)

/-- The depth and stencil target. -/
def Dev.depthTarget (d : Dev) (o : Nat) (j : GpuJob) : Except Nat (Option Surface) × Dev :=
  let v := j.reg64 0x10
  if v = 0 then (.ok none, d)
  else match d.readSurface o v with
    | (.ok s, d) => (if formatDepth s.format && s.pts.isNone then .ok (some s) else .error 0x32, d)
    | (.error e, d) => (.error e, d)

/-- The pixels that scissor, band and target bounds leave, in raster order. -/
def pixelsOf (j : GpuJob) (ss : List Surface) (rows : Option (Nat × Nat)) : List (Nat × Nat) :=
  if ss.isEmpty then []
  else
    let sc := j.reg 0x26
    let sz := j.reg 0x27
    let x1 := ss.foldl (fun m s => min m s.width) (bits sc 0 16 + bits sz 0 16)
    let y1 := ss.foldl (fun m s => min m s.height) (bits sc 16 16 + bits sz 16 16)
    let (y0, y1) := match rows with
      | some (a, b) => (max (bits sc 16 16) a, min y1 b)
      | none => (bits sc 16 16, y1)
    let x0 := bits sc 0 16
    (List.range (y1 - y0)).flatMap (fun y => (List.range (x1 - x0)).map (fun x => (x0 + x, y0 + y)))

/-! ### Draws and dispatches -/

/-- The vertices of one draw: their indices in order, its instances, and its first instance. -/
structure DrawCall where
  vertices : List Nat
  instances : Nat
  firstInst : Nat
  deriving DecidableEq, Repr

/-- The modules of a pipeline, as its compilation took them. -/
def Pipeline.module (p : Pipeline) (second : Bool) : Module :=
  elaborate ((parseModule (if second then p.second else p.first)).getD []) p.constants

/-- The push constants of a job: state registers 80h to BFh. -/
def GpuJob.push (j : GpuJob) : List Byte := (List.range 64).flatMap (fun n => leBytes 4 (j.reg (0x80 + n)))

/-- A stage of a packet. -/
def stageOf (m : Module) (model o k : Nat) (es : List Entry) (j : GpuJob) (rendered : List Nat) : Stage :=
  { m := m, entry := (m.entry model).getD {}, model := model, owner := o, entries := es, push := j.push, k := k
    rendered := rendered }

/-- Cores fetch the code of a pipeline from its code area. -/
def Dev.fetchCode (d : Dev) (o : Nat) (p : Pipeline) : Got Unit :=
  match d.gpuRead o (pcCode p.body) p.used with
  | (.ok _, d) => (.ok (), d)
  | (r, d) => (.error (gpuHalt r), d)

/-! ### Vertices -/

/-- The vertex invocations of a draw: for each instance, each vertex in turn. -/
def vertexInvocations (c : DrawCall) : List Invocation :=
  let all := (List.range c.instances).flatMap (fun i => c.vertices.map (fun v => (v, c.firstInst + i)))
  (all.zip (List.range all.length)).map (fun p =>
    { group := p.2, sub := p.2 / 32, lane := p.2 % 32
      builtins := [(42, [p.1.1]), (43, [p.1.2 % 2 ^ 32])] ++ laneBuiltins (p.2 % 32) : Invocation })

/-- A shaded vertex: its clip position, its point size, and what it leaves in its locations. A coordinate that is not finite,
and a built-in that the shader does not write, is a free value. -/
structure Vertex where
  clip : Clip
  size : Rat
  outs : List (Nat × Nat × Nat)
  deriving DecidableEq, Repr

def Stage.vertex (st : Stage) (v : Invocation) (n : Nat) : Vertex :=
  let free (i : Nat) : Nat := Config.freeIn st.k n (2000 + i)
  let real (b i : Nat) : Rat :=
    match (st.builtinOut v b).bind (fun l => (Fp.of32 (l.getD i 0)).rat) with
    | some x => x
    | none => ((Fp.of32 (free (4 * b + i))).rat).getD 0
  { clip := { x := real 0 0, y := real 0 1, z := real 0 2, w := real 0 3 }
    size := max 1 (min 64 (real 1 0)), outs := st.outputs v }

/-! ### Fragments -/

/-- A primitive on the screen: its number in the draw, what it covers, whether it shows its front, and its vertices. -/
structure Primitive where
  n     : Nat
  shape : Shape
  front : Bool
  vs    : List Vertex
  deriving DecidableEq, Repr

/-- The value of an input at a sample (R171): flat from the provoking vertex, and otherwise interpolated in perspective or on
the screen, and rounded to its width (DESIGN CHOICE, assumption log 31). -/
def inputValue (q : Primitive) (share : List Rat) (loc c : Nat) (s : Scalar) (flat linear : Bool) (free : Nat) : Nat :=
  let of (v : Vertex) : Nat := ((v.outs.find? (fun x => x.1 == loc && x.2.1 == c)).map (fun x => x.2.2)).getD free
  match s with
  | .flt w =>
    if flat then ((q.vs.head?).map of).getD free
    else
      let onScreen := (share.zip q.vs).map (fun p => p.1 * p.2.clip.w)
      let total := onScreen.foldl (· + ·) 0
      let share := if linear ∧ total ≠ 0 then onScreen.map (fun x => x / total) else share
      let terms := (share.zip q.vs).map (fun p => ((Fp.ofBits w (of p.2)).rat).map (fun x => p.1 * x))
      if terms.any (·.isNone) then free % 2 ^ w else ratBits w (terms.foldl (fun acc x => acc + x.getD 0) 0)
  | _ => ((q.vs.head?).map of).getD free

/-- A decoration of an input variable, or of the member of its block. -/
def Module.inputDeco (m : Module) (v : SInst) (k d : Nat) : Bool := (m.deco v.id d).isSome || (m.memberDeco (m.pointee v) k d).isSome

/-- The inputs of a fragment at a sample. -/
def Stage.fragmentInputs (st : Stage) (q : Primitive) (share : List Rat) (n : Nat) : List (Nat × Nat × Nat) :=
  (st.m.vars st.entry 1).flatMap (fun v =>
    let ss := st.m.slots v
    (ss.zip (List.range ss.length)).map (fun s =>
      -- a block's parts carry their own decorations
      let part := ((List.range (st.m.parts (st.m.pointee v))).filter (fun k => (st.m.part (st.m.pointee v) k).2 ≤ s.2)).length - 1
      (s.1.1, s.1.2.1, inputValue q share s.1.1 s.1.2.1 s.1.2.2 (st.m.inputDeco v part 14) (st.m.inputDeco v part 13)
        (Config.freeIn st.k n (3000 + s.2)))))

/-- A fragment: its primitive, pixel, depth, and whether a helper invocation computes it. -/
structure Fragment where
  prim   : Primitive
  x      : Int
  y      : Int
  depth  : Rat
  helper : Bool
  deriving DecidableEq, Repr

/-- The depth at a sample: clamped after interpolation where depth clamp is set. -/
def clampDepth (word : Nat) (vp : Viewport) (z : Rat) : Rat :=
  if rasterClamp word then max (min vp.near vp.far) (min (max vp.near vp.far) z) else z

/-- The fragments of a primitive by quads: every pixel of a quad of which one is covered. -/
def quadFragments (word : Nat) (vp : Viewport) (q : Primitive) (px : List (Nat × Nat)) : List Fragment :=
  let hit := px.filter (fun p => q.shape.covers p.1 p.2)
  ((hit.map (fun p => (p.1 / 2, p.2 / 2))).eraseDups).flatMap (fun c =>
    [(0, 0), (1, 0), (0, 1), (1, 1)].map (fun (e : Nat × Nat) =>
      let x := 2 * c.1 + e.1
      let y := 2 * c.2 + e.2
      { prim := q, x := (x : Int), y := (y : Int), helper := !(hit.contains (x, y))
        depth := clampDepth word vp (q.shape.at (samplePos x y)).1 : Fragment }))

/-- The invocation of a fragment. -/
def Stage.fragmentInvocation (st : Stage) (f : Fragment) (n : Nat) : Invocation :=
  let pos := samplePos f.x.toNat f.y.toNat
  let (_, invW, share) := f.prim.shape.at pos
  let half : Rat := if (st.m.mode st.entry 6).isSome then 0 else 1 / 2
  let coord : List Nat := [(f.x : Rat) + half, (f.y : Rat) + half, f.depth, invW].map (fun r => ratBits 32 r)
  let pc := f.prim.shape.pointCoord pos
  { group := n, sub := n / 32, lane := n % 32, helper := f.helper
    builtins := [(15, coord), (16, [ratBits 32 pc.1, ratBits 32 pc.2]), (17, [boolNat f.prim.front]), (23, [boolNat f.helper])]
      ++ laneBuiltins (n % 32)
    inputs := st.fragmentInputs f.prim share n }

/-- The channels of a fragment's output at a Location, and the outputs that its stage has. -/
def Stage.colours (st : Stage) (v : Invocation) : List (Nat × List Fp) :=
  let outs := st.outputs v
  ((List.range 8).filter st.hasOutput).map (fun n =>
    (n, (List.range 4).map (fun c =>
      match outs.find? (fun x => x.1 == n && x.2.1 == c) with
      | some x => Fp.of32 x.2.2
      | none => Fp.of32 (Config.freeIn st.k n (4000 + c)))))

/-- What the targets of a draw are. -/
structure Targets where
  colour : List Target
  depth  : Option Surface
  deriving DecidableEq, Repr

/-- The outputs of shaded fragments, in the order of their primitives (R173): depth and stencil, unless they ran early, then
colour. A fragment that was discarded, or is a helper's, writes nothing. -/
def Dev.outputFragments (d : Dev) (o : Nat) (p : Pipeline) (j : GpuJob) (t : Targets) (st : Stage) (early : Bool)
    (fs : List (Fragment × Invocation)) : Got Unit :=
  fs.foldl (fun (g : Got Unit) q => andThen g (fun _ d =>
    let (f, v) := q
    if v.helper || v.killed then (.ok (), d)
    else
      let x := f.x.toNat
      let y := f.y.toNat
      let z := match st.builtinOut v 22 with
        | some l => Fp.of32 (l.headD 0)
        | none => Fp.of32 (ratBits 32 f.depth)
      let tested : Got Bool := if early then (.ok true, d) else d.depthStage o p j t.depth f.prim.front x y z
      andThen tested (fun pass d => if pass then d.colourStage o p j t.colour x y (st.colours v) else (.ok (), d))))
    (.ok (), d)

/-- Early tests (the EarlyFragmentTests mode): a fragment that fails is not shaded, though its quad may be. -/
def Dev.earlyTests (d : Dev) (o : Nat) (p : Pipeline) (j : GpuJob) (t : Targets) (fs : List Fragment) : Got (List Fragment) :=
  fs.foldl (fun (g : Got (List Fragment)) f => andThen g (fun acc d =>
    if f.helper then (.ok (acc ++ [f]), d)
    else andThen (d.depthStage o p j t.depth f.prim.front f.x.toNat f.y.toNat (Fp.of32 (ratBits 32 f.depth)))
      (fun pass d => (.ok (acc ++ [{ f with helper := !pass }]), d)))) (.ok [], d)

/-- The primitives of a draw from its shaded vertices, in ascending order: instances, then primitives. -/
def primitivesIn (word : Nat) (vp : Viewport) (c : DrawCall) (vs : List Vertex) : List Primitive :=
  let ps := primitivesOf (word % 8) c.vertices.length
  (List.range c.instances).flatMap (fun i =>
    (ps.zip (List.range ps.length)).filterMap (fun q =>
      let mine := q.1.filterMap (fun k => vs[i * c.vertices.length + k]?)
      match mine with
      | [] => none
      | v :: _ =>
        let (shape, front) := shapeOf word vp (mine.map (·.clip)) v.size
        some { n := i * ps.length + q.2, shape := shape, front := front, vs := mine }))

/-- Which packed tiles and surfaces a job renders to. -/
def Targets.bases (t : Targets) : List Nat :=
  t.colour.map (fun x => match x.surface.pts with | some p => p.slots | none => x.surface.base)

/-- A halt, or what follows, of something that may never end. -/
def orHalt (g : Got Unit) (next : Dev → Option Halted) : Option Halted :=
  match g with
  | (.ok _, d) => next d
  | (.error s, d) => some (some s, d)

/-- The fragment part of a draw: primitives to fragments, early tests, shading, and the pixel output. -/
def Dev.shadeFragments (d : Dev) (o : Nat) (p : Pipeline) (j : GpuJob) (t : Targets) (st : Stage) (prims : List Primitive)
    (rows : Option (Nat × Nat)) : Option Halted :=
  let word := pcRaster p.body
  let px := pixelsOf j (t.colour.map (fun x => x.surface) ++ t.depth.toList) rows
  let fs := prims.flatMap (fun q => quadFragments word j.viewport q px)
  let early := (st.m.mode st.entry 9).isSome
  match (if early then d.earlyTests o p j t fs else (.ok fs, d) : Got (List Fragment)) with
  | (.error s, d) => some (some s, d)
  | (.ok fs, d) =>
    match st.runAll d ((fs.zip (List.range fs.length)).map (fun f => st.fragmentInvocation f.1 f.2)) with
    | none => none
    | some pool =>
      match pool.world.halt with
      | some s => some (some s, pool.world.dev)
      | none => orHalt (pool.world.dev.outputFragments o p j t st early (fs.zip pool.invs)) (fun d => some (none, d))

/-- A draw with a graphics pipeline bound (R171 to R176): vertices, then primitives in ascending order, fragments, and the
pixel output. None when a shader never ends. -/
def Dev.drawCall (d : Dev) (o : Nat) (j : GpuJob) (p : Pipeline) (c : DrawCall) : Option Halted :=
  let (k, d) := d.nextFree
  let mv := p.module false
  let mf := p.module true
  let used := (mv.bindings ((mv.entry 0).getD {}) ++ mf.bindings ((mf.entry 4).getD {})).eraseDups
  match d.resolveAll o j used with
  | (.error e, d) => some (some e, d)
  | (.ok es, d) =>
    match d.targetsOf o j p (List.range 8) with
    | (.error e, d) => some (some e, d)
    | (.ok ts, d) =>
      match d.depthTarget o j with
      | (.error e, d) => some (some e, d)
      | (.ok ds, d) =>
        let t : Targets := { colour := ts, depth := ds }
        orHalt (d.fetchCode o p) (fun d =>
          let sv := stageOf mv 0 o (2 * k) es j t.bases
          let sf := stageOf mf 4 o (2 * k + 1) es j t.bases
          match sv.runAll d (vertexInvocations c) with
          | none => none
          | some pool =>
            match pool.world.halt with
            | some s => some (some s, pool.world.dev)
            | none =>
              let vs := (pool.invs.zip (List.range pool.invs.length)).map (fun v => sv.vertex v.1 v.2)
              let d := pool.world.dev
              d.shadeFragments o p j t sf (primitivesIn (pcRaster p.body) j.viewport c vs)
                (j.band.map (fun b => (d.bandTargetOf b.1 b.2).2)))

/-- The invocations of a dispatch, workgroup by workgroup. -/
def computeInvocations (counts size : List Nat) : List Invocation :=
  let n (k : Nat) : Nat := counts.getD k 1
  let z (k : Nat) : Nat := size.getD k 1
  let per := z 0 * z 1 * z 2
  let subs := ceilDiv per 32
  (List.range (n 0 * n 1 * n 2)).flatMap (fun g =>
    let gid := [g % n 0, g / n 0 % n 1, g / (n 0 * n 1)]
    (List.range per).map (fun l =>
      let lid := [l % z 0, l / z 0 % z 1, l / (z 0 * z 1)]
      { group := g, sub := g * subs + l / 32, lane := l % 32
        builtins := [(24, counts), (25, size), (26, gid), (27, lid), (28, (List.range 3).map (fun k => gid.getD k 0 * z k + lid.getD k 0)),
          (29, [l]), (38, [subs]), (40, [l / 32])] ++ laneBuiltins (l % 32) : Invocation }))

/-- A dispatch with a compute pipeline bound. None when a shader never ends. -/
def Dev.dispatchCall (d : Dev) (o : Nat) (j : GpuJob) (p : Pipeline) (counts : List Nat) : Option Halted :=
  let (k, d) := d.nextFree
  let m := p.module false
  let e := (m.entry 5).getD {}
  match d.resolveAll o j (m.bindings e).eraseDups with
  | (.error s, d) => some (some s, d)
  | (.ok es, d) =>
    orHalt (d.fetchCode o p) (fun d =>
      let st := stageOf m 5 o (2 * k) es j []
      (st.runAll d (computeInvocations counts (m.groupSize e))).map (fun pool => (pool.world.halt, pool.world.dev)))

end Sys2Proof.Machine
end

