-- ==== Sys2Proof/Machine/Pipelines.lean ====
section
/-! DEFINITION. Pipelines (09): the create block and its checks (R180, R181), the service cores (R185), and destruction
(R186). -/

namespace Sys2Proof.Machine

/-! ### The create block (Table 9-6) -/

def pcSource (b : List Byte) : Nat := field b 46 2

/-- The fixed-function state of a graphics block holds only codes of Table 9-6. -/
def pcStateOk (b : List Byte) : Bool :=
  let r := pcRaster b
  let z := pcDepth b
  let blendOk (w : Nat) : Bool :=
    w % 2 == 0 && bits w 24 3 ≤ 4 && bits w 11 3 ≤ 4 && [19, 14, 6, 1].all (fun lo => bits w lo 5 ≤ 14)
  r % 8 ≤ 5 && bits r 3 2 ≤ 2 && r < 128
    && bits z 6 2 == 0 && z < 2 ^ 48
    && (List.range 8).all (fun n => pcFormat b n == 0 || formatTarget (pcFormat b n))
    && (field b 96 1 == 0 || formatDepth (field b 96 1))
    && (List.range 8).all (fun n => blendOk (pcBlend b n))
    && (b.drop 97).take 31 == zeroBytes 31

/-- Check 1: kind, alignment, length, reserved fields, state codes. -/
def createOk (b : List Byte) (addr : Nat) : Bool :=
  let kind := field b 0 1
  addr % 64 == 0 && (kind == 1 || kind == 2) && field b 1 3 == 0
    && field b 8 8 % 4 == 0 && field b 16 4 % 4 == 0 && field b 16 4 ≤ 1048576
    && field b 24 8 % 4 == 0 && field b 20 4 % 4 == 0 && field b 20 4 ≤ 1048576
    && pcCode b % 4096 == 0 && 4096 ≤ field b 40 4 && field b 40 4 ≤ 16777216
    && field b 72 4 % 8 == 0 && (field b 64 8 != 0 || field b 72 4 == 0)
    && (if kind = 2 then field b 20 4 == 0 && field b 24 8 == 0 && (b.drop 76).take 84 == zeroBytes 84 else pcStateOk b)

/-- A range of the submitter's, empty or wholly in one region that it may use. -/
def Dev.createRange (d : Dev) (o addr n : Nat) : Bool := n == 0 || d.inOneRegion o false addr n

/-- Check 2: modules, code area, specialisation data and completion source. -/
def Dev.createOwned (d : Dev) (it : Item) (b : List Byte) : Bool :=
  let o := it.code
  d.createRange o (field b 8 8) (field b 16 4) && d.createRange o (field b 24 8) (field b 20 4)
    && d.createRange o (field b 64 8) (field b 72 4)
    && d.inOneRegion o false (pcCode b) (field b 40 4) && d.inOneRegion o true (pcCode b) (field b 40 4)
    && guardOf (pcCode b) == .region 0
    && (match d.regionOf 0 (pcCode b) with | some r => attrCode (d.regAttr 0 r) < 2 | none => false)
    && (it.ring.isSome || d.sourceFor o (pcSource b))

/-- Pipelines that an owner has. -/
def Dev.pipesOf (d : Dev) (o : Nat) : Nat := (d.gpu.pipes.filter (fun p => p.owner == o && p.destroyed.isNone)).length

/-- The checks of Table 9-7, in order: 0001h when all pass. -/
def Dev.checkCreate (d : Dev) (it : Item) (b : List Byte) : Nat :=
  if !(createOk b it.block) then 0x12
  else if !(d.createOwned it b) then 0x14
  else if 4096 ≤ d.pipesOf it.code then 0x42
  else 1

/-- The queue is full: 64 requests, or 8 of one owner (R185). -/
def Dev.createFull (d : Dev) (o : Nat) : Bool :=
  64 ≤ d.gpu.waiting.length || 8 ≤ (d.gpu.waiting.filter (fun c => c.item.code == o)).length

/-- The requests that wait are replaced, and 25C0h/04h follows. -/
def Dev.setWaiting (d : Dev) (l : List Compile) : Dev :=
  ({ d with gpu := { d.gpu with waiting := l } }).setO 0x25C0 0x04 l.length

/-! ### Completion -/

/-- A create completes: its fields, then its status, then the ring's record or the completion source. -/
def Dev.finishCreate (d : Dev) (it : Item) (b : List Byte) (fields : List (Nat × List Byte)) (status handle : Nat) : Dev :=
  let d := d.completeItem it (fields ++ [(44, leBytes 2 status)]) status handle
  if it.ring.isSome || pcSource b == 0xFFFF || !(d.sourceFor it.code (pcSource b)) then d else d.post (pcSource b)

/-- A create block that has been read is journaled, checked, and queued or refused. -/
def Dev.takeCreate (d : Dev) (it : Item) (b : List Byte) : Dev :=
  let it := { it with seq := field b 4 4 }
  let status := d.checkCreate it b
  let (it, d) := d.journalItem 4 it 0 160 []
  if status = 1 then
    (d.setWaiting (d.gpu.waiting ++ [{ item := it, body := b }])).writeBlock it 44 (leBytes 2 1)
  else
    let d := if status = 0x42 then d.count 0x25C0 0x06 else d
    d.finishCreate it b [] status 0

/-- An on-chip submit of a create block. -/
def Dev.submitCreate (d : Dev) (who : Init) (addr : Nat) : Dev :=
  match d.checkWrite who 0x25C0 0x02 (numData 0x25C0 0x02 addr) with
  | some a => d.refuse a
  | none =>
    let code := initCode who
    match d.readSubmitted code addr 160 with
    | (none, _) => d.refuse abortAccess
    | (some b, d1) =>
      if d.createFull code then d.refuse abortState
      else if !(d.submitRoom code) then (d.count 0x3000 0x09).refuse abortState
      else (d1.takeCreate { block := addr, code := code } b).accept

/-! ### The service cores (R185) -/

def Dev.compiling (d : Dev) (c : Nat) : Option Compile := tabGet none d.gpu.cores c

def Dev.setCompiling (d : Dev) (c : Nat) (x : Option Compile) : Dev :=
  { d with gpu := { d.gpu with cores := tabSet none d.gpu.cores c x } }

/-- The request that is next: round-robin by owner, in submission order within each. -/
def nextCreate (waiting : List Compile) (turn : Nat) : Option Compile :=
  let owners := (List.range 256).map (fun k => (turn + 1 + k) % 256)
  owners.findSome? (fun o => waiting.find? (fun c => c.item.code == o))

/-- A service core takes the next request. -/
def Dev.startCompile (d : Dev) (c : Nat) : Dev :=
  match d.compiling c, nextCreate d.gpu.waiting d.gpu.turn with
  | none, some x =>
    let d := d.setWaiting (d.gpu.waiting.erase x)
    let d := { d with gpu := { d.gpu with turn := x.item.code } }
    (d.setCompiling c (some { x with startAt := d.clock.ns })).regIssue x.item.entry
  | _, _ => d

/-- The words of a module, or of the specialisation data, as the compilation reads them; none where memory does not give
them. -/
def Dev.moduleWords (d : Dev) (o addr n : Nat) : Option (List Nat) × Dev :=
  if n = 0 then (some [], d)
  else match d.memRead o addr n with
    | (.ok b, d) => (some ((List.range (n / 4)).map (fun k => field b (4 * k) 4)), d)
    | (_, d) => (none, d)

/-- Entries of specialisation data: constant ID and value. -/
def specEntries : List Nat → List (Nat × Nat)
  | i :: v :: rest => (i, v) :: specEntries rest
  | _ => []

/-- What a compilation takes in and finds (Table 9-7): the two modules, the specialisation, and 0 or the status of the first
check that fails. A module that memory does not give is no valid one (DESIGN CHOICE, assumption log 33). -/
def Dev.readModules (d : Dev) (o : Nat) (b : List Byte) : (List Nat × List Nat × List (Nat × Nat) × Nat) × Dev :=
  let (first, d) := d.moduleWords o (field b 8 8) (field b 16 4)
  let (second, d) := d.moduleWords o (field b 24 8) (field b 20 4)
  let (data, d) := d.moduleWords o (field b 64 8) (field b 72 4)
  match first, second, data with
  | some f, some s, some l =>
    let spec := specEntries l
    ((f, s, spec, checkModules (field b 0 1) (f, Config.spirvValid f) (s, Config.spirvValid s) spec), d)
  | _, _, _ => (([], [], [], 0x40), d)

/-- A compilation ends: the module checks, the code area, the handle, the sizes and times, and the tallies. `bytes` is the size
of the code. -/
def Dev.endCompile (d : Dev) (c bytes : Nat) : Dev :=
  match d.compiling c with
  | none => d
  | some x =>
      let size := field x.body 40 4
      let ((first, second, spec, found), d) := d.readModules x.item.code x.body
      let status := if found = 0 ∧ size < bytes then 0x44 else found
      let d := d.setCompiling c none
      let us := (d.clock.ns - x.startAt) / 1000
      let d := if d.getO 0x25C0 0x07 < us then d.setO 0x25C0 0x07 us else d
      let time := (60, leBytes 4 us)
      if status = 0 then
        let (k, d) := d.nextFree
        let (_, d) := d.memWrite x.item.code (pcCode x.body) ((List.range bytes).map (Config.freeByte k))
        let serial := d.gpu.serial + 1
        let handle := x.item.code * 2 ^ 56 + serial
        let p : Pipeline := { handle := handle, owner := x.item.code, kind := field x.body 0 1, body := x.body, used := bytes
                              first := first, second := second, constants := spec }
        let d := { d with gpu := { d.gpu with serial := serial, pipes := d.gpu.pipes ++ [p] } }
        (d.count 0x25C0 0x05).finishCreate x.item x.body [(48, leBytes 8 handle), (56, leBytes 4 bytes), time] 0 handle
      else
        (d.count 0x25C0 0x06).finishCreate x.item x.body
          (if status = 0x44 then [(56, leBytes 4 bytes), time] else [time]) status 0

/-- A service core faults while it compiles: the request is lost (Table 20-5). -/
def Dev.loseCompile (d : Dev) (c : Nat) : Dev :=
  let d := d.transientFault 0x8105 c
  match d.compiling c with
  | none => d
  | some x =>
    let d := d.setCompiling c none
    let (_, d) := d.regHold x.item.entry
    let (_, d) := d.regReissue x.item.entry false false
    d.finishCreate x.item x.body [] 0x22 0

/-- A pipeline is destroyed: jobs accepted from now on cannot bind it (R186). -/
def Dev.destroyPipe (d : Dev) (o handle : Nat) : Option Dev :=
  if d.gpu.pipes.any (fun p => p.handle == handle && p.owner == o && p.destroyed.isNone) then
    some { d with gpu := { d.gpu with
      pipes := d.gpu.pipes.map (fun p =>
        if p.handle = handle ∧ p.owner = o then { p with destroyed := some d.gpu.accepted } else p) } }
  else none

/-- A write of a handle to the destroy object: only the pipeline's owner may. -/
def destroyVerdict (who : Init) (handle : Nat) (d : Dev) : Verdict :=
  match d.destroyPipe (initCode who) handle with
  | some d => .ok d
  | none => .error abortAccess

/-! ### The meanings -/

/-- PIPELINE_CREATE_SUBMIT (R180, R181). -/
def execPipelineCreateSubmit (who : Init) (address : Nat) (s : State) : Host.Outcome State Fault Refusal :=
  actServed (fun d => d.submitCreate who address) s

/-- COMPILATION_START (R185). -/
def execCompilationStart (serviceCore : Nat) (s : State) : Host.Outcome State Fault Refusal :=
  actAwake (onUnit serviceCore 2 (fun d => d.startCompile serviceCore)) s

/-- COMPILATION_COMPLETE (R181): with the sizes of the code of the pipeline's first and second module; a compute pipeline has
one. -/
def execCompilationComplete (serviceCore firstBytes secondBytes : Nat) (s : State) : Host.Outcome State Fault Refusal :=
  actAwake (onUnit serviceCore 2 (fun d => d.endCompile serviceCore (firstBytes + secondBytes))) s

/-- PIPELINE_DESTROY (R186). -/
def execPipelineDestroy (who : Init) (handle : Nat) (s : State) : Host.Outcome State Fault Refusal :=
  actServed (fun d => d.request who 0x25C0 0x03 (numData 0x25C0 0x03 handle) (destroyVerdict who handle)) s

/-- SERVICE_CORE_FAULT (Table 20-5). -/
def execServiceCoreFault (serviceCore : Nat) (s : State) : Host.Outcome State Fault Refusal :=
  actAwake (onUnit serviceCore 2 (fun d => d.loseCompile serviceCore)) s

end Sys2Proof.Machine
end

