-- ==== Sys2Proof/Machine/Rings.lean ====
section
/-! DEFINITION. Rings (13): doorbells, taking an entry, the read of its block, enabling and disabling (R262 to R268, R273). -/

namespace Sys2Proof.Machine

/-! ### Rings and their entries -/

def Dev.ringObj (d : Dev) (i r k : Nat) : Nat := d.getO (ringIndex i) (ringSub r k)
def Dev.setRingState (d : Dev) (i r st : Nat) : Dev := d.setO (ringIndex i) (ringSub r 1) st

/-- Fields of a submission entry (Table 13-5). -/
def entOpcode (b : List Byte) : Nat := field b 0 1
def entFlags (b : List Byte) : Nat := field b 1 1
def entUnit (b : List Byte) : Nat := field b 2 1
def entTag (b : List Byte) : Nat := field b 4 4
def entBlock (b : List Byte) : Nat := field b 8 8
def entLength (b : List Byte) : Nat := field b 16 4
def entArgument (b : List Byte) : Nat := field b 24 8

/-- Step 1 of R265: opcode, length, alignment and reserved fields. -/
def entryOk (b : List Byte) : Bool :=
  let op := entOpcode b
  let n := entLength b
  op ≤ 5 && entFlags b < 4 && field b 3 1 == 0 && field b 20 4 == 0 && (b.drop 32).all (· == 0)
    && (if op = 2 then entUnit b < 32 else entUnit b == 0)
    && (if op = 5 then true else entArgument b == 0)
    && (if op = 0 ∨ op = 5 then entBlock b == 0 else entBlock b % 64 == 0)
    && (match op with
      | 1 => 32 ≤ n && (n - 32) % 64 == 0 && n ≤ 32 + 64 * 6
      | 2 | 3 => n == 64
      | 4 => n == 160
      | _ => n == 0)

/-- The submission ring slot's 64 bytes. -/
def Dev.ringEntry (d : Dev) (i r slot : Nat) : List Byte :=
  d.hostRead (instPort i) (d.ringObj i r 2 + 64 * slot) 64

/-- Entries that the ring is outstanding for (R263). -/
def Ring.outstanding (x : Ring) : Nat := x.open_.length + x.records.length

/-- An entry can be taken now; the instance owns its ring set (R9). -/
def Dev.ringReady (d : Dev) (i r : Nat) : Bool :=
  let x := d.ring i r
  i < 64 && r < 8 && d.owner (blockId 9 i) == 0x40 + i && d.instState i == 1 && !(d.inst i).d3hot && d.ringState i r == 1 && x.waiting.isNone
    && x.sqHead != x.tail && x.outstanding < d.ringE i r - 1
    && (let b := d.ringEntry i r x.sqHead; !((entFlags b).testBit 0) || x.open_.isEmpty)

/-- Where a taken entry came from. -/
def ringRefOf (i r slot : Nat) (b : List Byte) : RingRef :=
  { inst := i, ring := r, slot := slot, tag := entTag b, opcode := entOpcode b, noPost := (entFlags b).testBit 1 }

/-- The item of a taken entry. -/
def Dev.ringItem (d : Dev) (i r : Nat) (b : List Byte) : Item :=
  let x := d.ring i r
  { block := entBlock b, code := 0x40 + i, ring := some (ringRefOf i r x.slot b), entry := x.entry
    gen := d.regGeneration x.entry }

/-- The Registry entry of an item at the moment it is taken (R372). -/
def ringJournal (i r slot : Nat) (b : List Byte) : RegEntry :=
  entryOf (if entOpcode b = 0 then 5 else entOpcode b)
    { block := entBlock b, code := 0x40 + i, ring := some (ringRefOf i r slot b) } 0 (entLength b) []

/-- The entry at SQ_HEAD is taken: refused by its own fields, completed at once (NOP and destroy), or its block is read. -/
def Dev.takeEntry (d : Dev) (i r : Nat) : Dev :=
  let x := d.ring i r
  let slot := x.sqHead
  let b := d.ringEntry i r slot
  let d := ((d.linkUse (instPort i)).count (ringIndex i) (ringSub r 6)).count (0x2910 + i) 0x09
  let x := { x with sqHead := if slot + 1 = d.ringE i r then 0 else slot + 1, open_ := x.open_ ++ [slot], paused := false }
  let d := d.setRing i r x
  if !(entryOk b) then d.ringRecord (ringRefOf i r slot b) none 0x12 0 0 true false
  else
    let (e, d) := d.journal (ringJournal i r slot b)
    let d := d.setRing i r { x with slot := slot, entry := e, waiting := some b }
    if entOpcode b = 0 ∨ entOpcode b = 5 then
      let it := d.ringItem i r b
      let d := d.setRing i r { d.ring i r with waiting := none, entry := none }
      if entOpcode b = 0 then d.completeItem it [] 0 0
      else match d.destroyPipe (0x40 + i) (entArgument b) with
        | some d => d.completeItem it [] 0 0
        | none => d.completeItem it [] 0x33 0
    else d

/-- A ring takes its next entry when that entry has opcode `op`; an opcode that is none of Table 13-5 is taken as 00h is,
and refused. While no Registry entry can be given the ring pauses (R373). -/
def Dev.ringTakes (d : Dev) (i r op : Nat) : Dev :=
  if !(d.ringReady i r) then d
  else
    let x := d.ring i r
    let e := entOpcode (d.ringEntry i r x.sqHead)
    if e ≠ op ∧ ¬(op = 0 ∧ 5 < e) then d
    else if !(d.regRoom (0x40 + i)) then
      (if x.paused then d else (d.setRing i r { x with paused := true }).count 0x3000 0x09)
    else d.takeEntry i r

/-- The block's read is over: without good data the entry completes with status 0031h; else the block takes it, when its
queue has room (R265). -/
def Dev.ringBlockRead (d : Dev) (i r : Nat) (good : Bool) : Dev :=
  match (d.ring i r).waiting with
  | none => d
  | some b =>
    let it := d.ringItem i r b
    let bytes (n : Nat) : List Byte := d.hostRead (instPort i) (entBlock b) n
    let done := d.setRing i r { d.ring i r with waiting := none, entry := none }
    if !good then done.completeItem it [] 0x31 0
    else match entOpcode b with
      | 1 => done.takeCommit it none (bytes (max (entLength b) (commitLength (bytes 32))))
      | 2 => if d.chanFull (entUnit b) then d else done.takeCopy it (entUnit b) (bytes 64)
      | 3 => if d.gqFull (0x40 + i) (bytes 64) then d else done.takeGpuJob it (bytes 64)
      | _ => if d.createFull (0x40 + i) then d else done.takeCreate it (bytes 160)

/-! ### Doorbells (R263, R268, R270) -/

/-- The BAR of an instance answers: not in D3hot. -/
def Dev.barOpen (d : Dev) (i : Nat) : Bool := let st := d.instState i; 1 ≤ st && st ≤ 3 && !(d.inst i).d3hot

/-- A doorbell write clears the idle hint. -/
def Dev.clearHint (d : Dev) (i : Nat) : Dev := d.setO (0x2910 + i) 0x06 0

/-- A doorbell's value: bits 11:0. A value of E or more is ignored and sets IGNORED. -/
def Dev.ignoreBell (d : Dev) (i r : Nat) : Dev := d.setRing i r { d.ring i r with ignored := true }

/-- SQ_TAIL: it submits work, so the instance must own its ring set (R9); an unowned one takes none. -/
def Dev.sqTail (d : Dev) (i r v : Nat) : Dev :=
  let d := (d.linkUse (instPort i)).clearHint i
  let v := v % 4096
  if d.ringState i r ≠ 1 ∨ d.owner (blockId 9 i) ≠ 0x40 + i then d
  else if d.ringE i r ≤ v then d.ignoreBell i r
  else d.setRing i r { d.ring i r with tail := v }

/-- Records from slot `from_` up to `to_`, not included, in ring order. -/
def passedBy (e from_ to_ : Nat) (slot : Nat) : Bool :=
  (slot + e - from_) % max 1 e < (to_ + e - from_) % max 1 e

/-- CQ_HEAD: the completions that it passes are confirmed, and their Registry entries freed (R268, Table 20-1). -/
def Dev.cqHead (d : Dev) (i r v : Nat) : Dev :=
  let d := (d.linkUse (instPort i)).clearHint i
  let v := v % 4096
  let e := d.ringE i r
  let st := d.ringState i r
  if st ≠ 1 ∧ st ≠ 2 then d
  else if e ≤ v then d.ignoreBell i r
  else
    let x := d.ring i r
    let gone := x.records.filter (fun p => passedBy e x.head v p.1)
    let d := d.setRing i r { x with head := v, records := x.records.filter (fun p => !(passedBy e x.head v p.1)) }
    gone.foldl (fun d p => if p.2 = 0 then d else d.regFree (p.2 - 1)) d

/-- RING_STATUS (Table 13-2). -/
def Dev.ringStatus (d : Dev) (i r : Nat) : Nat :=
  let x := d.ring i r
  d.ringState i r * 2 ^ 30 + (if x.ignored then 2 ^ 29 else 0) + x.cqTail * 65536 + x.sqHead

/-! ### Enabling and disabling (R262, R273) -/

/-- A ring is enabled: indexes, phase and number start again; records not confirmed are so no more. -/
def Dev.ringEnable (d : Dev) (i r : Nat) : Dev :=
  let d := (d.ring i r).records.foldl (fun d p => if p.2 = 0 then d else d.regFree (p.2 - 1)) d
  ((d.setRing i r {}).setO (ringIndex i) (ringSub r 0) 1).setRingState i r 1

/-- An item came from a ring. -/
def Item.of (it : Item) (i r : Nat) : Bool :=
  match it.ring with
  | some x => x.inst == i && x.ring == r
  | none => false

/-- Taken items that have not started complete with status 0020h, and so does a copy job in hand, no segment of which is in
progress between commands. -/
def Dev.ringCancel (d : Dev) (i r : Nat) : Dev :=
  let d := match (d.ring i r).waiting with
    | some b =>
      let it := d.ringItem i r b
      (d.setRing i r { d.ring i r with waiting := none, entry := none }).completeItem it [] 0x20 0
    | none => d
  let d := d.endCommits (fun c => c.item.of i r) 0x20
  let d := (List.range 32).foldl (fun d c =>
    let jobs := (d.chan c).jobs
    (jobs.zip (List.range jobs.length)).foldl (fun d p =>
      if p.1.item.of i r then d.endCopy c p.1 0x20 (if p.2 = 0 then p.1.moved else 0) else d) d) d
  let d := (List.range 4).foldl (fun d q =>
    (d.gq (0x40 + i) q).jobs.foldl (fun d j => if j.item.of i r && !j.started then d.endGpuJob (0x40 + i) q j 0x20 else d) d) d
  let mine := d.gpu.waiting.filter (fun c => c.item.of i r)
  let d := if mine.isEmpty then d else d.setWaiting (d.gpu.waiting.filter (fun c => !(c.item.of i r)))
  mine.foldl (fun d c => d.finishCreate c.item c.body [] 0x20 0) d

/-- A ring starts to be disabled. -/
def Dev.ringDisable (d : Dev) (i r : Nat) : Dev :=
  let st := d.ringState i r
  let d := d.setO (ringIndex i) (ringSub r 0) 0
  if st = 1 ∨ st = 2 then
    ((d.setRing i r { d.ring i r with started := d.clock.ns }).setRingState i r 3).ringCancel i r
  else d

/-- Every taken item has its record: the ring shows disabled. -/
def Dev.ringDisabled (d : Dev) (i r : Nat) : Dev :=
  let x := d.ring i r
  (d.setO (ringIndex i) (ringSub r 7) ((d.clock.ns - x.started) / 1000)).setRingState i r 0

/-- A write of a ring's enable. -/
def ringEnableVerdict (i r v : Nat) (d : Dev) : Verdict :=
  let st := d.ringState i r
  if v = 0 then .ok (d.ringDisable i r)
  else if st = 3 then .error abortState
  else if st = 0 then .ok (d.ringEnable i r)
  else .ok d

/-- Other writes of a ring set record (R262): addresses and E only while the ring is disabled. -/
def ringVerdict (i j v : Nat) (d : Dev) : Verdict :=
  let r := j / 16 - 1
  let k := j % 16
  if k = 0 then ringEnableVerdict i r v d
  else if k = 2 ∨ k = 3 ∨ k = 4 then
    (if k ≠ 4 ∧ v % 4096 ≠ 0 then .error abortRange
     else if d.ringState i r ≠ 0 then .error abortState
     else .ok (d.setO (ringIndex i) j v))
  else if k = 5 then Dev.sourceWrite (0x40 + i) (ringIndex i) j v d
  else .ok (d.setO (ringIndex i) j v)

/-! ### The meanings -/

/-- A command names an instance and a ring. -/
def onRing (i r : Nat) (f : Dev → Dev) (d : Dev) : Dev := if i < 64 && r < 8 then f d else d

/-- SQ_TAIL (R263). -/
def execSqTail (inst ring value : Nat) (s : State) : Host.Outcome State Fault Refusal :=
  act (onRing inst ring (fun d => if d.barOpen inst then d.sqTail inst ring value else d)) s

/-- CQ_HEAD (R268). -/
def execCqHead (inst ring value : Nat) (s : State) : Host.Outcome State Fault Refusal :=
  act (onRing inst ring (fun d => if d.barOpen inst then d.cqHead inst ring value else d)) s

/-- RING_NOP (R264): a taken entry with opcode 00h completes at once. -/
def execRingNop (inst ring : Nat) (s : State) : Host.Outcome State Fault Refusal :=
  act (onRing inst ring (fun d => d.ringTakes inst ring 0)) s

/-- RING_COMPOSITION_COMMIT (R265). -/
def execRingCompositionCommit (inst ring : Nat) (s : State) : Host.Outcome State Fault Refusal :=
  act (onRing inst ring (fun d => d.ringTakes inst ring 1)) s

/-- RING_COPY_JOB (R265). -/
def execRingCopyJob (inst ring : Nat) (s : State) : Host.Outcome State Fault Refusal :=
  act (onRing inst ring (fun d => d.ringTakes inst ring 2)) s

/-- RING_GPU_JOB (R265). -/
def execRingGpuJob (inst ring : Nat) (s : State) : Host.Outcome State Fault Refusal :=
  act (onRing inst ring (fun d => d.ringTakes inst ring 3)) s

/-- RING_PIPELINE_CREATE (R265). -/
def execRingPipelineCreate (inst ring : Nat) (s : State) : Host.Outcome State Fault Refusal :=
  act (onRing inst ring (fun d => d.ringTakes inst ring 4)) s

/-- RING_PIPELINE_DESTROY (R265, R186). -/
def execRingPipelineDestroy (inst ring : Nat) (s : State) : Host.Outcome State Fault Refusal :=
  act (onRing inst ring (fun d => d.ringTakes inst ring 5)) s

/-- RING_BLOCK_READ_COMPLETE (R265). -/
def execRingBlockReadComplete (inst ring : Nat) (good : Bool) (s : State) : Host.Outcome State Fault Refusal :=
  act (onRing inst ring (fun d => d.ringBlockRead inst ring good)) s

/-- RING_HALT (R278): a read of the submission ring fails. -/
def execRingHalt (inst ring : Nat) (s : State) : Host.Outcome State Fault Refusal :=
  act (onRing inst ring (fun d =>
    if d.ringReady inst ring then (d.setRingState inst ring 2).log 0x49 0x1801 (0x40 + inst) ring [inst, ring] else d)) s

/-- RING_ENABLE_WRITE (R262, R273). -/
def execRingEnableWrite (who : Init) (inst ring value : Nat) (s : State) : Host.Outcome State Fault Refusal :=
  actServed (onRing inst ring (fun d => d.request who (ringIndex inst) (ringSub ring 0)
    (numData (ringIndex inst) (ringSub ring 0) value) (ringEnableVerdict inst ring value))) s

/-- RING_DISABLE_COMPLETE (R273). -/
def execRingDisableComplete (inst ring : Nat) (s : State) : Host.Outcome State Fault Refusal :=
  act (onRing inst ring (fun d =>
    if d.ringState inst ring = 3 ∧ (d.ring inst ring).drained then d.ringDisabled inst ring else d)) s

end Sys2Proof.Machine
end

