-- ==== Sys2Proof/Machine/Letterbox.lean ====
section
/-! DEFINITION. The Letterbox (15): entry writes, doorbells, claims and completions, moderation, MSI-X writes, and the
retargeting of a block's fixed sources (R291). -/

namespace Sys2Proof.Machine

/-! ### Offers and withdrawals (R307) -/

/-- A delivery of the source stands open: some core's request counts it, or its vector can be written. -/
def Dev.offered (d : Dev) (s : Nat) : Bool :=
  let t := entryTarget (d.entry s)
  if isInstance t then d.deliverable s && !(d.vectorBlocked (t - 0x40) (entryRoute (d.entry s) % 64)) else !(d.raises s).isEmpty

/-- Deliveries that stood open before and do not now, of sources that stay pending, are withdrawn: counted, and a masked
vector's PBA bit set. -/
def Dev.withdrawn (before d : Dev) (l : List Nat) : Dev :=
  (l.filter (fun s => before.offered s && !(d.offered s) && entryState (d.entry s) == 1)).foldl (fun d s =>
    let e := d.entry s
    let t := entryTarget e
    let d := if isInstance t && entryEn e then d.setPba (t - 0x40) (entryRoute e % 64) true else d
    d.count 0x2B00 0x08) d

/-- The sources targeted to an owner. -/
def Dev.sourcesOf (d : Dev) (owner : Nat) : List Nat := d.usedSources.filter (fun s => entryTarget (d.entry s) == owner)

/-! ### Entry writes (R301, R302) -/

/-- ROUTE suits its target (R301). -/
def routeOk (t r : Nat) : Bool :=
  if t = 0x20 then r % 4 == 0 else if t = 0 then r < 4 else if t ≤ 0x1F then r == 0 else if isInstance t then r < 64 else true

/-- The writable fields of an entry: EN, PRIO, CLASS, POSTER and ROUTE, without TARGET. -/
def entryFields (e : Nat) : Nat × Nat × Nat × Nat × Nat :=
  (bits e 63 1, entryPrio e, entryClass e, entryPoster e, entryRoute e)

/-- Owners that class O may write into TARGET (R302). -/
def targetForO (t : Nat) : Bool := t == 0x20 || isInstance t || t == 0xFF

/-- The writer may change TARGET of a source. -/
def targetRight (who : Init) (s old new : Nat) : Bool :=
  if s < 256 then 160 ≤ s && s ≤ 176 && who == .island
  else if s < 512 then who == .island
  else who == .island || (who == .openWorld && targetForO old && targetForO new)

/-- A write of a source entry; the reserved fields and STATE keep their values (R449). -/
def entryVerdict (who : Init) (s v : Nat) (d : Dev) : Verdict :=
  let old := d.entry s
  let t := entryTarget v
  if sourceReserved s then .error abortRange
  else if 256 ≤ s ∧ s ≤ 511 ∧ who ≠ .island then .error abortAccess
  else if !(ownerCodeOk t) || !(ownerCodeOk (entryPoster v)) || !(routeOk t (entryRoute v)) then .error abortRange
  else if t ≠ entryTarget old ∧ !(targetRight who s (entryTarget old) t) then .error abortAccess
  else if entryFields v ≠ entryFields old ∧ who ≠ .island ∧ initCode who ≠ entryTarget old then .error abortAccess
  else if t ≠ entryTarget old ∧ (entryEn old || entryState old ≠ 0) then .error abortState
  else
    let word := setBits (setBits (setBits (setBits (setBits (setBits old 63 1 (bits v 63 1)) 56 4 (entryPrio v))
      52 4 (entryClass v)) 40 8 (entryPoster v)) 16 8 (entryRoute v)) 8 8 t
    let d' := d.setEntry s word
    let d' := if entryEn v then d' else { d' with letter := { d'.letter with woken := tabSet false d'.letter.woken s false } }
    .ok ((Dev.withdrawn d d' [s]).offer s)

/-! ### Doorbell pages (R303 to R305) -/

/-- Pages with a DOORBELL, and pages with all five registers. -/
def doorbellPage (o : Nat) : Bool := o ≤ 0x20 || isInstance o

/-- A write of DOORBELL. Nothing but a post or the count of a refusal follows. -/
def Dev.doorbell (d : Dev) (who : Init) (page word : Nat) : Dev :=
  let s := word % 2048
  let e := d.entry s
  if !(doorbellPage page) then d
  else if word < 2048 && 256 ≤ s && entryTarget e == page
      && (initCode who == page || who == .island || initCode who == entryPoster e) then d.post s
  else d.count 0x2B00 0x05

/-- A core may take an owner's sources; for any other, the page's registers read 0 and ignore writes. -/
def Dev.serves (d : Dev) (core page : Nat) : Bool := core < 9 && (d.corePages core).contains page

/-- The source that a CLAIM returns: the highest PRIO, among equals the lowest number. -/
def Dev.bestSource (d : Dev) (page core : Nat) : Option Nat :=
  (d.takeable page core).foldl (fun best s =>
    match best with
    | none => some s
    | some b =>
      let p := entryPrio (d.entry s)
      let q := entryPrio (d.entry b)
      if q < p ∨ (q = p ∧ s < b) then some s else best) none

/-- A read of CLAIM: its commit point is here (R307). -/
def Dev.claim (d : Dev) (core page : Nat) : Dev :=
  let d := { d with letter := { d.letter with wfi := tabSet false d.letter.wfi core false } }
  if !(d.serves core page) then d.reply (leBytes 4 0)
  else match d.bestSource page core with
    | none => d.reply (leBytes 4 0x80000000)
    | some s =>
      let d := (d.setSourceState s 2).setReleased s false
      ({ d with letter := { d.letter with
          claimedBy := tabSet 0 d.letter.claimedBy s (core + 1)
          woken := tabSet false d.letter.woken s false } }).reply (leBytes 4 s)

/-- A write of COMPLETE. -/
def Dev.complete (d : Dev) (core page s : Nat) : Dev :=
  if !(d.serves core page) then d
  else
    let st := entryState (d.entry s)
    if st < 2 ∨ tabGet 0 d.letter.claimedBy s ≠ core + 1 then d.count 0x2B00 0x07
    else
      let d := { d with letter := { d.letter with claimedBy := tabSet 0 d.letter.claimedBy s 0 } }
      if st = 2 then d.setSourceState s 0 else ((d.setSourceState s 1).setReleased s true).offer s

/-- A write of THRESHOLD. -/
def Dev.putThreshold (d : Dev) (core page v : Nat) : Dev :=
  if !(d.serves core page) then d
  else
    let d' := { d with letter := { d.letter with thresholds := tabSet 0 d.letter.thresholds (256 * page + core) (v % 16) } }
    (Dev.withdrawn d d' (d.sourcesOf page)).offerAll page

/-- What a read of PENDING and THRESHOLD returns to a core (Table 15-4); THRESHOLD is 0 for a core that the page does not serve,
and the pages of instances have neither. -/
def Dev.pagePending (d : Dev) (page : Nat) : Nat :=
  if page ≤ 0x20 then ((d.sourcesOf page).filter (fun s => entryState (d.entry s) % 2 == 1)).length else 0
def Dev.pageThreshold (d : Dev) (core page : Nat) : Nat :=
  if d.serves core page then tabGet 0 d.letter.thresholds (256 * page + core) else 0

/-! ### Idle targets (R309) -/

/-- The held sources of an owner that admit a core are released, in every class; a class with none left to hold is released
as a whole. -/
def Dev.releaseTo (d : Dev) (owner core : Nat) : Dev :=
  let held (d : Dev) : List Nat := (d.sourcesOf owner).filter (fun s =>
    entryState (d.entry s) == 1 && !(tabGet false d.letter.released s))
  let d := ((held d).filter (fun s => (d.admitted (d.entry s)).contains core)).foldl (fun d s => d.setReleased s true) d
  let d := (List.range 16).foldl (fun d cls =>
    if tabGet 0 d.letter.counts (16 * owner + cls) ≠ 0 && !((held d).any (fun s => entryClass (d.entry s) == cls))
    then d.releaseClass owner cls else d) d
  d.offerAll owner

/-- A core enters WFI; a request that is raised already keeps it from waiting. -/
def Dev.enterWfi (d : Dev) (core : Nat) : Dev :=
  if d.requestRaised core then d
  else
    let d := { d with letter := { d.letter with wfi := tabSet false d.letter.wfi core true } }
    (d.corePages core).foldl (fun d page => d.releaseTo page core) d

/-! ### MSI-X (R306, R307) -/

/-- The deliverable sources that a vector carries. -/
def Dev.vectorSources (d : Dev) (i v : Nat) : List Nat :=
  (d.sourcesOf (0x40 + i)).filter (fun s => d.deliverable s && entryRoute (d.entry s) % 64 == v)

/-- The write is issued: its sources become inactive, the PBA bit and the idle hint clear (R270). -/
def Dev.msixWrite (d : Dev) (i v : Nat) : Dev :=
  let d := (d.vectorSources i v).foldl (fun d s => (d.setSourceState s 0).setReleased s false) d
  let d := ((d.linkUse (instPort i)).setPba i v false).clearHint i
  d.send (.msix i v (tabGet 0 d.letter.vecAddr (64 * i + v)) (tabGet 0 d.letter.vecData (64 * i + v)))

/-- A vector's write is issued when a released source waits for it. -/
def Dev.msixIssue (d : Dev) (i v : Nat) : Dev :=
  if d.vectorBlocked i v || (d.vectorSources i v).isEmpty then d else d.msixWrite i v

/-- A mask is set or cleared: open deliveries are withdrawn, and a vector whose PBA bit is set is written. -/
def Dev.setMask (d : Dev) (i : Nat) (sel : MaskSel) (masked : Bool) : Dev :=
  let d' := match sel with
    | .vector v => { d with letter := { d.letter with unmasked := tabSet false d.letter.unmasked (64 * i + v % 64) (!masked) } }
    | .function => { d with letter := { d.letter with fmask := tabSet false d.letter.fmask i masked } }
  let d' := Dev.withdrawn d d' (d.sourcesOf (0x40 + i))
  ((List.range 64).filter (fun v => tabGet false d'.letter.pba (64 * i + v))).foldl
    (fun d v => if d.vectorBlocked i v then d else d.msixWrite i v) d'

/-! ### Edge latches (R311) -/

/-- The latch posts its source and clears, when the source is enabled. -/
def Dev.latchPost (d : Dev) (pin : Nat) : Dev :=
  if tabGet false d.kept.latched pin && entryEn (d.entry (160 + pin)) then
    ({ d with kept := { d.kept with latched := tabSet false d.kept.latched pin false } }).post (160 + pin)
  else d

/-! ### Retargeting (R291) -/

/-- The fixed internal sources of a block (Table 15-2). -/
def blockSources (id : Nat) : List Nat :=
  let n := id % 512
  match id / 4096 with
  | 9 => [33 + n]
  | 7 => [97 + n]
  | 8 => [129 + n]
  | 6 => [137 + n]
  | _ => []

/-- Every fixed source of the block goes to its new owner: disabled, class 0 and inactive, with an open delivery withdrawn. -/
def Dev.retargetSources (d : Dev) (id owner : Nat) : Dev :=
  (blockSources id).foldl (fun d s =>
    let d := if d.offered s then d.count 0x2B00 0x08 else d
    let e := d.entry s
    let d := d.setEntry s (setBits (setBits (setBits (setBits e 63 1 0) 60 2 0) 52 4 0) 8 8 owner)
    d.setReleased s false) d

/-! ### The meanings -/

/-- DOORBELL (R303). A CAN port has no way to a page. -/
def execDoorbell (who : Init) (page word : Nat) (s : State) : Host.Outcome State Fault Refusal :=
  act (fun d => if initOk who && initCode who < 0x100 then d.doorbell who page word else d) s

/-- CLAIM (R305). -/
def execClaim (core page : Nat) (s : State) : Host.Outcome State Fault Refusal := act (fun d => if d.coreRuns core then d.claim core page else d) s

/-- COMPLETE (R304). -/
def execComplete (core page source : Nat) (s : State) : Host.Outcome State Fault Refusal :=
  act (fun d => if d.coreRuns core then d.complete core page (source % 2048) else d) s

/-- THRESHOLD_WRITE (R305, R307). -/
def execThresholdWrite (core page value : Nat) (s : State) : Host.Outcome State Fault Refusal :=
  act (fun d => if d.coreRuns core then d.putThreshold core page value else d) s

/-- SOURCE_ENTRY_WRITE (R302). -/
def execSourceEntryWrite (who : Init) (source value : Nat) (s : State) : Host.Outcome State Fault Refusal :=
  actServed (onUnit source 2048 (fun d =>
    let i := 0x2B10 + source / 128
    let j := source % 128 + 1
    d.request who i j (numData i j value) (entryVerdict who source value))) s

/-- MODERATION_TIMER_EXPIRY (R308, R310). -/
def execModerationTimerExpiry (owner cls : Nat) (s : State) : Host.Outcome State Fault Refusal :=
  act (onUnit cls 16 (fun d =>
    if tabGet false d.letter.timers (16 * owner + cls) then (d.releaseClass owner cls).offerAll owner else d)) s

/-- CORE_WFI (R309). -/
def execCoreWfi (core : Nat) (s : State) : Host.Outcome State Fault Refusal :=
  act (onUnit core 9 (fun d => if d.coreRuns core then d.enterWfi core else d)) s

/-- MSIX_WRITE_ISSUE (R306). -/
def execMsixWriteIssue (inst vector : Nat) (s : State) : Host.Outcome State Fault Refusal :=
  act (onUnit inst 64 (onUnit vector 64 (fun d => d.msixIssue inst vector))) s

/-- MSIX_MASK_WRITE (R307). -/
def execMsixMaskWrite (inst : Nat) (sel : MaskSel) (masked : Bool) (s : State) : Host.Outcome State Fault Refusal :=
  act (onUnit inst 64 (fun d => d.setMask inst sel masked)) s

/-- EDGE_LATCH_POST (R311): the fabric domain runs whenever the logic does. -/
def execEdgeLatchPost (pin : Nat) (s : State) : Host.Outcome State Fault Refusal :=
  act (onUnit pin 17 (fun d => d.latchPost pin)) s

end Sys2Proof.Machine
end

