-- ==== Sys2Proof/Machine/Crypto.lean ====
section
/-! DEFINITION. The two publications that R3 names for debug certificates and boot images: SHA-384 (FIPS 180-4) and ECDSA on
the curve P-384 (FIPS 186-5). Their constants are those of the publications (PRESUMED, assumption log 48: the spec names
both and repeats neither). -/

namespace Sys2Proof.Machine

/-! ### SHA-384 -/

abbrev Word64 := BitVec 64

/-- The round constants. -/
def shaRounds : List Nat :=
  [0x428A2F98D728AE22, 0x7137449123EF65CD, 0xB5C0FBCFEC4D3B2F, 0xE9B5DBA58189DBBC, 0x3956C25BF348B538,
   0x59F111F1B605D019, 0x923F82A4AF194F9B, 0xAB1C5ED5DA6D8118, 0xD807AA98A3030242, 0x12835B0145706FBE,
   0x243185BE4EE4B28C, 0x550C7DC3D5FFB4E2, 0x72BE5D74F27B896F, 0x80DEB1FE3B1696B1, 0x9BDC06A725C71235,
   0xC19BF174CF692694, 0xE49B69C19EF14AD2, 0xEFBE4786384F25E3, 0x0FC19DC68B8CD5B5, 0x240CA1CC77AC9C65] ++
  [0x2DE92C6F592B0275, 0x4A7484AA6EA6E483, 0x5CB0A9DCBD41FBD4, 0x76F988DA831153B5, 0x983E5152EE66DFAB,
   0xA831C66D2DB43210, 0xB00327C898FB213F, 0xBF597FC7BEEF0EE4, 0xC6E00BF33DA88FC2, 0xD5A79147930AA725,
   0x06CA6351E003826F, 0x142929670A0E6E70, 0x27B70A8546D22FFC, 0x2E1B21385C26C926, 0x4D2C6DFC5AC42AED,
   0x53380D139D95B3DF, 0x650A73548BAF63DE, 0x766A0ABB3C77B2A8, 0x81C2C92E47EDAEE6, 0x92722C851482353B] ++
  [0xA2BFE8A14CF10364, 0xA81A664BBC423001, 0xC24B8B70D0F89791, 0xC76C51A30654BE30, 0xD192E819D6EF5218,
   0xD69906245565A910, 0xF40E35855771202A, 0x106AA07032BBD1B8, 0x19A4C116B8D2D0C8, 0x1E376C085141AB53,
   0x2748774CDF8EEB99, 0x34B0BCB5E19B48A8, 0x391C0CB3C5C95A63, 0x4ED8AA4AE3418ACB, 0x5B9CCA4F7763E373,
   0x682E6FF3D6B2B8A3, 0x748F82EE5DEFB2FC, 0x78A5636F43172F60, 0x84C87814A1F0AB72, 0x8CC702081A6439EC] ++
  [0x90BEFFFA23631E28, 0xA4506CEBDE82BDE9, 0xBEF9A3F7B2C67915, 0xC67178F2E372532B, 0xCA273ECEEA26619C,
   0xD186B8C721C0C207, 0xEADA7DD6CDE0EB1E, 0xF57D4F7FEE6ED178, 0x06F067AA72176FBA, 0x0A637DC5A2C898A6,
   0x113F9804BEF90DAE, 0x1B710B35131C471B, 0x28DB77F523047D84, 0x32CAAB7B40C72493, 0x3C9EBE0A15C9BEBC,
   0x431D67C49C100D4C, 0x4CC5D4BECB3E42B6, 0x597F299CFC657E2A, 0x5FCB6FAB3AD6FAEC, 0x6C44198C4A475817]

/-- The hash value before the first block. -/
def shaStart : List Word64 :=
  ([0xCBBB9D5DC1059ED8, 0x629A292A367CD507, 0x9159015A3070DD17, 0x152FECD8F70E5939, 0x67332667FFC00B31,
   0x8EB44A8768581511, 0xDB0C2E0D64F98FA7, 0x47B5481DBEFA4FA4] :
    List Nat).map (BitVec.ofNat 64)

def wordAt (l : List Word64) (k : Nat) : Word64 := l.getD k 0

/-- Bytes, most significant first, as a number, and back. -/
def beNat (b : List Byte) : Nat := b.foldl (fun acc x => 256 * acc + x.toNat) 0
def beBytes (n v : Nat) : List Byte := (leBytes n v).reverse

/-- A message with its padding: 80h, zeros, and its length in bits. -/
def shaPad (m : List Byte) : List Byte :=
  m ++ [0x80#8] ++ List.replicate ((239 - m.length % 128) % 128) 0 ++ beBytes 16 (8 * m.length)

/-- The message schedule: 16 words, and 64 from those before. -/
def shaSchedule : Nat → List Word64 → List Word64
  | 0, w => w
  | n + 1, w =>
    let at_ (k : Nat) : Word64 := wordAt w (w.length - k)
    let s0 := (at_ 15).rotateRight 1 ^^^ (at_ 15).rotateRight 8 ^^^ (at_ 15) >>> 7
    let s1 := (at_ 2).rotateRight 19 ^^^ (at_ 2).rotateRight 61 ^^^ (at_ 2) >>> 6
    shaSchedule n (w ++ [s1 + at_ 7 + s0 + at_ 16])

/-- One round on the eight working variables. -/
def shaRound (v : List Word64) (kw : Nat × Word64) : List Word64 :=
  let g (k : Nat) : Word64 := wordAt v k
  let s1 := (g 4).rotateRight 14 ^^^ (g 4).rotateRight 18 ^^^ (g 4).rotateRight 41
  let ch := (g 4 &&& g 5) ^^^ (~~~(g 4) &&& g 6)
  let t1 := g 7 + s1 + ch + BitVec.ofNat 64 kw.1 + kw.2
  let s0 := (g 0).rotateRight 28 ^^^ (g 0).rotateRight 34 ^^^ (g 0).rotateRight 39
  let maj := (g 0 &&& g 1) ^^^ (g 0 &&& g 2) ^^^ (g 1 &&& g 2)
  [t1 + s0 + maj, g 0, g 1, g 2, g 3 + t1, g 4, g 5, g 6]

/-- The blocks of a padded message, in order. -/
def shaBlocks : Nat → List Byte → List Word64 → List Word64
  | 0, _, h => h
  | n + 1, m, h =>
    let w := (List.range 16).map (fun k => BitVec.ofNat 64 (beNat ((m.drop (8 * k)).take 8)))
    let v := (shaRounds.zip (shaSchedule 64 w)).foldl shaRound h
    shaBlocks n (m.drop 128) ((h.zip v).map (fun p => p.1 + p.2))

/-- SHA-384 of some bytes: 48 bytes. -/
def sha384 (m : List Byte) : List Byte :=
  let p := shaPad m
  (((shaBlocks (p.length / 128) p shaStart).take 6).map (fun w => beBytes 8 w.toNat)).flatten

/-! ### P-384 -/

/-- The field, the order of the base point, the coefficient b (a is -3), and the base point. -/
def curveP : Nat := 2 ^ 384 - 2 ^ 128 - 2 ^ 96 + 2 ^ 32 - 1
def curveN : Nat :=
  0xFFFFFFFFFFFFFFFFFFFFFFFFFFFFFFFFFFFFFFFFFFFFFFFFC7634D81F4372DDF581A0DB248B0A77AECEC196ACCC52973
def curveB : Nat :=
  0xB3312FA7E23EE7E4988E056BE3F82D19181D9C6EFE8141120314088F5013875AC656398D8A2ED19D2A85C8EDD3EC2AEF
def curveG : Nat × Nat :=
  (0xAA87CA22BE8B05378EB1C71EF320AD746E1D3B628BA79B9859F741E082542A385502F25DBF55296C3A545E3872760AB7,
   0x3617DE4A96262C6F5D9E98BF9292DC29F8F41DBD289A147CE9DA3113B5F0B8C00A60B1CE1D7E819D7A431D7C90EA0E5F)

/-- b^e modulo m, over so many bits of the exponent. -/
def powMod (m : Nat) : Nat → Nat → Nat → Nat
  | 0, _, _ => 1
  | n + 1, b, e =>
    let r := powMod m n (b * b % m) (e / 2)
    if e % 2 = 1 then r * b % m else r

/-- The inverse modulo a prime of 384 bits. -/
def invMod (m a : Nat) : Nat := powMod m 384 (a % m) (m - 2)

/-- a - b modulo m, for b below m. -/
def subMod (m a b : Nat) : Nat := (a + m - b) % m

/-- A point, or the point at infinity. -/
abbrev Point := Option (Nat × Nat)

/-- The third point of a line of a slope, mirrored. -/
def chord (slope : Nat) (p q : Nat × Nat) : Point :=
  let x := subMod curveP (subMod curveP (slope * slope) p.1) q.1
  some (x, subMod curveP (slope * subMod curveP p.1 x) p.2)

/-- The sum of two points. -/
def addPoints : Point → Point → Point
  | none, q => q
  | p, none => p
  | some p, some q =>
    if p.1 = q.1 then
      if (p.2 + q.2) % curveP = 0 then none
      else chord (subMod curveP (3 * p.1 * p.1) 3 * invMod curveP (2 * p.2)) p q
    else chord (subMod curveP q.2 p.2 * invMod curveP (subMod curveP q.1 p.1)) p q

/-- A multiple of a point, over so many bits of the factor. -/
def timesPoint : Nat → Nat → Point → Point
  | 0, _, _ => none
  | n + 1, k, p =>
    let r := timesPoint n (k / 2) (addPoints p p)
    if k % 2 = 1 then addPoints p r else r

/-- A public key, Qx then Qy: a point of the curve. -/
def keyPoint (key : List Byte) : Option (Nat × Nat) :=
  let x := beNat (key.take 48)
  let y := beNat ((key.drop 48).take 48)
  if x < curveP ∧ y < curveP ∧ y * y % curveP = (x * x * x + (curveP - 3) * x + curveB) % curveP then some (x, y) else none

/-- A signature, r then s, over SHA-384 of a message verifies under a public key. -/
def ecdsaVerifies (key message signature : List Byte) : Bool :=
  let r := beNat (signature.take 48)
  let s := beNat ((signature.drop 48).take 48)
  match keyPoint key with
  | none => false
  | some q =>
    if r = 0 ∨ curveN ≤ r ∨ s = 0 ∨ curveN ≤ s then false
    else
      let w := invMod curveN s
      let e := beNat (sha384 message)
      match addPoints (timesPoint 384 (e * w % curveN) (some curveG)) (timesPoint 384 (r * w % curveN) (some q)) with
      | none => false
      | some p => p.1 % curveN == r

end Sys2Proof.Machine
end

