-- ==== Sys2Proof/Machine/Nines.lean ====
section
/-! DEFINITION. The Nines check-value units (18): settings, streams, feeds, and the disable of an engine. -/

namespace Sys2Proof.Machine

/-- An engine beside its objects. -/
def Dev.engine (d : Dev) (n : Nat) : Engine := tabGet {} d.engines n

/-- An engine is replaced. -/
def Dev.setEngine (d : Dev) (n : Nat) (x : Engine) : Dev := { d with engines := tabSet {} d.engines n x }

/-- The state of an engine (Table 18-3). -/
def Dev.engState (d : Dev) (n : Nat) : Nat := d.getO (ninesIndex n) 0x01
def Dev.setEngState (d : Dev) (n st : Nat) : Dev := d.setO (ninesIndex n) 0x01 st

/-! ### The configuration word (Table 18-1) -/

def cfgWidth (c : Nat) : Nat := c % 128
def cfgRefIn (c : Nat) : Bool := c.testBit 8
def cfgRefOut (c : Nat) : Bool := c.testBit 9
def cfgTag (c : Nat) : Nat := bits c 10 2
def cfgCmp (c : Nat) : Bool := c.testBit 15

/-- The reserved fields of the word read 0. -/
def cfgMask (v : Nat) : Nat := v % 128 + 256 * bits v 8 4 + 32768 * bits v 15 1

/-- Table 18-2: width, polynomial, initial value, REFIN and REFOUT, final XOR. -/
def catalogue : List (Nat × Nat × Nat × Bool × Nat) :=
  [(8, 0x07, 0, false, 0), (16, 0x1021, 0xFFFF, false, 0), (16, 0x1021, 0, true, 0), (16, 0x8005, 0, true, 0)]
  ++ [(24, 0x864CFB, 0xB704CE, false, 0), (32, 0x04C11DB7, 0xFFFFFFFF, true, 0xFFFFFFFF)]
  ++ [(32, 0x1EDC6F41, 0xFFFFFFFF, true, 0xFFFFFFFF), (32, 0x04C11DB7, 0xFFFFFFFF, false, 0)]
  ++ [(64, 0x42F0E1EBA9EA3693, 0, false, 0), (64, 0x42F0E1EBA9EA3693, 2 ^ 64 - 1, true, 2 ^ 64 - 1)]

/-! ### Settings (R351, R352) -/

/-- The engine's settings may be written: it is Idle or Disabled. -/
def Dev.engStill (d : Dev) (n : Nat) : Bool := d.engState n ≤ 1

/-- Writes of the settings (R351, R353) and of the plain objects. -/
def ninesVerdict (n j v : Nat) (d : Dev) : Verdict :=
  let i := ninesIndex n
  let w := cfgWidth (d.getO i 3)
  if j = 3 then
    let wide := cfgWidth v
    if wide < 8 || 64 < wide || [4, 5, 6].any (fun k => 2 ^ wide ≤ d.getO i k) then .error abortRange
    else if !(d.engStill n) then .error abortState
    else .ok (d.setO i 3 (cfgMask v))
  else if 4 ≤ j ∧ j ≤ 6 then
    if 2 ^ w ≤ v then .error abortRange
    else if !(d.engStill n) then .error abortState
    else .ok (d.setO i j v)
  else if j = 0x0A then (if d.engStill n then .ok (d.setO i j v) else .error abortState)
  else if j = 0x0C then .ok (d.setO i j (v % 2 ^ 40))
  else .ok (d.setO i j v)

/-- A catalogue code: TAG and CMP are kept, the other fields replaced. -/
def catalogueVerdict (n k : Nat) (d : Dev) : Verdict :=
  match (if k = 0 then none else catalogue[k - 1]?) with
  | none => .error abortRange
  | some (w, poly, init, ref, out) =>
    if !(d.engStill n) then .error abortState
    else
      let i := ninesIndex n
      let c := d.getO i 3
      let word := w + (if ref then 0x300 else 0) + 1024 * cfgTag c + (if cfgCmp c then 32768 else 0)
      .ok ((((d.setO i 3 word).setO i 4 poly).setO i 5 init).setO i 6 out)

/-! ### The computation (R350) -/

/-- The register takes bytes. -/
def Dev.engTake (d : Dev) (n reg : Nat) (data : List Byte) : Nat :=
  let c := d.getO (ninesIndex n) 3
  data.foldl (crcByte (cfgWidth c) (d.getO (ninesIndex n) 4) (cfgRefIn c)) reg

/-- The result of a register. -/
def Dev.engResult (d : Dev) (n reg : Nat) : Nat :=
  let c := d.getO (ninesIndex n) 3
  (if cfgRefOut c then reflect (cfgWidth c) reg else reg) ^^^ d.getO (ninesIndex n) 6

/-- The nine digits. -/
def nineDigits : List Byte := (List.range 9).map (fun k => BitVec.ofNat 8 (0x31 + k))

/-- The self-check: the nine digits through the current setting, with no tag. -/
def selfCheckVerdict (n : Nat) (d : Dev) : Verdict :=
  if d.engStill n then
    .ok (d.setO (ninesIndex n) 9 (d.engResult n (d.engTake n (d.getO (ninesIndex n) 5) nineDigits)))
  else .error abortState

/-! ### Streams (R353) -/

/-- A stream opens; a value tag is folded at once. -/
def Dev.engOpen (d : Dev) (n : Nat) : Dev :=
  let i := ninesIndex n
  let init := d.getO i 5
  let reg := if 2 ≤ cfgTag (d.getO i 3) then d.engTake n init (leBytes 8 (d.getO i 0x0A)) else init
  let d := d.setEngine n { d.engine n with reg := reg, fed := false, feed := none, before := [] }
  (((d.setO i 0x10 0).setO i 0x11 0).setO i 0x12 0).setEngState n 2

/-- A stream closes: result and status, the tag value's increment, the tallies and the post (R353, R355). -/
def Dev.engClose (d : Dev) (n : Nat) : Dev :=
  let i := ninesIndex n
  let c := d.getO i 3
  let result := d.engResult n (d.engine n).reg
  let differ := cfgCmp c && result != d.getO i 0x0F
  let d := (d.setO i 0x10 result).setO i 0x11 (if differ then 6 else 1)
  let d := if cfgTag c = 3 then d.setO i 0x0A (d.getO i 0x0A + 1) else d
  let d := ((d.count 0x2E00 2).count i 0x15).setEngState n 1
  let d := if differ then d.count 0x2E00 4 else d
  d.post (129 + n)

/-- Control writes: 1 opens, 2 closes, 3 aborts. -/
def controlVerdict (n v : Nat) (d : Dev) : Verdict :=
  let st := d.engState n
  if v = 1 then (if st = 1 then .ok (d.engOpen n) else .error abortState)
  else if st = 4 then .ok ((d.setO (ninesIndex n) 0x10 0).setEngState n 1)
  else if st ≠ 2 then .error abortState
  else if v = 2 then .ok (d.engClose n)
  else .ok ((d.setO (ninesIndex n) 0x11 4).setEngState n 1)

/-- Direct data: refused as the first feed of a stream with an address tag. -/
def directVerdict (n : Nat) (data : List Byte) (d : Dev) : Verdict :=
  let i := ninesIndex n
  let x := d.engine n
  if data.isEmpty then .error abortLength
  else if d.engState n ≠ 2 ∨ (cfgTag (d.getO i 3) = 1 ∧ !x.fed) then .error abortState
  else .ok ((d.setEngine n { x with reg := d.engTake n x.reg data, fed := true }).countBy i 0x12 data.length)

/-! ### Memory feeds (R354) -/

/-- A feed word: the reads begin at the feed address, whose tag is folded now if it is the stream's first. -/
def feedVerdict (n v : Nat) (d : Dev) : Verdict :=
  let i := ninesIndex n
  let x := d.engine n
  let addr := d.getO i 0x0C
  if bits v 28 3 ≠ 0 ∨ v % 2 ^ 28 = 0 then .error abortRange
  else if d.engState n ≠ 2 then .error abortState
  else
    let reg := if cfgTag (d.getO i 3) = 1 && !x.fed then d.engTake n x.reg (leBytes 8 addr) else x.reg
    .ok ((d.setEngine n { x with reg := reg, fed := true, feed := some (addr, v % 2 ^ 28, v.testBit 31)
                                 before := d.mem }).setEngState n 3)

/-- A byte that another initiator wrote during the feed may be taken as it was or as it is (R354): a free value. -/
def eitherByte (k : Nat) (was now : Byte) : Byte :=
  if was = now then now else if Config.freeNat k % 2 = 0 then was else now

/-- What a feed found: the register and the bytes taken, and where and why it halted. -/
structure Fed where
  reg  : Nat
  took : Nat
  halt : Option (Nat × Nat)        -- the failing burst's address, and the status
  dev  : Dev

/-- The bursts of a feed, of 64 bytes each, from an address; `code` is the owner's. -/
def feedBursts (n code : Nat) : Nat → Nat → Nat → Fed → Fed
  | 0, _, _, f => f
  | fuel + 1, addr, left, f =>
    if left = 0 ∨ f.halt.isSome then f
    else
      let k := min left (64 - addr % 64)
      let old := ({ f.dev with mem := (f.dev.engine n).before } : Dev).bytesAt addr k
      match f.dev.memRead code addr k with
      | (.refused _, d) => { f with halt := some (addr / 64 * 64, 3), dev := d }
      | (.bad _, d) => { f with halt := some (addr / 64 * 64, 2), dev := d }
      | (.ok data, d) =>
        let free := d.free
        let data := (old.zip data).zip (List.range k) |>.map (fun p => eitherByte (free + p.2) p.1.1 p.1.2)
        feedBursts n code fuel (addr + k) (left - k)
          { f with reg := d.engTake n f.reg data, took := f.took + k, dev := { d with free := free + k } }

/-- The feed in hand as memory now answers it. -/
def Dev.feedNow (d : Dev) (n addr len : Nat) : Fed :=
  feedBursts n (d.owner (blockId 8 n)) (len / 64 + 2) addr len { reg := (d.engine n).reg, took := 0, halt := none, dev := d }

/-- The feed ends: Open again, or with LAST the stream closes. -/
def Dev.feedEnds (d : Dev) (n : Nat) : Dev :=
  match (d.engine n).feed with
  | none => d
  | some (addr, len, last) =>
    if d.engState n ≠ 3 then d
    else
      let f := d.feedNow n addr len
      if f.halt.isSome then d
      else
        let d := f.dev.countBy (ninesIndex n) 0x12 f.took
        let d := (d.setEngine n { d.engine n with reg := f.reg, feed := none, before := [] }).setEngState n 2
        if last then d.engClose n else d

/-- The feed halts at its first read that fails. -/
def Dev.feedHalts (d : Dev) (n : Nat) : Dev :=
  match (d.engine n).feed with
  | none => d
  | some (addr, len, _) =>
    if d.engState n ≠ 3 then d
    else
      let i := ninesIndex n
      let f := d.feedNow n addr len
      match f.halt with
      | none => d
      | some (at_, status) =>
        let d := (f.dev.countBy i 0x12 f.took).setEngine n { d.engine n with reg := f.reg, feed := none, before := [] }
        let d := ((d.setO i 0x13 at_).setO i 0x11 status).setEngState n 4
        ((d.count 0x2E00 3).count i 0x16).post (129 + n)

/-! ### Disabling (R357) -/

/-- An engine starts to be disabled; a Bound engine keeps its binding until the next latch. -/
def Dev.disableEngine (d : Dev) (n : Nat) : Dev :=
  let st := d.engState n
  if st = 0 ∨ st = 6 then d
  else
    (d.setEngine n { d.engine n with opened := st == 2 || st == 3, disableAt := d.clock.ns }).setEngState n 6

/-- The disable ends: a feed in hand has stopped at its next 4 KiB boundary, or at its end before one, the stream that was open
is cancelled, and the engine shows Disabled, or Idle when its enable has been written 1 again. How far the feed had come is a
free value. -/
def Dev.engDisabled (d : Dev) (n : Nat) : Dev :=
  let i := ninesIndex n
  if d.engState n ≠ 6 ∨ d.getO i 0x14 ≠ 0xFF then d
  else
    let x := d.engine n
    let d := match x.feed with
      | none => d
      | some (addr, len, _) =>
        let (k, d) := d.nextFree
        let stop := ceilDiv (Config.freeNat k % (len + 1) + addr) 4096 * 4096
        d.countBy i 0x12 (min len (stop - addr))
    let d := if x.opened then d.setO i 0x11 5 else d
    let d := (d.setO i 0x17 ((d.clock.ns - x.disableAt) / 1000)).setEngine n {}
    d.setEngState n (if d.getO i 2 = 0 || !d.running then 0 else 1)

/-- A write of an engine's enable. -/
def ninesEnableVerdict (n v : Nat) (d : Dev) : Verdict :=
  let d := d.setO (ninesIndex n) 2 v
  if v = 0 then .ok (d.disableEngine n)
  else .ok (if d.engState n = 0 && d.running then d.setEngState n 1 else d)

/-- What a hand-over loads after the disable: the reset values of Tables 18-1 and 18-5. -/
def Dev.engHandOver (d : Dev) (n : Nat) : Dev := (d.clearIndex (ninesIndex n) []).setEngine n {}

/-! ### The meanings -/

/-- A write of an engine's object through the checks of Table 3-2. -/
def onEngine (who : Init) (n j : Nat) (data : List Byte) (f : Dev → Verdict) (s : State) : Host.Outcome State Fault Refusal :=
  actServed (onUnit n 8 (fun d => d.request who (ninesIndex n) j data f)) s

/-- CATALOGUE_LOAD (R352). -/
def execCatalogueLoad (who : Init) (engine code : Nat) (s : State) : Host.Outcome State Fault Refusal :=
  onEngine who engine 7 (numData (ninesIndex engine) 7 code) (catalogueVerdict engine code) s

/-- SELF_CHECK (R352). -/
def execSelfCheck (who : Init) (engine value : Nat) (s : State) : Host.Outcome State Fault Refusal :=
  onEngine who engine 8 (numData (ninesIndex engine) 8 value) (selfCheckVerdict engine) s

/-- STREAM_OPEN (R353). -/
def execStreamOpen (who : Init) (engine : Nat) (s : State) : Host.Outcome State Fault Refusal :=
  onEngine who engine 0x0B [1] (controlVerdict engine 1) s

/-- STREAM_CLOSE (R353). -/
def execStreamClose (who : Init) (engine : Nat) (s : State) : Host.Outcome State Fault Refusal :=
  onEngine who engine 0x0B [2] (controlVerdict engine 2) s

/-- STREAM_ABORT (R353). -/
def execStreamAbort (who : Init) (engine : Nat) (s : State) : Host.Outcome State Fault Refusal :=
  onEngine who engine 0x0B [3] (controlVerdict engine 3) s

/-- FEED_WORD (R354). -/
def execFeedWord (who : Init) (engine value : Nat) (s : State) : Host.Outcome State Fault Refusal :=
  onEngine who engine 0x0D (numData (ninesIndex engine) 0x0D value) (feedVerdict engine value) s

/-- FEED_END (R353). -/
def execFeedEnd (engine : Nat) (s : State) : Host.Outcome State Fault Refusal :=
  act (onUnit engine 8 (fun d => d.feedEnds engine)) s

/-- FEED_HALT (R354). -/
def execFeedHalt (engine : Nat) (s : State) : Host.Outcome State Fault Refusal :=
  act (onUnit engine 8 (fun d => d.feedHalts engine)) s

/-- DIRECT_DATA (R353). -/
def execDirectData (who : Init) (engine : Nat) (data : List Byte) (s : State) : Host.Outcome State Fault Refusal :=
  onEngine who engine 0x0E data (directVerdict engine data) s

/-- NINES_ENABLE_WRITE (R357). -/
def execNinesEnableWrite (who : Init) (engine value : Nat) (s : State) : Host.Outcome State Fault Refusal :=
  onEngine who engine 2 (numData (ninesIndex engine) 2 value) (ninesEnableVerdict engine value) s

/-- NINES_DISABLE_COMPLETE (R357). -/
def execNinesDisableComplete (engine : Nat) (s : State) : Host.Outcome State Fault Refusal :=
  act (onUnit engine 8 (fun d => d.engDisabled engine)) s

end Sys2Proof.Machine
end

