-- ==== Sys2Proof/Machine/Dram.lean ====
section
/-! DEFINITION. The DRAM controller (16): promotions, bank skew, refresh, the command-path check, the carry engine, live
remaps, and the partitions of the system cache. -/

namespace Sys2Proof.Machine

/-- Every snapshot of memory that the device holds is keyed anew: memory itself, what each GPU partition's L2 has taken in,
and what a Nines feed began with. `f` gives a key's new place, or none when its content is lost. -/
def rekey (f : Nat → Option Nat) (m : Tab Byte) : Tab Byte :=
  m.foldl (fun t p => match f p.1 with
    | some k => tabSet 0 t k p.2
    | none => t) []

def Dev.rekeyAll (d : Dev) (f : Nat → Option Nat) : Dev :=
  { d with
    mem := rekey f d.mem
    gpu := { d.gpu with parts := d.gpu.parts.map (fun p => (p.1, { p.2 with view := rekey f p.2.view })) }
    engines := d.engines.map (fun p => (p.1, { p.2 with before := rekey f p.2.before })) }

/-! ### Bank skew (R322) -/

/-- A region has been recorded for the whole skew time: an event, the counts, and a remap to order B if it asks for one. -/
def Dev.queueRemap (d : Dev) (r order : Nat) : Dev :=
  let m : Remap := { region := r, order := order }
  let first := d.dram.remaps.isEmpty
  let d := { d with dram := { d.dram with remaps := d.dram.remaps ++ [m] } }
  if first ∧ d.dram.carry.isNone then d.runRemap m else d.setO (0x2C20 + r) 3 1

/-- What refuses a remap (R328). -/
def Dev.remapRefused (d : Dev) (r order : Nat) : Bool :=
  let now := attrOrder (d.regAttr 0 r)
  now == 3 || now == order || d.dram.remaps.any (fun m => m.region == r) || d.freeWays == 0

def Dev.skewEvent (d : Dev) (c r bank : Nat) : Dev :=
  let d := ((d.log 0x62 4 (attrOwner (d.regAttr 0 r)) c [r, c, bank]).count 0x2C00 0x11).count (0x2C20 + r) 5
  let spans (c' : Nat) : Bool := tabGet 0xFF d.dram.skewOf c' == r
  let d := { d with dram := { d.dram with
    skewed := (List.range 8).foldl (fun t c' => if spans c' then tabSet 0 t c' 0 else t) d.dram.skewed } }
  let order := attrOrder (d.regAttr 0 r)
  if d.getO (0x2C20 + r) 1 = 1 && (order == 0 || order == 2) && !(d.remapRefused r 1) then d.queueRemap r 1 else d

/-- A window of 1 ms ends on a channel. -/
def Dev.skewWindow (d : Dev) (c transfers bank count region : Nat) : Dev :=
  let i := 0x2C02 + c
  let share := if transfers = 0 then 0 else min 255 (count * 256 / transfers)
  let d := (((d.countBy i 1 transfers).setO i 2 bank).setO i 3 share).setO i 4 region
  let skewed := 10000 ≤ transfers && d.getO 0x2C00 9 * transfers ≤ 16 * count && region < 32
  let before := if tabGet 0xFF d.dram.skewOf c = region then tabGet 0 d.dram.skewed c else 0
  let n := if skewed then before + 1 else 0
  let d := { d with dram := { d.dram with skewed := tabSet 0 d.dram.skewed c n
                                          skewOf := tabSet 0xFF d.dram.skewOf c (if skewed then region else 0xFF) } }
  if skewed && d.getO 0x2C00 0x0A * 1000 ≤ n then d.skewEvent c region bank else d

/-! ### Refresh and the command-path check (R323, R324) -/

/-- Mode register 4 of a rank that is active or a spare is read. -/
def Dev.modeRegister (d : Dev) (p field : Nat) (hot : Bool) : Dev :=
  let i := 0x2C10 + p
  if d.rankState p = 5 then d
  else
    let high := d.getO 0x2C00 0x0B ≤ field
    let n := if high then 0 else tabGet 0 d.dram.cool p + 1
    let d := { d with dram := { d.dram with cool := tabSet 0 d.dram.cool p (min n 2) } }
    let d := d.setO i 2 field
    let d := if high then d.setO i 3 1 else if 2 ≤ n then d.setO i 3 0 else d
    if hot then (d.log 0x61 5 0xFF p [p, field]).setPower { d.power with hotReports := d.power.hotReports + 1 } else d

/-- A command-path error: the second mismatch in a row. A spare is retired. -/
def Dev.pathCheck (d : Dev) (p : Nat) (mismatch again : Bool) : Dev :=
  if !(mismatch && again) then d
  else
    let d := (d.count (0x2C10 + p) 5).count 0x2C00 0x12
    if d.rankState p = 1 then (d.setRank p 5).log 0x60 3 0xFF p [p] else d.rankOut p

/-! ### The carry engine (R326) -/

/-- The units of protected regions that the listed bytes of a rank touch with their data or their check bytes. -/
def Dev.unitsIn (d : Dev) (p : Nat) : List (Nat × Nat × Nat) :=
  (d.mem.filterMap (fun e =>
    if 2 ^ 40 ≤ e.1 ∧ e.1 < 2 ^ 41 ∧ keyRank e.1 = p then
      match d.unlocate e.1 with
      | none => none
      | some a =>
        match d.regionOf 0 a with
        | none => none
        | some r =>
          let code := attrCode (d.regAttr 0 r)
          let x := a - d.regBase 0 r
          let size := d.regData r
          if code = 2 then none
          else if x < size then some (r, code, x / unitSize code * unitSize code)
          else
            let u := (x - size) / checkSize code * unitSize code
            if u < size then some (r, code, u) else none
    else none)).foldl (fun l u => if l.contains u then l else l ++ [u]) []

/-- The copy of a rank is complete: a burst that read uncorrectable is written poisoned (R338), and the drain starts. -/
def Dev.carryCopied (d : Dev) : Dev :=
  match d.dram.carry with
  | none => d
  | some c =>
    if c.draining then d
    else
      let bad := (d.unitsIn c.source).filter (fun u =>
        d.rankOf (d.regBase 0 u.1 + u.2.2) == c.source && d.decodeUnit u.1 u.2.1 u.2.2 == .uncorrectable)
      let d := bad.foldl (fun d u => d.writePoison u.1 u.2.1 u.2.2 (d.bytesAt (d.regBase 0 u.1 + u.2.2) (unitSize u.2.1))) d
      let used := ((List.range 128).filter (fun e => let b := d.remapEntry e; 128 ≤ b && bits b 3 4 == c.source)).length
      ({ d with dram := { d.dram with carry := some { c with draining := true } } }).setO 0x2C00 0x0F (used * 2 ^ 28)

/-- The flip: every remap entry that names the source names the target, and the target's locations hold the data. -/
def Dev.carryFlip (d : Dev) : Dev :=
  match d.dram.carry with
  | none => d
  | some c =>
    if !c.draining then d
    else
      let table := d.remapTable.map (fun b => if 128 ≤ b.toNat ∧ bits b.toNat 3 4 = c.source then
        BitVec.ofNat 8 (setBits b.toNat 3 4 c.target) else b)
      let dram (k : Nat) : Bool := 2 ^ 40 ≤ k && k < 2 ^ 41
      let d := d.rekeyAll (fun k =>
        if dram k && keyRank k == c.target then none
        else if dram k && keyRank k == c.source then some (setBits k 31 4 c.target) else some k)
      let d := (d.setB 0x2C00 0x0D table).setRank c.target 0
      let d := ((d.setRank c.source 5).log 0x60 3 0xFF c.source [c.source, c.target]).count 0x2C00 0x10
      ({ d with dram := { d.dram with carry := none } }).nextCarry

/-! ### Live remaps (R328) -/

/-- A written remap. -/
def remapVerdict (r order : Nat) (d : Dev) : Verdict :=
  if d.remapRefused r order then .error abortState else .ok (d.queueRemap r order)

/-- A block has been rewritten in the new order; with the last one the region's ORDER field shows it. -/
def Dev.remapBlock (d : Dev) : Dev :=
  match d.dram.remaps with
  | [] => d
  | m :: rest =>
    let i := 0x2C20 + m.region
    if d.getO i 3 ≠ 2 then d
    else
      let blocks := (d.regLimit 0 m.region - d.regBase 0 m.region) / waySize
      let n := d.getO i 4
      let lo := d.regBase 0 m.region + n * waySize
      let d := if blocks ≤ n then d
        else
          let after := d.setO i 4 (n + 1)
          let old := d
          after.rekeyAll (fun k =>
            if 2 ^ 40 ≤ k ∧ k < 2 ^ 41 then
              match old.unlocate k with
              | some a => if lo ≤ a ∧ a < lo + waySize then after.locate a else some k
              | none => some k
            else some k)
      let d := d.setO 0x2C00 0x0F (d.getO i 4 * waySize)
      if d.getO i 4 < blocks then d
      else
        let a := setBits (d.regAttr 0 m.region) 27 2 m.order
        let d := ((d.setO (regionIndex 0 m.region) 3 a).setO i 3 0).setO 0x2C40 4 0xFF
        let d := ({ d with dram := { d.dram with remaps := rest } }).log 0x60 6 (attrOwner a) m.region [m.region, m.order]
        d.nextCarry

/-! ### The system cache (R329, R330) -/

def wayIndex (k : Nat) : Nat := 0x2C41 + k

/-- A mask overlaps that of another enabled partition. -/
def Dev.waysTaken (d : Dev) (k mask : Nat) : Bool :=
  (List.range 16).any (fun m => m != k && d.getO (wayIndex m) 1 == 1 && (d.getO (wayIndex m) 3 &&& mask) != 0)

/-- The content of locked ways is lost; a way that is locked anew reads 0. -/
def Dev.dropWays (d : Dev) (mask : Nat) : Dev :=
  d.rekeyAll (fun k => if 2 ^ 41 ≤ k ∧ mask.testBit ((k - 2 ^ 41) / waySize) then none else some k)

/-- The mask of a partition applies. -/
def Dev.applyMask (d : Dev) (k mask : Nat) : Dev :=
  let left := d.getO (wayIndex k) 3
  let d := if d.getO (wayIndex k) 4 = 1 then d.dropWays (left - (left &&& mask)) else d
  ({ d with dram := { d.dram with leaving := tabSet 0 d.dram.leaving k 0 } }).setO (wayIndex k) 3 mask

/-- A write of a way mask: ways that leave an enabled partition are written back first. -/
def wayMaskVerdict (k mask : Nat) (d : Dev) : Verdict :=
  let old := d.getO (wayIndex k) 3
  let on := d.getO (wayIndex k) 1 = 1
  if on ∧ d.waysTaken k mask then .error abortRange
  else if on ∧ old - (old &&& mask) ≠ 0 then
    .ok { d with dram := { d.dram with leaving := tabSet 0 d.dram.leaving k (65536 + mask) } }
  else .ok (d.applyMask k mask)

/-- A lock base suits its partition: 2 MiB aligned, and its range wholly in one enabled region; 0 sets none. -/
def Dev.lockBaseOk (d : Dev) (k base : Nat) : Bool :=
  let size := (waysOf (d.getO (wayIndex k) 3)).length * waySize
  base == 0 || (base % waySize == 0 && (match d.regionOf 0 base with
    | some r => base + size ≤ d.regLimit 0 r
    | none => false))

/-- A write of LOCK: setting it zeroes the ways, clearing it discards their content. -/
def lockVerdict (k v : Nat) (d : Dev) : Verdict :=
  if v = d.getO (wayIndex k) 4 then .ok d
  else .ok ((d.dropWays (d.getO (wayIndex k) 3)).setO (wayIndex k) 4 v)

/-- The other writes of a partition: enable, owner and lock base. -/
def partitionVerdict (k j v : Nat) (d : Dev) : Verdict :=
  if j = 1 ∧ v = 1 ∧ d.waysTaken k (d.getO (wayIndex k) 3) then .error abortRange
  else if j = 5 ∧ !(d.lockBaseOk k v) then .error abortRange
  else .ok (d.setO (wayIndex k) j v)

/-- Reserved slots of the four classes sum to at most 64 (R320). -/
def slotsVerdict (j v : Nat) (d : Dev) : Verdict :=
  let sum := ([5, 6, 7, 8].filter (fun k => k != j)).foldl (fun s k => s + d.getO 0x2C01 k) v
  if 64 < sum then .error abortRange else .ok (d.setO 0x2C01 j v)

/-! ### The meanings -/

/-- The age limit of a request's class in ns (R320, Table 16-3). -/
def Dev.ageLimit (d : Dev) (source : DramInitiator) : Nat := d.getO 0x2C01 (serviceClass source + 1)

/-- REQUEST_PROMOTION (R321): a request that has waited in its slot longer than its class's age limit. -/
def execRequestPromotion (request : WaitingRequest) (s : State) : Host.Outcome State Fault Refusal :=
  actAwake (onUnit request.channel 8 (fun d =>
    if d.ageLimit request.source < request.waitedNs then d.count (0x2C02 + request.channel) 5 else d)) s

/-- BANK_SKEW_WINDOW (R322). -/
def execBankSkewWindow (channel transfers busiestBank busiestCount region : Nat) (s : State) :
    Host.Outcome State Fault Refusal :=
  actAwake (onUnit channel 8 (fun d => d.skewWindow channel transfers busiestBank busiestCount region)) s

/-- MODE_REGISTER_4_READ (R323). In Keep-alive the ranks set their own rate. -/
def execModeRegister4Read (rank field : Nat) (limitExceeded : Bool) (s : State) : Host.Outcome State Fault Refusal :=
  act (onUnit rank 16 (fun d => if d.awake then d.modeRegister rank (field % 256) limitExceeded else d)) s

/-- COMMAND_PATH_CHECK (R324). -/
def execCommandPathCheck (rank : Nat) (mismatch again : Bool) (s : State) : Host.Outcome State Fault Refusal :=
  act (onUnit rank 16 (fun d => if d.awake then d.pathCheck rank mismatch again else d)) s

/-- TAKE_OUT_OF_SERVICE (R325). -/
def execTakeOutOfService (who : Init) (rank value : Nat) (s : State) : Host.Outcome State Fault Refusal :=
  actServed (onUnit rank 16 (fun d =>
    d.request who (0x2C10 + rank) 6 (numData (0x2C10 + rank) 6 value) (fun d => .ok (d.rankOut rank)))) s

/-- CARRY_COPY_COMPLETE (R326). -/
def execCarryCopyComplete (s : State) : Host.Outcome State Fault Refusal := actAwake (fun d => d.carryCopied) s

/-- CARRY_DRAIN_COMPLETE (R326). -/
def execCarryDrainComplete (s : State) : Host.Outcome State Fault Refusal := actAwake (fun d => d.carryFlip) s

/-- REMAP (R328). -/
def execRemap (who : Init) (region value : Nat) (s : State) : Host.Outcome State Fault Refusal :=
  actServed (onUnit region 32 (fun d =>
    d.request who (0x2C20 + region) 2 (numData (0x2C20 + region) 2 value) (remapVerdict region value))) s

/-- REMAP_BLOCK_DONE (R328). -/
def execRemapBlockDone (s : State) : Host.Outcome State Fault Refusal := actAwake (fun d => d.remapBlock) s

/-- WAY_MASK_WRITE (R329). -/
def execWayMaskWrite (who : Init) (partition value : Nat) (s : State) : Host.Outcome State Fault Refusal :=
  actServed (onUnit partition 16 (fun d =>
    d.request who (wayIndex partition) 3 (numData (wayIndex partition) 3 value) (wayMaskVerdict partition value))) s

/-- WAY_WRITEBACK_COMPLETE (R329). -/
def execWayWritebackComplete (partition : Nat) (s : State) : Host.Outcome State Fault Refusal :=
  act (onUnit partition 16 (fun d =>
    let w := tabGet 0 d.dram.leaving partition
    if w = 0 then d else d.applyMask partition (w % 65536))) s

/-- LOCK_WRITE (R330). -/
def execLockWrite (who : Init) (partition value : Nat) (s : State) : Host.Outcome State Fault Refusal :=
  actServed (onUnit partition 16 (fun d =>
    d.request who (wayIndex partition) 4 (numData (wayIndex partition) 4 value) (lockVerdict partition value))) s

end Sys2Proof.Machine
end

