-- ==== Sys2Proof/Machine/Display.lean ====
section
/-! DEFINITION. Display outputs (04): states (R73 to R75), disabling (R79), staging and applying a timing (R67 to R71), HPD,
EDID and AUX (R74, R81, R82), underrun (R76), and the meanings of the family's commands. PIXEL_PLL_LOCKED starts a rod and
stands with the advance of a line. -/

namespace Sys2Proof.Machine

/-! ### States (Table 4-3) -/

/-- The port runs in eDP mode: the link mode in force is 1. -/
def Dev.edp (d : Dev) (n : Nat) : Bool := d.force n 0x0B == 1

/-- The HPD level as Table 4-3 takes it (R66, R74). -/
def Dev.hpdHigh (d : Dev) (n : Nat) : Bool :=
  d.getO (outputIndex n) 0x06 == 1 || (d.edp n && d.getO (outputIndex n) 0x04 == 1)

/-- The output is in a state of Table 4-3, which /02h shows (R73). No rule logs the transition itself. -/
def Dev.setOutState (d : Dev) (n st : Nat) : Dev := d.setO (outputIndex n) 0x02 st

/-- Leaving Active for Waiting or Training, other than by a change under R35: a link loss, counted, and a transient fault of
the port (R74, Table 20-5). -/
def Dev.linkLost (d : Dev) (n : Nat) : Dev :=
  if d.outState n = 5 then (d.count (outputIndex n + 3) 0x02).transientFault 0x8104 n else d

/-- The port is no longer trained. -/
def Dev.untrained (d : Dev) (n : Nat) : Dev := (d.setO (outputIndex n) 0x07 0).setO (outputIndex n) 0x08 0

/-- To Training; `change` when a change under R35 has relocked, while the rod still holds frame F: the first frame that may
show layers is F + 2 (R72). -/
def Dev.toTraining (d : Dev) (n : Nat) (change : Bool) : Dev :=
  let d := if change then d else d.linkLost n
  let d := (d.untrained n).setOutState n 3
  d.setOutput n { d.output n with showFrom := if change then d.rodFrame n + 2 else 0 }

/-- To Waiting. -/
def Dev.toWaiting (d : Dev) (n : Nat) : Dev := ((d.linkLost n).untrained n).setOutState n 2

/-- A change under R35 has relocked, in states 2 to 6: with the level taken as high, a port that was in use or waited trains;
with the level low it waits (Table 4-3, R66). Neither is a link loss. -/
def Dev.relockState (d : Dev) (n : Nat) : Dev :=
  let st := d.outState n
  if d.hpdHigh n then (if 2 ≤ st ∧ st ≤ 5 then d.toTraining n true else d)
  else if 3 ≤ st then (d.untrained n).setOutState n 2
  else d

/-- The output is shared and stands by on the secondary of a pair (R399). -/
def Dev.standsBy (d : Dev) (n : Nat) : Bool :=
  d.courier.enabled && d.getO 0x3200 2 == 0 && d.courier.mask.testBit n && d.witness n ≤ 1

/-- The requested state as the output follows it: /01h, but Standby for On while the output stands by (R399). -/
def Dev.wantState (d : Dev) (n : Nat) : Nat :=
  let v := d.getO (outputIndex n) 0x01
  if v = 2 ∧ d.standsBy n then 1 else v

/-- Steps 3 to 5 of R79: the pending apply is cancelled, unlatched commits complete with status 0020h, the six layers are
emptied, and the new state shows; in Off the rod stops, and a relock in hand is abandoned (R35). -/
def Dev.takeDown (d : Dev) (n target : Nat) : Dev :=
  let x := d.output n
  let d := if x.apply.isSome then d.setO (outputIndex n + 1) 0x10 3 else d
  let d := d.setOutput n { x with disable := none, apply := none, locking := false, line := [], showFrom := 0 }
  let d := d.endCommits (fun c => c.output == n) 0x20
  let d := (List.range 6).foldl (fun d k => d.emptyLayer (6 * n + k) 1) d
  let d := (d.untrained n).setOutState n target
  if target = 0 then (d.stopRod n).setRod n { (d.stopRod n).rod n with relock := false } else d

/-- A frame is in progress on the output: not in Off, and not held for a relock (R79). -/
def Dev.frameRuns (d : Dev) (n : Nat) : Bool := d.outState n != 0 && !(d.rod n).relock

/-- The output goes to Off or Standby: after the frame in progress, or at once where none is (R79). -/
def Dev.beginDisable (d : Dev) (n target : Nat) : Dev :=
  if d.frameRuns n then d.setOutput n { d.output n with disable := some target } else d.takeDown n target

/-- The output follows the requested state from Off or Standby (Table 4-3, R453). From Off the PLL first locks, unless its
domain is stopped (R19). -/
def Dev.followRequest (d : Dev) (n : Nat) : Dev :=
  let want := d.wantState n
  match d.outState n with
  | 0 => if want = 0 || d.pixelStopped n then d else d.setOutput n { d.output n with locking := true }
  | 1 =>
    if want = 2 then (if d.hpdHigh n then d.toTraining n false else d.toWaiting n)
    else if want = 0 then d.beginDisable n 0
    else d
  | _ => d

/-- A disable ends: steps 3 to 5 of R79, and then the output follows the value that /01h holds (R453). -/
def Dev.disableOutput (d : Dev) (n target : Nat) : Dev := (d.takeDown n target).followRequest n

/-- A disable that runs ends now. -/
def Dev.endDisable (d : Dev) (n : Nat) : Dev :=
  match (d.output n).disable with
  | some target => d.disableOutput n target
  | none => d

/-- Output `n` runs or is on its way out of Off. -/
def Dev.outputOn (d : Dev) (n : Nat) : Bool := d.outState n != 0 || (d.output n).locking

/-- Turning output `n` on in Cool would take the pixel clocks of the outputs that run, or are on their way, over 2.4 GHz
(Table 1-5): the island refuses what would exceed the limit of the profile in force (R10). -/
def Dev.coolExceeded (d : Dev) (n : Nat) : Bool :=
  d.getO 0x2002 2 == 2 && !(d.outputOn n)
    && decide (2400000000 < ((List.range 8).filter (fun m => m == n || d.outputOn m)).foldl (fun acc m => acc + d.force m 1) 0)

/-- A write of the requested state (R73, R79, R453): the object takes the value; a disable that runs goes on; 0, or 1 in
states 2 to 6, starts one; otherwise the output follows the request. -/
def requestedStateVerdict (n v : Nat) (d : Dev) : Verdict :=
  if v ≠ 0 && d.coolExceeded n then .error abortState
  else
    let d := d.setO (outputIndex n) 0x01 v
    let v := d.wantState n
    if (d.output n).disable.isSome then .ok d
    else if v = 0 ∨ (v = 1 ∧ 2 ≤ d.outState n) then
      .ok (if d.frameRuns n then d.beginDisable n v else d.disableOutput n v)
    else .ok (d.followRequest n)

/-! ### Timing (R67, R68, R70, R71) -/

/-- Lane rate in Mbit/s of a link-rate code. -/
def laneRate (code : Nat) : Nat :=
  match code with
  | 0 => 1620
  | 1 => 2700
  | 2 => 5400
  | _ => 8100

/-- R67: the pixel rate with trim, and the link capacity, all in units of 10^-6 Hz. -/
def linkFits (p : Nat → Nat) (t : Nat) : Bool :=
  let rate := p 1 * (1000000 + t)
  rate ≤ 603000000 * 1000000 && p 1 ≤ 600000000
    && rate * 3 * p 0x0E * 10 ≤ p 0x0C * laneRate (p 0x0D) * 1000000 * 8 * 1000000

/-- R68: the whole set is valid (Table 4-2). -/
def timingValid (p : Nat → Nat) : Bool :=
  let h := htotalOf p
  let v := vtotalOf p
  p 2 % 2 == 0 && 80 ≤ h - p 2 && h ≤ 8192 && 3 ≤ v - p 6 && v ≤ 8192
    && 23 * h * v ≤ p 1 && p 1 ≤ 240 * h * v

/-- An apply is seamless (R71). -/
def Dev.seamless (d : Dev) (n : Nat) (p : Nat → Nat) : Bool :=
  [1, 2, 6, 0x0B, 0x0C, 0x0D, 0x0E].all (fun j => p j == d.force n j)

/-- The sum of pixel clocks of the outputs not in Off, each at its timing in force. DESIGN CHOICE (assumption log 17): the
pending apply of another output does not count. -/
def Dev.pixelSum (d : Dev) : Nat :=
  ((List.range 8).filter (fun n => d.outState n != 0)).foldl (fun acc n => acc + d.force n 1) 0

/-- The staged set as a list, /01h first. -/
def Dev.stagedSet (d : Dev) (n : Nat) : List Nat := (List.range 14).map (fun k => d.staged n (k + 1))

/-- A timing takes its place in force. -/
def Dev.putTiming (d : Dev) (n : Nat) (set : List Nat) : Dev :=
  (set.zip (List.range 14)).foldl (fun d p => d.setO (outputIndex n + 2) (p.2 + 1) p.1) d

/-- A record breaks R90 or R91 at a timing (R70). -/
def Dev.recBreaks (d : Dev) (n : Nat) (p : Nat → Nat) (r : List Byte) : Bool :=
  recShow r && (!(recDstX r + recDstW r ≤ p 2 && recDstY r + recDstH r ≤ p 6) || !(scaleOk r p (d.trimPpm n)))

/-- A write of 1 to apply (R70, R452). -/
def timingApplyVerdict (n : Nat) (d : Dev) : Verdict :=
  let p := d.staged n
  let x := d.output n
  let recs := (List.range 6).map (fun k => d.layerRec (6 * n + k))
    ++ (d.comp.commits.filter (fun c => c.output == n)).flatMap (fun c => c.records.map (fun q => q.2))
  let sum := d.pixelSum
  let newSum := if d.outState n = 0 then sum else sum - d.force n 1 + p 1
  if !(linkFits p (d.trimPpm n)) || !(timingValid p) then .error abortRange
  else if x.disable.isSome then .error abortState
  else if d.getO (0x2301 + n) 0x01 < d.outDemand d.comp.commits p n then .error abortState
  else if recs.any (d.recBreaks n p) then .error abortState
  else if d.getO 0x2002 0x02 = 2 ∧ 2400000000 < newSum ∧ sum < newSum then .error abortState
  else if x.apply.isSome ∧ d.rodRuns n ∧ d.force n 6 ≤ d.rodLine n + 1 then .error abortState
  else if d.outState n = 0 then
    .ok (((d.putTiming n (d.stagedSet n)).moveBeads n (vtotalOf p)).setO (outputIndex n + 1) 0x10 0)
  else
    let d := d.setOutput n { x with apply := some (d.stagedSet n), applyFrom := d.nextLatchFrame n }
    .ok (d.setO (outputIndex n + 1) 0x10 (if d.seamless n p then 1 else 2))

/-! ### HPD (R74) -/

/-- A write of the HPD mode: in eDP mode 1 takes the level as high, and 0 makes the debounced level apply at once. -/
def hpdModeVerdict (n v : Nat) (d : Dev) : Verdict :=
  let d := d.setO (outputIndex n) 0x04 v
  let st := d.outState n
  if d.hpdHigh n then .ok (if st = 2 then d.toTraining n false else d)
  else .ok (if 3 ≤ st then d.toWaiting n else d)

/-- Training ends without success: Retry, counted, with its cause, and logged (R75). -/
def Dev.trainingFailed (d : Dev) (n cause : Nat) : Dev :=
  if d.outState n = 3 then
    let d := ((d.untrained n).setOutState n 6).count (outputIndex n + 3) 0x03
    (d.setO (outputIndex n) 0x09 cause).log 0x11 0x1101 0xFF n [n, cause]
  else d

/-! ### AUX (R82, Table 4-10) -/

/-- An AUX request has the form of Table 4-10. -/
def auxFormOk (r : List Byte) : Bool :=
  let cmd := field r 0 1
  let len := field r 4 1
  let write := cmd == 8 || cmd == 0 || cmd == 4
  let read := cmd == 9 || cmd == 1 || cmd == 5
  5 ≤ r.length && r.length ≤ 21 && field r 1 3 < 2 ^ 20 && len < 16
    && ((write && r.length == 6 + len) || (read && r.length == 5))

/-- A native write that touches DPCD 00100h to 0011Fh or 00600h, which the PX8 manages. -/
def auxManaged (r : List Byte) : Bool :=
  let a := field r 1 3
  let last := a + field r 4 1
  field r 0 1 == 8 && ((a ≤ 0x11F && 0x100 ≤ last) || (a ≤ 0x600 && 0x600 ≤ last))

/-- A write of an AUX request. -/
def auxVerdict (n : Nat) (r : List Byte) (d : Dev) : Verdict :=
  let x := d.output n
  if r.length < 5 ∨ 21 < r.length then .error abortLength
  else if !(auxFormOk r) then .error abortRange
  else if x.aux.isSome || d.outState n == 3 || auxManaged r || x.disable.isSome then .error abortState
  else
    let d := (d.setOutput n { x with aux := some r }).setO (outputIndex n + 6) 0x03 1
    .ok (d.send (.aux n r))

/-- The EDID read that a rise of HPD starts, in states 1 to 6 (R81). -/
def Dev.readEdid (d : Dev) (n : Nat) : Dev :=
  if d.outState n = 0 then d else d.setOutput n { d.output n with edidBusy := true }

/-! ### The meanings -/

/-- OUTPUT_REQUESTED_STATE_WRITE (R73, R79, R453). -/
def execOutputRequestedStateWrite (who : Init) (output value : Nat) (s : State) : Host.Outcome State Fault Refusal :=
  actServed (onUnit output 8 (fun d => d.request who (outputIndex output) 0x01 (numData (outputIndex output) 0x01 value)
    (requestedStateVerdict output value))) s

/-- OUTPUT_DISABLE_COMPLETE (R79): the last line of the current frame ends. While an earlier line runs, the disable goes on;
a rod that reaches its next line 0 first ends it too. -/
def execOutputDisableComplete (output : Nat) (s : State) : Host.Outcome State Fault Refusal :=
  act (onUnit output 8 (fun d =>
    if d.rodRuns output && d.rodLine output + 1 < d.rodLines output then d else d.endDisable output)) s

/-- TIMING_APPLY (R70). -/
def execTimingApply (who : Init) (output value : Nat) (s : State) : Host.Outcome State Fault Refusal :=
  actServed (onUnit output 8 (fun d => d.request who (outputIndex output + 1) 0x0F (numData (outputIndex output + 1) 0x0F value)
    (timingApplyVerdict output))) s

/-- HPD_DEBOUNCED_RISE (R74, R81). -/
def execHpdDebouncedRise (output : Nat) (s : State) : Host.Outcome State Fault Refusal :=
  act (onUnit output 8 (fun d =>
    let d := (d.setO (outputIndex output) 0x06 1).readEdid output
    if d.outState output = 2 then d.toTraining output false else d)) s

/-- HPD_DEBOUNCED_FALL (R74): to Waiting from states 2 to 6, unless eDP mode takes the level as high. -/
def execHpdDebouncedFall (output : Nat) (s : State) : Host.Outcome State Fault Refusal :=
  act (onUnit output 8 (fun d =>
    let d := d.setO (outputIndex output) 0x06 0
    if 3 ≤ d.outState output ∧ !(d.hpdHigh output) then d.toWaiting output else d)) s

/-- HPD_IRQ (R74): counted; a trained lane that lost its lock sends the output to Training. -/
def execHpdIrq (output : Nat) (laneLost : Bool) (s : State) : Host.Outcome State Fault Refusal :=
  act (onUnit output 8 (fun d =>
    let d := d.count (outputIndex output + 3) 0x04
    if laneLost ∧ (d.outState output = 4 ∨ d.outState output = 5) then d.toTraining output false else d)) s

/-- TRAINING_PASS (R73, R75): to Active-black with the settings in force. -/
def execTrainingPass (output dpcdRevision : Nat) (s : State) : Host.Outcome State Fault Refusal :=
  act (onUnit output 8 (fun d =>
    if d.outState output = 3 then
      let i := outputIndex output
      let d := (d.setO i 0x07 (d.force output 0x0C)).setO i 0x08 (d.force output 0x0D)
      (((d.setO i 0x09 0).setO i 0x0A dpcdRevision).setOutState output 4)
    else d)) s

/-- TRAINING_FAIL (R75): causes 1 to 4. -/
def execTrainingFail (output cause : Nat) (s : State) : Host.Outcome State Fault Refusal :=
  act (onUnit output 8 (fun d => if 1 ≤ cause ∧ cause ≤ 4 then d.trainingFailed output cause else d)) s

/-- TRAINING_TIMEOUT (R75): code 5. -/
def execTrainingTimeout (output : Nat) (s : State) : Host.Outcome State Fault Refusal :=
  act (onUnit output 8 (fun d => d.trainingFailed output 5)) s

/-- RETRY_INTERVAL_EXPIRY (R73): to Training when HPD is high. -/
def execRetryIntervalExpiry (output : Nat) (s : State) : Host.Outcome State Fault Refusal :=
  act (onUnit output 8 (fun d =>
    if d.outState output = 6 ∧ d.hpdHigh output then d.toTraining output false else d)) s

/-- EDID_READ_COMPLETE (R81): at most 32 768 bytes are exposed. -/
def execEdidReadComplete (output : Nat) (edid : List Byte) (s : State) : Host.Outcome State Fault Refusal :=
  act (onUnit output 8 (fun d =>
    if (d.output output).edidBusy then
      let i := outputIndex output + 5
      let e := edid.take 32768
      let d := d.setOutput output { d.output output with edidBusy := false }
      ((d.setB i 0x01 e).setO i 0x02 e.length).count i 0x03
    else d)) s

/-- AUX_REQUEST (R82). -/
def execAuxRequest (who : Init) (output : Nat) (request : List Byte) (s : State) : Host.Outcome State Fault Refusal :=
  actServed (onUnit output 8 (fun d => d.request who (outputIndex output + 6) 0x01 request (auxVerdict output request))) s

/-- AUX_TRANSACTION_END (R82): the reply, of at most 17 bytes, and status 2. -/
def execAuxTransactionEnd (output : Nat) (reply : List Byte) (s : State) : Host.Outcome State Fault Refusal :=
  act (onUnit output 8 (fun d =>
    if (d.output output).aux.isSome then
      let d := d.setOutput output { d.output output with aux := none }
      (d.setB (outputIndex output + 6) 0x02 (reply.take 17)).setO (outputIndex output + 6) 0x03 2
    else d)) s

/-- AUX_TIMEOUT (R82): status 3, counted. -/
def execAuxTimeout (output : Nat) (s : State) : Host.Outcome State Fault Refusal :=
  act (onUnit output 8 (fun d =>
    if (d.output output).aux.isSome then
      let d := d.setOutput output { d.output output with aux := none }
      (d.setO (outputIndex output + 6) 0x03 3).count (outputIndex output + 3) 0x05
    else d)) s

/-- Pipe `n` has no pixel ready for `count` pixels of the line from `first` on (R76): they leave as the last pixel that the
pipe produced; the line counts once, and the first of a frame is logged. -/
def Dev.underruns (d : Dev) (n first count : Nat) : Dev :=
  let x := d.output n
  let px := if first = 0 then x.lastPixel else x.line.getD (first - 1) 0
  let line := x.line.take first ++ List.replicate (min count (x.line.length - first)) px ++ x.line.drop (first + count)
  let d' := d.setOutput n { x with line := line, lineUnder := true, underrun := true }
  let d' := if x.lineUnder then d' else d'.count (outputIndex n + 3) 0x01
  if x.underrun then d' else d'.log 0x11 0x1102 0xFF n [n]

/-- PIXEL_UNDERRUN (R76): only the active region of state Active fetches layers. -/
def execPixelUnderrun (late : LatePixels) (s : State) : Host.Outcome State Fault Refusal :=
  act (onUnit late.output 8 (fun d =>
    if d.outState late.output = 5 ∧ d.rodLine late.output < d.force late.output 6 ∧ 0 < late.count
        ∧ late.first < d.force late.output 2 then
      d.underruns late.output late.first late.count
    else d)) s

end Sys2Proof.Machine
end

