-- ==== Sys2Proof/Machine/Haptics.lean ====
section
/-! DEFINITION. The haptic channels (11): the grant ledger, triggers and their collisions, the phases of an effect, the
checks, identification and disabling (R218 to R231). -/

namespace Sys2Proof.Machine

/-! ### Objects -/

def hapticIndex (c : Nat) : Nat := 0x2701 + c
def modelIndex (c : Nat) : Nat := 0x2710 + c
def Dev.hap (d : Dev) (c j : Nat) : Nat := d.getO (hapticIndex c) j
def Dev.model (d : Dev) (c j : Nat) : Nat := d.getO (modelIndex c) j

/-- What a channel keeps beside its objects. -/
def Dev.haptic (d : Dev) (c : Nat) : Haptic := tabGet {} d.haptics c
def Dev.setHaptic (d : Dev) (c : Nat) (x : Haptic) : Dev := { d with haptics := tabSet {} d.haptics c x }

def hapticBlock (c : Nat) : Nat := blockId 4 c

/-- The state of a channel (Table 11-2); a channel in Disabling goes on in the phase that it keeps. -/
def Dev.hapticPhase (d : Dev) (c : Nat) : Nat := if d.hap c 1 = 7 then (d.haptic c).phase else d.hap c 1

/-- A channel enters a state; Disabling hides it until the disable ends. -/
def Dev.setHapticPhase (d : Dev) (c st : Nat) : Dev :=
  if d.hap c 1 = 7 then d.setHaptic c { d.haptic c with phase := st } else d.setO (hapticIndex c) 1 st

/-! ### The ledger (R219) -/

/-- The sum of the grants in force, of all channels or of those not owned by the island. -/
def Dev.grants (d : Dev) (all : Bool) : Nat :=
  (List.range 8).foldl (fun n c => if all || d.owner (hapticBlock c) != 0 then n + d.hap c 7 else n) 0

/-- The budget left for a channel's kind of owner. Thermal step 3 halves the budget of the others (Table 23-10). -/
def Dev.hapticLeft (d : Dev) (c : Nat) : Nat :=
  if d.owner (hapticBlock c) = 0 then 6000 - d.grants true
  else
    let share := 6000 - d.getO 0x2700 4
    (if 3 ≤ d.getO 0x3400 7 then share / 2 else share) - d.grants false

/-- A channel's grant changes, and the sum 2700h/05h with it. -/
def Dev.setGrant (d : Dev) (c g : Nat) : Dev :=
  let d := d.setO (hapticIndex c) 7 g
  d.setO 0x2700 5 (d.grants true)

/-! ### The bridge (R218) -/

/-- How the switches of a bridge stand. -/
inductive Bridge where
  | shorted   -- both low-side switches on: the coil brakes the mass
  | isOpen    -- all four off
  | driven
  deriving DecidableEq, Repr

/-- The bridge of a channel (R218, Table 11-2): a Check that probes drives it, and causes 5 and 6 open it. -/
def Dev.bridge (d : Dev) (c : Nat) : Bridge :=
  match d.hapticPhase c with
  | 2 => if (d.haptic c).probing then .driven else .shorted
  | 3 | 4 | 6 => .driven
  | 5 => if d.hap c 0x11 = 5 ∨ d.hap c 0x11 = 6 then .isOpen else .shorted
  | _ => .shorted

/-- The loop stops: no voltage, no estimates. -/
def Dev.stopLoop (d : Dev) (c : Nat) : Dev :=
  d.setHaptic c { d.haptic c with velocity := 0, position := 0, accel := 0, voltage := 0, target := none, demand := 0 }

/-! ### Faults (R228, R229) -/

/-- The expected resistance in 1/100 000 mΩ: Rc corrected by +0.39 % per kelvin from the identification temperature. -/
def Dev.expectedRc (d : Dev) (c : Nat) : Int :=
  (d.model c 5 : Int) * (100000 + 39 * (d.getI 0x3400 6 16 - 10 * d.getI (modelIndex c) 7 8))

/-- The cause that a check's values show (Table 11-3), 0 for none. -/
def Dev.checkCause (d : Dev) (c r bl : Nat) : Nat :=
  let e := d.expectedRc c
  let w : Int := d.hap c 0x16
  let v : Int := 10000000 * (r : Int)
  if e * (100 + w) < v ∨ 100000 < r then 1
  else if v < e * (100 - w) then 2
  else if bl * 100 < d.model c 2 * d.hap c 0x17 then 3
  else 0

/-- The values of a check are recorded, and its time. -/
def Dev.recordCheck (d : Dev) (c r bl : Nat) : Dev :=
  let d := (d.setO (hapticIndex c) 0x12 (min r 65535)).setO (hapticIndex c) 0x13 (min bl 65535)
  d.setHaptic c { d.haptic c with lastCheck := some d.clock.ns, checkDue := false }

/-- HAPTIC_FAULT (R229): the bridge stops, the effect and the waiting trigger are discarded, the grant returns, and the cause
is recorded. -/
def Dev.hapticFault (d : Dev) (c cause : Nat) : Dev :=
  let x := d.haptic c
  let d := if x.waiting.isSome then d.count (hapticIndex c) 0x0D else d
  let d := d.setHaptic c { d.haptic c with waiting := none, probing := false, clearing := false, checkDue := false,
                                           velocity := 0, position := 0, accel := 0, voltage := 0, target := none,
                                           demand := 0 }
  let d := ((d.setHapticPhase c 5).setGrant c 0).setO (hapticIndex c) 0x0A 0
  let d := (d.setO (hapticIndex c) 0x11 cause).count (hapticIndex c) 0x10
  let o := d.owner (hapticBlock c)
  let d := if cause ≤ 3 then d.emergency 0xFF05 0x39 0x1601 o c [c, cause] else d.log 0x39 0x1601 o c [c, cause]
  d.postNamed (hapticIndex c) 8

/-- A check of the actuator: its values are recorded, and a failure is a fault. The result says whether it passed. -/
def Dev.checkActuator (d : Dev) (c r bl : Nat) : Bool × Dev :=
  let cause := d.checkCause c r bl
  let d := d.recordCheck c r bl
  if cause = 0 then (true, d) else (false, d.hapticFault c cause)

/-! ### Effects (R224 to R227) -/

/-- The rail runs: it is off in Keep-alive, and triggers are not started while VIN is over 18.0 V. -/
def Dev.hapticRail (d : Dev) : Bool := d.running && !d.power.overVolt

/-- A trigger reaches a channel; one that had not been taken yet is not taken (R226). -/
def Dev.hapticArrive (d : Dev) (c arg : Nat) : Dev :=
  let x := d.haptic c
  let d := if x.arrived.isSome then d.count (hapticIndex c) 0x0D else d
  d.setHaptic c { x with arrived := some arg }

/-- Drive starts: from rest after a Check, or on the estimates in hand. -/
def Dev.startDrive (d : Dev) (c : Nat) (fresh : Bool) : Dev :=
  let x := { d.haptic c with probing := false, clamp := min (d.hap c 7) (d.hap c 5), clamped := false, periods := 0 }
  let d := d.setHaptic c (if fresh then { x with velocity := 0, position := 0, accel := 0, voltage := 0 } else x)
  (d.setHapticPhase c 3).setO (hapticIndex c) 0x14 d.clock.ns

/-- An effect that needs no new Check is started under the grant in force. -/
def Dev.startEffect (d : Dev) (c arg : Nat) (fresh : Bool) : Dev :=
  ((d.setO (hapticIndex c) 0x0A arg).count (hapticIndex c) 0x0B).startDrive c fresh

/-- The last check ended less than 100 ms ago. -/
def Dev.checkedLately (d : Dev) (c : Nat) : Bool :=
  match (d.haptic c).lastCheck with
  | some t => d.clock.ns - t < 100000000
  | none => false

/-- A trigger is taken in Rest (R219, R225). -/
def Dev.startFromRest (d : Dev) (c arg : Nat) : Dev :=
  let left := d.hapticLeft c
  if left < 250 then (d.count 0x2700 9).count (hapticIndex c) 0x0C
  else
    let limit := d.hap c 5
    let d := if left < limit then d.count 0x2700 8 else d
    let d := (d.setGrant c (min limit left)).setO (hapticIndex c) 0x0A arg
    let d := (d.count (hapticIndex c) 0x0B).setHaptic c { d.haptic c with probing := !(d.checkedLately c) }
    d.setO (hapticIndex c) 1 2

/-- A trigger that waits for the end of Brake replaces the one that waited (R227). -/
def Dev.waitTrigger (d : Dev) (c arg : Nat) : Dev :=
  let d := if (d.haptic c).waiting.isSome then d.count (hapticIndex c) 0x0D else d
  d.setHaptic c { d.haptic c with waiting := some arg }

/-- A trigger is taken (Table 11-2): it starts nothing without the rail (R220) or with model state 0 (R221). -/
def Dev.takeTrigger (d : Dev) (c arg : Nat) : Dev :=
  if !d.hapticRail ∨ d.model c 1 ≠ 1 then d.count (hapticIndex c) 0x0C
  else
    let carry := d.hap c 4 == 1
    match d.hap c 1 with
    | 1 => d.startFromRest c arg
    | 2 => if (d.haptic c).clearing then d.count (hapticIndex c) 0x0C
           else (d.setO (hapticIndex c) 0x0A arg).count (hapticIndex c) 0x0D
    | 3 =>
      if carry then d.startEffect c arg false
      else
        let d := (d.waitTrigger c arg).setO (hapticIndex c) 1 4
        d.setHaptic c { d.haptic c with checkDue := true }
    | 4 =>
      if carry then
        let d := if (d.haptic c).waiting.isSome then d.count (hapticIndex c) 0x0D else d
        (d.setHaptic c { d.haptic c with waiting := none }).startEffect c arg false
      else d.waitTrigger c arg
    | _ => d.count (hapticIndex c) 0x0C

/-- The channel comes to Rest: the loop stops and the grant returns. -/
def Dev.hapticRest (d : Dev) (c : Nat) : Dev :=
  (((d.stopLoop c).setHapticPhase c 1).setGrant c 0).setO (hapticIndex c) 0x0A 0

/-- Brake ends: a waiting trigger starts without a Check, or the channel rests. A waiting trigger that finds the model state at
0 is not started (R221). -/
def Dev.endBrake (d : Dev) (c : Nat) : Dev :=
  let x := d.haptic c
  match x.waiting with
  | some arg =>
    let d := d.setHaptic c { x with waiting := none }
    if d.model c 1 = 1 then d.startEffect c arg false else (d.count (hapticIndex c) 0x0C).hapticRest c
  | none => d.hapticRest c

/-! ### The effect library (R224) -/

/-- Raised-cosine edges of 5 ms of a piece of `len` ms, at `t` ms. -/
def raisedEdges (t len : Rat) : Rat :=
  let x := min t (len - t) / 5
  if x < 1 then sinTurns (x / 4) * sinTurns (x / 4) else 1

/-- The profile of Table 11-1 at `t` ms of time scale 100 %, with its peak fraction; none in a brake segment and after the end.
Every burst and cycle begins at phase 0 (DESIGN CHOICE, assumption log 38). -/
def effectProfile (e : Nat) (t : Rat) : Option Rat :=
  if e < 16 then
    let len : Rat := 4 + (e : Rat) / 2
    if t < len then some (sinTurns (t / len)) else none
  else if e < 32 then
    let len : Rat := 1 + ((e - 16 : Nat) : Rat) / 8
    if t < len then some (6 / 10 * sinTurns (t / (2 * len))) else none
  else if e < 48 then
    let second : Rat := ((25 + 5 * (e - 32) : Nat) : Rat)
    if t < 5 then some (sinTurns (t / 5))
    else if t < second then none
    else if t < second + 5 then some (sinTurns ((t - second) / 5)) else none
  else if e < 80 then
    let i := e - 48
    let len : Rat := if i < 16 then 100 else 400
    let f : Rat := ((100 + 10 * (i % 16) : Nat) : Rat)
    if t < len then some (1 / 2 * raisedEdges t len * sinTurns (f * t / 1000)) else none
  else if e < 112 then
    let i := e - 80
    let len : Rat := ((50 + 50 * (i % 16) : Nat) : Rat)
    let a := if i < 16 then t / len else 1 - t / len
    if t < len then some (8 / 10 * a * sinTurns (150 * t / 1000)) else none
  else
    let i := e - 112
    let f : Rat := if i < 8 then 170 else 120
    let b := (t / 120).floor
    let t := t - 120 * b
    if b < ((1 + i % 8 : Nat) : Int) ∧ t < 60 then some (7 / 10 * raisedEdges t 60 * sinTurns (f * t / 1000)) else
    if b < ((i % 8 : Nat) : Int) then some 0 else none

/-- The target acceleration (m/s²) of an effect's argument after `periods` loop periods of Drive (R224): the profile in scaled
time, its peak A_fs × P × strength / 255. -/
def effectTarget (arg fullScale periods : Nat) : Option Rat :=
  let scale : Nat := max 1 (bits arg 24 8)
  (effectProfile (bits arg 8 7) ((periods : Rat) * 100 / (24 * scale : Nat))).map
    (fun p => (fullScale : Rat) / 10 * p * (bits arg 16 8 : Nat) / 255)

/-! ### The loop (R223) -/

/-- The coil current (mA) that the model gives for a target acceleration at a displacement (R223), within the clamp. -/
def Dev.coilDemand (d : Dev) (c clamp : Nat) (target position : Rat) : Rat :=
  let i : Rat := ((max 1 (d.model c 3) : Nat) * target + (d.model c 4 : Nat) * position) / (max 1 (d.model c 2) : Nat)
  max (-(clamp : Rat)) (min (clamp : Rat) i)

/-- One period: the velocity, displacement and acceleration are estimated from the coil's current (mA), voltage (mV) and
the current's slope (A/s), the clamp counts once an effect, and the next voltage is set, within ±11.5 V: in Drive toward the
current for the effect's target, in Brake and in a gap toward no velocity and no displacement. -/
def Dev.hapticLoop (d : Dev) (c : Nat) (i u slope : Int) : Dev :=
  let x := d.haptic c
  let rc : Rat := (d.expectedRc c : Rat) / 100000
  let bl : Rat := (max 1 (d.model c 2) : Nat)
  let v : Rat := 1000 * (1000 * (u : Rat) - rc * (i : Rat) - (d.model c 6 : Nat) * (slope : Rat)) / bl
  let s : Rat := x.position + v / 24000
  let a : Rat := ((d.model c 2 : Nat) * (i : Rat) - (d.model c 4 : Nat) * s) / (max 1 (d.model c 3) : Nat)
  let drive := d.hapticPhase c == 3
  let target := if drive then effectTarget (d.hap c 0x0A) (d.hap c 6) x.periods else none
  let demand := target.map (fun t => d.coilDemand c x.clamp t s)
  let acts := (x.clamp : Int) ≤ i.natAbs && !x.clamped
  let d := if acts then d.count (hapticIndex c) 0x0F else d
  d.setHaptic c { x with velocity := v, position := s, accel := a, clamped := x.clamped || acts,
                         periods := if drive then x.periods + 1 else x.periods, target := target,
                         demand := demand.getD 0,
                         voltage := clampInt (-11500) 11500 (Config.coilVoltage demand v s a) }

/-- The estimates lie below the thresholds of Brake: 1 mm/s and 5 µm. -/
def Haptic.still (x : Haptic) : Bool := -1000 < x.velocity && x.velocity < 1000 && -5 < x.position && x.position < 5

/-! ### Identification (R221, R222) -/

/-- √(k/m)/2π in units of 0.1 Hz / r, rounded down, for k in N/m and m in mg; (2π)² is taken as 39.478 417 604 357 4. -/
def resonanceIn (r k m : Nat) : Nat :=
  isqrt (r * r * k * 100 * 1000000 * 10000000000000 / (max 1 m * 394784176043574)) 64 0 (2 ^ 32)
def resonanceOf (k m : Nat) : Nat := resonanceIn 1 k m

/-- The resonance object follows the model; one half of 0.1 Hz and more above the lower value is rounded either way (the
default, 1501 for 1501.46, is the lower), and a resonance that its type cannot hold is a free value. -/
def Dev.setResonance (d : Dev) (c : Nat) : Dev :=
  let k := d.model c 4
  let m := d.model c 3
  let f := resonanceOf k m + (if resonanceIn 2 k m % 2 = 1 ∧ Config.resonanceUp k m then 1 else 0)
  if f < 65536 then d.setO (modelIndex c) 8 f
  else let (n, d) := d.nextFree; d.setO (modelIndex c) 8 (Config.freeNat n % 65536)

/-- Every model value lies in its range (Table 11-6). -/
def Dev.modelInRange (d : Dev) (c : Nat) : Bool :=
  [2, 3, 4, 5, 6, 7].all (fun j => match objRow (modelIndex c) j with
    | some r => r.range.holds ((r.ty.size).getD 8) (d.model c j)
    | none => false)

/-- A model value of the fit lies in its range. -/
def fitValueOk (j v : Nat) : Bool :=
  match objRow 0x2710 j with
  | some r => v < 256 ^ (r.ty.size).getD 8 && r.range.holds ((r.ty.size).getD 8) v
  | none => false

/-- The resonance lies between 40 Hz and 800 Hz. -/
def resonanceOk (k m : Nat) : Bool :=
  let f := resonanceOf k m
  400 ≤ f && (f < 8000 || (f = 8000 && k * 1000000 * 10000000000000 ≤ 640000 * m * 394784176043574))

/-- The fit ends (R222): the model, and the temperature of the analog die (3400h/06h) in /07h. -/
def Dev.identified (d : Dev) (c : Nat) (fit : Fit) : Dev :=
  let i := modelIndex c
  let (k, d) := d.nextFree
  -- 0.1 °C to °C: the rounding is not stated
  let tenths := d.getI 0x3400 6 16
  let temp : Int := tenths / 10 + (if tenths % 10 = 0 then 0 else Config.freeNat k % 2 : Nat)
  let rest (d : Dev) : Dev := (d.setHapticPhase c 1).setGrant c 0
  match fit.openOrShort with
  | some cause => (d.setO i 0x0A 5).hapticFault c (if cause = 1 then 1 else 2)
  | none =>
    let d := d.setO i 0x0B (min fit.residual 65535)
    if 100 < fit.residual ∨ !([(2, fit.bl), (3, fit.mass), (4, fit.stiffness), (5, fit.resistance), (6, fit.inductance)].all
        (fun p => fitValueOk p.1 p.2)) ∨ temp < -40 ∨ 125 < temp then rest (d.setO i 0x0A 3)
    else if !(resonanceOk fit.stiffness fit.mass) then rest (d.setO i 0x0A 4)
    else
      let d := (((d.setO i 2 fit.bl).setO i 3 fit.mass).setO i 4 fit.stiffness).setO i 5 fit.resistance
      let d := ((d.setO i 6 fit.inductance).setO i 7 (ofSigned 8 temp)).setResonance c
      rest ((d.setO i 1 1).setO i 0x0A 2)

/-- Writes of the model: a value sets the state to 0; a state of 1 needs every value in its range (R221). -/
def modelVerdict (c j v : Nat) (d : Dev) : Verdict :=
  if j = 1 then (if v = 1 ∧ !(d.modelInRange c) then .error abortState else .ok (d.setO (modelIndex c) 1 v))
  else if 2 ≤ j ∧ j ≤ 7 then .ok (((d.setO (modelIndex c) j v).setO (modelIndex c) 1 0).setResonance c)
  else .ok (d.setO (modelIndex c) j v)

/-- Identification starts in Rest with a grant of 300 mA; in Keep-alive, where the rail is off, no grant is available. -/
def identifyVerdict (c : Nat) (d : Dev) : Verdict :=
  if d.hap c 1 ≠ 1 ∨ !d.running ∨ min (d.hap c 5) (d.hapticLeft c) < 300 then .error abortState
  else .ok (((d.setGrant c 300).setO (hapticIndex c) 1 6).setO (modelIndex c) 0x0A 1)

/-! ### Disabling (R230, R231) -/

/-- A channel starts to be disabled: a waiting trigger is cancelled, and the phase in hand goes on. -/
def Dev.disableHaptic (d : Dev) (c : Nat) : Dev :=
  let st := d.hap c 1
  if st = 0 ∨ st = 7 then d
  else
    let x := d.haptic c
    let d := if x.waiting.isSome then d.count (hapticIndex c) 0x0D else d
    (d.setHaptic c { x with waiting := none, phase := st, disableAt := d.clock.ns }).setO (hapticIndex c) 1 7

/-- A write of a channel's enable. -/
def hapticEnableVerdict (c v : Nat) (d : Dev) : Verdict :=
  let st := d.hap c 1
  if v = 0 then .ok ((d.setO (hapticIndex c) 2 0).disableHaptic c)
  else if st = 7 then .error abortState
  else
    let d := d.setO (hapticIndex c) 2 1
    .ok (if st = 0 then d.setO (hapticIndex c) 1 1 else d)

/-- The disable ends: the grant returns and the channel shows Off. -/
def Dev.hapticOff (d : Dev) (c : Nat) : Dev :=
  let x := d.haptic c
  let d := ((d.setGrant c 0).setO (hapticIndex c) 0x0A 0).setO (hapticIndex c) 0x15 ((d.clock.ns - x.disableAt) / 1000)
  (d.setHaptic c { arrived := x.arrived, lastCheck := x.lastCheck }).setO (hapticIndex c) 1 0

/-- What a hand-over resets in a channel after its disable (R231); a channel in Fault is not disabled and stays there. -/
def Dev.hapticHandOver (d : Dev) (c : Nat) : Dev :=
  let d := ((d.setO (hapticIndex c) 4 0).setO (hapticIndex c) 8 0xFFFF).setO (hapticIndex c) 2 1
  if d.hap c 1 = 0 then d.setO (hapticIndex c) 1 1 else d

/-- The channels in Keep-alive (R220): the rail goes off, and every enabled channel holds Rest with its coil shorted; an
identification in hand has not ended, and its result is a free value. -/
def Dev.hapticsOff (d : Dev) : Dev :=
  (List.range 8).foldl (fun d c =>
    let ph := d.hapticPhase c
    if 2 ≤ ph ∧ ph ≤ 6 ∧ ph ≠ 5 then
      let d := if ph = 6 then let (k, d) := d.nextFree; d.setO (modelIndex c) 0x0A (Config.freeNat k % 256) else d
      let x := d.haptic c
      let d := if x.waiting.isSome then d.count (hapticIndex c) 0x0D else d
      let d := d.setHaptic c { x with waiting := none, probing := false, clearing := false, checkDue := false }
      (d.hapticRest c).setHapticPhase c (if x.clearing then 5 else 1)
    else d) d

/-! ### Writes -/

/-- A written trigger argument (R226). -/
def triggerVerdict (c v : Nat) (d : Dev) : Verdict :=
  if v % 8 ≠ c ∨ !(argOk (3 * 2 ^ 56 + v)) then .error abortRange else .ok (d.hapticArrive c v)

/-- The clear-fault object. Its probe needs the rail, which is off in Keep-alive: refused there (DESIGN CHOICE, assumption
log 38). -/
def clearFaultVerdict (c : Nat) (d : Dev) : Verdict :=
  if d.hap c 1 ≠ 5 ∨ !d.running then .error abortState
  else .ok ((d.setHaptic c { d.haptic c with probing := true, clearing := true }).setO (hapticIndex c) 1 2)

/-- Other writes of a channel record. -/
def hapticVerdict (c j v : Nat) (d : Dev) : Verdict :=
  if j = 2 then hapticEnableVerdict c v d
  else if j = 3 then triggerVerdict c v d
  else if j = 9 then clearFaultVerdict c d
  else .ok (d.setO (hapticIndex c) j v)

/-! ### The meanings -/

/-- HAPTIC_TRIGGER (R226). -/
def execHapticTrigger (who : Init) (channel argument : Nat) (s : State) : Host.Outcome State Fault Refusal :=
  actServed (onUnit channel 8 (fun d =>
    d.request who (hapticIndex channel) 3 (numData (hapticIndex channel) 3 argument) (triggerVerdict channel argument))) s

/-- TRIGGER_TAKEN (R227): a loop-period boundary. -/
def execTriggerTaken (channel : Nat) (s : State) : Host.Outcome State Fault Refusal :=
  act (onUnit channel 8 (fun d =>
    match (d.haptic channel).arrived with
    | some arg => (d.setHaptic channel { d.haptic channel with arrived := none }).takeTrigger channel arg
    | none => d)) s

/-- HAPTIC_LOOP_PERIOD (R223). -/
def execHapticLoopPeriod (channel : Nat) (currentMa voltageMv diDt : Int) (s : State) : Host.Outcome State Fault Refusal :=
  act (onUnit channel 8 (fun d =>
    if d.hapticPhase channel = 3 ∨ d.hapticPhase channel = 4 then d.hapticLoop channel currentMa voltageMv diDt else d)) s

/-- CHECK_PHASE_END (R225, R228): the probe's values when one ran, and Drive; after clear-fault, Rest. -/
def execCheckPhaseEnd (channel resistance forceFactor : Nat) (s : State) : Host.Outcome State Fault Refusal :=
  act (onUnit channel 8 (fun d =>
    if d.hapticPhase channel ≠ 2 then d
    else
      let x := d.haptic channel
      let (ok, d) := if x.probing then d.checkActuator channel resistance forceFactor else (true, d)
      if !ok then d
      else if x.clearing then
        (d.setHaptic channel { d.haptic channel with probing := false, clearing := false }).setHapticPhase channel 1
      else d.startDrive channel true)) s

/-- DRIVE_END (R225): the profile ends, the check at its end runs, and Brake starts. -/
def execDriveEnd (channel resistance forceFactor : Nat) (s : State) : Host.Outcome State Fault Refusal :=
  act (onUnit channel 8 (fun d =>
    if d.hapticPhase channel ≠ 3 then d
    else
      let (ok, d) := d.checkActuator channel resistance forceFactor
      if ok then d.setHapticPhase channel 4 else d)) s

/-- IN_DRIVE_CHECK (R228): after 100 ms of drive, and for a drive segment that a trigger ended. -/
def execInDriveCheck (channel resistance forceFactor : Nat) (s : State) : Host.Outcome State Fault Refusal :=
  act (onUnit channel 8 (fun d =>
    if d.hapticPhase channel = 3 ∨ (d.hapticPhase channel = 4 ∧ (d.haptic channel).checkDue) then
      (d.checkActuator channel resistance forceFactor).2
    else d)) s

/-- BRAKE_END (R225): the estimates are below their thresholds. -/
def execBrakeEnd (channel : Nat) (s : State) : Host.Outcome State Fault Refusal :=
  act (onUnit channel 8 (fun d =>
    if d.hapticPhase channel = 4 ∧ (d.haptic channel).still then d.endBrake channel else d)) s

/-- BRAKE_TIMEOUT (R225). -/
def execBrakeTimeout (channel : Nat) (s : State) : Host.Outcome State Fault Refusal :=
  act (onUnit channel 8 (fun d =>
    if d.hapticPhase channel = 4 then (d.count (hapticIndex channel) 0x0E).endBrake channel else d)) s

/-- BRIDGE_TRIP (R228, R229). -/
def execBridgeTrip (channel : Nat) (overTemperature : Bool) (s : State) : Host.Outcome State Fault Refusal :=
  act (onUnit channel 8 (fun d =>
    let ph := d.hapticPhase channel
    if 1 ≤ ph ∧ ph ≤ 6 ∧ ph ≠ 5 then
      let d := if ph = 6 then let (k, d) := d.nextFree; d.setO (modelIndex channel) 0x0A (Config.freeNat k % 256) else d
      d.hapticFault channel (if overTemperature then 6 else 5)
    else d)) s

/-- IDENTIFY (R222). -/
def execIdentify (who : Init) (channel : Nat) (s : State) : Host.Outcome State Fault Refusal :=
  actServed (onUnit channel 8 (fun d =>
    d.request who (modelIndex channel) 9 (numData (modelIndex channel) 9 1) (identifyVerdict channel))) s

/-- IDENTIFICATION_END (R222). -/
def execIdentificationEnd (channel : Nat) (fit : Fit) (s : State) : Host.Outcome State Fault Refusal :=
  act (onUnit channel 8 (fun d => if d.hapticPhase channel = 6 then d.identified channel fit else d)) s

/-- CLEAR_FAULT (R227). -/
def execClearFault (who : Init) (channel value : Nat) (s : State) : Host.Outcome State Fault Refusal :=
  actServed (onUnit channel 8 (fun d =>
    d.request who (hapticIndex channel) 9 (numData (hapticIndex channel) 9 value) (clearFaultVerdict channel))) s

/-- MODEL_STATE_WRITE (R221). -/
def execModelStateWrite (who : Init) (channel value : Nat) (s : State) : Host.Outcome State Fault Refusal :=
  actServed (onUnit channel 8 (fun d =>
    d.request who (modelIndex channel) 1 (numData (modelIndex channel) 1 value) (modelVerdict channel 1 value))) s

/-- HAPTIC_ENABLE_WRITE (R230). -/
def execHapticEnableWrite (who : Init) (channel value : Nat) (s : State) : Host.Outcome State Fault Refusal :=
  actServed (onUnit channel 8 (fun d =>
    d.request who (hapticIndex channel) 2 (numData (hapticIndex channel) 2 value) (hapticEnableVerdict channel value))) s

/-- HAPTIC_DISABLE_COMPLETE (R230): the effect in hand has braked, or there was none. -/
def execHapticDisableComplete (channel : Nat) (s : State) : Host.Outcome State Fault Refusal :=
  act (onUnit channel 8 (fun d =>
    let ph := (d.haptic channel).phase
    if d.hap channel 1 = 7 ∧ (ph = 1 ∨ ph = 5) then d.hapticOff channel else d)) s

end Sys2Proof.Machine
end

