-- ==== Sys2Proof/Machine/HostPorts.lean ====
section
/-! DEFINITION. Host ports and instances (13): quiesce and resume, dirty logging, function resets, removal, links, the control
page and the manager page (R258 to R277). -/

namespace Sys2Proof.Machine

def instIndex (i : Nat) : Nat := 0x2910 + i
def portIndex (p : Nat) : Nat := 0x2901 + p

/-- Instances of a port. -/
def portInstances (p : Nat) : List Nat := (List.range 32).map (fun k => 32 * p + k)

/-- The port exists: in x8 mode port B does not (R258). -/
def Dev.portExists (d : Dev) (p : Nat) : Bool := p == 0 || (p == 1 && d.getO 0x2900 0x02 == 0)

/-- An instance's state changes; the instances present are counted (2900h/08h): those that are not Absent. -/
def Dev.setInstState (d : Dev) (i st : Nat) : Dev :=
  let d := d.setO (instIndex i) 0x01 st
  d.setO 0x2900 0x08 ((List.range 64).filter (fun k => d.instState k != 0)).length

/-! ### Quiesce and resume (R274) -/

/-- Records of the audio inputs and record sinks that an instance owns, and that are not disabled. -/
def Dev.instAudio (d : Dev) (i : Nat) : List Nat :=
  ((List.range 32).filter (fun k => d.inOwner k == 0x40 + i && d.inp k 1 != 0)).map inIndex
    ++ ([8, 9, 10, 11].filter (fun s => d.sinkOwner s == 0x40 + i && d.snk s 1 != 0)).map sinkIndex

/-- Open DOMAIN transfers of an instance's window are discarded (R52); one of an image leaves the update Idle (R412). -/
def Dev.dropTransfers (d : Dev) (w : Nat) : Dev :=
  let mine (p : Nat × Option Transfer) : Bool := match p.2 with
    | some t => decide (t.path = .window w)
    | none => false
  let image := d.transfers.any (fun p => mine p && p.1 == objKey 0x3300 6)
  let d := { d with transfers := d.transfers.filter (fun p => !(mine p)) }
  if image && d.getO 0x3300 8 == 1 then d.setO 0x3300 8 0 else d

/-- The steps of a quiesce: rings, window, audio units, touch reports (these by the instance's state alone). -/
def Dev.quiesceSteps (d : Dev) (i : Nat) : Dev :=
  let on := (List.range 8).filter (fun r => d.ringObj i r 0 == 1)
  let audio := d.instAudio i
  let d := d.setInst i { d.inst i with quiesceAt := d.clock.ns, reEnable := on, audio := audio }
  let d := on.foldl (fun d r => d.ringDisable i r) d
  let d := audio.foldl (fun d k => (d.setO k 2 0).disableAudio k) d
  (d.dropTransfers (64 + i)).withdrawInstance i

/-- Every step of a quiesce has ended. -/
def Dev.quiesced (d : Dev) (i : Nat) : Bool :=
  (List.range 8).all (fun r => d.ringState i r == 0) && (d.inst i).audio.all (fun k => d.getO k 1 == 0)

/-- A quiesce command on an instance. -/
def Dev.startQuiesce (d : Dev) (i : Nat) : Dev := (d.quiesceSteps i).setInstState i 2

/-- A resume command: rings and audio units that the quiesce stopped are enabled again, and deliveries are made. -/
def Dev.resumeInstance (d : Dev) (i : Nat) : Dev :=
  let x := d.inst i
  let d := (d.setInst i { x with reEnable := [], audio := [] }).setInstState i 1
  let d := x.reEnable.foldl (fun d r => d.ringEnable i r) d
  let d := x.audio.foldl (fun d k => (d.setO k 2 1).enableAudio k) d
  d.offerAll (0x40 + i)

/-! ### The manager page (Table 13-4) -/

def Dev.page (d : Dev) (p : Nat) : ManagerPage := tabGet {} d.host.pages p
def Dev.setPage (d : Dev) (p : Nat) (x : ManagerPage) : Dev :=
  { d with host := { d.host with pages := tabSet {} d.host.pages p x } }

/-- A command of the manager page: the PF of the instance's port sends it. -/
def managerOf (who : Init) (i : Nat) : Bool := who == .host (32 * instPort i)

/-- A manager command ends with a result. -/
def Dev.mgrResult (d : Dev) (p v : Nat) : Dev := d.setPage p { d.page p with busy := none, result := v }

/-- A write of MGR_SELECT: a TLP, which selects a function of its port. -/
def Dev.selected (d : Dev) (p fn : Nat) : Dev := let d := d.linkUse p; d.setPage p { d.page p with select := fn }

/-- A write of MGR_SELECT and one of MGR_CMD, the latter ignored while BUSY = 1: the command on the function selected, which must
be there. -/
def Dev.manager (d : Dev) (p fn : Nat) (f : Nat → Dev → Dev) : Dev :=
  let i := 32 * p + fn
  if !(p < 2 && fn < 32 && d.barOpen (32 * p)) then d
  else
    let d := d.selected p fn
    if (d.page p).busy.isSome then d
    else if d.instState i = 0 then d.mgrResult p 2
    else f i d

/-- Quiesce by the manager: BUSY until the function is Quiesced (DESIGN CHOICE, assumption log 44: R274 and Table 13-4 do not say
how long it is 1). -/
def Dev.mgrQuiesce (p fn i : Nat) (d : Dev) : Dev :=
  if d.instState i ≠ 1 then d.mgrResult p 1
  else let d := d.startQuiesce i; d.setPage p { d.page p with busy := some fn }

/-- Resume by the manager. -/
def Dev.mgrResume (p i : Nat) (d : Dev) : Dev :=
  if d.instState i ≠ 3 ∨ (d.inst i).d3hot then d.mgrResult p 1 else (d.resumeInstance i).mgrResult p 0

/-- A quiesce that the manager waits for is over. -/
def Dev.mgrDone (d : Dev) (i : Nat) : Dev :=
  if (d.page (instPort i)).busy = some (i % 32) then d.mgrResult (instPort i) 0 else d

/-- Quiesce or resume by the island's command object: `from_` is the state it needs. -/
def Dev.instCommand (d : Dev) (who : Init) (i value from_ : Nat) (f : Dev → Dev) : Dev :=
  d.request who (instIndex i) 0x04 (numData (instIndex i) 0x04 value)
    (fun d => if d.instState i ≠ from_ ∨ (d.inst i).d3hot then .error abortState else .ok (f d))

/-! ### Dirty logging (R276, R277) -/

/-- Settings are valid: aligned, a legal number of pages, and bitmaps that do not overlap. -/
def settingsOk (x : DirtySettings) : Bool :=
  x.map0 % 4096 == 0 && x.map1 % 4096 == 0 && x.base % 4096 == 0
    && x.pages % 8 == 0 && 8 ≤ x.pages && x.pages ≤ 2 ^ 31
    && x.map0 + x.pages / 8 ≤ 2 ^ 64 && x.map1 + x.pages / 8 ≤ 2 ^ 64
    && (x.map0 + x.pages / 8 ≤ x.map1 || x.map1 + x.pages / 8 ≤ x.map0)

/-- Start dirty log: the registers take the settings; a valid start makes bitmap 0 active and clears OVERRUN. -/
def Dev.startLog (x : DirtySettings) (i : Nat) (d : Dev) : Dev :=
  let l := { (d.inst i).log with map0 := x.map0, map1 := x.map1, base := x.base, pages := x.pages }
  if settingsOk x then (d.setLog i { l with active := 0, overrun := false, logging := true }).mgrResult (instPort i) 0
  else (d.setLog i l).mgrResult (instPort i) 3

/-- The settings as DL_MAP0, DL_MAP1, DL_BASE and DL_PAGES hold them. -/
def DirtyLog.settings (l : DirtyLog) : DirtySettings := { map0 := l.map0, map1 := l.map1, base := l.base, pages := l.pages }

/-- A harvest: the other bitmap becomes active, and the count increments. Marks are written as they are made, so all of them
are in the bitmap that was active. -/
def Dev.harvestLog (d : Dev) (i : Nat) : Dev :=
  let l := (d.inst i).log
  (d.setLog i { l with active := 1 - l.active % 2, count := (l.count + 1) % 65536 }).count (instIndex i) 0x0E

/-- A harvest or a stop: only while logging is on. -/
def Dev.logCommand (stop : Bool) (i : Nat) (d : Dev) : Dev :=
  if !(d.inst i).log.logging then d.mgrResult (instPort i) 1
  else
    let d := d.harvestLog i
    (if stop then d.setLog i { (d.inst i).log with logging := false } else d).mgrResult (instPort i) 0

/-- A write of MGR_CMD (Table 13-4); a value that it does not list does nothing. -/
def Dev.mgrCmd (d : Dev) (p v : Nat) : Dev :=
  let fn := (d.page p).select
  d.manager p fn (fun i d =>
    match v with
    | 1 => d.mgrQuiesce p fn i
    | 2 => d.mgrResume p i
    | 3 => d.startLog (d.inst i).log.settings i
    | 4 => d.logCommand true i
    | 5 => d.logCommand false i
    | _ => d)

/-! ### Resets and removal (R271, R274, R275) -/

/-- Functions that a reset of a function affects: a PF takes every VF of its port with it. -/
def affected (i : Nat) : List Nat := if i % 32 = 0 then portInstances (instPort i) else [i]

/-- Every function of a list is Quiesced or Absent. -/
def Dev.mayReset (d : Dev) (l : List Nat) : Bool := l.all (fun k => d.instState k == 3 || d.instState k == 0)

/-- A reset is refused: FLR_REFUSED and the tallies of the functions that are in the way, and an event. -/
def Dev.refuseReset (d : Dev) (i : Nat) (l : List Nat) : Dev :=
  let bad := l.filter (fun k => d.instState k != 3 && d.instState k != 0)
  let d := bad.foldl (fun d k => (d.setInst k { d.inst k with flrRefused := true }).count (instIndex k) 0x08) d
  (d.count 0x2900 0x09).log 0x4A 0x1802 (0x40 + i) 0xFF [i]

/-- The functions of a list that are Quiesced go to Resetting: deliveries are cleared (R312). -/
def Dev.startReset (d : Dev) (l : List Nat) : Dev :=
  (l.filter (fun k => d.instState k == 3)).foldl (fun d k => (d.setInstState k 4).clearInstance k) d

/-- What a reset puts back at its default (Table 13-8): rings, window, pages, MSI-X table, dirty log and ring set record. -/
def Dev.instDefaults (d : Dev) (i : Nat) : Dev :=
  let d := (List.range 8).foldl (fun d r =>
    let d := (d.ring i r).records.foldl (fun d p => if p.2 = 0 then d else d.regFree (p.2 - 1)) d
    d.setRing i r {}) d
  let d := ((d.clearIndex (ringIndex i) []).setWindow (64 + i) {}).dropTransfers (64 + i)
  let d := (d.setInst i {}).setLog i {}
  let d := if i % 32 = 0 then d.setPage (instPort i) {} else d
  (d.setO (instIndex i) 0x06 0).clearInstance i

/-- Every item that a block holds passes through `f`. -/
def Dev.mapItems (d : Dev) (f : Item → Item) : Dev :=
  let q (x : GpuQueue) : GpuQueue := { x with jobs := x.jobs.map (fun j => { j with item := f j.item }) }
  { d with
    comp := { d.comp with commits := d.comp.commits.map (fun c => { c with item := f c.item }) }
    copy := d.copy.map (fun p => (p.1, { p.2 with jobs := p.2.jobs.map (fun j => { j with item := f j.item }) }))
    gpu := { d.gpu with
      parts := d.gpu.parts.map (fun p => (p.1, { p.2 with queues := p.2.queues.map (fun y => (y.1, q y.2)) }))
      waiting := d.gpu.waiting.map (fun c => { c with item := f c.item })
      cores := d.gpu.cores.map (fun p => (p.1, p.2.map (fun c => { c with item := f c.item }))) } }

/-- The Registry drops the entries of an owner whose instance is Detached (Table 20-4). -/
def Dev.dropEntries (d : Dev) (code : Nat) : Dev :=
  let d := d.mapItems (fun it => if it.code = code then { it with entry := none } else it)
  let d := (List.range 32).foldl (fun d k => if d.inOwner k = code then d.setAin k { d.ain k with entry := none } else d) d
  let d := (List.range 12).foldl (fun d k => if d.sinkOwner k = code then d.setSink k { d.sink k with entry := none } else d) d
  let d := (List.range 8).foldl (fun d r =>
    let x := d.ring (code - 0x40) r
    d.setRing (code - 0x40) r { x with entry := none, records := x.records.map (fun p => (p.1, 0)) }) d
  { d with registry := { d.registry with entries := d.registry.entries.filter (fun p => p.2.owner != code) } }.regCounted

/-- An instance is Detached: the quiesce steps run without the link. -/
def Dev.detach (d : Dev) (i : Nat) : Dev :=
  let st := d.instState i
  if 1 ≤ st ∧ st ≤ 4 then
    let d := ((d.dropEntries (0x40 + i)).setInstState i 5).setInst i { d.inst i with d3hot := false }
    (d.mgrDone i).quiesceSteps i
  else d

/-- A Detached instance has no taken item left: it is Absent, and its sources are cleared; the PF is Present again when its
link has come up meanwhile. -/
def Dev.detached (d : Dev) (i : Nat) : Dev :=
  let d := (List.range 8).foldl (fun d r => (d.setRingState i r 0).setRing i r {}) d
  let d := d.setInst i { d.inst i with reEnable := [], audio := [] }
  let d := (d.setInstState i 0).clearInstance i
  if i % 32 = 0 && tabGet false d.host.linked (instPort i) then d.setInstState i 1 else d

/-! ### Links (R258, R269, R275) -/

/-- The link of a port is up, at no more lanes than it has: four, or eight in x8 mode (R258). -/
def Dev.linkComesUp (d : Dev) (p speed width : Nat) : Dev :=
  if !(d.portExists p) || (if d.getO 0x2900 2 = 1 then 8 else 4) < width then d
  else
    let d := ((d.setO (portIndex p) 1 2).setO (portIndex p) 2 speed).setO (portIndex p) 3 width
    let d := { d with host := { d.host with linked := tabSet false d.host.linked p true, perst := tabSet false d.host.perst p true } }
    if d.instState (32 * p) = 0 then d.setInstState (32 * p) 1 else d

/-- DL_Down, hot reset or PERST#. -/
def Dev.linkGoesDown (d : Dev) (p : Nat) : Dev :=
  if !(tabGet false d.host.linked p) then d
  else
    let d := { d with host := { d.host with linked := tabSet false d.host.linked p false } }
    let d := ((((d.setO (portIndex p) 1 0).setO (portIndex p) 2 0).setO (portIndex p) 3 0).setO (portIndex p) 4 0).setO (portIndex p) 5 0
    (portInstances p).foldl (fun d i => d.detach i) (d.count (portIndex p) 9)

/-- An entry is re-issued under its ring stage; the result says whether the replay limit allows it. -/
def Dev.relayEntry (d : Dev) (e : Nat) : Bool × Dev :=
  let x := d.reg e
  if x.kind ≠ 4 && !d.regSealed && x.replays < d.getO 0x3000 0x05 then
    (true, (d.setReg e { x with generation := x.generation + 1, replays := x.replays + 1, replayed := true
                                issued := d.clock.ns }).count 0x3000 0x06)
  else (false, d.count 0x3000 0x07)

/-- A retrain without DL_Down (Table 20-5): block reads that were outstanding are made again, or complete with status 0022h;
the streams of the port's instances go on from their journaled positions. -/
def Dev.retrain (d : Dev) (p : Nat) : Dev :=
  let d := (d.count (portIndex p) 8).transientFault 0x1803 p
  let d := (portInstances p).foldl (fun d i => (List.range 8).foldl (fun d r =>
    match (d.ring i r).waiting, (d.ring i r).entry with
    | some b, some e =>
      let (again, d) := d.relayEntry e
      if again then d
      else
        let it := d.ringItem i r b
        (d.setRing i r { d.ring i r with waiting := none, entry := none }).completeItem it [] 0x22 0
    | _, _ => d) d) d
  let audio := d.registry.entries.filter (fun q => q.2.kind == 8 && 0x40 + 32 * p ≤ q.2.owner && q.2.owner < 0x60 + 32 * p)
  audio.foldl (fun d q => (d.relayEntry q.1).2) d

/-- An MSI-X write of the port waits to be issued. -/
def Dev.msixWaits (d : Dev) (p : Nat) : Bool :=
  (portInstances p).any (fun i => (List.range 64).any (fun v => !(d.vectorBlocked i v) && !(d.vectorSources i v).isEmpty))

/-- A port idle for its L1 entry delay: every held source of its instances is released first, and while MSI-X writes follow from
that the link stays in L0 (R309); else it enters L1, or the substate that its partner's control gives (3 L1, 4 L1.1, 5 L1.2). -/
def Dev.enterL1 (d : Dev) (p state : Nat) : Dev :=
  let st := d.getO (portIndex p) 1
  if st < 2 ∨ 5 < st ∨ state < 3 ∨ 5 < state then d
  else if st = 2 then
    let d := ((portInstances p).filter (fun i => d.instState i == 1)).foldl (fun d i => d.releaseAll (0x40 + i)) d
    if d.msixWaits p then d else (d.setO (portIndex p) 1 state).count (portIndex p) 0x0A
  else d.setO (portIndex p) 1 state

/-! ### The control page (Table 13-3) -/

/-- A write of IDLE_HINT: setting it releases every held source of the instance. -/
def Dev.idleHint (d : Dev) (i value : Nat) : Dev :=
  let d := (d.linkUse (instPort i)).setO (instIndex i) 0x06 (value % 2)
  if value % 2 = 1 then d.releaseAll (0x40 + i) else d

/-- A read of TIME_LO latches the high half. -/
def Dev.latchTime (d : Dev) (i : Nat) : Dev :=
  (d.linkUse (instPort i)).setInst i { d.inst i with timeHi := d.clock.ns / 2 ^ 32 }

/-! ### The meanings -/

/-- IDLE_HINT (R270): setting it releases every held source of the instance. -/
def execIdleHint (inst value : Nat) (s : State) : Host.Outcome State Fault Refusal :=
  act (onUnit inst 64 (fun d =>
    if d.barOpen inst then d.idleHint inst value else d)) s

/-- TIME_LO (R272): the high half is latched, and the low half returned. -/
def execTimeLo (inst : Nat) (s : State) : Host.Outcome State Fault Refusal :=
  act (onUnit inst 64 (fun d =>
    if d.barOpen inst then (d.latchTime inst).reply (leBytes 4 (d.clock.ns % 2 ^ 32)) else d)) s

/-- PTM_REQUEST (R272): the PF answers with the device clock and the turnaround. -/
def execPtmRequest (port turnaroundNs : Nat) (s : State) : Host.Outcome State Fault Refusal :=
  act (onUnit port 2 (fun d =>
    if d.instState (32 * port) ≠ 0 && tabGet false d.host.linked port then
      -- a request comes only where PTM is enabled (2901h + p/05h)
      ((d.linkUse port).setO (portIndex port) 5 1).send (.ptm port d.clock.ns turnaroundNs)
    else d)) s

/-- QUIESCE (R274). -/
def execQuiesce (who : Init) (inst : Nat) (s : State) : Host.Outcome State Fault Refusal :=
  actServed (onUnit inst 64 (fun d =>
    if managerOf who inst then d.manager (instPort inst) (inst % 32) (Dev.mgrQuiesce (instPort inst) (inst % 32))
    else d.instCommand who inst 1 1 (fun d => d.startQuiesce inst))) s

/-- QUIESCE_COMPLETE (R274). -/
def execQuiesceComplete (inst : Nat) (s : State) : Host.Outcome State Fault Refusal :=
  act (onUnit inst 64 (fun d =>
    if d.instState inst = 2 ∧ d.quiesced inst then
      ((d.setO (instIndex inst) 0x05 ((d.clock.ns - (d.inst inst).quiesceAt) / 1000)).setInstState inst 3).mgrDone inst
    else d)) s

/-- RESUME (R274). -/
def execResume (who : Init) (inst : Nat) (s : State) : Host.Outcome State Fault Refusal :=
  actServed (onUnit inst 64 (fun d =>
    if managerOf who inst then d.manager (instPort inst) (inst % 32) (Dev.mgrResume (instPort inst))
    else d.instCommand who inst 2 3 (fun d => d.resumeInstance inst))) s

/-- START_DIRTY_LOG (R276). -/
def execStartDirtyLog (port function : Nat) (settings : DirtySettings) (s : State) : Host.Outcome State Fault Refusal :=
  act (fun d => d.manager port function (Dev.startLog settings)) s

/-- STOP_DIRTY_LOG (R277). -/
def execStopDirtyLog (port function : Nat) (s : State) : Host.Outcome State Fault Refusal :=
  act (fun d => d.manager port function (Dev.logCommand true)) s

/-- HARVEST (R277). -/
def execHarvest (port function : Nat) (s : State) : Host.Outcome State Fault Refusal :=
  act (fun d => d.manager port function (Dev.logCommand false)) s

/-- FUNCTION_LEVEL_RESET (R274). -/
def execFunctionLevelReset (inst : Nat) (s : State) : Host.Outcome State Fault Refusal :=
  act (onUnit inst 64 (fun d =>
    if d.instState inst = 0 then d
    else if d.mayReset (affected inst) then d.startReset (affected inst) else d.refuseReset inst (affected inst))) s

/-- D3HOT_TRANSITION (R271): handled as an FLR; in D3hot the functions stay as quiesce left them. -/
def execD3hotTransition (inst : Nat) (s : State) : Host.Outcome State Fault Refusal :=
  act (onUnit inst 64 (fun d =>
    if d.instState inst = 0 then d
    else if d.mayReset (affected inst) then
      ((affected inst).filter (fun k => d.instState k == 3)).foldl (fun d k => d.setInst k { d.inst k with d3hot := true }) d
    else d.refuseReset inst (affected inst))) s

/-- D0_TRANSITION (R275): a Quiesced function in D3hot goes to Resetting. -/
def execD0Transition (inst : Nat) (s : State) : Host.Outcome State Fault Refusal :=
  act (onUnit inst 64 (fun d =>
    let l := (affected inst).filter (fun k => d.instState k == 3 && (d.inst k).d3hot)
    if (d.inst inst).d3hot then (l.foldl (fun d k => d.setInst k { d.inst k with d3hot := false }) d).startReset l else d)) s

/-- VF_REMOVAL (R274): VF Enable cleared, or NumVFs lowered, to leave VFs 1 to `numVfs`. -/
def execVfRemoval (port numVfs : Nat) (s : State) : Host.Outcome State Fault Refusal :=
  act (onUnit port 2 (fun d =>
    let gone := (portInstances port).filter (fun i => numVfs < i % 32)
    if d.getO (portIndex port) 4 ≤ numVfs then d
    else if d.mayReset gone then
      let d := (gone.filter (fun i => d.instState i == 3)).foldl (fun d i => (d.instDefaults i).setInstState i 0) d
      d.setO (portIndex port) 4 numVfs
    else d.refuseReset (32 * port) gone)) s

/-- VF_ENABLE_SET (R275): VFs 1 to `numVfs` that are Absent become Present. -/
def execVfEnableSet (port numVfs : Nat) (s : State) : Host.Outcome State Fault Refusal :=
  act (onUnit port 2 (fun d =>
    if 31 < numVfs ∨ numVfs < d.getO (portIndex port) 4 ∨ !(d.barOpen (32 * port)) then d
    else
      let new := (portInstances port).filter (fun i => 1 ≤ i % 32 && i % 32 ≤ numVfs && d.instState i == 0)
      (new.foldl (fun d i => d.setInstState i 1) d).setO (portIndex port) 4 numVfs)) s

/-- LINK_UP (R275). -/
def execLinkUp (port speed width : Nat) (s : State) : Host.Outcome State Fault Refusal :=
  act (onUnit port 2 (fun d =>
    if d.awake && d.domainRuns 17 && 1 ≤ speed && speed ≤ 5 && [1, 2, 4, 8].contains width then d.linkComesUp port speed width else d)) s

/-- LINK_DOWN (R275). -/
def execLinkDown (port : Nat) (s : State) : Host.Outcome State Fault Refusal :=
  act (onUnit port 2 (fun d => d.linkGoesDown port)) s

/-- DETACH_COMPLETE (R275): every taken item of the instance has ended. -/
def execDetachComplete (inst : Nat) (s : State) : Host.Outcome State Fault Refusal :=
  act (onUnit inst 64 (fun d =>
    if d.instState inst = 5 ∧ (List.range 8).all (fun r => (d.ring inst r).drained) ∧ (d.inst inst).audio.all (fun k => d.getO k 1 == 0)
    then d.detached inst else d)) s

/-- INSTANCE_RESET_COMPLETE (R275). -/
def execInstanceResetComplete (inst : Nat) (s : State) : Host.Outcome State Fault Refusal :=
  act (onUnit inst 64 (fun d =>
    if d.instState inst = 4 then ((d.instDefaults inst).setInstState inst 1).count (instIndex inst) 0x07 else d)) s

/-- LINK_RETRAIN (Table 20-5). -/
def execLinkRetrain (port : Nat) (s : State) : Host.Outcome State Fault Refusal :=
  act (onUnit port 2 (fun d => if tabGet false d.host.linked port then d.retrain port else d)) s

/-- L1_ENTRY (R269). -/
def execL1Entry (rest : LinkRest) (s : State) : Host.Outcome State Fault Refusal :=
  act (onUnit rest.port 2 (fun d => d.enterL1 rest.port rest.state)) s

end Sys2Proof.Machine
end

