-- ==== Sys2Proof/Machine/Touch.lean ====
section
/-! DEFINITION. Touch (10): panels and scans (R188 to R195), measurement and baselines (R196, R198 to R201), detection (R197,
R203), zones and clicks (R207, R208), reports (R209, R210), and disabling (R211, R212). -/

namespace Sys2Proof.Machine

/-! ### Panels -/

def panelIndex (p : Nat) : Nat := 0x2601 + p
def zoneIndex (p : Nat) : Nat := 0x2610 + p
def nodeIndex (p : Nat) : Nat := 0x2620 + p

def Dev.panel (d : Dev) (p : Nat) : Panel := tabGet {} d.panels p
def Dev.setPanel (d : Dev) (p : Nat) (x : Panel) : Dev := { d with panels := tabSet {} d.panels p x }

/-- Object `j` of a panel. -/
def Dev.pan (d : Dev) (p j : Nat) : Nat := d.getO (panelIndex p) j

def Dev.panelState (d : Dev) (p : Nat) : Nat := d.pan p 0x01
def Dev.setPanelState (d : Dev) (p st : Nat) : Dev := d.setO (panelIndex p) 0x01 st

/-- The baseline state (Table 10-2). -/
def Dev.baseState (d : Dev) (p : Nat) : Nat := d.pan p 0x20
def Dev.setBaseState (d : Dev) (p st : Nat) : Dev := d.setO (panelIndex p) 0x20 st

def Dev.nodes (d : Dev) (p : Nat) : Nat := d.pan p 0x04

/-- Rows and columns of a panel (R189). -/
def Dev.grid (d : Dev) (p : Nat) : Nat × Nat :=
  if d.pan p 0x05 = 0 then (d.pan p 0x06, d.nodes p - d.pan p 0x06) else (d.nodes p / d.pan p 0x06, d.pan p 0x06)

/-- The panel is enabled: in any state but disabled. -/
def Dev.panelOn (d : Dev) (p : Nat) : Bool := d.panelState p != 0

/-- R189: at least 2 rows and columns, or a whole matrix. -/
def Dev.panelKindOk (d : Dev) (p : Nat) : Bool :=
  let w := d.pan p 0x06
  if d.pan p 0x05 = 0 then 2 ≤ w && w + 2 ≤ d.nodes p else 1 ≤ w && d.nodes p % w == 0

/-- R188: the range lies in the pool and meets no enabled panel's. -/
def Dev.panelRangeOk (d : Dev) (p : Nat) : Bool :=
  let a := d.pan p 0x03
  let b := a + d.nodes p
  b ≤ 384 && (List.range 8).all (fun q => q == p || !(d.panelOn q) ||
    b ≤ d.pan q 0x03 || d.pan q 0x03 + d.nodes q ≤ a)

/-- Slices of the enabled panels but one (R191). -/
def Dev.slicesBut (d : Dev) (p : Nat) : Nat :=
  ((List.range 8).filter (fun q => q != p && d.panelOn q)).foldl (fun n q => n + d.pan q 0x08) 0

/-- Slices of the enabled panels (2600h/03h). -/
def Dev.slicesUsed (d : Dev) : Nat := d.slicesBut 8

/-- The integration count of a scan, and the detection threshold: glove mode and hover multiply the one by 4 and lower the
other (R203). -/
def Dev.glove (d : Dev) (p : Nat) : Bool := d.pan p 0x12 != 0
def Dev.theta (d : Dev) (p : Nat) : Nat := if d.glove p then d.pan p 0x13 else d.pan p 0x10

/-- The owner code that the report objects belong to (R210). -/
def Dev.reader (d : Dev) (p : Nat) : Nat := if d.pan p 0x19 = 0xFF then d.owner (blockId 3 p) else d.pan p 0x19

/-! ### Node data (Table 10-10) -/

/-- Numbers of 16 bits in a DOMAIN. -/
def words16 : Nat → List Byte → List Nat
  | 0, _ => []
  | n + 1, b => leNat (b.take 2) :: words16 n (b.drop 2)

def bytes16 (l : List Nat) : List Byte := l.flatMap (fun v => leBytes 2 v)

def Dev.baselines (d : Dev) (p : Nat) : List Nat := words16 (d.nodes p) (d.getB (nodeIndex p) 0x01)
def Dev.codes (d : Dev) (p : Nat) : List Nat := (padTo (d.nodes p) (d.getB (nodeIndex p) 0x02)).map (fun b => b.toNat)
def Dev.setBaselines (d : Dev) (p : Nat) (l : List Nat) : Dev := d.setB (nodeIndex p) 0x01 (bytes16 l)
def Dev.setCodes (d : Dev) (p : Nat) (l : List Nat) : Dev := d.setB (nodeIndex p) 0x02 (l.map (fun c => BitVec.ofNat 8 c))

/-- The suspect nodes as a string of bits. -/
def Dev.suspects (d : Dev) (p : Nat) : Nat := leNat (d.getB (nodeIndex p) 0x04)
def Dev.setSuspects (d : Dev) (p v : Nat) : Dev := d.setB (nodeIndex p) 0x04 (if v = 0 then [] else leBytes 48 v)

/-! ### Starting a scan (R193, R195, R204, R206) -/

/-- The length of a blanking scan with `rounds` rounds and integration count `n`, in thirds of a nanosecond. -/
def blankingTime (rounds n : Nat) : Nat := rounds * (n * 15625 + 4500)

/-- A scan that starts now is line-locked: it does not fit between the start of line VACTIVE + 1 and that of line VTOTAL − 1.
On a free rod, or one that holds and so has no lines, every scan runs in blanking mode (R193; for the rod that holds DESIGN
CHOICE, assumption log 35). -/
def Dev.scanLocked (d : Dev) (p rod : Nat) (ganged : Bool) : Bool :=
  if 8 ≤ rod || !(d.rodRuns rod) then false
  else
    let n := d.pan p 0x09 * (if d.glove p then 4 else 1)
    let rounds := if ganged then 1 else ceilDiv (d.nodes p) (d.pan p 0x08)
    let (num, den) := d.lineTime rod
    let line := d.rodLine rod
    let last := d.rodVtotal rod - 1
    let past := d.clock.ns - (d.rod rod).lineAt
    !(d.force rod 6 + 1 ≤ line && line < last && (blankingTime rounds n + 3 * past) * den < 3 * (last - line) * num)

/-- When a scan that a bead starts now begins: at once, or at the next line start. -/
def Dev.scanTime (d : Dev) (p rod : Nat) (ganged : Bool) : Nat :=
  let (num, den) := d.lineTime rod
  if d.scanLocked p rod ganged then (d.rod rod).lineAt + num / den else d.clock.ns

/-- A full-scan start at time `t` comes less than 0.95 / R after the previous one (R195). -/
def Dev.rateCapped (d : Dev) (p rate t : Nat) : Bool :=
  match (d.panel p).lastStart with
  | some u => (t - u) * rate * 100 < 95 * 1000000000
  | none => false

/-- A scan begins on a rod; a full-scan start is remembered for the rate cap. -/
def Dev.beginScan (d : Dev) (p rod : Nat) (ganged keep full : Bool) : Dev :=
  let locked := d.scanLocked p rod ganged
  let sc : Scan :=
    { ganged := ganged, locked := locked, keep := keep, rod := rod, waiting := locked,
      position := d.getO (rodIndex rod) 0x03, startAt := d.clock.ns }
  d.setPanel p { d.panel p with
    scan := some sc, lastStart := if full then some (d.scanTime p rod ganged) else (d.panel p).lastStart }

/-- Line-locked scans that wait for a line start of rod `r` begin on it. -/
def Dev.scanLine (d : Dev) (r : Nat) : Dev :=
  (List.range 8).foldl (fun d p =>
    match (d.panel p).scan with
    | some sc =>
      if sc.waiting && sc.rod == r then
        d.setPanel p { d.panel p with
          scan := some { sc with waiting := false, position := d.getO (rodIndex r) 0x03, startAt := d.clock.ns } }
      else d
    | none => d) d

/-- A scan bead fires (R195): it starts a scan, or nothing. In Idle a full-scan start runs a ganged scan at the slow rate
(R204). -/
def Dev.scanStart (d : Dev) (p : Nat) (ganged : Bool) : Dev :=
  let rod := d.pan p 0x07
  if (d.panel p).scan.isSome then d.count (panelIndex p) 0x26
  else if d.panelState p = 0 ∨ d.panelState p = 3 ∨ d.baseState p = 0 ∨ !(d.domainRuns 16) then d
  else if ganged then d.beginScan p rod true false false
  else
    let idle := d.panelState p == 2
    if d.rateCapped p (d.pan p (if idle then 0x0B else 0x0A)) (d.scanTime p rod idle) then d.count (panelIndex p) 0x27
    else d.beginScan p rod idle false true

/-- The fixed slow-scan bead of a panel in Keep-alive (R205): a ganged scan, or a full one while a touch or an approach is
present. -/
def Dev.slowScan (d : Dev) (p : Nat) : Dev :=
  let x := d.panel p
  if x.scan.isSome then d.count (panelIndex p) 0x26
  else if d.panelState p = 0 ∨ d.panelState p = 3 ∨ d.baseState p = 0 ∨ !(d.domainRuns 16) then d
  else
    let ganged := !x.reported && !x.approach
    d.beginScan p (d.pan p 0x0E) ganged true !ganged

/-! ### The balls (R190) -/

/-- What a sense or shield ball is driven to. -/
inductive Drive where
  /-- Ground. -/
  | ground
  /-- Charge packets of the front end, or the guard that goes with them. -/
  | scan
  deriving DecidableEq, Repr

/-- A scan of the panel has begun and not ended. -/
def Dev.scanning (d : Dev) (p : Nat) : Bool := (d.panel p).scan.any (fun sc => !sc.waiting)

/-- Sense ball `n`: ground, but for the balls of an enabled panel in its scans (R188, R190). -/
def Dev.senseBall (d : Dev) (n : Nat) : Drive :=
  if (List.range 8).any (fun p => d.panelOn p && d.scanning p && d.pan p 0x03 ≤ n && n < d.pan p 0x03 + d.nodes p) then .scan
  else .ground

/-- Shield ball `p`, which drives the guard of panel p. -/
def Dev.shieldBall (d : Dev) (p : Nat) : Drive := if d.panelOn p && d.scanning p then .scan else .ground

/-! ### Reference and temperature (R200, R201) -/

/-- The band of a temperature (R200). -/
def bandOfTemp (t : Int) : Nat := min 7 ((t + 40) / 20).toNat

/-- The band in force changes only when the temperature passes an edge by 2 °C. -/
def newBand (cur : Nat) (t : Int) : Nat :=
  let b := bandOfTemp t
  if cur < b then (if t < -40 + 20 * (b : Int) + 2 then b - 1 else b)
  else if b < cur then (if -20 + 20 * (b : Int) - 2 < t then b + 1 else b)
  else cur

/-- The head of a stored reference: the panel's range, kind and node count. -/
def Dev.refHead (d : Dev) (p : Nat) : List Byte :=
  leBytes 2 (d.pan p 0x03) ++ leBytes 2 (d.nodes p) ++ leBytes 1 (d.pan p 0x05) ++ leBytes 2 (d.pan p 0x06)

/-- The area of the touch references (Table 23-1): a ring of 16 sectors, written one a save, each with a generation and a CRC
(R445). -/
def referenceArea : Nat := 0x47A00000
def referenceSector : Nat := 0x10000

/-- The newest valid sector of references: which it is, its generation, and its body. -/
def Dev.newestReferences (d : Dev) : Option (Nat × Nat × List Byte) := d.newestOf referenceArea referenceSector 16

/-- The entries of a sector, one for each panel and band saved: 8 × panel + band, the length, the reference (DESIGN CHOICE,
assumption log 11: a sector holds every reference, so that the ring loses none). -/
def refEntries : Nat → List Byte → List (Nat × List Byte)
  | 0, _ => []
  | fuel + 1, b =>
    if b.length < 3 then []
    else
      let n := field b 1 2
      (field b 0 1, (b.drop 3).take n) :: refEntries fuel (b.drop (3 + n))

/-- The references stored now. -/
def Dev.savedReferences (d : Dev) : List (Nat × List Byte) :=
  match d.newestReferences with
  | some (_, _, b) => refEntries 64 b
  | none => []

/-- The stored reference of a band among `refs`: baselines and codes, when it was saved for this panel's range, kind and node
count (R200). -/
def Dev.referenceIn (d : Dev) (refs : List (Nat × List Byte)) (p band : Nat) : Option (List Nat × List Nat) :=
  match refs.find? (fun e => e.1 == 8 * p + band) with
  | none => none
  | some (_, b) =>
    let n := d.nodes p
    if b.length = 7 + 3 * n ∧ b.take 7 = d.refHead p then
      some (words16 n (b.drop 7), (b.drop (7 + 2 * n)).map (fun x => x.toNat))
    else none

def Dev.reference (d : Dev) (p band : Nat) : Option (List Nat × List Nat) := d.referenceIn d.savedReferences p band

def Dev.touchBand (d : Dev) : Nat := d.getO 0x2600 0x06

/-- The bands with a valid reference (2620h + p/06h). -/
def Dev.referenceMask (d : Dev) (p : Nat) : Nat :=
  let refs := d.savedReferences
  (List.range 8).foldl (fun m k => if (d.referenceIn refs p k).isSome then m + 2 ^ k else m) 0

/-- A reference may be saved: in Tracking with no suspect node (R201). -/
def Dev.mayStore (d : Dev) (p : Nat) : Bool := d.baseState p == 3 && d.suspects p == 0

/-- The reference of the band in force is saved to flash, with the others that are stored, in the sector after the newest. -/
def Dev.storeReference (d : Dev) (p : Nat) : Dev :=
  let b := d.refHead p ++ bytes16 (d.baselines p) ++ (d.codes p).map (fun c => BitVec.ofNat 8 c)
  let key := 8 * p + d.touchBand
  let refs := (d.savedReferences.filter (fun e => e.1 != key)) ++ [(key, b)]
  let body := refs.flatMap (fun e => leBytes 1 e.1 ++ leBytes 2 e.2.length ++ e.2)
  let (k, gen) := match d.newestReferences with
    | some (k, g, _) => ((k + 1) % 16, (g + 1) % 2 ^ 32)
    | none => (0, 1)
  let a := referenceArea + k * referenceSector
  (d.beginBlock a referenceSector gen body).sealBlock a gen

/-- A panel goes to Calibrating: codes will be chosen anew, and nothing is saturated or suspect until then. -/
def Dev.calibrate (d : Dev) (p : Nat) : Dev :=
  let d := d.setPanel p { d.panel p with
    calScans := 0, runs := [], groupRuns := [], grouped := false, saturated := [], absorbed := [] }
  ((d.setO (panelIndex p) 0x2A 0).setSuspects p 0).setBaseState p 1

/-! ### Compensation codes (R196) -/

/-- The code that brings a raw value as close to 16 384 as it can; a step of the code is 1024 counts. -/
def nextCode (code raw : Nat) : Nat :=
  let e : Int := (raw : Int) - 16384
  let q := (e + 512) / 1024
  let q := if (e + 512) % 1024 = 0 ∧ !(Config.codeTie raw) then q - 1 else q
  min 255 ((code : Int) + q).toNat

/-- A node whose code has reached 255 with a raw value above 32 768 is saturated. -/
def saturated (code raw : Nat) : Bool := code == 255 && 32768 < raw

/-! ### Baselines (R199, R200) -/

/-- One step of R199, the division rounding toward zero. -/
def trackStep (b r : Nat) : Nat := ((b : Int) + ((r : Int) - (b : Int)).tdiv 64).toNat

/-- A baseline under R199: its new value, and the scans in a row that it has been below −θ/2. -/
def trackNode (theta b r run : Nat) : Nat × Nat :=
  let d : Int := (r : Int) - (b : Int)
  if 2 * d < -(theta : Int) then (if 7 ≤ run then (r, 0) else (b, run + 1))
  else if 2 * d.natAbs < theta then (trackStep b r, 0) else (b, 0)

/-- A list put in ascending order. -/
def insertSorted (v : Nat) : List Nat → List Nat
  | [] => [v]
  | x :: xs => if v ≤ x then v :: x :: xs else x :: insertSorted v xs
def sortNat (l : List Nat) : List Nat := l.foldl (fun acc v => insertSorted v acc) []

/-- Twice the median of some codes. -/
def median2 (l : List Nat) : Nat :=
  let s := sortNat l
  let n := s.length
  if n % 2 = 1 then 2 * s.getD (n / 2) 0 else s.getD (n / 2 - 1) 0 + s.getD (n / 2) 0

/-- The codes whose median a node is held against: those of its axis, or of the whole pad panel. -/
def Dev.axisCodes (d : Dev) (p node : Nat) : List Nat :=
  let c := d.codes p
  if d.pan p 0x05 = 1 then c
  else if node < d.pan p 0x06 then c.take (d.pan p 0x06) else c.drop (d.pan p 0x06)

/-- A node's baseline in Settling, and whether it is suspect (Table 10-3). -/
def Dev.settleNode (d : Dev) (p : Nat) (ref : Option (List Nat)) (node r : Nat) : Nat × Bool :=
  let theta : Int := (d.theta p : Nat)
  let byCode := d.pan p 0x15 != 1 && median2 (d.axisCodes p node) + 8 ≤ 2 * (d.codes p).getD node 0
  match ref, d.pan p 0x15 with
  | none, _ => (r, byCode)
  | some l, 1 => (l.getD node 0, false)
  | some l, 2 => (r, decide (theta < ((r : Int) - (l.getD node 0 : Nat)).natAbs))
  | some l, _ =>
    let e : Int := (r : Int) - (l.getD node 0 : Nat)
    if -theta ≤ e ∧ e ≤ 16 * theta then (l.getD node 0, false) else if e < -theta then (r, false) else (r, true)

/-! ### Detection (R197, R203) -/

/-- A node's delta; a node left out of detection has none. -/
abbrev Delta := Option Int

def Delta.value (x : Delta) : Int := x.getD 0

/-- The deltas of a scan: nodes that calibration left saturated, and suspect ones, are left out. -/
def Dev.deltas (d : Dev) (p : Nat) (raw : List Nat) : List Delta :=
  let b := d.baselines p
  let sat := (d.panel p).saturated
  let s := d.suspects p
  (raw.zip (List.range raw.length)).map (fun x =>
    if sat.contains x.2 || s.testBit x.2 then none else some ((x.1 : Int) - (b.getD x.2 0 : Nat)))

/-- The thresholds of detection: θ, and with hover the lower one at which a hover begins. -/
structure Thresholds where
  touch : Nat
  hover : Option Nat
  deriving DecidableEq, Repr

/-- A delta makes a touch: it reaches θ, or three quarters of it at a touch that is held. -/
def touches (t : Nat) (held : Bool) (v : Int) : Bool := (t : Int) ≤ v || (held && 3 * (t : Int) ≤ 4 * v)

/-- A delta makes a touch or a hover. -/
def reaches (t : Thresholds) (held : Bool) (v : Int) : Bool :=
  touches t.touch held v || (match t.hover with | some h => decide ((h : Int) ≤ v) | none => false)

/-- Peaks on an axis: nodes that reach the threshold and are not smaller than either neighbour. -/
def axisPeaks (t : Thresholds) (held : List Nat) (ds : List Delta) : List Nat :=
  (List.range ds.length).filter (fun k =>
    let at_ (n : Nat) : Int := Delta.value (ds.getD n none)
    let near := held.any (fun h => h ≤ k + 1 && k ≤ h + 1)
    (ds.getD k none).isSome && reaches t near (at_ k)
      && (k == 0 || at_ (k - 1) ≤ at_ k) && (ds.length ≤ k + 1 || at_ (k + 1) ≤ at_ k))

/-- The delta-weighted centroid of weighted nodes, on a scale of `n` nodes and `top` + 1 units; a negative delta weighs
nothing. -/
def centroid (ws : List (Nat × Int)) (n top : Nat) : Nat :=
  let num := ws.foldl (fun acc w => acc + w.2.toNat * (2 * w.1 + 1)) 0
  let den := ws.foldl (fun acc w => acc + w.2.toNat) 0
  if den = 0 ∨ n = 0 then 0 else min top (num * (top + 1) / (2 * den * n))

/-- The position of a peak on an axis, in report units. -/
def axisPosition (ds : List Delta) (k top : Nat) : Nat :=
  let near := (List.range ds.length).filter (fun n => n ≤ k + 1 && k ≤ n + 1)
  centroid (near.map (fun n => (n, Delta.value (ds.getD n none)))) ds.length top

/-- A touch as one scan finds it. -/
structure Found where
  row   : Nat
  col   : Nat
  x     : Nat
  y     : Nat
  delta : Int
  deriving DecidableEq, Repr

/-- What a full scan finds: touches, an ambiguous pair, or a crowd with its peak counts and bounding box. -/
structure Finding where
  touches : List Found := []
  pair    : Option (Nat × Nat × Nat × Nat) := none
  crowd   : Option (Nat × Nat × Nat × Nat × Nat × Nat) := none
  deriving DecidableEq, Repr

/-- Least and greatest of a list. -/
def bounds (l : List Nat) : Nat × Nat := (l.foldl min (l.headD 0), l.foldl max 0)

/-- The delta of a touch on a row-column panel: R197 names none for the two peaks together, so a free value between them. -/
def pairDelta (row col : Int) : Int := min row col + Config.touchDelta row col % (max row col - min row col + 1)

/-- Detection on a row-column panel. -/
def Dev.findRowCol (d : Dev) (p : Nat) (t : Thresholds) (ds : List Delta) : Finding :=
  let held := (d.panel p).touches.filter (fun h => !h.hover)
  let rows := ds.take (d.pan p 0x06)
  let cols := ds.drop (d.pan p 0x06)
  let pr := axisPeaks t (held.map (fun h => h.row)) rows
  let pc := axisPeaks t (held.map (fun h => h.col)) cols
  let xs := pc.map (fun k => axisPosition cols k (d.pan p 0x17))
  let ys := pr.map (fun k => axisPosition rows k (d.pan p 0x18))
  let found (r c : Nat) : Found :=
    { row := r, col := c, x := axisPosition cols c (d.pan p 0x17), y := axisPosition rows r (d.pan p 0x18)
      delta := pairDelta (Delta.value (rows.getD r none)) (Delta.value (cols.getD c none)) }
  if pr.isEmpty || pc.isEmpty then {}
  else if pr.length = 1 ∨ pc.length = 1 then { touches := pr.flatMap (fun r => pc.map (found r)) }
  else if pr.length = 2 ∧ pc.length = 2 then { pair := some (xs.getD 0 0, ys.getD 0 0, xs.getD 1 0, ys.getD 1 0) }
  else
    let (x0, x1) := bounds xs
    let (y0, y1) := bounds ys
    { crowd := some (pr.length, pc.length, x0, y0, x1, y1) }

/-- Detection on a pad panel. -/
def Dev.findPad (d : Dev) (p : Nat) (t : Thresholds) (ds : List Delta) : Finding :=
  let held := (d.panel p).touches.filter (fun h => !h.hover)
  let (h, w) := d.grid p
  let at_ (r c : Nat) : Int := Delta.value (ds.getD (r * w + c) none)
  let near (r c : Nat) : List (Nat × Nat) :=
    ((List.range h).filter (fun i => i ≤ r + 1 && r ≤ i + 1)).flatMap (fun i =>
      ((List.range w).filter (fun k => k ≤ c + 1 && c ≤ k + 1)).map (fun k => (i, k)))
  let cells := (List.range h).flatMap (fun r => (List.range w).map (fun c => (r, c)))
  let peaks := cells.filter (fun q =>
    let hold := held.any (fun x => x.row ≤ q.1 + 1 && q.1 ≤ x.row + 1 && x.col ≤ q.2 + 1 && q.2 ≤ x.col + 1)
    (ds.getD (q.1 * w + q.2) none).isSome && reaches t hold (at_ q.1 q.2)
      && (near q.1 q.2).all (fun z => at_ z.1 z.2 ≤ at_ q.1 q.2))
  { touches := peaks.map (fun q =>
      let ns := near q.1 q.2
      { row := q.1, col := q.2, delta := at_ q.1 q.2
        x := centroid (ns.map (fun z => (z.2, at_ z.1 z.2))) w (d.pan p 0x17)
        y := centroid (ns.map (fun z => (z.1, at_ z.1 z.2))) h (d.pan p 0x18) }) }

/-- The touches put with the largest delta first. -/
def insertFound (f : Found) : List Found → List Found
  | [] => [f]
  | x :: xs => if x.delta < f.delta then f :: x :: xs else x :: insertFound f xs

/-- At most 10 touches are kept, those with the largest deltas; more set the crowd flag. -/
def topTen (l : List Found) : List Found × Bool :=
  if l.length ≤ 10 then (l, false) else ((l.foldl (fun acc f => insertFound f acc) []).take 10, true)

/-- The crowd field of a report with more than 10 touches: how many peaks there are on each axis, or pads, and the box that
holds them. -/
def crowdOf (pads : Bool) (l : List Found) : Nat × Nat × Nat × Nat × Nat × Nat :=
  let (x0, x1) := bounds (l.map (fun f => f.x))
  let (y0, y1) := bounds (l.map (fun f => f.y))
  if pads then (min 255 l.length, 0, x0, y0, x1, y1)
  else (min 255 (l.map (fun f => f.row)).eraseDups.length, min 255 (l.map (fun f => f.col)).eraseDups.length, x0, y0, x1, y1)

/-- What a full scan's deltas show; with hover a peak counts from the hover threshold up (R203). -/
def Dev.finding (d : Dev) (p : Nat) (ds : List Delta) : Finding :=
  let t : Thresholds := { touch := d.theta p, hover := if d.pan p 0x12 = 2 then some (d.pan p 0x14) else none }
  if d.pan p 0x05 = 0 then d.findRowCol p t ds else d.findPad p t ds

/-- A found touch as a reported one: its strength and hover bit. -/
def Dev.asTouch (d : Dev) (p : Nat) (f : Found) (held : Bool) (old : Touch) : Touch :=
  let t := d.theta p
  { old with
    row := f.row, col := f.col, x := f.x, y := f.y
    z := if d.glove p then min 255 (255 * f.delta.toNat / max 1 t) else 255
    hover := d.pan p 0x12 == 2 && !(touches t (held && !old.hover) f.delta) }

/-- The touches of a scan, each with the identity that it keeps or is given; which touch held so far a peak continues, where
it has moved, and which identity a new touch gets, are free values. -/
def Dev.nameTouches (d : Dev) (p k : Nat) (powerUp : Bool) : List Found → List Touch → List Touch → Nat → List Touch
  | [], _, done, _ => done
  | f :: fs, free, done, i =>
    let same := free.find? (fun h => h.row == f.row && h.col == f.col)
    let old := match same with
      | some h => some h
      | none => free[Config.touchMatch k i free.length]?
    match old with
    | some h => d.nameTouches p k powerUp fs (free.erase h) (done ++ [d.asTouch p f true h]) (i + 1)
    | none =>
      let used := (free ++ done).map (fun t => t.identity)
      let ids := (List.range 16).filter (fun n => !(used.contains n))
      let id := ids.getD (Config.touchIdentity k i ids.length % max 1 ids.length) 0
      let t := d.asTouch p f false {}
      d.nameTouches p k powerUp fs free (done ++ [{ t with identity := id, powerUp := powerUp }]) (i + 1)

/-! ### Zones (R207, Table 10-4) -/

def Dev.zoneGeometry (d : Dev) (p j : Nat) : Nat := d.getO (zoneIndex p) (2 * j + 1)
def Dev.zoneAction (d : Dev) (p j : Nat) : Nat := d.getO (zoneIndex p) (2 * j + 2)
def geoEn (g : Nat) : Bool := g.testBit 63
def geoExcl (g : Nat) : Bool := g.testBit 62

/-- A position lies in a zone's rectangle widened by `m` units on every side. -/
def inZone (g m x y : Nat) : Bool :=
  bits g 48 12 ≤ x + m && x ≤ bits g 24 12 + m && bits g 36 12 ≤ y + m && y ≤ bits g 12 12 + m

/-- A geometry word is in range: its corners are in order. -/
def geometryOk (g : Nat) : Bool := bits g 48 12 ≤ bits g 24 12 && bits g 36 12 ≤ bits g 12 12

/-- The zone states as a mask. -/
def pressedMask (t : Tab Nat) : Nat := t.foldl (fun m z => m + 2 ^ z.1) 0

/-- A touch was down, and not only hovering, in the scan before. -/
def wasDown (old : List Touch) (t : Touch) : Bool := old.any (fun o => o.identity == t.identity && !o.hover)

/-- The zones that a touch is in after a scan: the enabled ones that it came down in, until it leaves their rectangle as HYST
widens it. -/
def Dev.zonesOf (d : Dev) (p : Nat) (old : List Touch) (t : Touch) : List Nat :=
  if t.hover then []
  else if wasDown old t then
    t.zones.filter (fun j => let g := d.zoneGeometry p j; geoEn g && inZone g (bits g 0 8) t.x t.y)
  else (List.range 16).filter (fun j => let g := d.zoneGeometry p j; geoEn g && inZone g 0 t.x t.y)

/-- The zones after a scan, whose touches know theirs: a zone stays pressed while its touch is in it, and a touch that comes
down in a zone presses it. The result names the zones newly pressed. -/
def Dev.zonesAfter (d : Dev) (p : Nat) (old : List Touch) (now : List Touch) : Tab Nat × List Nat :=
  let was := (d.panel p).pressed
  (List.range 16).foldl (fun acc j =>
    let by_ := tabGet 0 was j
    let stays := by_ != 0 && now.any (fun t => t.identity + 1 == by_ && wasDown old t && t.zones.contains j)
    let down := now.find? (fun t => t.zones.contains j && !(wasDown old t))
    if stays then (tabSet 0 acc.1 j by_, acc.2)
    else match down with
      | some t => (tabSet 0 acc.1 j (t.identity + 1), acc.2 ++ [j])
      | none => acc) ([], [])

/-- The zone states are written (2610h + p/21h). -/
def Dev.setZones (d : Dev) (p : Nat) (t : Tab Nat) : Dev :=
  (d.setPanel p { d.panel p with pressed := t }).setO (zoneIndex p) 0x21 (pressedMask t)

/-! ### Hard-key clicks (R208) -/

/-- The island arms bead slot 56 + p for the first click that waits, unless the bead of an earlier one has not fired. A
press that R28 refuses is counted, and the next one follows. -/
def Dev.armFirst (d : Dev) (p : Nat) : Nat → Dev
  | 0 => d
  | n + 1 =>
    let slot := 56 + p
    match (d.panel p).clicks with
    | [] => d
    | j :: rest =>
      if (d.panel p).armed && beadEn (d.beadWord slot) then d
      else
        let a := d.zoneAction p j
        let rod := d.pan p 0x07
        let click := bits a 32 16
        let line := if click = 0xFFFF then (d.rodLine rod + 2) % max 1 (d.rodVtotal rod) else click
        let action := 3 * 2 ^ 56 + bits a 0 32
        let word := 2 ^ 63 + rod * 2 ^ 56 + line * 2 ^ 40 + 3 * 2 ^ 36
        let d := d.setPanel p { d.panel p with clicks := rest, armed := false }
        let done : Verdict :=
          match d.tryWrite .island (beadIndex slot) (wordSub slot + 1) (leBytes 8 action) (actionWordVerdict slot action) with
          | .error a => .error a
          | .ok d => d.tryWrite .island (beadIndex slot) (wordSub slot) (leBytes 8 word) (beadWordVerdict slot word)
        match done with
        | .error _ => (d.count (zoneIndex p) 0x22).armFirst p n
        | .ok d => d.setPanel p { d.panel p with armed := true }

/-- The island looks at the presses of a panel that wait. -/
def Dev.armClick (d : Dev) (p : Nat) : Dev := if d.serving then d.armFirst p (d.panel p).clicks.length else d

/-! ### Reports (R209) -/

/-- A touch record (Table 10-6). -/
def touchRecord (t : Touch) (phase : Nat) (absorbed ambiguous : Bool) (zone : Nat) : List Byte :=
  let st := phase + (if t.hover then 4 else 0) + (if t.powerUp then 8 else 0) + (if t.longRest then 16 else 0)
    + (if absorbed then 32 else 0) + (if ambiguous then 64 else 0) + (if zone = 0xFF then 0 else 128)
  leBytes 1 t.identity ++ leBytes 1 st ++ leBytes 2 t.x ++ leBytes 2 t.y ++ leBytes 1 t.z ++ leBytes 1 zone

/-- What a report says beside what the panel's objects hold. -/
structure Report where
  ganged  : Bool := false
  locked  : Bool := false
  keep    : Bool := false
  position : Nat := 0
  endAt   : Nat := 0
  pair    : Bool := false
  crowd   : Option (Nat × Nat × Nat × Nat × Nat × Nat) := none
  approach : Bool := false
  records : List (List Byte) := []
  deriving DecidableEq, Repr

/-- The 124 bytes of a report before its commit word (Table 10-5). -/
def Dev.reportBody (d : Dev) (p seq : Nat) (r : Report) : List Byte :=
  let flags := (if r.ganged then 1 else 0) + (if r.locked then 2 else 0) + (if r.pair then 4 else 0)
    + (if r.crowd.isSome then 8 else 0)
    + (if (d.panel p).touches.any (fun t => t.longRest) then 16 else 0)
    + (if d.suspects p = 0 then 0 else 32) + (if d.glove p then 64 else 0) + (if r.approach then 128 else 0)
  let crowd := match r.crowd with
    | some (a, b, x0, y0, x1, y1) =>
      leBytes 1 a ++ leBytes 1 b ++ zeroBytes 2 ++ leBytes 2 x0 ++ leBytes 2 y0 ++ leBytes 2 x1 ++ leBytes 2 y1
    | none => zeroBytes 12
  leBytes 1 p ++ leBytes 1 flags ++ leBytes 1 (min 10 r.records.length) ++ leBytes 1 (d.baseState p) ++ leBytes 4 seq
    ++ leBytes 8 r.position ++ padTo 80 (r.records.take 10).flatten ++ crowd ++ leBytes 2 (d.getO (zoneIndex p) 0x21)
    ++ zeroBytes 2 ++ leBytes 8 r.endAt ++ zeroBytes 4

/-- Bytes go to a reader's ring: device memory, or the host memory of the reader's instance. -/
def Dev.ringPut (d : Dev) (reader addr : Nat) (bytes : List Byte) : Bool × Dev :=
  if 0x40 ≤ reader && reader ≤ 0x7F then
    if d.instState (reader - 0x40) == 1 && d.instLinked (reader - 0x40) then (true, d.hostWriteFor (reader - 0x40) addr bytes)
    else (false, d)
  else d.memWrite reader addr bytes

/-- The reader that a report goes to: at a hand-over the owner that the panel is leaving (R212). -/
def Dev.reportReader (d : Dev) (p : Nat) : Nat :=
  if d.pan p 0x19 = 0xFF then d.ownerByte (blockId 3 p) else d.pan p 0x19

/-- A report is written, commit word last, and the report source is posted. In Keep-alive it is withheld (R206). With no
ring nothing is written or posted. -/
def Dev.report (d : Dev) (p : Nat) (r : Report) : Dev :=
  let seq := (d.pan p 0x21 + 1) % 2 ^ 32
  let d := (d.setO (panelIndex p) 0x21 seq).setO (panelIndex p) 0x22 r.position
  let e := d.pan p 0x1B
  if r.keep || d.power.phase == .keepAlive then d.count (panelIndex p) 0x2C
  else if e = 0 then d
  else
    let a := d.pan p 0x1A + seq % e * 128
    let (ok, d) := d.ringPut (d.reportReader p) a (d.reportBody p seq r)
    if !ok then d
    else
      let (_, d) := d.ringPut (d.reportReader p) (a + 124) (leBytes 4 seq)
      d.postNamed (panelIndex p) 0x1C

/-! ### The end of a scan -/

/-- The records of a full scan: those down or held, then those up; withheld touches are left out. A touch is down in the
first report that holds it and is not itself withheld in Keep-alive (R206). -/
def touchRecords (old now : List Touch) (absorbed : Bool) : List (List Byte) :=
  let shown := now.filter (fun t => !t.withheld)
  let up := old.filter (fun o => !(now.any (fun t => t.identity == o.identity)) && !o.withheld)
  shown.map (fun t => touchRecord t (if t.shown then 2 else 1) false false (t.zones.headD 0xFF))
    ++ up.map (fun t => touchRecord t 3 absorbed false 0xFF)

/-- The baseline state that follows a full scan taken in state `st` (Table 10-2). -/
def Dev.baseFollows (d : Dev) (p st : Nat) (present : Bool) : Dev :=
  match st with
  | 2 => d.setBaseState p (if present then 4 else 3)
  | 3 => if present then d.setBaseState p 4 else d
  | 4 => if present then d else d.setBaseState p 3
  | 5 => if present then d else d.setBaseState p 3
  | 6 => d.setBaseState p 3
  | _ => d

/-- The touches after a scan taken in state `st` are known: zones, which an island that restarts or has halted does not
evaluate (R383), clicks, the baseline state, and the report (R198, R207 to R209). -/
def Dev.showTouches (d : Dev) (p : Nat) (s : Scan) (f : Finding) (now : List Touch) (st : Nat) (absorbed : Bool) : Dev :=
  let x := d.panel p
  let old := x.touches
  let now := if d.serving then now.map (fun t =>
      let z := d.zonesOf p old t
      { t with zones := z, withheld := t.withheld || z.any (fun j => geoExcl (d.zoneGeometry p j)) }) else now
  let (pressed, downs) := if d.serving then d.zonesAfter p old now else (x.pressed, [])
  let pairs : List (List Byte) := match f.pair with
    | some (x1, y1, x2, y2) =>
      let phase := if x.pair then 2 else 1
      [touchRecord { identity := 0xFF, x := x1, y := y1 } phase false true 0xFF,
       touchRecord { identity := 0xFF, x := x2, y := y2 } phase false true 0xFF]
    | none => []
  let d := d.setZones p pressed
  let x := d.panel p
  let keep := s.keep || d.power.phase == .keepAlive
  let d := d.setPanel p { x with
    touches := now.map (fun t => { t with shown := t.shown || !keep }), pair := f.pair.isSome
    clicks := x.clicks ++ downs.filter (fun j => (d.zoneAction p j).testBit 63) }
  let d := d.armClick p
  let present := !now.isEmpty || f.pair.isSome || f.crowd.isSome
  let d := d.setO (panelIndex p) 0x23 (min 10 (now.length + (if f.pair.isSome then 2 else 0)))
  let d := if f.pair.isSome || f.crowd.isSome then d.count (panelIndex p) 0x28 else d
  let d := d.baseFollows p st present
  let d := if present && d.panelState p == 2 then d.setPanelState p 1 else d
  if present || x.reported then
    let d := d.setPanel p { d.panel p with reported := present }
    d.report p { locked := s.locked, keep := s.keep, position := s.position, endAt := d.clock.ns, pair := f.pair.isSome
                 crowd := f.crowd, records := pairs ++ touchRecords old now absorbed }
  else d

/-- The nodes that calibration leaves saturated: left out of detection, counted, and an event logged for each (R196). -/
def Dev.countSaturated (d : Dev) (p : Nat) (raw : List Nat) : Dev :=
  let codes := d.codes p
  let sat := (List.range (d.nodes p)).filter (fun n => saturated (codes.getD n 0) (raw.getD n 0))
  let d := (d.setPanel p { d.panel p with saturated := sat }).setO (panelIndex p) 0x2A sat.length
  let d := sat.foldl (fun d n => d.log 0x31 0x3203 (d.owner (blockId 3 p)) p [p, n]) d
  if sat.isEmpty then d else d.postNamed (panelIndex p) 0x1D

/-- The nodes of a touch's peak and their neighbours. -/
def Dev.touchNodes (d : Dev) (p : Nat) (t : Touch) : List Nat :=
  let (h, w) := d.grid p
  let near (k n : Nat) : List Nat := (List.range n).filter (fun i => i ≤ k + 1 && k ≤ i + 1)
  if d.pan p 0x05 = 0 then near t.row h ++ (near t.col w).map (fun c => h + c)
  else (near t.row h).flatMap (fun r => (near t.col w).map (fun c => r * w + c))

/-- A full scan in Calibrating: codes are chosen again until none changes, for at most 8 scans, or the stored codes are taken
(R196, Table 10-2). Touches held so far are reported up, absorbed when a command asked for it (R202), and the nodes of an
absorbed touch are remembered for Settling. -/
def Dev.calibrateScan (d : Dev) (p : Nat) (raw : List Nat) (s : Scan) : Dev :=
  let x := d.panel p
  let old := d.codes p
  let next : List Nat := match d.reference p d.touchBand with
    | some r => r.2
    | none => (old.zip raw).map (fun c => nextCode c.1 c.2)
  let taken := if x.absorb then x.touches.flatMap (d.touchNodes p) else []
  let d := (d.setCodes p next).setPanel p { x with
    calScans := x.calScans + 1, absorb := false, absorbed := x.absorbed ++ taken }
  let d := if next = old ∨ 7 ≤ x.calScans then (d.countSaturated p raw).setBaseState p 2 else d
  d.showTouches p s {} [] 0 x.absorb

/-- The baselines and suspects that the strategy sets in Settling (R200). The nodes of touches that a recalibration took in
take their raw values whatever the strategy, so that those touches are not reported again (R202; DEDUCED, assumption
log 36). -/
def Dev.settleScan (d : Dev) (p : Nat) (raw : List Nat) : Dev :=
  let ref := (d.reference p d.touchBand).map (fun r => r.1)
  let taken := (d.panel p).absorbed
  let got := (raw.zip (List.range raw.length)).map (fun x =>
    if taken.contains x.2 then (x.1, false) else d.settleNode p ref x.2 x.1)
  let d := d.setPanel p { d.panel p with absorbed := [] }
  let mask := (got.zip (List.range got.length)).foldl (fun m g => if g.1.2 then m + 2 ^ g.2 else m) 0
  let d := (d.setBaselines p (got.map (fun g => g.1))).setSuspects p mask
  if mask = 0 then d else d.postNamed (panelIndex p) 0x1D

/-- A suspect node whose delta falls below −θ takes its raw value and stops being suspect (R200). -/
def Dev.liftSuspects (d : Dev) (p : Nat) (raw : List Nat) : Dev :=
  let b := d.baselines p
  let t : Int := (d.theta p : Nat)
  let lifted (n : Nat) : Bool := (d.suspects p).testBit n && decide (((raw.getD n 0 : Nat) : Int) - (b.getD n 0 : Nat) < -t)
  let mask := (List.range (d.nodes p)).foldl (fun m n => if (d.suspects p).testBit n && !(lifted n) then m + 2 ^ n else m) 0
  if mask = d.suspects p then d
  else (d.setBaselines p ((b.zip (List.range b.length)).map (fun x => if lifted x.2 then raw.getD x.2 0 else x.1))).setSuspects p mask

/-- Baselines in Tracking, after a full scan (R199). -/
def Dev.trackScan (d : Dev) (p : Nat) (raw : List Nat) : Dev :=
  let x := d.panel p
  let b := d.baselines p
  let got := (b.zip (List.range b.length)).map (fun q => trackNode (d.theta p) q.1 (raw.getD q.2 0) (tabGet 0 x.runs q.2))
  let runs := (got.zip (List.range got.length)).foldl (fun t g => tabSet 0 t g.2 g.1.2) []
  (d.setBaselines p (got.map (fun g => g.1))).setPanel p { x with runs := runs }

/-- A full scan of a panel with baselines ends: detection, touches, report; then, in Tracking, the baselines move. -/
def Dev.detectScan (d : Dev) (p : Nat) (raw : List Nat) (s : Scan) (powerUp : Bool) : Dev :=
  let st := d.baseState p
  let f := d.finding p (d.deltas p raw)
  let (k, d) := d.nextFree
  let (found, many) := topTen f.touches
  let now := d.nameTouches p k powerUp found (d.panel p).touches [] 0
  let crowd := if many then some (crowdOf (d.pan p 0x05 == 1) f.touches) else f.crowd
  let d := d.showTouches p s { f with touches := found, crowd := crowd } now st false
  if st = 3 ∧ d.baseState p = 3 then d.trackScan p raw else d.setPanel p { d.panel p with runs := [] }

/-- A full scan ends (R192, R198): an approach seen before it is no longer present by itself. -/
def Dev.fullScan (d : Dev) (p : Nat) (raw : List Nat) (s : Scan) : Dev :=
  let raw := (List.range (d.nodes p)).map (fun n => raw.getD n 0 % 65536)
  let d := (d.setB (nodeIndex p) 0x03 (bytes16 raw)).count (panelIndex p) 0x24
  let d := d.setPanel p { d.panel p with approach := false }
  match d.baseState p with
  | 0 => d
  | 1 => d.calibrateScan p raw s
  | 2 =>
    let ref := (d.reference p d.touchBand).isSome && d.pan p 0x15 != 2
    (d.settleScan p raw).detectScan p raw s ref
  | 6 =>
    let x := d.panel p
    let d := ((d.setBaselines p raw).setSuspects p 0).setPanel p { x with absorb := false, runs := [] }
    d.showTouches p s {} [] 6 x.absorb
  | _ => (d.liftSuspects p raw).detectScan p raw s false

/-- A ganged scan ends (R204): group baselines, which move in Tracking only (R199), approach, and a report of an approach. Its
end time is the time at the start of its round (erratum B0-05). While the codes are being chosen the groups have no
baselines. -/
def Dev.gangedScan (d : Dev) (p : Nat) (raw : List Nat) (s : Scan) : Dev :=
  let g := d.pan p 0x0D
  let raw := (List.range g).map (fun n => raw.getD n 0 % 65536)
  let d := d.count (panelIndex p) 0x25
  if d.baseState p ≤ 1 then d
  else
    let x := d.panel p
    let b := if x.grouped then words16 g (padTo 8 (d.getB (nodeIndex p) 0x05)) else raw
    let near := (raw.zip b).any (fun q => ((d.pan p 0x11 : Nat) : Int) ≤ (q.1 : Int) - q.2)
    let got := (b.zip (List.range g)).map (fun q =>
      if d.baseState p = 3 then trackNode (d.theta p) q.1 (raw.getD q.2 0) (tabGet 0 x.groupRuns q.2) else (q.1, 0))
    let runs := (got.zip (List.range g)).foldl (fun t q => tabSet 0 t q.2 q.1.2) []
    let d := d.setB (nodeIndex p) 0x05 (padTo 8 (bytes16 (got.map (fun q => q.1))))
    let d := d.setPanel p { x with grouped := true, groupRuns := runs, approach := near }
    if !near then d
    else
      let d := if d.panelState p = 2 then d.setPanelState p 1 else d
      d.report p { ganged := true, locked := s.locked, keep := s.keep, position := s.position, endAt := s.startAt, approach := true }

/-! ### Enabling and disabling (R188 to R191, R211, R212) -/

/-- A panel shows disabled: a final report gives every held touch as up, and the zones are released. Its position is that of
the rod that paces the panel, now. -/
def Dev.panelDisabled (d : Dev) (p : Nat) : Dev :=
  let x := d.panel p
  let rod := d.pan p (if d.power.phase = .keepAlive then 0x0E else 0x07)
  let d := if x.touches.isEmpty && x.pressed.isEmpty && !x.reported then d
    else d.showTouches p { position := d.getO (rodIndex rod) 0x03 } {} [] 0 false
  let d := d.setO (panelIndex p) 0x2B ((d.clock.ns - x.disableAt) / 1000)
  let d := (d.setPanelState p 0).setBaseState p 0
  d.setPanel p { lastStart := x.lastStart }

/-- A panel starts to be disabled: the scan in hand completes first. -/
def Dev.disablePanel (d : Dev) (p : Nat) : Dev :=
  if !(d.panelOn p) || d.panelState p == 3 then d
  else
    let d := d.setPanel p { d.panel p with disableAt := d.clock.ns }
    if (d.panel p).scan.isSome then d.setPanelState p 3 else d.panelDisabled p

/-- A panel is enabled: Active, and Calibrating. -/
def Dev.enablePanel (d : Dev) (p : Nat) : Dev :=
  ((d.setPanel p { lastStart := (d.panel p).lastStart }).setPanelState p 1).calibrate p

/-- The conditions of an enable. -/
def Dev.panelFits (d : Dev) (p : Nat) : Bool := d.panelRangeOk p && d.panelKindOk p && d.slicesBut p + d.pan p 0x08 ≤ 48

/-- A write of a panel's enable. -/
def panelEnableVerdict (p v : Nat) (d : Dev) : Verdict :=
  if v = 0 then .ok ((d.setO (panelIndex p) 0x02 0).disablePanel p)
  else if d.panelState p = 3 then .error abortState
  else if d.panelOn p then .ok d
  else if !(d.panelFits p) then .error abortState
  else .ok ((d.setO (panelIndex p) 0x02 1).enablePanel p)

/-- Commands of /1Eh: only a panel that is not Off takes them. The touches held are taken in (R202). -/
def rebaseVerdict (p v : Nat) (d : Dev) : Verdict :=
  if d.baseState p = 0 then .error abortState
  else
    let d := d.setPanel p { d.panel p with absorb := true }
    .ok (if v = 1 then d.setBaseState p 6 else d.calibrate p)

/-- A save of the reference (R201). -/
def saveReferenceVerdict (p : Nat) (d : Dev) : Verdict := if d.mayStore p then .ok (d.storeReference p) else .error abortState

/-- The ring of a panel lies wholly in one region that the reader may write (R209). -/
def Dev.reportRingOk (d : Dev) (p addr e : Nat) : Bool :=
  let r := d.reader p
  e == 0 || (0x40 ≤ r && r ≤ 0x7F) || d.inOneRegion r true addr (128 * e)

/-- Other writes of a panel record (R191, R210, R215). -/
def panelVerdict (p j v : Nat) (d : Dev) : Verdict :=
  if 3 ≤ j ∧ j ≤ 7 ∧ d.panelOn p then .error abortState
  else if j = 8 ∧ d.panelOn p ∧ 48 < d.slicesBut p + v then .error abortState
  else if j = 0x1A ∧ (v % 128 ≠ 0 ∨ !(d.reportRingOk p v (d.pan p 0x1B))) then .error abortRange
  else if j = 0x1B ∧ !(d.reportRingOk p (d.pan p 0x1A) v) then .error abortRange
  else if j = 0x1C ∨ j = 0x1D then Dev.sourceWrite (d.reader p) (panelIndex p) j v d
  else if j = 0x0D then .ok ((d.setO (panelIndex p) j v).setPanel p { d.panel p with grouped := false, groupRuns := [] })
  else .ok (d.setO (panelIndex p) j v)

/-- A write of a zone word (R216, Table 10-4); the reserved fields keep 0 (R449). -/
def zoneVerdict (p j v : Nat) (d : Dev) : Verdict :=
  if j % 2 = 1 then
    (if geometryOk v then .ok (d.setO (zoneIndex p) j (setBits (setBits v 60 2 0) 8 4 0)) else .error abortRange)
  else .ok (d.setO (zoneIndex p) j (setBits v 48 15 0))

/-! ### The meanings -/

/-- SCAN_COMPLETE (R192): the last round has ended, with the raw values of the nodes or groups, and how many class-D and haptic
bridge edges the scan's sampling instants have deferred (R194). A scan that still waits for its line start has not run. -/
def execScanComplete (panel : Nat) (found : Scanned) (s : State) : Host.Outcome State Fault Refusal :=
  act (onUnit panel 8 (fun d =>
    match (d.panel panel).scan with
    | none => d
    | some sc =>
      if sc.waiting && d.rodRuns sc.rod then d else
      let d := (d.setPanel panel { d.panel panel with scan := none }).countBy 0x2600 0x07 found.edges
      if sc.ganged then d.gangedScan panel found.raw sc else d.fullScan panel found.raw sc)) s

/-- LONG_REST_EXPIRY (R202): a touch has been held for the rest time. -/
def execLongRestExpiry (panel identity : Nat) (s : State) : Host.Outcome State Fault Refusal :=
  act (onUnit panel 8 (fun d =>
    let x := d.panel panel
    if x.touches.any (fun t => t.identity == identity && !t.longRest && !t.hover) then
      let d := d.setPanel panel { x with touches := x.touches.map (fun t =>
        if t.identity = identity then { t with longRest := true } else t) }
      let d := if d.baseState panel = 4 then d.setBaseState panel 5 else d
      ((d.count (panelIndex panel) 0x29).log 0x30 0x3001 (d.owner (blockId 3 panel)) panel [panel, identity]).postNamed
        (panelIndex panel) 0x1D
    else d)) s

/-- TOUCH_IDLE_EXPIRY (R204): no touch and no approach for the idle time. -/
def execTouchIdleExpiry (panel : Nat) (s : State) : Host.Outcome State Fault Refusal :=
  act (onUnit panel 8 (fun d =>
    if d.panelState panel = 1 ∧ d.pan panel 0x0C ≠ 0 ∧ !((d.panel panel).reported) ∧ !((d.panel panel).approach) then
      d.setPanelState panel 2 else d)) s

/-- REBASELINE (R202): 1 written to /1Eh. -/
def execRebaseline (who : Init) (panel : Nat) (s : State) : Host.Outcome State Fault Refusal :=
  actServed (onUnit panel 8 (fun d => d.request who (panelIndex panel) 0x1E (leBytes 1 1) (rebaseVerdict panel 1))) s

/-- RECALIBRATE (R202): 2 written to /1Eh. -/
def execRecalibrate (who : Init) (panel : Nat) (s : State) : Host.Outcome State Fault Refusal :=
  actServed (onUnit panel 8 (fun d => d.request who (panelIndex panel) 0x1E (leBytes 1 2) (rebaseVerdict panel 2))) s

/-- SAVE_REFERENCE (R201). -/
def execSaveReference (who : Init) (panel value : Nat) (s : State) : Host.Outcome State Fault Refusal :=
  actServed (onUnit panel 8 (fun d => d.request who (panelIndex panel) 0x1F (numData (panelIndex panel) 0x1F value)
    (saveReferenceVerdict panel))) s

/-- PANEL_ENABLE_WRITE (R188 to R191, R211). -/
def execPanelEnableWrite (who : Init) (panel value : Nat) (s : State) : Host.Outcome State Fault Refusal :=
  actServed (onUnit panel 8 (fun d => d.request who (panelIndex panel) 0x02 (numData (panelIndex panel) 0x02 value)
    (panelEnableVerdict panel value))) s

/-- PANEL_DISABLE_COMPLETE (R211): the scan in hand has ended. -/
def execPanelDisableComplete (panel : Nat) (s : State) : Host.Outcome State Fault Refusal :=
  act (onUnit panel 8 (fun d =>
    if d.panelState panel = 3 ∧ (d.panel panel).scan.isNone then d.panelDisabled panel else d)) s

/-- The node memory of a panel fails (R213): Calibrating, zones released, an event. -/
def Dev.nodeMemoryFault (d : Dev) (p : Nat) : Dev :=
  let d := (d.count 0x2600 8).log 0x31 0x3101 (d.owner (blockId 3 p)) p [p]
  if d.panelOn p then (d.setZones p []).calibrate p else d

/-- TEMPERATURE_BAND_CHANGE (R200). -/
def execTemperatureBandChange (degrees : Int) (s : State) : Host.Outcome State Fault Refusal :=
  act (fun d => d.setO 0x2600 0x06 (newBand d.touchBand degrees)) s

/-- NODE_MEMORY_FAULT (R213). -/
def execNodeMemoryFault (panel : Nat) (s : State) : Host.Outcome State Fault Refusal :=
  act (onUnit panel 8 (fun d => d.nodeMemoryFault panel)) s

end Sys2Proof.Machine
end

