-- ==== Sys2Proof/Machine/Handover.lean ====
section
/-! DEFINITION. Hand-over (R288 to R292), and the clock and power requests on blocks (R293). -/

namespace Sys2Proof.Machine

/-! ### Block identifiers (R288) -/

/-- A block's hand-over state is set. -/
def Dev.setHand (d : Dev) (id : Nat) (h : Hand) : Dev := { d with iso := { d.iso with hands := tabSet {} d.iso.hands id h } }

/-- The record of an audio unit by its number in Table 14-5. -/
def audioRecord (n : Nat) : Nat :=
  if n < 60 then 0x2801 + n else if n < 62 then 0x2840 + (n - 60) else if n < 64 then 0x2837 + (n - 62) else 0x2844 + (n - 64)

/-- The records of an audio unit: a TDM port's sink and its port record. -/
def audioRecords (n : Nat) : List Nat := if n = 62 ∨ n = 63 then [0x2837 + (n - 62), 0x2842 + (n - 62)] else [audioRecord n]

/-- A recipient limit of Table 14-5 is broken. -/
def Dev.limitBroken (d : Dev) (id owner : Nat) : Bool :=
  let n := id % 512
  match id / 4096 with
  | 5 => n < 32 && d.getO (inIndex n) 3 == 3 && owner != 0
  | 6 => owner == 0
  | 9 => owner != 0x40 + n && owner != 0xFF
  | _ => false

/-- Blocks not Held (2A01h/04h). -/
def Dev.inProgress (d : Dev) : Nat := (d.iso.hands.filter (fun p => p.2.state != 0)).length

/-! ### Reset steps (R289) -/

/-- What an output's reset step does (R80, R454). -/
def Dev.outputHandOver (d : Dev) (n : Nat) : Dev :=
  let d := (List.range 14).foldl (fun d k => d.setO (0x2201 + 16 * n) (k + 1) (d.force n (k + 1))) d
  let x := d.output n
  let d := if x.apply.isSome then d.setO (outputIndex n + 1) 0x10 3 else d
  let d := if x.aux.isSome then d.setO (outputIndex n + 6) 0x03 0 else d
  d.setOutput n { x with apply := none, aux := none }

/-- The reset step of a block starts. -/
def Dev.beginReset (d : Dev) (id : Nat) : Dev :=
  let n := id % 512
  match id / 4096 with
  | 1 => d.outputHandOver n
  | 2 => d.disableLayer n
  | 3 => d.disablePanel n
  | 4 => if d.hap n 1 = 5 then d else d.disableHaptic n
  | 5 => (audioRecords n).foldl (fun d i => if hasEnable i then d.disableAudio i else d) d
  | 6 => d.leaveCore n
  | 7 => (match copyEnableVerdict n 0 d with
    | .ok d => d
    | .error _ => d)
  | 8 => d.disableEngine n
  | 9 => (List.range 8).foldl (fun d r => d.ringDisable n r) d
  | 10 => ((d.setO (beadIndex n) (wordSub n) 0).setO (beadIndex n) (wordSub n + 1) 0).setBead n {}
  | _ => d

/-- The reset step of a block has ended. -/
def Dev.resetEnded (d : Dev) (id : Nat) : Bool :=
  let n := id % 512
  match id / 4096 with
  | 2 => d.layerState n != 4
  | 3 => d.panelState n == 0
  | 4 => d.hap n 1 == 0 || d.hap n 1 == 5
  | 5 => (audioRecords n).all (fun i => !(hasEnable i) || !(d.audioDisabling i))
  | 6 => d.gpuCore n == 0
  | 7 => d.chanState n == 0
  | 8 => d.engState n ≤ 1
  | 9 => (List.range 8).all (fun r => d.ringState n r != 3)
  | _ => true

/-- The block's logic is reset: what is left of its reset step ends at once. -/
def Dev.forceReset (d : Dev) (id : Nat) : Dev :=
  let n := id % 512
  if d.resetEnded id then d
  else match id / 4096 with
  | 2 => d.layerDisabled n
  | 3 => (d.setPanel n { d.panel n with scan := none }).panelDisabled n
  | 4 => d.hapticOff n
  | 5 => (audioRecords n).foldl (fun d i => if hasEnable i then d.audioDisabled i else d) d
  | 6 => (((List.range 4).foldl (fun d q => d.graceExpires (d.ownerByte id) q) d).coreDrained n).gpuResetDone n
  | 7 => d.chanDisabled n
  | 8 =>
    let layer := d.getO (ninesIndex n) 0x14
    let d := if layer = 0xFF then d else d.unbind layer
    d.engDisabled n
  | 9 => (List.range 8).foldl (fun d r => if d.ringState n r = 3 then d.ringDisabled n r else d) d
  | _ => d

/-- What a block returns to its defaults after its reset step, for the new owner. -/
def Dev.finishReset (d : Dev) (id : Nat) : Dev :=
  let n := id % 512
  match id / 4096 with
  | 2 =>
    let i := layerIndex n
    (((d.setB i 9 []).setO i 3 0).setO i 2 1).setLayerState n 1
  | 3 =>
    let i := panelIndex n
    let d := ((((d.setO i 0x19 0xFF).setO i 0x1B 0).setO i 0x1C 0xFFFF).setO i 0x1D 0xFFFF).setO i 2 1
    if d.panelFits n then d.enablePanel n else d
  | 4 => d.hapticHandOver n
  | 5 => (audioRecords n).foldl (fun d i => d.audioHandOver i) d
  | 7 => (d.setO (copyIndex n) 2 1).setChanState n 1
  | 8 => d.engHandOver n
  | _ => d

/-! ### The protocol (R289 to R292) -/

/-- The notice source of an owner is posted, when it has one (R290, R291). -/
def Dev.notice (d : Dev) (owner : Nat) : Dev := if owner < 0x80 then d.postNamed 0x2A70 (owner + 1) else d

/-- The clock domain of a block (Table 1-4), where one may be named in a request. -/
def domainOf (id : Nat) : Option Nat :=
  let n := id % 512
  match id / 4096 with
  | 1 => some (7 + n)
  | 2 => some (7 + n / 6)
  | 3 => some 16
  | 4 => some 16
  | 5 => some 15
  | 6 => some 5
  | 9 => some 17
  | _ => none

/-- The clocks of a block run again, those of its domain among them, and an output follows its request (R19). -/
def Dev.startBlock (d : Dev) (id : Nat) : Dev :=
  let d := { d with iso := { d.iso with
    blocks := tabSet 0 d.iso.blocks id 0
    domains := match domainOf id with
      | some m => tabSet 0 d.iso.domains m 0
      | none => d.iso.domains } }
  if id / 4096 = 1 then d.followRequest (id % 512) else d

/-- A block goes to Resetting; one that is stopped or off is started first. -/
def Dev.toResetting (d : Dev) (id owner : Nat) : Dev :=
  ((d.startBlock id).setHand id { state := 2, newOwner := owner }).beginReset id

/-- Retargeting, in one step (R291): the block's sources, its owner byte, the beads that act on it and the notice of the new
owner; then the block is Held. -/
def Dev.retarget (d : Dev) (id : Nat) : Dev :=
  let owner := (d.hand id).newOwner
  let n := id % 512
  let d := ((d.retargetSources id owner).setOwner id owner).setHand id {}
  let d := if id / 4096 = 10 then d else d.clearBeads id owner
  let d := if id / 4096 = 6 ∧ owner ≠ 0xFF then d.joinCore n owner else d
  let d := if id / 4096 = 5 ∧ 32 ≤ n ∧ n < 48 then d.busPassed (n - 32) owner else d
  let d := if id / 4096 = 5 ∧ 48 ≤ n ∧ n < 60 then d.sinkPassed (n - 48) owner else d
  let d := if id / 4096 = 5 ∧ 60 ≤ n then d.portPassed n owner else d
  (d.notice owner).count 0x2A01 3

/-- The reset step ends: what the block's chapter resets is reset, and the block is retargeted. -/
def Dev.resetDone (d : Dev) (id : Nat) : Dev :=
  if (d.hand id).state = 2 ∧ d.resetEnded id then
    ((d.setHand id { d.hand id with state := 3 }).finishReset id).retarget id
  else d

/-- Owners between which class O moves blocks (R290). -/
def ownerForO (o : Nat) : Bool := o == 0x20 || isInstance o || o == 0xFF

/-- A request. -/
def handoverVerdict (who : Init) (w : Nat) (d : Dev) : Verdict :=
  let id := w / 65536
  let new := bits w 8 8
  let present := d.owner id
  if !(blockExists id) || w % 256 ≠ 0 || !(ownerCodeOk new) || new = present || d.limitBroken id new then .error abortRange
  else if who = .openWorld ∧ !(ownerForO present && ownerForO new) then .error abortAccess
  else if (d.hand id).state ≠ 0 || !d.running then .error abortState
  else if present = 0xFF then .ok (d.toResetting id new)
  else .ok ((d.setHand id { state := 1, newOwner := new }).notice present)

/-- A release. -/
def releaseVerdict (who : Init) (id : Nat) (d : Dev) : Verdict :=
  let h := d.hand id
  if !(blockExists id) then .error abortRange
  else if initCode who ≠ d.owner id then .error abortAccess
  else if 2 ≤ h.state then .error abortState
  else .ok (d.toResetting id (if h.state = 0 then 0xFF else h.newOwner))

/-- The release timeout expires: a revocation, logged and counted. -/
def Dev.revoke (d : Dev) (id owner : Nat) : Dev :=
  ((d.log 0x52 0x5001 (d.owner id) (id % 256) [id]).count 0x2A00 9).toResetting id owner

/-! ### Clock and power requests (R293) -/

/-- The blocks of a clock domain (Table 1-4). -/
def domainBlocks (dom : Nat) : List Nat :=
  let upTo (c n : Nat) : List Nat := (List.range n).map (blockId c)
  if dom = 5 then upTo 6 16
  else if 7 ≤ dom ∧ dom ≤ 14 then blockId 1 (dom - 7) :: (List.range 6).map (fun k => blockId 2 (6 * (dom - 7) + k))
  else if dom = 15 then (upTo 5 68).filter blockExists
  else if dom = 16 then upTo 3 8 ++ upTo 4 8
  else if dom = 17 then upTo 9 64
  else []

/-- A domain that may be named. -/
def domainOk (dom : Nat) : Bool := dom == 5 || (7 ≤ dom && dom ≤ 19)

/-- A block is enabled and not in its disabled state. -/
def Dev.blockBusy (d : Dev) (id : Nat) : Bool :=
  let n := id % 512
  match id / 4096 with
  | 1 => d.outState n != 0
  | 2 => d.layerState n != 0
  | 3 => d.panelState n != 0
  | 4 => d.hap n 1 != 0
  | 5 => (audioRecords n).any (fun i => hasEnable i && (if i = 0x2840 ∨ i = 0x2841 then d.getO i 1 != 6 else d.getO i 1 != 0))
  | 6 => d.gpuCore n != 0 && (List.range 4).any (fun q => d.gqState (d.ownerByte id) q != 0)
  | 7 => d.chanState n != 0
  | 8 => d.engState n != 0
  | 9 => (List.range 8).any (fun r => d.ringState n r != 0)
  | 10 => beadEn (d.beadWord n)
  | _ => false

/-- A block with a power switch of its own: an output, a GPU core or a speaker sink (sinks 0 to 3). -/
def hasSwitch (id : Nat) : Bool :=
  id / 4096 == 1 || id / 4096 == 6 || (id / 4096 == 5 && 48 ≤ id % 512 && id % 512 < 52)

/-- What follows a change of clocks: an output that runs again follows its request (R19), the courier link stops and starts
with its domain (Table 22-3), and no CAN port serves while its domain is stopped. -/
def Dev.clocksChange (d : Dev) (dom : Nat) (affected : List Nat) (action : Nat) : Dev :=
  if action = 0 then
    let d := (affected.filter (fun id => id / 4096 == 1)).foldl (fun d id => d.followRequest (id % 512)) d
    if dom = 19 ∧ d.courier.enabled ∧ d.getO 0x3200 9 = 0 then d.setO 0x3200 9 1 else d
  else if dom = 19 then d.courierStops
  else d

/-- A request on a block or a domain: the result is written, and it acts or is refused. -/
def Dev.clockRequest (d : Dev) (who : Init) (block action : Nat) : Dev :=
  match d.checkWrite who 0x2A02 1 (numData 0x2A02 1 (65536 * block + action)) with
  | some a => d.refuse a
  | none =>
    let dom := block / 256 == 0x0F
    let affected := if dom then domainBlocks (block % 256) else [block]
    let result (r a : Nat) : Dev := (d.setO 0x2A02 2 r).refuse a
    if (dom && !(domainOk (block % 256))) || (!dom && !(blockExists block)) then d.refuse abortRange
    else if who ≠ .island ∧ who ≠ .openWorld ∧ (dom || d.owner block ≠ initCode who) then result 3 abortAccess
    else if who = .openWorld ∧ affected.any (fun id => d.ownerByte id ≤ 0x1F) then
      ((d.count 0x2A02 3).setO 0x2A02 2 2).refuse abortState
    else if affected.any (fun id => (d.hand id).state != 0 || d.blockBusy id) then result 1 abortState
    else
      let d := d.setO 0x2A02 2 0
      let d := if dom then { d with iso := { d.iso with domains := tabSet 0 d.iso.domains (block % 256) (min action 1) } }
        else { d with iso := { d.iso with
          blocks := tabSet 0 d.iso.blocks block (if action = 2 && !(hasSwitch block) then 1 else action) } }
      (d.clocksChange (if dom then block % 256 else 0) affected action).accept

/-! ### The meanings -/

/-- A command names a block of Table 14-5. -/
def onBlock (id : Nat) (f : Dev → Dev) (d : Dev) : Dev := if blockExists id then f d else d

/-- HANDOVER_REQUEST (R290). -/
def execHandoverRequest (who : Init) (word : Nat) (s : State) : Host.Outcome State Fault Refusal :=
  actServed (fun d => d.request who 0x2A01 1 (numData 0x2A01 1 word) (handoverVerdict who word)) s

/-- HANDOVER_RELEASE (R290). -/
def execHandoverRelease (who : Init) (block : Nat) (s : State) : Host.Outcome State Fault Refusal :=
  actServed (fun d => d.request who 0x2A01 2 (numData 0x2A01 2 block) (releaseVerdict who block)) s

/-- RELEASE_TIMEOUT (R289). -/
def execReleaseTimeout (block : Nat) (s : State) : Host.Outcome State Fault Refusal :=
  act (onBlock block (fun d => if (d.hand block).state = 1 then d.revoke block (d.hand block).newOwner else d)) s

/-- BLOCK_RESET_DONE (R289, R291). -/
def execBlockResetDone (block : Nat) (s : State) : Host.Outcome State Fault Refusal :=
  act (onBlock block (fun d => d.resetDone block)) s

/-- FORCED_BLOCK_RESET (Table 14-6): at twice the bound. -/
def execForcedBlockReset (block : Nat) (s : State) : Host.Outcome State Fault Refusal :=
  act (onBlock block (fun d =>
    if (d.hand block).state = 2 then ((d.count 0x2A00 8).forceReset block).resetDone block else d)) s

/-- RUN (R293). -/
def execRun (who : Init) (block : Nat) (s : State) : Host.Outcome State Fault Refusal :=
  actServed (fun d => d.clockRequest who block 0) s

/-- STOP_CLOCK (R293). -/
def execStopClock (who : Init) (block : Nat) (s : State) : Host.Outcome State Fault Refusal :=
  actServed (fun d => d.clockRequest who block 1) s

/-- POWER_OFF (R293). -/
def execPowerOff (who : Init) (block : Nat) (s : State) : Host.Outcome State Fault Refusal :=
  actServed (fun d => d.clockRequest who block 2) s

end Sys2Proof.Machine
end

