-- ==== Sys2Proof/Machine/Isolation.lean ====
section
/-! DEFINITION. Region records (R281, R283), enclaves (R285 to R287), fuses (R294), and the debug unlock (R295 to R297). -/

namespace Sys2Proof.Machine

/-! ### Region records (R283, Table 14-3) -/

/-- The target and number of the region that a record's index names. -/
def regionOfIndex (i : Nat) : Option (Nat × Nat) :=
  if 0x2A10 ≤ i ∧ i < 0x2A30 then some (0, i - 0x2A10)
  else if 0x2A30 ≤ i ∧ i < 0x2A38 then some (1, i - 0x2A30)
  else if 0x2A38 ≤ i ∧ i < 0x2A40 then some (2, i - 0x2A38)
  else none

/-- Granularity of base and limit (Table 14-2). -/
def regionGrain (t : Nat) : Nat := if t = 0 then 0x200000 else if t = 1 then 0x1000 else 0x10000

/-- The addresses of a target: visible DRAM, secure SRAM, the flash read window. -/
def Dev.targetSpan (d : Dev) (t : Nat) : Nat × Nat :=
  if t = 0 then (dramBase, dramBase + d.visible) else if t = 1 then (0x2000000, 0x2200000) else (0x40000000, 0x48000000)

/-- The bit of a region in a region set (2A40h + e/03h). -/
def setBit (t r : Nat) : Nat := if t = 0 then r else if t = 1 then 32 + r else 40 + r

def enclaveIndex (e : Nat) : Nat := 0x2A40 + e
def Dev.enclaveState (d : Dev) (e : Nat) : Nat := d.getO (enclaveIndex e) 1

/-- The enclave, not Free, whose set holds a region. -/
def Dev.heldBy (d : Dev) (t r : Nat) : Option Nat :=
  (List.range 32).find? (fun e => e != 0 && d.enclaveState e != 0 && (d.getO (enclaveIndex e) 3).testBit (setBit t r))

/-- Two spans of addresses overlap. -/
def spansMeet (a b c d : Nat) : Bool := a < d && c < b

/-- With `s` spares, an order-D region that has blocks with bit 34 of their offset set does not pin logical channels 8 - s to 7
(R318). -/
def Dev.pinnedOk (d : Dev) (limit attr : Nat) : Bool :=
  let s := d.getO 0x2C00 4
  attrOrder attr != 3 || s == 0 || limit ≤ dramBase + 2 ^ 34 || bits (attrChset attr) (8 - s) s == 0

/-- An attribute word keeps Table 14-3 and the owner's mask rule, whether enabled or not. -/
def attrOk (t v : Nat) : Bool :=
  let o := attrOwner v
  ownerCodeOk o
    && (!(1 ≤ o && o ≤ 0x1F) || (bits v 0 2 == 0 && bits v 4 2 == 0))
    && (if t = 0 then attrCode v != 3 && (attrOrder v == 3 || attrChset v == 0)
          && (attrOrder v != 3 || (let c := pinned v; c == 1 || c == 2 || c == 4))
        else attrCode v == 0 && attrOrder v == 0 && attrChset v == 0)

/-- The region may be enabled: base < limit, within its target, and no overlap with another enabled region. -/
def Dev.regionFits (d : Dev) (t r v : Nat) : Bool :=
  let base := d.regBase t r
  let limit := d.regLimit t r
  let (lo, hi) := d.targetSpan t
  base < limit && (t != 0 || (lo ≤ base && limit ≤ hi && d.pinnedOk limit v))
    && (List.range (regionCount t)).all (fun k =>
        k == r || !(attrEn (d.regAttr t k)) || !(spansMeet base limit (d.regBase t k) (d.regLimit t k)))

/-- A write of a region record by a writer of class I or O. -/
def regionVerdict (who : Init) (t r j v : Nat) (d : Dev) : Verdict :=
  let i := regionIndex t r
  let old := d.regAttr t r
  let forO (o : Nat) : Bool := o == 0x20 || isInstance o
  if who = .openWorld ∧ !(forO (attrOwner old)) then .error abortAccess
  else if j = 1 ∨ j = 2 then
    if v % regionGrain t ≠ 0 || attrEn old then .error abortRange
    else if (d.heldBy t r).isSome then .error abortState
    else .ok (d.setO i j v)
  else
    let v := setBits v 24 3 0
    let fixed (a : Nat) : Nat × Nat × Nat := (attrCode a, attrOrder a, attrChset a)
    if !(attrOk t v) || (who = .openWorld && !(forO (attrOwner v))) || (attrEn old && fixed v != fixed old)
        || (attrEn v && !(attrEn old) && !(d.regionFits t r v)) then .error abortRange
    else if (d.heldBy t r).isSome || (t = 0 && !(attrEn v) && d.dram.remaps.any (fun m => m.region == r)) then .error abortState
    else
      let d := d.setO i 3 v
      .ok (if t = 0 ∧ attrEn v ∧ !(attrEn old) then d.setO (0x2D10 + r) 3 0 else d)

/-! ### Enclaves (R287) -/

/-- The regions of a set, in ascending address order. -/
def Dev.setRegions (d : Dev) (set : Nat) : List (Nat × Nat) :=
  let all := (List.range 3).flatMap (fun t => (List.range (regionCount t)).map (fun r => (t, r)))
  (all.filter (fun p => set.testBit (setBit p.1 p.2))).foldl (fun l p =>
    let low := l.takeWhile (fun q => d.regBase q.1 q.2 < d.regBase p.1 p.2)
    low ++ p :: l.drop low.length) []

/-- OWNER and both masks of every region of a set. -/
def Dev.setAttrs (d : Dev) (set owner mask : Nat) : Dev :=
  (d.setRegions set).foldl (fun d p =>
    d.setO (regionIndex p.1 p.2) 3 (setBits (setBits (d.regAttr p.1 p.2) 8 8 owner) 0 8 (16 * mask + mask))) d

/-- The set may be taken: every region is enabled, has OWNER 20h, and is in no other set. -/
def Dev.setFree (d : Dev) (set : Nat) : Bool :=
  (d.setRegions set).all (fun p =>
    let a := d.regAttr p.1 p.2
    attrEn a && attrOwner a == 0x20 && (d.heldBy p.1 p.2).isNone)

/-- A command of Table 14-4: 1 build, 2 seal, 3 destroy. -/
def enclaveVerdict (e v : Nat) (d : Dev) : Verdict :=
  let i := enclaveIndex e
  let st := d.enclaveState e
  let set := d.getO i 3
  if v = 1 then
    (if st = 0 ∧ d.setFree set then .ok ((d.setAttrs set e 0xA).setO i 1 1) else .error abortState)
  else if v = 2 then
    (if st = 1 then .ok ((d.setAttrs set e 0).setO i 1 2) else .error abortState)
  else if st = 1 ∨ st = 3 then
    let d := (d.setAttrs set e 0).setO i 1 4
    .ok ((d.iso.owners.filter (fun p => p.2 == e && (d.hand p.1).state ≤ 1)).foldl (fun d p => d.revoke p.1 0xFF) d)
  else .error abortState

/-- The other writes of an enclave record, in the states its table names. -/
def enclaveFieldVerdict (e j v : Nat) (d : Dev) : Verdict :=
  let i := enclaveIndex e
  let st := d.enclaveState e
  if j = 2 then enclaveVerdict e v d
  else if j = 3 then
    (if st = 0 then .ok (d.setO i 3 (v % 2 ^ 48)) else .error abortState)
  else if j = 4 then (if st ≤ 1 then .ok (d.setO i 4 v) else .error abortState)
  else if j = 5 then (if st = 0 then .ok (d.setO i 5 v) else .error abortState)
  else .ok (d.setO i j v)

/-- The bytes of a set, as stored, in ascending address order: the data that each region lets an access reach. -/
def Dev.setBytes (d : Dev) (set : Nat) : List Byte :=
  (d.setRegions set).flatMap (fun p =>
    let base := d.regBase p.1 p.2
    d.bytesAt base (if p.1 = 0 then d.regData p.2 else d.regLimit p.1 p.2 - base))

/-- Sealing ends: the measurement, and masks E. -/
def Dev.sealed (d : Dev) (e : Nat) : Dev :=
  let i := enclaveIndex e
  if d.enclaveState e ≠ 2 then d
  else
    let set := d.getO i 3
    ((d.setB i 6 (padTo 48 (sha384 (d.setBytes set)))).setAttrs set e 4).setO i 1 3

/-- The device address that a key of memory holds; a key of the target rank of a carry stands for its source. -/
def Dev.addressOf (d : Dev) (key : Nat) : Option Nat :=
  if key < 2 ^ 40 then some key
  else if 2 ^ 41 ≤ key then
    let x := key - 2 ^ 41
    (d.windowAddress (0x80000000 + x)).bind (fun a => some a)
  else match d.dram.carry with
    | some c => if keyRank key = c.target then d.unlocate (setBits key 31 4 c.source) else d.unlocate key
    | none => d.unlocate key

/-- Every byte of the set's regions becomes 0, check bytes with them; the flash is no memory that a fill writes. -/
def Dev.zeroSet (d : Dev) (set : Nat) : Dev :=
  let spans := ((d.setRegions set).filter (fun p => p.1 != 2)).map (fun p => (d.regBase p.1 p.2, d.regLimit p.1 p.2))
  let d := spans.foldl (fun d s => d.mendWords s.1 (s.2 - s.1)) d
  { d with mem := d.mem.filter (fun p =>
      match d.addressOf p.1 with
      | some a => !(spans.any (fun s => s.1 ≤ a && a < s.2))
      | none => true) }

/-- No thread of the enclave runs. -/
def Dev.threadsStill (d : Dev) (e : Nat) : Bool := (List.range 6).all (fun t => (d.thread e t).state != 1)

/-- Destroying ends: threads have stopped, no block is left, the set is 0 and open again, and the enclave is Free. -/
def Dev.destroyed (d : Dev) (e : Nat) : Dev :=
  let i := enclaveIndex e
  if d.enclaveState e ≠ 4 || !(d.threadsStill e) || d.iso.owners.any (fun p => p.2 == e) then d
  else
    let set := d.getO i 3
    let d := (d.zeroSet set).setAttrs set 0x20 2
    let d := (List.range 6).foldl (fun d t => d.setThread e t {}) d
    (d.setB i 6 []).setO i 1 0

/-! ### The monitor's calls (R285, R286) -/

/-- The core runs in the open world, or in an enclave: cores 2 to 7. -/
def appCore (c : Nat) : Bool := 2 ≤ c && c ≤ 7

/-- A call returns to the open world with a0 and a1. -/
def Dev.callReturns (d : Dev) (c a0 a1 : Nat) : Dev := d.setCore c { d.core c with a0 := a0, a1 := a1 }

/-- ENTER, or RESUME of an interrupted thread. -/
def Dev.enterEnclave (d : Dev) (c e t : Nat) (resume : Bool) : Dev :=
  if !(appCore c) || (d.core c).tag ≠ 0 then d
  else
    let th := d.thread e t
    let sealed := 1 ≤ e && e ≤ 31 && d.enclaveState e == 3 && t < d.getO (enclaveIndex e) 5
    if !sealed || th.state = 1 || (resume && th.state != 2) then d.callReturns c 2 0
    else
      let regs := if resume then th.saved else []
      let pc := if resume then th.pc else d.getO (enclaveIndex e) 4
      let d := d.setThread e t { state := 1, core := c, saved := [] }
      (d.setCore c { tag := e, thread := t, regs := regs, a0 := e, a1 := t, pc := pc }).offerAll e

/-- EXIT: the tag is 0 again, and the call that entered returns 0 and the value; 3 where the enclave faulted. -/
def Dev.exitEnclave (d : Dev) (c value : Nat) (faulted : Bool) : Dev :=
  let x := d.core c
  if !(appCore c) || x.tag = 0 then d
  else
    let d := d.setThread x.tag x.thread { state := 0, core := c }
    (d.setCore c (if faulted then { a0 := 3, a1 := 0 } else { a0 := 0, a1 := value })).offerAll x.tag

/-- An interrupt not targeted to the enclave: the registers go to the thread's save slot, and the call returns 1. A synchronous
trap goes to the entry address + 40h with the tag kept. -/
def Dev.interruptEnclave (d : Dev) (c : Nat) (cause : EnclaveCause) (saved : List Nat) : Dev :=
  let x := d.core c
  if !(appCore c) || x.tag = 0 then d
  else match cause with
    | .trap => d.setCore c { x with pc := d.getO (enclaveIndex x.tag) 4 + 0x40 }
    | .interrupt target pc =>
      if x.tag = target then d
      else
        let d := d.setThread x.tag x.thread { state := 2, core := c, saved := saved, pc := pc }
        (d.setCore c { a0 := 1, a1 := 0 }).offerAll x.tag

/-! ### Fuses (R294) -/

/-- A key slot of the fuses. -/
def Dev.key (d : Dev) (k : Nat) : KeySlot := tabGet {} d.kept.keys k

/-- Object 2A03h/07h. -/
def Dev.keyWord (d : Dev) : Nat :=
  (List.range 4).foldl (fun w k =>
    let x := d.key k
    w + 16 ^ k * ((if x.programmed then 1 else 0) + (if x.revoked then 2 else 0)
      + (if x.bootUse then 4 else 0) + (if x.debugUse then 8 else 0))) 0

/-- A key slot is fused. -/
def Dev.fuseKey (d : Dev) (k : Nat) (x : KeySlot) : Dev :=
  let d := { d with kept := { d.kept with keys := tabSet {} d.kept.keys k x } }
  d.setO 0x2A03 7 d.keyWord

/-- An empty slot is programmed once: slot, use bits (bit 0 boot, bit 1 debug), hash. -/
def programVerdict (data : List Byte) (d : Dev) : Verdict :=
  let k := (byteAt data 0).toNat
  let use := (byteAt data 1).toNat
  if data.length ≠ 50 then .error abortLength
  else if 3 < k ∨ 3 < use then .error abortRange
  else if (d.key k).programmed then .error abortState
  else .ok (d.fuseKey k { hash := data.drop 2, programmed := true, bootUse := use.testBit 0, debugUse := use.testBit 1 })

/-- A programmed slot with boot use that is not revoked. -/
def KeySlot.boots (x : KeySlot) : Bool := x.programmed && !x.revoked && x.bootUse

/-- A programmed slot is revoked, but not the last unrevoked one with boot use. -/
def revokeVerdict (k : Nat) (d : Dev) : Verdict :=
  let x := d.key k
  if !x.programmed || x.revoked || (x.boots && (List.range 4).all (fun m => m == k || !((d.key m).boots))) then .error abortState
  else .ok (d.fuseKey k { x with revoked := true })

/-- The part is retired. -/
def retireVerdict (v : Nat) (d : Dev) : Verdict :=
  if v ≠ 0x6B696C6C then .error abortRange
  else .ok (({ d with kept := { d.kept with lifecycle := 3 } }).setO 0x2A03 1 3)

/-! ### Debug unlock (R296, R297) -/

/-- A new nonce replaces the one drawn before. -/
def Dev.newNonce (d : Dev) : Dev :=
  let n := (List.range 16).map (fun i => Config.nonceByte d.iso.draws i)
  ({ d with iso := { d.iso with nonce := some n, draws := d.iso.draws + 1 } }).setB 0x2A03 3 n

/-- A certificate is presented: its check runs. -/
def Dev.presentCertificate (d : Dev) (data : List Byte) : Dev :=
  if data.length ≠ 256 then d.refuse abortLength
  else (({ d with iso := { d.iso with checking := some data } }).setO 0x2A03 5 1).accept

/-- The unique ID (2000h/03h). -/
def uniqueIdBytes : List Byte := (List.range 16).map Config.uniqueId

/-- The bits of scope that Table 14-8 defines. -/
def scopeMask : Nat := 0x1F + (2 ^ 39 - 2 ^ 8)

/-- The checks of R297, each with its code, in their order. -/
def Dev.certChecks (d : Dev) (b : List Byte) : List (Nat × Bool) :=
  let k := d.key (field b 6 1)
  let scope := field b 40 8
  [(0x10, field b 0 4 == 0x43424448 && field b 4 2 == 1 && field b 7 1 == 0 && field b 56 8 == 0
      && scope &&& scopeMask == scope),
   (0x16, d.getO 0x2A03 1 != 3),
   (0x11, (b.drop 8).take 16 == uniqueIdBytes),
   (0x12, some ((b.drop 24).take 16) == d.iso.nonce),
   (0x13, field b 48 4 ≤ d.kept.boots && d.kept.boots ≤ field b 52 4),
   (0x14, field b 6 1 < 4 && k.programmed && !k.revoked && k.debugUse && k.hash == sha384 ((b.drop 64).take 96)),
   (0x15, ecdsaVerifies ((b.drop 64).take 96) (b.take 160) (b.drop 160))]

/-- The check ends: the first failure's code, or the scope opens. -/
def Dev.certChecked (d : Dev) : Dev :=
  match d.iso.checking with
  | none => d
  | some b =>
    let checks := d.certChecks b
    let early := (checks.take 3).any (fun c => !c.2)
    let failed := checks.find? (fun c => !c.2)
    let iso := { d.iso with checking := none, nonce := if early then d.iso.nonce else none }
    let d := { d with iso := iso }
    match failed with
    | some c => d.setO 0x2A03 5 c.1
    | none =>
      let scope := field b 40 8
      ((d.setO 0x2A03 5 2).setO 0x2A03 6 (d.getO 0x2A03 6 ||| scope)).log 0x53 0x5301 0xFF 0xFF [scope]

/-! ### The TAP (R295) -/

/-- An instruction is shifted in: the data register it selects, what the register captures, and what leaves at TDO. -/
def Dev.tapSelect (d : Dev) (ir selected : Nat) (data : List Byte) : Dev :=
  let d := { d with iso := { d.iso with tap := { ir := ir, selected := selected, data := data, driving := false } } }
  if data.isEmpty then d else d.send (.tdo data)

/-- An instruction that a scope bit opens; closed, it selects the bypass register. -/
def Dev.tapGated (d : Dev) (ir bit : Nat) (driving : Bool) : Dev :=
  if (d.getO 0x2A03 6).testBit bit then
    let d := d.tapSelect ir ir []
    { d with iso := { d.iso with tap := { d.iso.tap with driving := driving } } }
  else d.tapSelect ir 0xFF []

/-- The scope bit of the domain that a core runs in (Table 14-8): service cores 0 and 1, application cores by their tag, and the
island (8). -/
def Dev.coreScope (d : Dev) (core : Nat) : Nat :=
  if core < 2 then 2 else if core = 8 then 3 else if (d.core core).tag = 0 then 1 else 7 + (d.core core).tag

/-- Scope bits that open cores: the open world, the service cores, the island, the enclaves. -/
def coreScopes : List Nat := [1, 2, 3] ++ (List.range 31).map (fun k => 8 + k)

/-! ### The meanings -/

/-- REGION_RECORD_WRITE (R283). -/
def execRegionRecordWrite (who : Init) (index sub value : Nat) (s : State) : Host.Outcome State Fault Refusal :=
  actServed (fun d => match regionOfIndex index with
    | some (t, r) => d.request who index sub (numData index sub value) (regionVerdict who t r sub value)
    | none => d) s

/-- A command of an enclave. -/
def enclaveCommand (who : Init) (e v : Nat) (s : State) : Host.Outcome State Fault Refusal :=
  actServed (fun d => if 1 ≤ e && e ≤ 31 then d.request who (enclaveIndex e) 2 [BitVec.ofNat 8 v] (enclaveVerdict e v) else d) s

/-- ENCLAVE_BUILD (R287). -/
def execEnclaveBuild (who : Init) (enclave : Nat) (s : State) : Host.Outcome State Fault Refusal := enclaveCommand who enclave 1 s

/-- ENCLAVE_SEAL (R287). -/
def execEnclaveSeal (who : Init) (enclave : Nat) (s : State) : Host.Outcome State Fault Refusal := enclaveCommand who enclave 2 s

/-- SEALING_COMPLETE (R287). -/
def execSealingComplete (enclave : Nat) (s : State) : Host.Outcome State Fault Refusal :=
  act (fun d => if 1 ≤ enclave && enclave ≤ 31 then d.sealed enclave else d) s

/-- ENCLAVE_DESTROY (R287). -/
def execEnclaveDestroy (who : Init) (enclave : Nat) (s : State) : Host.Outcome State Fault Refusal :=
  enclaveCommand who enclave 3 s

/-- DESTROY_COMPLETE (R287). -/
def execDestroyComplete (enclave : Nat) (s : State) : Host.Outcome State Fault Refusal :=
  act (fun d => if 1 ≤ enclave && enclave ≤ 31 then d.destroyed enclave else d) s

/-- ENCLAVE_ENTER (R285). -/
def execEnclaveEnter (core enclave thread : Nat) (s : State) : Host.Outcome State Fault Refusal :=
  actAwake (fun d => if d.coreRuns core then d.enterEnclave core enclave thread false else d) s

/-- ENCLAVE_EXIT (R285). -/
def execEnclaveExit (core : Nat) (made : ExitCall) (s : State) : Host.Outcome State Fault Refusal :=
  actAwake (fun d => if d.coreRuns core then d.exitEnclave core made.value made.faulted else d) s

/-- ENCLAVE_RESUME (R285). -/
def execEnclaveResume (core enclave thread : Nat) (s : State) : Host.Outcome State Fault Refusal :=
  actAwake (fun d => if d.coreRuns core then d.enterEnclave core enclave thread true else d) s

/-- ENCLAVE_INTERRUPT (R286). -/
def execEnclaveInterrupt (core : Nat) (cause : EnclaveCause) (saved : List Nat) (s : State) : Host.Outcome State Fault Refusal :=
  actAwake (fun d => if d.coreRuns core then d.interruptEnclave core cause saved else d) s

/-- PROGRAM_KEY_SLOT (R294). -/
def execProgramKeySlot (who : Init) (data : List Byte) (s : State) : Host.Outcome State Fault Refusal :=
  actServed (fun d => d.request who 0x2A03 8 data (programVerdict data)) s

/-- REVOKE_KEY_SLOT (R294). -/
def execRevokeKeySlot (who : Init) (slot : Nat) (s : State) : Host.Outcome State Fault Refusal :=
  actServed (fun d => d.request who 0x2A03 9 (numData 0x2A03 9 slot) (revokeVerdict slot)) s

/-- RETIRE (R294). -/
def execRetire (who : Init) (value : Nat) (s : State) : Host.Outcome State Fault Refusal :=
  actServed (fun d => d.request who 0x2A03 0x0A (numData 0x2A03 0x0A value) (retireVerdict value)) s

/-- DRAW_NONCE (R296). -/
def execDrawNonce (who : Init) (value : Nat) (s : State) : Host.Outcome State Fault Refusal :=
  actServed (fun d => d.request who 0x2A03 2 (numData 0x2A03 2 value) (fun d => .ok d.newNonce)) s

/-- CERTIFICATE (R297). -/
def execCertificate (data : List Byte) (s : State) : Host.Outcome State Fault Refusal := act (fun d => d.presentCertificate data) s

/-- CERTIFICATE_CHECK_COMPLETE (R297). -/
def execCertificateCheckComplete (s : State) : Host.Outcome State Fault Refusal := act (fun d => d.certChecked) s

/-- IDCODE (R295). -/
def execIdcode (s : State) : Host.Outcome State Fault Refusal := act (fun d => d.tapSelect 0x01 0x01 (leBytes 4 0x185210F3)) s

/-- UID (R295). -/
def execUid (s : State) : Host.Outcome State Fault Refusal := act (fun d => d.tapSelect 0x10 0x10 uniqueIdBytes) s

/-- NONCE (R295): the nonce is shifted out, and update-DR draws a new one. -/
def execNonce (s : State) : Host.Outcome State Fault Refusal :=
  act (fun d => (d.tapSelect 0x11 0x11 (padTo 16 (d.getB 0x2A03 3))).newNonce) s

/-- CERT (R295): 256 bytes shifted in present a certificate. -/
def execCert (data : List Byte) (s : State) : Host.Outcome State Fault Refusal :=
  act (fun d =>
    let d := d.tapSelect 0x12 0x12 []
    if data.length = 256 then d.presentCertificate data else d) s

/-- STATUS (R295). -/
def execStatus (s : State) : Host.Outcome State Fault Refusal :=
  act (fun d => d.tapSelect 0x13 0x13 (leBytes 4 (d.getO 0x2A03 5))) s

/-- BYPASS (R295). -/
def execBypass (s : State) : Host.Outcome State Fault Refusal := act (fun d => d.tapSelect 0xFF 0xFF []) s

/-- EXTEST (R295). -/
def execExtest (s : State) : Host.Outcome State Fault Refusal := act (fun d => d.tapGated 0x02 0 true) s

/-- SAMPLE_PRELOAD (R295). -/
def execSamplePreload (s : State) : Host.Outcome State Fault Refusal := act (fun d => d.tapGated 0x03 0 false) s

/-- DMI (R295): a domain's cores are reached when its scope bit is open. -/
def execDmi (domain : Nat) (s : State) : Host.Outcome State Fault Refusal :=
  act (fun d => if coreScopes.contains domain then d.tapGated 0x20 domain false else d.tapSelect 0x20 0xFF []) s

/-- DEBUG_REQ (R297): the cores of the open domains halt; nothing in the spec makes them go on but a reset. -/
def execDebugReq (s : State) : Host.Outcome State Fault Refusal :=
  act (fun d =>
    let open_ := (List.range 9).filter (fun c => (d.getO 0x2A03 6).testBit (d.coreScope c))
    { d with iso := { d.iso with halted := open_.foldl (fun t c => tabSet false t c true) d.iso.halted } }) s

end Sys2Proof.Machine
end

