-- ==== Sys2Proof/Machine/Recorder.lean ====
section
/-! DEFINITION. The event recorder (19): records, their commit, the clear, refills, software events, and sealing. -/

namespace Sys2Proof.Machine

/-- The bytes of a record with its sequence (Table 19-1, R359). -/
def recordOf (seq : Nat) (e : Event) : List Byte :=
  let body := leBytes 4 seq ++ leBytes 8 e.time ++ leBytes 2 e.code ++ leBytes 2 e.origin ++ padTo 12 e.payload
  body ++ leBytes 4 (crc32c seq body)

/-- The base and commit sequences (R361). -/
def Dev.commitSeq (d : Dev) : Nat := d.getO 0x2F00 3 % 2 ^ 32
def Dev.baseSeq (d : Dev) : Nat := d.getO 0x2F00 3 / 2 ^ 32

/-- The window of the log (Table 1-7). -/
def logWindow : Nat := 0x4000000

/-- The record in hand is written to its slot, and then the commit sequence counts it (R362); the next queued one follows. -/
def Dev.commitRecord (d : Dev) : Dev :=
  match d.recorder.hand with
  | none => d
  | some e =>
    let seq := d.commitSeq
    let d := d.putBytes (logWindow + 32 * d.committed) (recordOf seq e)
    let d := (d.setO 0x2F00 3 (d.baseSeq * 2 ^ 32 + (seq + 1) % 2 ^ 32)).count 0x2F00 5
    let d := { d with recorder := { d.recorder with hand := d.recorder.queue.head?, queue := d.recorder.queue.tail } }
    if d.committed = 32768 ∧ d.getO 0x2F00 1 = 0 then (d.setO 0x2F00 1 1).postNamed 0x2F00 0x0A else d

/-- The clear (R363). The record in hand commits first; record 7800h is the first of the cleared log. -/
def clearVerdict (v : Nat) (d : Dev) : Verdict :=
  if v ≠ 0x636C6561 then .error abortRange
  else if d.getO 0x2F00 1 = 2 then .error abortState
  else
    let d := match d.recorder.hand with
      | none => d
      | some _ =>
        let q := d.recorder.queue
        let d := ({ d with recorder := { d.recorder with queue := [] } }).commitRecord
        { d with recorder := { d.recorder with queue := q } }
    let old := d.getO 0x2F00 3
    let c := d.commitSeq
    let d := (d.setO 0x2F00 3 (c * 2 ^ 32 + c)).setO 0x2F00 1 0
    .ok { d with recorder := { d.recorder with
      hand := some { time := d.clock.ns, code := 0x7800, origin := 0xFFFF, payload := padTo 12 (leBytes 8 old) } } }

/-- A software event (R368). The write succeeds whatever becomes of the event. -/
def postEventVerdict (who : Init) (data : List Byte) (d : Dev) : Verdict :=
  let code := field data 0 2
  if data.length ≠ 14 then .error abortLength
  else if code / 256 < 0xF0 ∨ 0xFE < code / 256 then .error abortRange
  else .ok (d.intake { time := d.clock.ns, code := code, origin := 256 * initCode who + 0xFF, payload := data.drop 2 }).2

/-- A bucket gains one token; full again, its class may be reported again (R366). A rate of 0 never refills. -/
def Dev.refill (d : Dev) (cls : Nat) : Dev :=
  let n := tabGet 0 d.recorder.spent cls
  if d.bucket cls / 65536 = 0 ∨ n = 0 then d
  else { d with recorder := { d.recorder with
      spent := tabSet 0 d.recorder.spent cls (n - 1)
      throttled := if n = 1 then tabSet false d.recorder.throttled cls false else d.recorder.throttled } }

/-- A bucket word is written: it takes effect at once, with the tokens held clamped to the new burst. -/
def bucketVerdict (cls v : Nat) (d : Dev) : Verdict :=
  let held := d.tokens cls
  let d := d.setO (0x2F10 + cls / 128) (cls % 128 + 1) v
  .ok { d with recorder := { d.recorder with
    spent := tabSet 0 d.recorder.spent cls (v % 65536 - min held (v % 65536))
    throttled := tabSet false d.recorder.throttled cls false } }

/-- The record in hand as the recorder seals over an array word (four words a record): it completes, or it is counted with
reason 3 when the failed word lies in its own slot. -/
def Dev.finishHand (d : Dev) (word : Nat) : Dev :=
  match d.recorder.hand with
  | none => d
  | some e =>
    if word % 2 ^ 17 / 4 = d.committed then d.intakeCounted e.code 3
    else ({ d with recorder := { d.recorder with queue := [] } }).commitRecord

/-- The recorder seals (R370): the record in hand completes or fails; record 7900h and the queued records go to the emergency file. -/
def Dev.sealRecorder (d : Dev) (word : Nat) : Dev :=
  if d.getO 0x2F00 1 = 2 then d
  else
    let q := d.recorder.queue
    let d := d.finishHand word
    let detail := 2 ^ 24 + word % 2 ^ 17
    let seq := d.commitSeq
    let first : Event := { time := d.clock.ns, code := 0x7900, origin := 0xFFFF, payload := padTo 12 (leBytes 4 detail) }
    let file := (first :: q).take 16
    let d := (file.zip (List.range 16)).foldl
      (fun d p => d.setB 0x2F02 (p.2 + 1) (recordOf ((seq + p.2) % 2 ^ 32) p.1)) d
    let d := (q.drop 15).foldl (fun d e => d.intakeCounted e.code 2) d
    let d := { d with recorder := { d.recorder with hand := none, queue := [] } }
    let d := ((d.setO 0x2F00 9 detail).setO 0x2F00 1 2).enterHistory 0xFF01
    let d := d.sendEmcy { code := 0xFF01, reg := d.emcyRegister 0xFF01, seq := seq, event := 0x7900 }
    ({ d with can := { d.can with shown := true } }).postNamed 0x2F00 0x0A

/-- The committed records in order (2F03h/01h). -/
def Dev.logBytes (d : Dev) : List Byte := d.bytesAt logWindow (32 * d.committed)

/-! ### The meanings -/

/-- RECORD_COMMIT (R362). -/
def execRecordCommit (s : State) : Host.Outcome State Fault Refusal := act (fun d => d.commitRecord) s

/-- LOG_CLEAR (R363). -/
def execLogClear (who : Init) (value : Nat) (s : State) : Host.Outcome State Fault Refusal :=
  actServed (fun d => d.request who 0x2F00 4 (numData 0x2F00 4 value) (clearVerdict value)) s

/-- POST_EVENT (R368). -/
def execPostEvent (who : Init) (data : List Byte) (s : State) : Host.Outcome State Fault Refusal :=
  actServed (fun d => d.request who 0x2F01 1 data (postEventVerdict who data)) s

/-- BUCKET_REFILL (R366). -/
def execBucketRefill (cls : Nat) (s : State) : Host.Outcome State Fault Refusal :=
  act (onUnit cls 256 (fun d => d.refill cls)) s

end Sys2Proof.Machine
end

