-- ==== Sys2Proof/Machine/Island.lean ====
section
/-! DEFINITION. The safety island (21): its two pairs (R381 to R383), the watchdogs over owners (R384, R385), the renderer and
its lists (R386 to R390), and the reset of a pixel pipe with its commits (R377, Table 20-5). -/

namespace Sys2Proof.Machine

/-! ### The renderer's lists (R386, R387) -/

def listIndex (n : Nat) : Nat := 0x3101 + n

def Dev.render (d : Dev) (n : Nat) : Render := tabGet {} d.island.renders n

def Dev.setRender (d : Dev) (n : Nat) (x : Render) : Dev :=
  { d with island := { d.island with renders := tabSet {} d.island.renders n x } }

/-- The firmware slot in the bank of a pair, and of the Active one. -/
def Dev.pairSlot (d : Dev) (p : Nat) : Nat := if p = 0 then d.island.slots.1 else d.island.slots.2
def Dev.runningSlot (d : Dev) : Nat := d.pairSlot (d.getO 0x3100 1)

def Dev.setPairSlot (d : Dev) (p s : Nat) : Dev :=
  { d with island := { d.island with slots := if p = 0 then (s, d.island.slots.2) else (d.island.slots.1, s) } }

/-- The TCM bank that a pair runs from (R411). -/
def Dev.pairBank (d : Dev) (p : Nat) : Nat := if p = 0 then d.island.banks.1 else d.island.banks.2
def Dev.setPairBank (d : Dev) (p b : Nat) : Dev :=
  { d with island := { d.island with banks := if p = 0 then (b, d.island.banks.2) else (d.island.banks.1, b) } }

/-- Where a code bank lies in the TCM: two of 384 KiB from its start, the shared state behind them (DESIGN CHOICE, assumption
log 59). -/
def bankBase (b : Nat) : Nat := 0x1000000 + 0x60000 * b

/-- The device address of a firmware slot (R404). -/
def slotBase (s : Nat) : Nat := 0x40000000 + s * 0x3800000

/-- The content section (type 02h) of the running image: its first address. -/
def Dev.contentBase (d : Dev) : Option Nat :=
  let b := slotBase d.runningSlot
  ((List.range 8).find? (fun k => d.byte (b + 32 + 64 * k) == 2)).map (fun k => b + leNat (d.bytesAt (b + 32 + 64 * k + 4) 4))

/-- The header of an output's list; [] when the output has none. -/
def Dev.listHead (d : Dev) (n : Nat) : List Byte :=
  match d.contentBase with
  | some b => if (d.render n).list = 0xFF then [] else d.bytesAt (b + Config.listOffset (d.render n).list) 32
  | none => []

def headCommands (h : List Byte) : Nat := field h 6 2
def headWidth (h : List Byte) : Nat := field h 8 2
def headHeight (h : List Byte) : Nat := field h 10 2

/-- The fields of a header are valid (Table 21-2). -/
def headOk (h : List Byte) : Bool :=
  h.length == 32 && field h 0 4 == 0x54534C54 && field h 4 2 == 1
    && 1 ≤ headCommands h && headCommands h ≤ 4096
    && 16 ≤ headWidth h && headWidth h ≤ 4096 && 1 ≤ headHeight h && headHeight h ≤ 4096
    && field h 12 4 == 0 && field h 20 4 % 16 == 0 && field h 24 8 == 0

/-- Bytes of a surface line: 64-byte steps (R90). -/
def listPitch (h : List Byte) : Nat := 64 * ceilDiv (headWidth h) 64

/-- Bytes of a surface with its check table, in 64-byte steps. -/
def listRoom (h : List Byte) : Nat := listPitch h * headHeight h + 64 * ceilDiv (4 * headHeight h) 64

/-- Bytes of the locked partition that surfaces may take: all but the renderer's workspace. -/
def renderRoom : Nat := 0x800000 - 0x10000

/-- Where an output's surface lies, counted from the lock base: behind those of the outputs before it. None when its header is
not valid or the room is used up. -/
def Dev.listPlace (d : Dev) (n : Nat) : Option Nat :=
  let take (acc : Nat) (m : Nat) : Nat :=
    let h := d.listHead m
    if headOk h && acc + listRoom h ≤ renderRoom then acc + listRoom h else acc
  let at_ := (List.range n).foldl take 0
  let h := d.listHead n
  if headOk h && at_ + listRoom h ≤ renderRoom then some at_ else none

/-- A command of a list (Table 21-3). -/
structure DrawCmd where
  opcode : Nat
  colour : Nat
  cond   : Nat
  x      : Nat
  y      : Nat
  w      : Nat
  h      : Nat
  arg    : Nat
  deriving DecidableEq, Repr

def drawCmd (b : List Byte) : DrawCmd :=
  { opcode := field b 0 1, colour := field b 1 1, cond := field b 2 2, x := field b 4 2, y := field b 6 2
    w := field b 8 2, h := field b 10 2, arg := field b 12 4 }

/-- The commands of an output's list, END among them. -/
def Dev.listCommands (d : Dev) (n : Nat) : List DrawCmd :=
  let h := d.listHead n
  match d.contentBase with
  | some b => (List.range (headCommands h + 1)).map (fun k => drawCmd (d.bytesAt (b + field h 20 4 + 16 * k) 16))
  | none => []

/-- The digit count of a DIGITS command. -/
def DrawCmd.places (c : DrawCmd) : Nat := bits c.arg 12 4

/-- The width that a command covers. -/
def DrawCmd.span (c : DrawCmd) : Nat := if c.opcode = 3 then c.places * c.w else c.w

/-- A command is valid and lies inside its surface (R387). -/
def DrawCmd.ok (c : DrawCmd) (width height : Nat) : Bool :=
  1 ≤ c.opcode && c.opcode ≤ 3 && bits c.cond 9 4 == 0
    && (c.opcode != 1 || c.arg == 0)
    && (c.opcode != 3 || (1 ≤ c.places && c.places ≤ 8 && bits c.arg 8 4 == 0 && c.arg % 256 ≤ 31))
    && c.x + c.span ≤ width && c.y + c.h ≤ height

/-- The worst-case draw in 1/12 800 µs (R388). -/
def Dev.drawTime (d : Dev) (n : Nat) : Nat :=
  let h := d.listHead n
  let cs := (d.listCommands n).take (headCommands h)
  let area (op : Nat) : Nat := (cs.filter (fun c => c.opcode == op)).foldl (fun a c => a + c.span * c.h) 0
  1024 * headCommands h + area 1 + 4 * (area 2 + area 3) + 2 * headHeight h * (headWidth h + 8)

/-- The rod has a frame lock source. -/
def Dev.frameLocked (d : Dev) (n : Nat) : Bool := d.getO (rodIndex n) 0x0A != 0 && !(d.lineLock n)

/-- Lines of the drawing window: from line VACTIVE + 1 to the fetch of line 0 four lines before the end, less the lines that a
lock may remove. -/
def Dev.windowLines (d : Dev) (n : Nat) : Nat :=
  vtotalOf (d.force n) - d.force n 6 - 5 - (if d.frameLocked n then d.force n 7 - 1 else 0)

/-- A draw of `t` / 12 800 µs fits in `lines` lines. -/
def Dev.drawFits (d : Dev) (n t lines : Nat) : Bool :=
  let (num, den) := d.lineTime n
  t * 1000 * den ≤ lines * num * 12800

/-- The destination of an output's strip. -/
def Dev.listDst (d : Dev) (n : Nat) : Nat × Nat := let v := d.getO (listIndex n) 7; (v % 65536, v / 65536)

/-- An output's list passes every check at the timing in force (R386 to R388). -/
def Dev.listPasses (d : Dev) (n : Nat) : Bool :=
  let h := d.listHead n
  let cs := d.listCommands n
  let (x, y) := d.listDst n
  (d.listPlace n).isSome
    && (cs.take (headCommands h)).all (fun c => c.ok (headWidth h) (headHeight h))
    && ((cs.drop (headCommands h)).all (fun c => c.opcode == 0))
    && x + headWidth h ≤ d.force n 2 && y + headHeight h ≤ d.force n 6
    && d.drawFits n (d.drawTime n) (d.windowLines n)

/-! ### Drawing (R387 to R390) -/

/-- A telltale input. -/
def Dev.input (d : Dev) (t : Nat) : Bool := (d.getO 0x5000 (t / 8 + 1)).testBit (t % 8)

/-- The device time by which blinking goes (R389): on a secondary that has heard its primary, the primary's (R401). -/
def Dev.blinkTime (d : Dev) : Nat :=
  match d.courier.offset with
  | some o => if d.courier.enabled && d.getO 0x3200 2 == 0 then ((d.clock.ns : Int) + o).toNat else d.clock.ns
  | none => d.clock.ns

/-- A command's condition holds now. -/
def Dev.visibleNow (d : Dev) (c : DrawCmd) : Bool :=
  let s := d.input (c.cond % 512)
  if !(c.cond.testBit 15) then true
  else match bits c.cond 13 2 with
    | 0 => s
    | 1 => !s
    | 2 => s && d.blinkTime / 500000000 % 2 == 0
    | _ => s && d.blinkTime / 250000000 % 2 == 0

/-- The decimal digits of a number, most significant first. -/
def decimal : Nat → Nat → List Nat
  | 0, _ => []
  | fuel + 1, v => if v < 10 then [v] else decimal fuel (v / 10) ++ [v % 10]

/-- The glyphs of a value in `n` places: dashes when it is stale or needs more. -/
def glyphs (stale : Bool) (v : Int) (n : Nat) : List Nat :=
  let ds := decimal 11 v.natAbs
  let sign := if v < 0 then [12] else []
  if stale || n < ds.length + sign.length then List.replicate n 10
  else sign ++ List.replicate (n - ds.length - sign.length) 11 ++ ds

/-- What a command shows now: nothing, or its glyphs. -/
def Dev.cmdShows (d : Dev) (c : DrawCmd) : Option (List Nat) :=
  if !(d.visibleNow c) then none
  else if c.opcode = 3 then
    let v := c.arg % 256
    some (glyphs ((d.getO 0x5011 1).testBit v) (d.getI 0x5010 (v + 1) 32) c.places)
  else some []

/-- A rectangle of a surface gets a colour. -/
def Dev.drawRect (d : Dev) (base pitch : Nat) (c : DrawCmd) : Dev :=
  (List.range c.h).foldl (fun d y =>
    d.putBytes (base + (c.y + y) * pitch + c.x) (List.replicate c.w (BitVec.ofNat 8 c.colour))) d

/-- A bitmap at a device address writes the colour where its bits are set. -/
def Dev.drawBitmap (d : Dev) (base pitch bitmap x : Nat) (c : DrawCmd) : Dev :=
  let row := ceilDiv c.w 8
  (List.range c.h).foldl (fun d y => (List.range c.w).foldl (fun d k =>
    if (d.byte (bitmap + y * row + k / 8)).toNat.testBit (7 - k % 8)
    then d.putByte (base + (c.y + y) * pitch + x + k) (BitVec.ofNat 8 c.colour) else d) d) d

/-- One command is drawn. -/
def Dev.drawCommand (d : Dev) (content base pitch : Nat) (c : DrawCmd) (shows : Option (List Nat)) : Dev :=
  match shows with
  | none => d
  | some gs =>
    if c.opcode = 1 then d.drawRect base pitch c
    else if c.opcode = 2 then d.drawBitmap base pitch (content + c.arg) c.x c
    else (gs.zip (List.range gs.length)).foldl (fun d g =>
      d.drawBitmap base pitch (content + 256 * (c.arg / 65536) + g.1 * c.h * ceilDiv c.w 8) (c.x + g.2 * c.w) c) d

/-- The check table of a surface: CRC-32C of each line with its address as the tag (R390, R97). -/
def Dev.drawChecks (d : Dev) (base table : Nat) (h : List Byte) : Dev :=
  (List.range (headHeight h)).foldl (fun d y =>
    let a := base + y * listPitch h
    d.putBytes (table + 4 * y) (leBytes 4 (crc32c a (d.bytesAt a (headWidth h))))) d

/-- The surface address of an output's list. -/
def Dev.surfaceOf (d : Dev) (n : Nat) : Nat := d.getO (listIndex n) 3

/-- The whole list is drawn, and the whole check table written. -/
def Dev.drawList (d : Dev) (n : Nat) (shows : List (Option (List Nat))) : Dev :=
  let h := d.listHead n
  let base := d.surfaceOf n
  let cs := (d.listCommands n).take (headCommands h)
  let content := d.contentBase.getD 0
  let d := (cs.zip shows).foldl (fun d p => d.drawCommand content base (listPitch h) p.1 p.2) d
  let d := d.drawChecks base (base + listPitch h * headHeight h) h
  let d := d.setRender n { d.render n with shown := some shows, draw := some (d.rodFrame n) }
  (d.setO (listIndex n) 8 (d.getO (rodIndex n) 3)).count 0x3100 0x0A

/-! ### The layer 5 commit (R386, R388) -/

/-- The block that the island submits for an output lies in the renderer's workspace. -/
def commitBlock (n : Nat) : Nat := dramBase + renderRoom + 128 * n

/-- The commit block of a list: header and the record of layer 5; `show` = false empties the layer. -/
def Dev.listCommit (d : Dev) (n : Nat) (shown : Bool) : List Byte :=
  let h := d.listHead n
  let e := (d.render n).engine
  let (x, y) := d.listDst n
  let header := leBytes 1 n ++ leBytes 1 0x20 ++ leBytes 1 5 ++ leBytes 1 1 ++ zeroBytes 28
  let check := e != 0xFF
  let base := d.surfaceOf n
  let record := if shown then
      leBytes 8 base ++ zeroBytes 8 ++ leBytes 4 (listPitch h) ++ leBytes 1 7
        ++ leBytes 1 (if check then 5 else 1) ++ leBytes 1 255 ++ leBytes 1 (if check then 16 * e else 0)
        ++ leBytes 2 0 ++ leBytes 2 0 ++ leBytes 2 (headWidth h) ++ leBytes 2 (headHeight h)
        ++ leBytes 2 x ++ leBytes 2 y ++ leBytes 2 (headWidth h) ++ leBytes 2 (headHeight h)
        ++ zeroBytes 8 ++ leBytes 8 (if check then base + listPitch h * headHeight h else 0) ++ zeroBytes 8
    else zeroBytes 20 ++ leBytes 1 7 ++ zeroBytes 43
  header ++ record

/-- The island writes the block and submits it; its own submit answers nobody. -/
def Dev.submitList (d : Dev) (n : Nat) (shown : Bool) : Dev :=
  let before := d.answer
  let d := (d.putBytes (commitBlock n) (d.listCommit n shown)).submitCommit .island n (commitBlock n)
  { d with answer := before }

/-- The engine that the list's record names is the island's, or none is named. -/
def Dev.listEngineReady (d : Dev) (n : Nat) : Bool :=
  let e := (d.render n).engine
  e == 0xFF || d.owner (blockId 8 e) == 0

/-- Layer 5 was emptied and nothing is pending for it. -/
def Dev.layer5Bare (d : Dev) (n : Nat) : Bool :=
  (d.getB (layerIndex (6 * n + 5)) 4).isEmpty && (pendingRec d.comp.commits (6 * n + 5)).isNone

/-- The layer 5 commit is submitted when it is due or the layer is bare, once its output takes commits and its engine is the
island's. -/
def Dev.offerList (d : Dev) (n : Nat) : Dev :=
  let x := d.render n
  if d.serving && d.getO (listIndex n) 2 == 1 && (x.due || d.layer5Bare n) && d.listEngineReady n
      && d.outState n != 0 && (d.output n).disable.isNone then
    (d.setRender n { x with due := false }).submitList n true
  else d

/-- A list is taken: its surface, worst case and window show, its colour table is loaded, and its commit is due. -/
def Dev.takeList (d : Dev) (n : Nat) : Dev :=
  let h := d.listHead n
  let i := listIndex n
  let d := (d.setO i 2 1).setO i 3 (dramBase + (d.listPlace n).getD 0)
  let d := match d.contentBase with
    | some b => d.setB (layerIndex (6 * n + 5)) 9 (d.bytesAt (b + field h 16 4) 1024)
    | none => d
  d.setRender n { d.render n with due := true, shown := none }

/-- Worst case and window of a list (/04h, /05h), in µs: rounded up and down. -/
def Dev.showTimes (d : Dev) (n : Nat) : Dev :=
  if (d.render n).list = 0xFF then d
  else
    let (num, den) := d.lineTime n
    (d.setO (listIndex n) 4 (ceilDiv (d.drawTime n) 12800)).setO (listIndex n) 5 (d.windowLines n * num / (1000 * den))

/-- The check of a list at boot (R386, R387). -/
def Dev.bootList (d : Dev) (n : Nat) : Dev :=
  if (d.render n).list = 0xFF then d
  else
    let d := d.showTimes n
    if d.listPasses n then d.takeList n else (d.setO (listIndex n) 2 2).log 0x8A 0x8A01 0x00 n [n]

/-- A list refused after a timing change (Table 3-8). -/
def Dev.setListRefused (d : Dev) (n : Nat) (b : Bool) : Dev :=
  { d with can := { d.can with listRefused := tabSet false d.can.listRefused n b } }

/-- The check at a latch that brings a new timing, and after a change of the content (R388, R413). -/
def Dev.recheckList (d : Dev) (n : Nat) : Dev :=
  if (d.render n).list = 0xFF then d
  else
    let d := d.showTimes n
    let was := d.getO (listIndex n) 2
    if d.listPasses n then ((d.setListRefused n false).takeList n).offerList n
    else if was = 1 then
      let d := (d.setO (listIndex n) 2 2).setListRefused n true
      let d := d.setRender n { d.render n with due := false }
      let d := d.emergency 0xFF09 0x8A 0x8A02 0x00 n [n]
      if d.outState n = 0 then d else d.submitList n false
    else d

/-- The start of an output's drawing window: the commit where it is due, and the list when anything it shows has changed. -/
def Dev.renderWindow (d : Dev) (n : Nat) : Dev :=
  if d.serving && d.getO (listIndex n) 2 == 1 then
    let d := d.offerList n
    let shows := ((d.listCommands n).take (headCommands (d.listHead n))).map d.cmdShows
    if (d.render n).shown = some shows then d else d.drawList n shows
  else d

/-- A frame of `lines` lines ends: a draw that its fetch of line 0 overtook counts as late. -/
def Dev.drawEnds (d : Dev) (n lines : Nat) : Dev :=
  match (d.render n).draw with
  | none => d
  | some _ =>
    let late := !(d.drawFits n (d.drawTime n) (lines - 4 - (d.force n 6 + 1)))
    let d := d.setRender n { d.render n with draw := none }
    if late then d.count (listIndex n) 9 else d

/-! ### The two pairs (R381 to R383) -/

def Dev.pairState (d : Dev) (p : Nat) : Nat := d.getO 0x3100 (2 + p)
def Dev.setPairState (d : Dev) (p st : Nat) : Dev := d.setO 0x3100 (2 + p) st

/-- The level of FAULT_N (Table 23-8): high while a pair is Active and not restarting. -/
def Dev.faultN (d : Dev) : Bool :=
  d.live && !d.power.recovery && d.serving && (d.pairState 0 == 1 || d.pairState 1 == 1)

/-- The level of CRT_SBO (R394): high while pairing is enabled and the island pair is Active. -/
def Dev.sidebandOut (d : Dev) : Bool := d.courier.enabled && d.faultN

/-- A pair is in Standby beside the Active one. -/
def Dev.standby (d : Dev) : Bool := d.pairState (1 - d.getO 0x3100 1) == 2

/-- A firmware slot's state in the boot control block (3300h/04h, /05h). -/
def Dev.setSlot (d : Dev) (s st : Nat) : Dev :=
  let x := d.bootControl
  d.setBootControl (if s = 0 then { x with slotA := st } else { x with slotB := st })

/-- Dictionary writes in hand are held and issued again to the server on the new pair (Table 20-5). One of a wo object, one that
has reached the replay limit, and one that a sealed Registry has not journaled are lost: they end with abort 0800_0022h. -/
def Dev.reissueWrites (d : Dev) : Dev :=
  d.windows.foldl (fun d w =>
    if w.2.busy && w.2.writes then
      let (again, d) := ((d.regHold w.2.entry).2).regReissue w.2.entry (!w.2.wo) true
      if again then d else d.setWindow w.1 { d.window w.1 with result := some { abort := 0x08000022 } }
    else d) d

/-- Every list is checked again against the content of the pair that runs (R413). -/
def Dev.contentChanged (d : Dev) : Dev := (List.range 8).foldl (fun d n => d.recheckList n) d

/-- The switch to the Standby pair (R382, Table 21-1), and what it means for an update (Table 23-9). Causes 1 to 4 are a
transient fault of the island (Table 20-5). -/
def Dev.switchPair (d : Dev) (cause : Nat) : Dev :=
  let a := d.getO 0x3100 1
  let b := 1 - a
  let moved := d.pairSlot a != d.pairSlot b
  let d := (((d.setPairState a 3).setPairState b 1).setO 0x3100 1 b).setO 0x3100 5 cause
  let d := d.count 0x3100 4
  let d := if cause = 5 then d.log 0x88 0x8801 0x00 b [cause, b]
    else ((d.transientFault 0x8103 b).emergency 0xFF08 0x89 0x8901 0x00 b [cause, b]).reissueWrites
  let d := if d.getO 0x3300 8 = 5 ∧ 1 ≤ cause ∧ cause ≤ 3 ∧ moved then
      (((((d.setSlot (d.pairSlot a) 3).setPairSlot a (d.pairSlot b)).setPairBank a (d.pairBank b)).setO 0x3300 8 0).log 0x99 0x9901 0x00 0xFF [cause])
    else d
  if moved then d.contentChanged else d

/-- The Active pair restarts itself; a second restart within 1 s halts the island (R383). A loading that it cuts short goes
back to Verified. -/
def Dev.restartPair (d : Dev) : Dev :=
  let a := d.getO 0x3100 1
  let soon := match d.island.restartAt with
    | some t => decide (d.clock.ns - t < 1000000000)
    | none => false
  let d := if d.getO 0x3300 8 = 4 then
      let d := d.setO 0x3300 8 3
      if d.pairState (1 - a) = 5 then d.setPairState (1 - a) 2 else d
    else d
  if soon then
    let d := d.setPairState a 4
    { d with island := { d.island with halted := true, restarting := false } }
  else ({ d with island := { d.island with restarting := true, restartAt := some d.clock.ns } }).count 0x3100 9

/-- A switch is needed (R382, R383). -/
def Dev.switchNeeded (d : Dev) (cause : Nat) : Dev :=
  if d.island.halted then d else if d.standby && !d.island.restarting then d.switchPair cause else d.restartPair

/-- A write of 1 to 3100h/06h. -/
def switchVerdict (d : Dev) : Verdict := if d.standby then .ok (d.switchPair 4) else .error abortState

/-! ### Watchdogs over owners (R384, R385) -/

def dogIndex (w : Nat) : Nat := 0x3110 + w

/-- A write of a watchdog's owner: it is armed by the first kick after that. -/
def dogOwnerVerdict (w v : Nat) (d : Dev) : Verdict := .ok ((d.setO (dogIndex w) 1 v).setO (dogIndex w) 5 0)

/-- A kick by the named owner. -/
def kickVerdict (who : Init) (w : Nat) (d : Dev) : Verdict :=
  if initCode who ≠ d.getO (dogIndex w) 1 then .error abortAccess
  else .ok ((d.setO (dogIndex w) 5 1).setO (dogIndex w) 7 d.clock.ns)

/-- Every layer of an owner is disabled by the island (R385, R106). -/
def Dev.disableLayersOf (d : Dev) (owner : Nat) : Dev :=
  ((List.range 48).filter (fun l => d.ownerByte (blockId 2 l) == owner)).foldl (fun d l =>
    match layerEnableVerdict l 0 d with
    | .ok d => d
    | .error _ => d) d

/-- How many blocks each class has (Table 14-5). -/
def classSize (cls : Nat) : Nat :=
  match cls with
  | 1 => 8
  | 2 => 48
  | 3 => 8
  | 4 => 8
  | 5 => 68
  | 6 => 16
  | 7 => 32
  | 8 => 8
  | 9 => 64
  | 10 => 512
  | _ => 0

/-- The blocks of an owner. -/
def Dev.blocksOf (d : Dev) (owner : Nat) : List Nat :=
  ((List.range 11).flatMap (fun c => (List.range (classSize c)).map (blockId c))).filter (fun id =>
    blockExists id && d.ownerByte id == owner)

/-- The island requests a hand-over of every block of an owner: touch panels and haptic channels go to the island, every other
block to nobody (R385). -/
def Dev.takeBlocksOf (d : Dev) (owner : Nat) : Dev :=
  (d.blocksOf owner).foldl (fun d id =>
    let new := if id / 4096 = 3 ∨ id / 4096 = 4 then 0x00 else 0xFF
    match handoverVerdict .island (65536 * id + 256 * new) d with
    | .ok d => d
    | .error _ => d) d

/-- The expiry of a watchdog, in the order of R385. -/
def Dev.dogExpires (d : Dev) (w : Nat) : Dev :=
  let i := dogIndex w
  if d.getO i 5 ≠ 1 then d
  else
    let owner := d.getO i 1
    let d := ((d.setO i 5 2).count i 6).emergency 0xFF03 0x89 0x8902 owner w [w, owner]
    let d := d.postNamed 0x3100 0x0B
    let d := if 1 ≤ d.getO i 4 then d.disableLayersOf owner else d
    if d.getO i 4 = 2 then d.takeBlocksOf owner else d

/-! ### A pixel pipe's reset (R377, R378) -/

/-- A fault of pixel pipe `n`: its pending commits are held, and the port repeats the last pixel until line 0 of the next
frame. -/
def Dev.pipeFaulted (d : Dev) (n : Nat) : Dev :=
  let d := d.transientFault 0x8102 n
  let d := (d.comp.commits.filter (fun c => c.output == n)).foldl (fun d c => (d.regHold c.item.entry).2) d
  let d := { d with comp := { d.comp with commits := d.comp.commits.map (fun (c : Commit) =>
    if c.output = n then { c with held := true } else c) } }
  d.setOutput n { d.output n with pipeFault := true }

/-- The block of a held commit can be read again. -/
def Dev.commitReadable (d : Dev) (c : Commit) : Bool :=
  match c.item.ring with
  | some r => d.instLinked r.inst
  | none => match d.memRead c.item.code c.item.block (32 + 64 * c.records.length) with
    | (.ok _, _) => true
    | _ => false

/-- Line 0 of the next frame: the pipe's reset ends, and its held commits are issued again or lost. -/
def Dev.pipeRestarts (d : Dev) (n : Nat) : Dev :=
  if !(d.output n).pipeFault then d
  else
    let d := d.setOutput n { d.output n with pipeFault := false }
    (d.comp.commits.filter (fun c => c.output == n && c.held)).foldl (fun d c =>
      let (again, d) := d.regReissue c.item.entry c.item.replay (d.commitReadable c)
      if again then
        { d with comp := { d.comp with commits := d.comp.commits.map (fun x =>
          if x = c then { c with held := false, item := { c.item with gen := c.item.gen + 1 } } else x) } }
      else d.endCommit c 0x22) d

/-! ### The meanings -/

/-- PIXEL_PIPE_FAULT (R377). -/
def execPixelPipeFault (output : Nat) (s : State) : Host.Outcome State Fault Refusal :=
  act (onUnit output 8 (fun d => if d.outState output = 0 then d else d.pipeFaulted output)) s

/-- LOCKSTEP_MISMATCH (R382). -/
def execLockstepMismatch (s : State) : Host.Outcome State Fault Refusal := act (fun d => d.switchNeeded 1) s

/-- ISLAND_WATCHDOG_EXPIRY (R382). -/
def execIslandWatchdogExpiry (s : State) : Host.Outcome State Fault Refusal := act (fun d => d.switchNeeded 3) s

/-- SWITCH (R382). -/
def execIslandSwitch (who : Init) (value : Nat) (s : State) : Host.Outcome State Fault Refusal :=
  actServed (fun d => d.request who 0x3100 6 (numData 0x3100 6 value) switchVerdict) s

/-- ISLAND_RESTART_COMPLETE (R383). -/
def execIslandRestartComplete (s : State) : Host.Outcome State Fault Refusal :=
  act (fun d => if d.island.restarting then { d with island := { d.island with restarting := false } } else d) s

/-- PAIR_SELF_TEST_COMPLETE (Table 21-1). -/
def execPairSelfTestComplete (pair : Nat) (passed : Bool) (s : State) : Host.Outcome State Fault Refusal :=
  act (onUnit pair 2 (fun d => if d.pairState pair = 3 then d.setPairState pair (if passed then 2 else 4) else d)) s

/-- WATCHDOG_KICK (R384). -/
def execWatchdogKick (who : Init) (watchdog value : Nat) (s : State) : Host.Outcome State Fault Refusal :=
  actServed (onUnit watchdog 16 (fun d =>
    d.request who (dogIndex watchdog) 3 (numData (dogIndex watchdog) 3 value) (kickVerdict who watchdog))) s

/-- OWNER_WATCHDOG_EXPIRY (R385). Watchdogs pause in Keep-alive (R384). -/
def execOwnerWatchdogExpiry (watchdog : Nat) (s : State) : Host.Outcome State Fault Refusal :=
  act (onUnit watchdog 16 (fun d => if d.awake && d.serving then d.dogExpires watchdog else d)) s

end Sys2Proof.Machine
end

