-- ==== Sys2Proof/Machine/Pairing.lean ====
section
/-! DEFINITION. Pairing (22): the frames of the courier link (R394 to R396), custody of shared outputs and the witness (R399),
alarms (R400), the mirror (R401) and rod marks (R402). -/

namespace Sys2Proof.Machine

/-! ### Frames (R395, Tables 22-1 and 22-2) -/

/-- The link state (Table 22-3). -/
def Dev.linkState (d : Dev) : Nat := d.getO 0x3200 9

/-- This device is the secondary. -/
def Dev.secondary (d : Dev) : Bool := d.getO 0x3200 2 == 0

/-- The payload bytes of a frame type. -/
def frameLength (type : Nat) : Option Nat :=
  match type with
  | 1 => some 32
  | 3 => some 264
  | 4 => some 16
  | 5 => some 8
  | 6 => some 8
  | _ => none

/-- A frame: header, payload, CRC with the sequence as the tag, and padding. -/
def frameBytes (type seq : Nat) (payload : List Byte) : List Byte :=
  let body := leBytes 1 type ++ leBytes 1 0 ++ leBytes 2 payload.length ++ leBytes 4 seq ++ payload
  body ++ leBytes 4 (crc32c seq body) ++ zeroBytes 4

/-- A frame is sent; the lane carries nothing while the link is Off. -/
def Dev.sendFrame (d : Dev) (type : Nat) (payload : List Byte) : Dev :=
  if d.linkState = 0 then d
  else
    let d := (d.send (.courier (frameBytes type d.courier.sent payload))).count 0x3200 0x10
    d.setCourier { d.courier with sent := (d.courier.sent + 1) % 2 ^ 32 }

def frameType (f : List Byte) : Nat := field f 0 1
def frameSeq (f : List Byte) : Nat := field f 4 4
def framePayload (f : List Byte) : List Byte := (f.drop 8).take (field f 2 2)

/-- A received frame is valid: known type, the length of its type, and its CRC. -/
def frameOk (f : List Byte) : Bool :=
  match frameLength (frameType f) with
  | none => false
  | some n => field f 2 2 == n && n + 16 ≤ f.length && field f (8 + n) 4 == crc32c (frameSeq f) (f.take (8 + n))

/-- A frame of a type arrives: a bad one is discarded and counted, a gap in the sequence is counted, and a valid one is used.
Nothing is received while the link is Off or before block lock. -/
def Dev.receive (d : Dev) (type : Nat) (f : List Byte) (use : List Byte → Dev → Dev) : Dev :=
  if d.linkState = 0 || !d.courier.locked then d
  else if !(frameOk f) then d.count 0x3200 0x12
  else if frameType f ≠ type then d
  else
    let gap := match d.courier.last with
      | some n => frameSeq f != (n + 1) % 2 ^ 32
      | none => false
    let d := d.count 0x3200 0x11
    let d := if gap then d.count 0x3200 0x13 else d
    use (framePayload f) (d.setCourier { d.courier with last := some (frameSeq f) })

/-! ### Alarms (R400) -/

/-- The alarms that hold now: split, CAN loss, role conflict, mask mismatch. -/
def Dev.alarmsNow (d : Dev) : Nat :=
  let c := d.courier
  if !c.enabled then 0
  else
    (if d.linkState == 1 && c.canHeard && !c.canGone then 1 else 0)
      + (if d.linkState == 2 && c.canGone then 2 else 0)
      + (if d.getO 0x3200 0x0A == d.getO 0x3200 2 then 4 else 0)
      + (if c.last.isSome && d.getO 0x3200 0x0A != 0xFF && c.theirs != c.mask then 8 else 0)

/-- The alarms are shown; each that is newly set logs an event, and the source is posted. -/
def Dev.showAlarms (d : Dev) : Dev :=
  let old := d.getO 0x3200 0x0D
  let now := d.alarmsNow
  let fresh := (List.range 4).filter (fun k => now.testBit k && !(old.testBit k))
  let d := d.setO 0x3200 0x0D now
  let d := fresh.foldl (fun d k => d.log 0x91 (0x9201 + k) 0x00 0xFF [k]) d
  if fresh.isEmpty then d else d.postNamed 0x3200 0x0E

/-! ### The witness (R399, Table 22-4) -/

def Dev.setWitness (d : Dev) (n st : Nat) : Dev :=
  d.setCourier { d.courier with witness := tabSet 0 d.courier.witness n st }

/-- L and C. -/
def Dev.witnessL (d : Dev) : Bool := d.linkState == 1
def Dev.witnessC (d : Dev) : Bool := d.courier.canGone

/-- The output takes part: its bit is set in both masks, and this device is the secondary. -/
def Dev.takesPart (d : Dev) (n : Nat) : Bool :=
  d.courier.enabled && d.secondary && d.courier.mask.testBit n && d.courier.theirs.testBit n

/-- Entry to Driving, from Witnessing or from Returning (Table 22-4): the output follows its requested state. -/
def Dev.takeOver (d : Dev) (n : Nat) : Dev :=
  let d := ((d.setWitness n 2).count 0x3200 0x14).emergency 0xFF06 0x90 0x9101 (d.owner (blockId 1 n)) n [n]
  if (d.output n).disable.isSome then d else d.followRequest n

/-- The test of each heartbeat period. -/
def Dev.witnessTest (d : Dev) : Dev :=
  (List.range 8).foldl (fun d n =>
    if !(d.takesPart n) then d
    else
      let both := d.witnessL && d.witnessC
      match d.witness n with
      | 0 => if both then d.setWitness n 1 else d
      | 1 => if both then d else d.setWitness n 0
      | 3 => if d.witnessL then d.takeOver n else d
      | _ => d) d

/-- The return delay is spent: Standing by, and the port idles after the current frame's last line. -/
def Dev.giveBack (d : Dev) (n : Nat) : Dev :=
  let d := d.setWitness n 0
  if (d.output n).disable.isNone && 2 ≤ d.outState n && d.wantState n == 1 then
    (if d.frameRuns n then d.setOutput n { d.output n with disable := some 1 } else d.disableOutput n 1)
  else d

/-- What a heartbeat of the primary says of custody. -/
def Dev.custodySeen (d : Dev) : Dev :=
  (List.range 8).foldl (fun d n =>
    if !(d.takesPart n) then d
    else
      let theirs := d.courier.custody.testBit n
      match d.witness n with
      | 2 => if theirs && d.linkState == 2 then d.setWitness n 3 else d
      | 3 => if theirs then d else d.takeOver n
      | _ => d) d

/-- The link becomes Silent: outputs that were Returning drive again. -/
def Dev.returningDrives (d : Dev) : Dev :=
  (List.range 8).foldl (fun d n => if d.takesPart n && d.witness n == 3 then d.takeOver n else d) d

/-! ### Heartbeats and probes (R395, R396) -/

/-- The payload of a heartbeat. -/
def Dev.heartbeatPayload (d : Dev) : List Byte :=
  let flags := (if d.serving && (d.pairState 0 == 1 || d.pairState 1 == 1) then 1 else 0)
    + (if d.courier.canHeard && !d.courier.canGone then 2 else 0)
  leBytes 1 (d.getO 0x3200 2) ++ leBytes 1 flags ++ leBytes 1 d.courier.mask ++ leBytes 1 d.custodyBits
    ++ leBytes 8 d.clock.ns ++ leBytes 4 d.kept.boots ++ (List.range 16).map Config.uniqueId

/-- A probe is sent under the next number. -/
def Dev.sendProbe (d : Dev) : Dev :=
  let n := (d.courier.probe + 1) % 2 ^ 32
  (d.setCourier { d.courier with probe := n }).sendFrame 5 (leBytes 4 n ++ zeroBytes 4)

/-- A heartbeat is used. After the third in a row the device asks for the echo that brings the link Up. -/
def useHeartbeat (p : List Byte) (d : Dev) : Dev :=
  let role := field p 0 1
  let d := ((d.setO 0x3200 0x0A role).setB 0x3200 0x15 ((p.drop 16).take 16)).setO 0x3200 0x16 d.clock.ns
  let beats := if d.linkState = 1 then min 3 (d.courier.beats + 1) else d.courier.beats
  let third := d.linkState == 1 && beats == 3 && d.courier.beats == 2
  let d := d.setCourier { d.courier with
    beats := beats, theirs := field p 2 1, custody := if role = 1 then field p 3 1 else 0
    offset := some ((field p 4 8 : Int) - (d.clock.ns : Int)) }
  let d := if third then d.sendProbe else d
  d.custodySeen.showAlarms

/-- An echo of the last probe sets the one-way delay, and brings a Silent link Up; a probe follows. -/
def useEcho (roundTrip : Nat) (p : List Byte) (d : Dev) : Dev :=
  if field p 0 4 ≠ d.courier.probe then d
  else
    let d := d.setO 0x3200 0x0F ((10 * roundTrip - 64 * field p 4 4) / 20)
    if d.linkState = 1 ∧ d.courier.beats = 3 then ((d.setO 0x3200 9 2).sendProbe).showAlarms else d

/-- No valid heartbeat for 5 ms. -/
def Dev.linkSilent (d : Dev) : Dev :=
  if d.linkState = 0 then d
  else ((d.setO 0x3200 9 1).setCourier { d.courier with beats := 0 }).marksAbsent.returningDrives.showAlarms

/-- The partner's CAN heartbeat arrived, or its time has passed (R399). -/
def Dev.partnerHeard (d : Dev) : Dev :=
  (d.setCourier { d.courier with canHeard := true, canGone := false }).showAlarms

def Dev.partnerGone (d : Dev) : Dev := (d.setCourier { d.courier with canGone := true }).showAlarms

/-! ### The mirror (R401) -/

/-- The objects that are mirrored. -/
def Dev.mirrorPayload (d : Dev) : List Byte :=
  (List.range 64).map (fun k => BitVec.ofNat 8 (d.getO 0x5000 (k + 1)))
    ++ padTo 64 (d.getB 0x5001 1)
    ++ (List.range 32).flatMap (fun k => leBytes 4 (d.getO 0x5010 (k + 1)))
    ++ leBytes 4 (d.getO 0x5011 1) ++ zeroBytes 4

/-- The mirror writes this device's process data: the secondary, while Up and enabled. -/
def Dev.mirrorWrites (d : Dev) : Bool := d.secondary && d.linkState == 2 && d.getO 0x3200 8 == 1

/-- A mirror frame is used. -/
def useMirror (p : List Byte) (d : Dev) : Dev :=
  if !d.mirrorWrites then d
  else
    let d := (List.range 64).foldl (fun d k => d.setO 0x5000 (k + 1) (byteAt p k).toNat) d
    let stale := (p.drop 64).take 64
    let d := d.setB 0x5001 1 (if stale.all (· == 0) then [] else stale)
    let d := (List.range 32).foldl (fun d k => d.setO 0x5010 (k + 1) (field p (128 + 4 * k) 4)) d
    d.setO 0x5011 1 (field p 256 4)

/-! ### Rod marks (R402) -/

/-- The mark that a rod's line 0 sends; its latency on the lane is a free value. -/
def Dev.sendMark (d : Dev) (r : Nat) : Dev :=
  if d.linkState = 0 then d
  else
    let (k, d) := d.nextFree
    d.sendFrame 4 (leBytes 1 r ++ zeroBytes 3 ++ leBytes 4 (d.rodFrame r) ++ leBytes 4 (Config.freeNat k) ++ zeroBytes 4)

/-- A mark of the partner's rod is the reference event of every rod locked to it. -/
def useMark (p : List Byte) (d : Dev) : Dev :=
  if d.linkState ≠ 2 then d
  else
    let ref : Int := (d.clock.ns : Int) - ((field p 8 4 * 64 / 10 : Nat) : Int) - ((d.getO 0x3200 0x0F : Nat) : Int)
    (d.lockedTo (0x20 + field p 0 1)).foldl (fun d r => d.leaderEvent ref (field p 4 4) r) d

/-! ### The meanings -/

/-- COURIER_HEARTBEAT_TIMER (R395, R399): the heartbeat, and the secondary's test. -/
def execCourierHeartbeatTimer (s : State) : Host.Outcome State Fault Refusal :=
  act (fun d => if d.linkState = 0 then d else (d.sendFrame 1 d.heartbeatPayload).witnessTest) s

/-- HEARTBEAT_FRAME (R395, R396). One that is not valid breaks the run of three that Table 22-3 asks for. -/
def execHeartbeatFrame (frame : List Byte) (s : State) : Host.Outcome State Fault Refusal :=
  act (fun d =>
    let d := if frameOk frame then d else d.setCourier { d.courier with beats := 0 }
    d.receive 1 frame useHeartbeat) s

/-- MIRROR_FRAME (R401). -/
def execMirrorFrame (frame : List Byte) (s : State) : Host.Outcome State Fault Refusal :=
  act (fun d => d.receive 3 frame useMirror) s

/-- MIRROR_TIMER (R401): the primary sends a mirror. -/
def execMirrorTimer (s : State) : Host.Outcome State Fault Refusal :=
  act (fun d => if d.secondary then d else d.sendFrame 3 d.mirrorPayload) s

/-- ROD_MARK_FRAME (R402). -/
def execRodMarkFrame (frame : List Byte) (s : State) : Host.Outcome State Fault Refusal :=
  act (fun d => d.receive 4 frame useMark) s

/-- PROBE_TIMER (R396). -/
def execProbeTimer (s : State) : Host.Outcome State Fault Refusal :=
  act (fun d => if d.linkState = 2 then d.sendProbe else d) s

/-- PROBE_FRAME (R396): an echo with the turnaround in block times. -/
def execProbeFrame (frame : List Byte) (turnaround : Nat) (s : State) : Host.Outcome State Fault Refusal :=
  act (fun d => d.receive 5 frame (fun p d => d.sendFrame 6 (p.take 4 ++ leBytes 4 turnaround))) s

/-- ECHO_FRAME (R396). -/
def execEchoFrame (frame : List Byte) (roundTripNs : Nat) (s : State) : Host.Outcome State Fault Refusal :=
  act (fun d => d.receive 6 frame (useEcho roundTripNs)) s

/-- COURIER_BLOCK_LOCK (Table 22-3). -/
def execCourierBlockLock (s : State) : Host.Outcome State Fault Refusal :=
  act (fun d => if d.linkState = 0 then d else d.setCourier { d.courier with locked := true }) s

/-- COURIER_SILENCE_TIMEOUT (Table 22-3). -/
def execCourierSilenceTimeout (s : State) : Host.Outcome State Fault Refusal := act (fun d => d.linkSilent) s

/-- TAKEOVER_EXPIRY (Table 22-4). -/
def execTakeoverExpiry (output : Nat) (s : State) : Host.Outcome State Fault Refusal :=
  act (onUnit output 8 (fun d =>
    if d.takesPart output && d.witness output == 1 && d.witnessL && d.witnessC then d.takeOver output else d)) s

/-- RETURN_DELAY_EXPIRY (Table 22-4). -/
def execReturnDelayExpiry (output : Nat) (s : State) : Host.Outcome State Fault Refusal :=
  act (onUnit output 8 (fun d => if d.witness output = 3 then d.giveBack output else d)) s

end Sys2Proof.Machine
end

