-- ==== Sys2Proof/Machine/Protection.lean ====
section
/-! DEFINITION. Protecting stored data (17) but for the codes and the accesses themselves, which stand in Codes and Memory:
protected reads (R336, R337), the scrubber and its laps (R343, R344), and the words of the SRAMs (R345 to R348). -/

namespace Sys2Proof.Machine

/-! ### The scrubber (R343, R344) -/

/-- A region takes part in a lap: enabled, of code S or L, and filled. -/
def Dev.scrubbed (d : Dev) (r : Nat) : Bool :=
  let a := d.regAttr 0 r
  attrEn a && attrCode a ≤ 1 && d.getO (0x2D10 + r) 3 == 1

/-- A region into a list rising by base address. -/
def Dev.insertRegion (d : Dev) (r : Nat) : List Nat → List Nat
  | [] => [r]
  | x :: xs => if d.regBase 0 r < d.regBase 0 x then r :: x :: xs else x :: d.insertRegion r xs

/-- The members of a lap that starts now, in ascending address order. -/
def Dev.lapMembers (d : Dev) : List Nat :=
  ((List.range 32).filter d.scrubbed).foldl (fun l r => d.insertRegion r l) []

/-- The protection state is replaced. -/
def Dev.setProt (d : Dev) (x : Prot) : Dev := { d with prot := x }

/-- A lap starts. -/
def Dev.lapStarts (d : Dev) : Dev :=
  match d.lapMembers with
  | [] => d
  | r :: rs =>
    let d := d.setO 0x2D00 5 0
    d.setProt { d.prot with running := true, region := r, members := rs, offset := 0, started := d.clock.ns, bytes := 0
                            alerted := false }

/-- A lap ends: its time in seconds, and the count. -/
def Dev.lapEnds (d : Dev) : Dev :=
  let d := ((d.setO 0x2D00 4 ((d.clock.ns - d.prot.started) / 1000000000)).setO 0x2D00 5 0).count 0x2D00 6
  d.setProt { d.prot with running := false }

/-- The lap goes on with its next region, or ends. -/
def Dev.lapNext (d : Dev) : Dev :=
  match d.prot.members with
  | [] => d.lapEnds
  | r :: rs => d.setProt { d.prot with region := r, members := rs, offset := 0 }

/-- The scrubber leaves a burst out: its rank is Carrying or a Target, or its region is under remap. -/
def Dev.scrubSkips (d : Dev) (r x : Nat) : Bool :=
  let st := d.rankState (d.rankOf (d.regBase 0 r + x))
  st == 3 || st == 4 || d.dram.remaps.any (fun m => m.region == r)

/-- The scrubber reads a unit: what cannot be corrected is counted and logged, and left as it is (Table 17-3). -/
def Dev.scrubUnit (d : Dev) (r code u : Nat) : Dev :=
  match d.readUnit r code u with
  | (some _, d) => d
  | (none, d) => d.log 0x69 1 (attrOwner (d.regAttr 0 r)) r [d.regBase 0 r + u]

/-- The next burst of the lap, no sooner after the last than the rate ceiling allows: 64 bytes at 2D00h/02h MB/s. -/
def Dev.scrubBurst (d : Dev) : Dev :=
  if d.getO 0x2D00 1 = 0 ∨ d.clock.ns < d.prot.nextAt then d
  else
    let d := d.setProt { d.prot with nextAt := d.clock.ns + ceilDiv 64000 (max 1 (d.getO 0x2D00 2)) }
    let d := if d.prot.running then d else d.lapStarts
    if !d.prot.running then d
    else
      let r := d.prot.region
      let x := d.prot.offset
      if !(d.scrubbed r) || d.regData r ≤ x then d.lapNext
      else
        let code := attrCode (d.regAttr 0 r)
        let d := if d.scrubSkips r x then d
          else
            let d := (List.range (64 / unitSize code)).foldl (fun d k => d.scrubUnit r code (x + k * unitSize code)) d
            let d := d.setProt { d.prot with bytes := d.prot.bytes + 64 }
            d.setO 0x2D00 5 (d.prot.bytes / 2 ^ 20)
        let d := d.setProt { d.prot with offset := x + 64 }
        if d.regData r ≤ x + 64 then d.lapNext else d

/-- The running lap passes the lap limit: once for that lap. -/
def Dev.lapLimit (d : Dev) : Dev :=
  if d.prot.running && !d.prot.alerted then
    let d := d.setProt { d.prot with alerted := true }
    ((d.log 0x6A 1 0xFF 0xFF [d.prot.region]).count 0x2D00 7).postNamed 0x2D00 8
  else d

/-! ### SRAM words (R345 to R348) -/

/-- A way of the system cache lies in a locked partition. -/
def Dev.wayLocked (d : Dev) (way : Nat) : Bool :=
  (List.range 16).any (fun k => d.getO (wayIndex k) 1 == 1 && d.getO (wayIndex k) 4 == 1 && (d.getO (wayIndex k) 3).testBit way)

/-- A line frame is retired, unless its way is locked or a limit is reached (R348). -/
def Dev.retireFrame (d : Dev) (set way : Nat) : Dev :=
  let frame := 16 * set + way
  if d.wayLocked way then d.log 0x69 3 0xFF way [set, way]
  else if d.prot.retired.contains frame then d
  else if 64 ≤ d.prot.retired.length || 2 ≤ (d.prot.retired.filter (fun f => f / 16 == set)).length then
    (d.log 0x6A 2 0xFF way [set, way]).count 0x2D40 3
  else
    let d := d.setProt { d.prot with retired := d.prot.retired ++ [frame] }
    let d := d.saveRetired (d.savedRetired ++ [frame])
    d.setO 0x2D40 1 d.prot.retired.length

/-- A dirty line that reads uncorrectable is written back (R346): poisoned in a region of code S or L, as read with an event
in one of code N. -/
def Dev.writeBackBad (d : Dev) (addr : Nat) : Dev :=
  let line := addr / 64 * 64
  match d.protection line with
  | some (r, code) =>
    let x := line - d.regBase 0 r
    (List.range (64 / unitSize code)).foldl (fun d k =>
      let u := x + k * unitSize code
      if u < d.regData r then d.writePoison r code u (d.bytesAt (d.regBase 0 r + u) (unitSize code)) else d) d
  | none => d.log 0x69 2 0xFF 0xFF [line]

/-- The entries of 2D40h/02h. -/
def retiredBytes (l : List Nat) : List Byte := l.flatMap (leBytes 3)

/-- A word corrected in an array. -/
def Dev.sramCorrected (d : Dev) (a : Nat) : Dev := (d.count 0x2D00 0x0C).count 0x2D31 a

/-- A correction of a system-cache frame; the second since boot retires it. -/
def Dev.frameCorrected (d : Dev) (set way : Nat) : Dev :=
  let frame := 16 * set + way
  let n := tabGet 0 d.prot.frames frame + 1
  let d := d.setProt { d.prot with frames := tabSet 0 d.prot.frames frame n }
  if d.wayLocked way then d.log 0x69 3 0xFF way [set, way] else if n = 2 then d.retireFrame set way else d

/-- An uncorrectable word (Table 17-4). Which queues had work on a GPU core whose memory fails is a free value. -/
def Dev.sramBad (d : Dev) (w : SramWord) : Dev :=
  let a := w.array
  if a = 5 then (d.count 0x2D00 0x0E).count 0x2D31 5
  else if (a = 1 ∨ a = 3 ∨ a = 4) ∧ !w.dirty then
    let d := d.sramCorrected a
    if a = 1 then d.retireFrame w.set w.way else d
  else
    let d := d.count 0x2D00 0x0D
    match a with
    | 1 => (d.writeBackBad w.address).retireFrame w.set w.way
    | 2 => if w.unit < 16 then let (k, d) := d.nextFree; d.gpuFault w.unit (Config.freeNat k % 16) else d
    | 3 => d.writeBackBad w.address
    | 4 => d.writeBackBad w.address
    | 6 =>
      -- the word reads as an uncorrectable DRAM read until it is written whole
      let a := w.address / 8 * 8
      if guardOf a == .region 1 && !(d.prot.badSram.contains a) then d.setProt { d.prot with badSram := a :: d.prot.badSram } else d
    | 7 => d.regSeal w.address 1
    | 8 => d.switchNeeded 2
    | 9 => d.sealRecorder w.address
    | 10 => ({ d with audio := { d.audio with zeroed := w.unit :: d.audio.zeroed } }).log 0x41 0x1705 0xFF w.unit [w.unit]
    | 11 => if w.unit < 8 then d.nodeMemoryFault w.unit else d
    | _ => d

/-- A word of an SRAM reads with an error (R345). -/
def Dev.sramError (d : Dev) (w : SramWord) : Dev :=
  if w.array = 0 ∨ 11 < w.array then d
  else if w.uncorrectable || w.array == 5 then d.sramBad w
  else
    let d := d.sramCorrected w.array
    if w.array = 1 then d.frameCorrected w.set w.way else d

/-! ### The meanings -/

/-- DRAM_READ_COMPLETE (R336, R337, R341): a protected 64-byte burst is read for an owner, or the read of a partial write is
merged. The answer shows what the consumer gets; nothing when the read cannot be served. -/
def execDramReadComplete (owner address : Nat) (merge : Option (List Byte)) (s : State) : Host.Outcome State Fault Refusal :=
  act (fun d =>
    match merge with
    | some bytes => (d.memWrite owner address bytes).2
    | none =>
      match d.memRead owner (address / 64 * 64) 64 with
      | (.ok data, d) => d.reply data
      | (_, d) => d.reply []) s

/-- SCRUB_BURST (R343): in a cycle in which no slot of the channel holds a request. Whether one does at that moment is a free
value: an access is one instant here, and requests in their slots are no state (assumption log 55). DRAM in self-refresh is
not scrubbed. -/
def execScrubBurst (s : State) : Host.Outcome State Fault Refusal :=
  act (fun d =>
    if d.awake && d.dram.trained then
      let (n, d) := d.nextFree
      if Config.slotHoldsRequest n then d else d.scrubBurst
    else d) s

/-- LAP_LIMIT_EXPIRY (R344). -/
def execLapLimitExpiry (s : State) : Host.Outcome State Fault Refusal := act (fun d => d.lapLimit) s

/-- SRAM_ERROR (R345). -/
def execSramError (word : SramWord) (s : State) : Host.Outcome State Fault Refusal := act (fun d => d.sramError word) s

/-- CLEAR_RETIRED_LIST (R348). -/
def execClearRetiredList (who : Init) (value : Nat) (s : State) : Host.Outcome State Fault Refusal :=
  actServed (fun d => d.request who 0x2D40 4 (numData 0x2D40 4 value)
    (fun d => .ok (d.saveRetired []))) s

end Sys2Proof.Machine
end

