-- ==== Sys2Proof/Machine/Packets.lean ====
section
/-! DEFINITION. The packets of a command buffer (R137 to R141, R155): fetch and check, and what each does; waits, and the
halt of a job (R135). -/

namespace Sys2Proof.Machine

/-! ### Fetch (Tables 7-5 and 7-6) -/

/-- A packet: its opcode and the dwords after its header, and its length in bytes. -/
structure Packet where
  op    : Nat
  words : List Nat
  bytes : Nat
  deriving DecidableEq, Repr

def Packet.word (p : Packet) (n : Nat) : Nat := p.words.getD (n - 1) 0

/-- A 64-bit value in two dwords. -/
def Packet.pair (p : Packet) (n : Nat) : Nat := p.word n + 2 ^ 32 * p.word (n + 1)

/-- The queues that take an opcode. -/
def packetQueues (op : Nat) : List Nat :=
  match op with
  | 0x00 | 0x03 | 0x30 | 0x31 | 0x38 | 0x39 | 0x3A => [0, 1, 2, 3]
  | 0x01 | 0x02 => [0, 1, 2]
  | 0x10 | 0x11 | 0x12 => [0, 2]
  | 0x18 | 0x19 => [1]
  | 0x20 | 0x21 => [2]
  | 0x28 => [3]
  | _ => []

/-- The least and the greatest DWORDS of an opcode. -/
def packetLength (op : Nat) : Nat × Nat :=
  match op with
  | 0x00 => (1, 65535)
  | 0x01 => (3, 3)
  | 0x02 => (3, 258)
  | 0x03 => (4, 4)
  | 0x10 => (5, 5)
  | 0x11 => (9, 9)
  | 0x12 => (5, 5)
  | 0x18 => (4, 4)
  | 0x19 => (3, 3)
  | 0x20 => (2, 2)
  | 0x21 => (1, 1)
  | 0x28 => (10, 10)
  | 0x30 => (6, 6)
  | 0x31 => (6, 6)
  | 0x38 => (6, 6)
  | 0x39 => (5, 5)
  | _ => (4, 4)

/-- Dwords of a list of bytes. -/
def dwords : Nat → List Byte → List Nat
  | 0, _ => []
  | n + 1, b => leNat (b.take 4) :: dwords n (b.drop 4)

/-- The next packet of a job, or the status that it halts with. -/
def Dev.fetchPacket (d : Dev) (o q : Nat) (j : GpuJob) : Except Nat Packet × Dev :=
  let (base, len) := j.buffer
  match d.gpuRead o (base + j.pc) 4 with
  | (.ok h, d) =>
    let w := leNat h
    let op := w / 2 ^ 24
    let n := w % 65536
    let (lo, hi) := packetLength op
    if bits w 16 7 ≠ 0 ∨ len < j.pc + 4 * n ∨ !((packetQueues op).contains q) ∨ n < lo ∨ hi < n then (.error 0x32, d)
    else if op = 0 then (.ok { op := op, words := [], bytes := 4 * n }, d)
    else
      match d.gpuRead o (base + j.pc + 4) (4 * n - 4) with
      | (.ok b, d) => (.ok { op := op, words := dwords (n - 1) b, bytes := 4 * n }, d)
      | (r, d) => (.error (gpuHalt r), d)
  | (r, d) => (.error (gpuHalt r), d)

/-! ### Executing -/

/-- What a packet does to its job and the device; none while it must wait. -/
abbrev Effect := Packet → GpuJob → Dev → Option (GpuJob × Dev)

/-- The job halts at this packet. -/
def GpuJob.halted (j : GpuJob) (status : Nat) : GpuJob := { j with halt := some status }

/-- The packet at the job's position executes when it is the row's and nothing keeps the job; the position moves past it. -/
def Dev.packet (d : Dev) (o q op : Nat) (f : Effect) : Dev :=
  match (d.gq o q).jobs with
  | [] => d
  | j :: _ =>
    if !j.runs || j.atEnd || !d.gpuRuns then d
    else
      match d.fetchPacket o q j with
      | (.error _, _) => d
      | (.ok p, d') =>
        if p.op ≠ op then d
        else
          match f p { j with pc := j.pc + p.bytes } d' with
          | none => d
          | some (j', d') =>
            let j' := if j'.halt.isSome then { j' with packet := j.pc }
              else if j'.wait.isSome || j'.rodWait.isSome then j' else j'.norm
            d'.setHead o q j'

/-- The high dword of an address keeps its bits 31:8 zero. -/
def addrOk (v : Nat) : Bool := v < 2 ^ 40

/-- NOP. -/
def nopEffect : Effect := fun _ j d => some (j, d)

/-- SET_PIPELINE (R186). -/
def setPipelineEffect (o q : Nat) : Effect := fun p j d =>
  match d.pipeline o (p.pair 1) j.number with
  | none => some (j.halted 0x33, d)
  | some x => if (x.kind = 2) = (q = 1) then some ({ j with pipeline := p.pair 1 }, d) else some (j.halted 0x33, d)

/-- The rows of Table 7-7: first and last register. -/
def registerRows : List (Nat × Nat) :=
  [(0, 0x0F), (0x10, 0x11), (0x20, 0x25), (0x26, 0x27), (0x28, 0x28), (0x29, 0x2C), (0x40, 0x4F), (0x80, 0xBF)]

/-- SET_STATE (R139). -/
def setStateEffect : Effect := fun p j d =>
  let first := p.word 1 % 65536
  let vs := p.words.drop 1
  if p.word 1 ≥ 65536 ∨ !(registerRows.any (fun r => r.1 ≤ first && first + vs.length - 1 ≤ r.2)) then some (j.halted 0x32, d)
  else
    let regs := (vs.zip (List.range vs.length)).foldl (fun t x => tabSet 0 t (first + x.2) x.1) j.regs
    some ({ j with regs := regs }, d)

/-- CALL (Table 7-6): the called buffer runs, and the job's own goes on after it. -/
def callEffect : Effect := fun p j d =>
  let a := p.pair 1
  let len := p.word 3
  if j.called.isSome ∨ !(addrOk a) ∨ a % 64 ≠ 0 ∨ len % 4 ≠ 0 ∨ len < 4 ∨ 16777216 < len then some (j.halted 0x32, d)
  else some ({ j with called := some (a, len), back := j.pc, pc := 0 }, d)

/-- A packet that halted leaves its status in the job. -/
def halting (j : GpuJob) (m : Halted) : Option (GpuJob × Dev) :=
  match m with
  | (none, d) => some (j, d)
  | (some s, d) => some (j.halted s, d)

/-- The same of a draw or dispatch; one whose shader never ends does not complete. -/
def haltingShader (j : GpuJob) (m : Option Halted) : Option (GpuJob × Dev) := m.bind (halting j)

/-- A graphics packet needs a pipeline bound. -/
def withPipeline (o : Nat) (j : GpuJob) (d : Dev) (f : Pipeline → Option (GpuJob × Dev)) : Option (GpuJob × Dev) :=
  match d.pipeline o j.pipeline j.number with
  | none => some (j.halted 0x33, d)
  | some p => f p

/-- The vertices of a DRAW record. -/
def plainCall (count instances first firstInst : Nat) : DrawCall :=
  { vertices := (List.range count).map (fun i => first + i), instances := instances, firstInst := firstInst }

/-- DRAW. -/
def drawEffect (o : Nat) : Effect := fun p j d =>
  withPipeline o j d (fun x => haltingShader j (d.drawCall o j x (plainCall (p.word 1) (p.word 2) (p.word 3) (p.word 4))))

/-- The indices of a DRAW_INDEXED; one beyond the buffer is a free value. -/
def Dev.readIndices (d : Dev) (o base size limit first : Nat) : Nat → Except Nat (List Nat) × Dev
  | 0 => (.ok [], d)
  | n + 1 =>
    match d.readIndices o base size limit first n with
    | (.error e, d) => (.error e, d)
    | (.ok l, d) =>
      let off := (first + n) * size
      if limit < off + size then let (k, d) := d.nextFree; (.ok (l ++ [Config.freeNat k % 2 ^ (8 * size)]), d)
      else
        match d.gpuRead o (base + off) size with
        | (.ok b, d) => (.ok (l ++ [leNat b]), d)
        | (r, d) => (.error (gpuHalt r), d)

/-- DRAW_INDEXED. -/
def drawIndexedEffect (o : Nat) : Effect := fun p j d =>
  let base := p.pair 6 % 2 ^ 40
  if bits (p.word 7) 8 23 ≠ 0 then some (j.halted 0x32, d)
  else withPipeline o j d (fun x =>
    match d.readIndices o base (if (p.word 7).testBit 31 then 4 else 2) (p.word 8) (p.word 3) (p.word 1) with
    | (.error e, d) => some (j.halted e, d)
    | (.ok l, d) =>
      let vs := l.map (fun (i : Nat) => (((i : Int) + asSigned 32 (p.word 4)) % (2 ^ 32 : Int)).toNat)
      haltingShader j (d.drawCall o j x { vertices := vs, instances := p.word 2, firstInst := p.word 5 }))

/-- The records of a DRAW_INDIRECT, in order. -/
def Dev.drawRecords (d : Dev) (o : Nat) (j : GpuJob) (x : Pipeline) (base stride : Nat) : Nat → Option Halted
  | 0 => some (none, d)
  | n + 1 =>
    match d.drawRecords o j x base stride n with
    | none => none
    | some (some s, d) => some (some s, d)
    | some (none, d) =>
      match d.gpuRead o (base + n * stride) 16 with
      | (.ok b, d) => d.drawCall o j x (plainCall (field b 0 4) (field b 4 4) (field b 8 4) (field b 12 4))
      | (r, d) => some (some (gpuHalt r), d)

/-- DRAW_INDIRECT. -/
def drawIndirectEffect (o : Nat) : Effect := fun p j d =>
  if !(addrOk (p.pair 1)) ∨ p.word 4 % 4 ≠ 0 ∨ p.word 4 < 16 then some (j.halted 0x32, d)
  else withPipeline o j d (fun x => haltingShader j (d.drawRecords o j x (p.pair 1) (p.word 4) (p.word 3)))

/-- Workgroup counts start a dispatch; any 0 makes the packet do nothing. -/
def dispatchCounts (o : Nat) (j : GpuJob) (d : Dev) (x y z : Nat) : Option (GpuJob × Dev) :=
  if 65535 < x ∨ 65535 < y ∨ 65535 < z then some (j.halted 0x32, d)
  else withPipeline o j d (fun p => if x = 0 ∨ y = 0 ∨ z = 0 then some (j, d) else haltingShader j (d.dispatchCall o j p [x, y, z]))

/-- DISPATCH: it waits while compute is held off the cores (R161). -/
def dispatchEffect (o : Nat) : Effect := fun p j d =>
  if d.computeHeld o then none else dispatchCounts o j d (p.word 1) (p.word 2) (p.word 3)

/-- DISPATCH_INDIRECT. -/
def dispatchIndirectEffect (o : Nat) : Effect := fun p j d =>
  if d.computeHeld o then none
  else if !(addrOk (p.pair 1)) then some (j.halted 0x32, d)
  else
    match d.gpuRead o (p.pair 1) 12 with
    | (.ok b, d) => dispatchCounts o j d (field b 0 4) (field b 4 4) (field b 8 4)
    | (r, d) => some (j.halted (gpuHalt r), d)

/-- BAND_BEGIN (R155): it waits for a deferred swap of the band (R154). -/
def bandBeginEffect (o : Nat) : Effect := fun p j d =>
  let w := p.word 1
  let l := w % 64
  let b := bits w 8 8
  if w ≠ l + 256 * b ∨ j.band.isSome ∨ j.called.isSome ∨ 48 ≤ l then some (j.halted 0x32, d)
  else if !((d.band l).on) ∨ d.owner (blockId 2 l) ≠ o ∨ d.bandCount l ≤ b then some (j.halted 0x32, d)
  else if tabGet false (d.band l).deferred b then none
  else
    let d := if j.named.contains (l, b) then d.setBandPending l b (d.bandPending l b - 1) else d
    some ({ j with band := some (l, b), named := j.named.erase (l, b) }, d.setBandState l b 1)

/-- BAND_END: the write-back of the band's rows starts. -/
def bandEndEffect : Effect := fun _ j d =>
  if j.band.isNone then some (j.halted 0x32, d) else some ({ j with closing := true }, d)

/-- The bytes of a band's rows in its back buffer. -/
def Dev.inBand (d : Dev) (layer b addr : Nat) : Bool :=
  let (s, top, bottom) := d.bandTargetOf layer b
  match s.pts with
  | none => s.base + top * s.pitch ≤ addr && addr < s.base + bottom * s.pitch
  | some x =>
    let t0 := top / 8 * x.columns
    let t1 := ceilDiv bottom 8 * x.columns
    (x.slots + 256 * t0 ≤ addr && addr < x.slots + 256 * t1) || (x.headers + t0 ≤ addr && addr < x.headers + t1)

/-- The write-back of BAND_END is done: the band is Ready. -/
def Dev.bandWritten (d : Dev) (o q : Nat) : Dev :=
  match (d.gq o q).jobs with
  | [] => d
  | j :: _ =>
    match j.closing, j.band with
    | true, some (l, b) =>
      let d := d.writeBack o (d.inBand l b)
      let d := if d.bandState l b = 1 then d.setBandState l b 2 else d
      d.setHead o q { j with band := none, closing := false }
    | _, _ => d

/-- One row of a COPY packet. -/
def gpuCopyRow (o : Nat) (p : Packet) (m : Halted) (row : Nat) : Halted :=
  match m with
  | (some s, d) => (some s, d)
  | (none, d) =>
    let n := p.word 6
    let dst := p.pair 4 + row * p.word 9
    let got : MemRes × Dev :=
      if p.word 1 = 2 then (.ok ((List.range n).map (fun k => byteAt (leBytes 4 (p.word 2)) (k % 4))), d)
      else d.gpuRead o (p.pair 2 + row * p.word 8) n
    match got with
    | (.ok b, d) => let (ok, d) := d.gpuWrite o dst b; (if ok then none else some 0x31, d)
    | (r, d) => (some (gpuHalt r), d)

/-- COPY: linear, rectangle or fill. -/
def copyEffect (o : Nat) : Effect := fun p j d =>
  let mode := p.word 1
  if 2 < mode ∨ !(addrOk (p.pair 4)) ∨ (if mode = 2 then p.word 3 != 0 else !(addrOk (p.pair 2))) then some (j.halted 0x32, d)
  else halting j ((List.range (if mode = 0 then 1 else p.word 7)).foldl (gpuCopyRow o p) (none, d))

/-- The value of a fence has been reached: memory is read, not the L2. -/
def Dev.fenceReached (d : Dev) (o a v : Nat) : Except Nat Bool × Dev :=
  if !(gpuReach a 8) then (.error 0x31, d)
  else
    match d.memRead o a 8 with
    | (.ok b, d) => (.ok (decide (v ≤ leNat b)), d)
    | (r, d) => (.error (gpuHalt r), d)

/-- The job in hand of a queue, if it waits for a fence. -/
def Dev.fenceSatisfied (d : Dev) (o q : Nat) : Dev :=
  match (d.gq o q).jobs with
  | [] => d
  | j :: _ =>
    match j.wait with
    | none => d
    | some (a, v) =>
      match d.fenceReached o a v with
      | (.error e, d) => d.setHead o q { j.halted e with wait := none, packet := j.pc - 24 }
      | (.ok true, d) => (d.invalidateL2 o).setHead o q (GpuJob.norm { j with wait := none })
      | (.ok false, _) => d

/-- Every wait on an address is looked at again, at once after a FENCE_WRITE to it (R140). -/
def Dev.fenceWritten (d : Dev) (a : Nat) : Dev :=
  (d.gpu.parts.map (fun p => p.1)).foldl (fun d o => (List.range 4).foldl (fun d q =>
    match (d.gq o q).jobs with
    | j :: _ => if j.wait.any (fun w => w.1 == a) then d.fenceSatisfied o q else d
    | [] => d) d) d

/-- FENCE_WRITE (R140): write back, the fence record, then the post. -/
def fenceWriteEffect (o : Nat) : Effect := fun p j d =>
  let a := p.pair 1
  let w := p.word 5
  if !(addrOk a) ∨ a % 16 ≠ 0 ∨ bits w 11 20 ≠ 0 then some (j.halted 0x32, d)
  else
    let d := d.flushL2 o
    match d.gpuWrite o a (leBytes 8 (p.pair 3) ++ leBytes 8 d.clock.ns) with
    | (false, d) => some (j.halted 0x31, d)
    | (true, d) =>
      let d := (d.flushL2 o).fenceWritten a
      let s := w % 2048
      if !(w.testBit 31) then some (j, d)
      else if s ≠ 0xFFFF ∧ d.sourceFor o s then some (j, d.post s)
      else some ({ j.halted 0x35 with detail := abortAccess }, d)

/-- FENCE_WAIT (R140). -/
def fenceWaitEffect (o : Nat) : Effect := fun p j d =>
  let a := p.pair 1
  if !(addrOk a) ∨ a % 8 ≠ 0 then some (j.halted 0x32, d)
  else
    match d.fenceReached o a (p.pair 3) with
    | (.error e, d) => some (j.halted e, d)
    | (.ok true, d) => some (j, d.invalidateL2 o)
    | (.ok false, d) => some ({ j with wait := some (a, p.pair 3), timeout := p.word 5 != 0 }, d)

/-- BEAD_ARM (R141): the action word, then the bead word, as writes by the job's owner. -/
def beadArmEffect (o : Nat) : Effect := fun p j d =>
  let slot := p.word 1
  if 512 ≤ slot then some (j.halted 0x32, d)
  else
    let i := beadIndex slot
    let s := wordSub slot
    let who := initOf o
    match d.tryWrite who i (s + 1) (leBytes 8 (p.pair 4)) (actionWordVerdict slot (p.pair 4)) with
    | .error a => some ({ j.halted 0x35 with detail := a }, d)
    | .ok d =>
      match d.tryWrite who i s (leBytes 8 (p.pair 2)) (beadWordVerdict slot (p.pair 2)) with
      | .error a => some ({ j.halted 0x35 with detail := a }, d)
      | .ok d => some (j, d)

/-- A rod's position as a 64-bit value (R18). -/
def Dev.rodPosition (d : Dev) (r : Nat) : Nat := d.getO (rodIndex r) 0x03

/-- ROD_WAIT (R141). -/
def rodWaitEffect : Effect := fun p j d =>
  let r := p.word 1
  if 11 < r then some (j.halted 0x32, d)
  else if p.pair 2 ≤ d.rodPosition r then some (j, d)
  else some ({ j with rodWait := some (r, p.pair 2), timeout := p.word 4 != 0 }, d)

/-- TIMESTAMP (R141). -/
def timestampEffect (o : Nat) : Effect := fun p j d =>
  let a := p.pair 1
  if !(addrOk a) ∨ a % 16 ≠ 0 ∨ 11 < p.word 3 then some (j.halted 0x32, d)
  else
    let (ok, d) := d.gpuWrite o a (leBytes 8 d.clock.ns ++ leBytes 8 (d.rodPosition (p.word 3)))
    some (if ok then j else j.halted 0x31, d)

/-! ### Waits and halts -/

/-- A wait with a timeout passes it (R140, R141). -/
def Dev.waitTimeout (d : Dev) (o q : Nat) (fence : Bool) : Dev :=
  match (d.gq o q).jobs with
  | [] => d
  | j :: _ =>
    if j.timeout && (if fence then j.wait.isSome else j.rodWait.isSome) then
      d.setHead o q { j.halted 0x34 with wait := none, rodWait := none, packet := j.pc - (if fence then 24 else 20) }
    else d

/-- A rod's position has passed the one waited for. -/
def Dev.rodSatisfied (d : Dev) (o q : Nat) : Dev :=
  match (d.gq o q).jobs with
  | [] => d
  | j :: _ =>
    match j.rodWait with
    | some (r, v) => if v ≤ d.rodPosition r then d.setHead o q (GpuJob.norm { j with rodWait := none }) else d
    | none => d

/-- The status that ends the job in hand, if something does: a halt that a packet met, a packet that is invalid, or a band
left open at the end (R155). -/
def Dev.haltStatus (d : Dev) (o q : Nat) (j : GpuJob) : Option (GpuJob × Nat × Dev) :=
  match j.halt with
  | some s => some (j, s, d)
  | none =>
    if !j.runs then none
    else if j.atEnd then (if j.band.isSome then some (j, 0x32, d) else none)
    else
      match d.fetchPacket o q j with
      | (.error e, d) => some ({ j with packet := j.pc }, e, d)
      | (.ok _, _) => none

/-- A halt ends the job in hand, and the queue goes on with its next (R135). -/
def Dev.gpuHalts (d : Dev) (o q : Nat) : Dev :=
  match (d.gq o q).jobs with
  | [] => d
  | j :: _ =>
    if !j.started || j.held then d
    else
      match d.haltStatus o q j with
      | some (j, s, d) => d.endGpuJob o q j s
      | none => d

/-! ### The meanings -/

/-- GPU_JOB_HALT (R135, R137, R138). -/
def execGpuJobHalt (partition queue : Nat) (s : State) : Host.Outcome State Fault Refusal :=
  act (onQueue partition queue (fun d => d.gpuHalts partition queue)) s

/-- NOP. -/
def execNop (partition queue : Nat) (s : State) : Host.Outcome State Fault Refusal :=
  act (onQueue partition queue (fun d => d.packet partition queue 0x00 nopEffect)) s

/-- SET_PIPELINE. -/
def execSetPipeline (partition queue : Nat) (s : State) : Host.Outcome State Fault Refusal :=
  act (onQueue partition queue (fun d => d.packet partition queue 0x01 (setPipelineEffect partition queue))) s

/-- SET_STATE. -/
def execSetState (partition queue : Nat) (s : State) : Host.Outcome State Fault Refusal :=
  act (onQueue partition queue (fun d => d.packet partition queue 0x02 setStateEffect)) s

/-- CALL. -/
def execCall (partition queue : Nat) (s : State) : Host.Outcome State Fault Refusal :=
  act (onQueue partition queue (fun d => d.packet partition queue 0x03 callEffect)) s

/-- DRAW. -/
def execDraw (partition queue : Nat) (s : State) : Host.Outcome State Fault Refusal :=
  act (onQueue partition queue (fun d => d.packet partition queue 0x10 (drawEffect partition))) s

/-- DRAW_INDEXED. -/
def execDrawIndexed (partition queue : Nat) (s : State) : Host.Outcome State Fault Refusal :=
  act (onQueue partition queue (fun d => d.packet partition queue 0x11 (drawIndexedEffect partition))) s

/-- DRAW_INDIRECT. -/
def execDrawIndirect (partition queue : Nat) (s : State) : Host.Outcome State Fault Refusal :=
  act (onQueue partition queue (fun d => d.packet partition queue 0x12 (drawIndirectEffect partition))) s

/-- DISPATCH. -/
def execDispatch (partition queue : Nat) (s : State) : Host.Outcome State Fault Refusal :=
  act (onQueue partition queue (fun d => d.packet partition queue 0x18 (dispatchEffect partition))) s

/-- DISPATCH_INDIRECT. -/
def execDispatchIndirect (partition queue : Nat) (s : State) : Host.Outcome State Fault Refusal :=
  act (onQueue partition queue (fun d => d.packet partition queue 0x19 (dispatchIndirectEffect partition))) s

/-- BAND_BEGIN (R155). -/
def execBandBegin (partition queue : Nat) (s : State) : Host.Outcome State Fault Refusal :=
  act (onQueue partition queue (fun d => d.packet partition queue 0x20 (bandBeginEffect partition))) s

/-- BAND_END (R155). -/
def execBandEnd (partition queue : Nat) (s : State) : Host.Outcome State Fault Refusal :=
  act (onQueue partition queue (fun d => d.packet partition queue 0x21 bandEndEffect)) s

/-- BAND_WRITEBACK_DONE (R155). -/
def execBandWritebackDone (partition queue : Nat) (s : State) : Host.Outcome State Fault Refusal :=
  act (onQueue partition queue (fun d => d.bandWritten partition queue)) s

/-- COPY. -/
def execCopy (partition queue : Nat) (s : State) : Host.Outcome State Fault Refusal :=
  act (onQueue partition queue (fun d => d.packet partition queue 0x28 (copyEffect partition))) s

/-- FENCE_WRITE (R140). -/
def execFenceWrite (partition queue : Nat) (s : State) : Host.Outcome State Fault Refusal :=
  act (onQueue partition queue (fun d => d.packet partition queue 0x30 (fenceWriteEffect partition))) s

/-- FENCE_WAIT (R140). -/
def execFenceWait (partition queue : Nat) (s : State) : Host.Outcome State Fault Refusal :=
  act (onQueue partition queue (fun d => d.packet partition queue 0x31 (fenceWaitEffect partition))) s

/-- FENCE_WAIT_SATISFIED (R140). -/
def execFenceWaitSatisfied (partition queue : Nat) (s : State) : Host.Outcome State Fault Refusal :=
  act (onQueue partition queue (fun d => d.fenceSatisfied partition queue)) s

/-- FENCE_WAIT_TIMEOUT (R140). -/
def execFenceWaitTimeout (partition queue : Nat) (s : State) : Host.Outcome State Fault Refusal :=
  act (onQueue partition queue (fun d => d.waitTimeout partition queue true)) s

/-- BEAD_ARM (R141). -/
def execBeadArm (partition queue : Nat) (s : State) : Host.Outcome State Fault Refusal :=
  act (onQueue partition queue (fun d => d.packet partition queue 0x38 (beadArmEffect partition))) s

/-- ROD_WAIT (R141). -/
def execRodWait (partition queue : Nat) (s : State) : Host.Outcome State Fault Refusal :=
  act (onQueue partition queue (fun d => d.packet partition queue 0x39 rodWaitEffect)) s

/-- ROD_WAIT_SATISFIED (R141). -/
def execRodWaitSatisfied (partition queue : Nat) (s : State) : Host.Outcome State Fault Refusal :=
  act (onQueue partition queue (fun d => d.rodSatisfied partition queue)) s

/-- ROD_WAIT_TIMEOUT (R141). -/
def execRodWaitTimeout (partition queue : Nat) (s : State) : Host.Outcome State Fault Refusal :=
  act (onQueue partition queue (fun d => d.waitTimeout partition queue false)) s

/-- TIMESTAMP (R141). -/
def execTimestamp (partition queue : Nat) (s : State) : Host.Outcome State Fault Refusal :=
  act (onQueue partition queue (fun d => d.packet partition queue 0x3A (timestampEffect partition))) s

end Sys2Proof.Machine
end

