-- ==== Sys2Proof/Machine/RodAdvance.lean ====
section
/-! DEFINITION. The advance of a rod (02): the start of a line with everything that comes about inside it, in the order of
spec/95: the frame's own matters, fixed beads with the composition latch and timing changes, slot beads, beads fired early,
deferred swaps and the renderer's window; and the starts of a rod (R17 to R36, R72, R77, R104, R153, R205, R458). -/

namespace Sys2Proof.Machine

/-! ### Tallies (R33) -/

/-- The tallies of the device: index, units, stride, subindexes. -/
def tallyTable : List (Nat × Nat × Nat × List Nat) := [
  (0x2100, 1, 1, [4, 5, 6]), (0x2203, 8, 16, [1, 2, 3, 4, 5]), (0x2204, 8, 16, [1]), (0x2205, 8, 16, [3]),
  (0x2300, 1, 1, [4, 5]), (0x2301, 8, 1, [9]), (0x2310, 48, 1, [6, 7]), (0x2340, 32, 1, [2]),
  (0x2400, 1, 1, [3, 4]), (0x2401, 32, 1, [5]), (0x2500, 1, 1, [8, 9]), (0x2501, 16, 1, [4]),
  (0x2511, 96, 1, [7, 8, 9, 0x14, 0x1C, 0x24, 0x2C]), (0x2580, 48, 1, [0x0C, 0x0D, 0x0E, 0x12]),
  (0x25B0, 1, 1, [3, 4]), (0x25C0, 1, 1, [5, 6]), (0x2600, 1, 1, [7, 8]),
  (0x2601, 8, 1, [0x24, 0x25, 0x26, 0x27, 0x28, 0x29, 0x2C]), (0x2610, 8, 1, [0x22]), (0x2700, 1, 1, [8, 9]),
  (0x2701, 8, 1, [0x0B, 0x0C, 0x0D, 0x0E, 0x0F, 0x10])] ++ [
  (0x2800, 1, 1, [5, 6, 7, 8, 9]), (0x2801, 32, 1, [0x1A, 0x1B]), (0x2831, 12, 1, [0x16, 0x17, 0x18]),
  (0x2840, 2, 1, [0x0B, 0x0C]), (0x2900, 1, 1, [9]), (0x2901, 2, 1, [8, 9, 0x0A, 0x0B]),
  (0x2910, 64, 1, [7, 8, 9, 0x0A, 0x0B, 0x0C, 0x0E, 0x0F]),
  (0x2950, 64, 1, (List.range 8).map (fun r => 0x16 + 16 * r)), (0x2A00, 1, 1, [5, 8, 9]), (0x2A01, 1, 1, [3]),
  (0x2A02, 1, 1, [3]), (0x2A10, 32, 1, [4]), (0x2A30, 16, 1, [4]), (0x2B00, 1, 1, [5, 6, 7, 8, 9]),
  (0x2C00, 1, 1, [0x10, 0x11, 0x12]), (0x2C02, 8, 1, [5]), (0x2C10, 16, 1, [4, 5]), (0x2C20, 32, 1, [5])] ++ [
  (0x2D00, 1, 1, [6, 7, 9, 0x0A, 0x0B, 0x0C, 0x0D, 0x0E]), (0x2D10, 32, 1, [4, 5, 6]),
  (0x2D31, 1, 1, (List.range 11).map (· + 1)), (0x2D40, 1, 1, [3]), (0x2E00, 1, 1, [2, 3, 4]),
  (0x2E01, 8, 1, [0x15, 0x16]), (0x2F00, 1, 1, [5, 6]), (0x2F20, 8, 1, (List.range 128).map (· + 1)),
  (0x3000, 1, 1, [6, 7, 8, 9, 0x0C]), (0x3100, 1, 1, [4, 9, 0x0A]), (0x3101, 8, 1, [9]), (0x3110, 16, 1, [6]),
  (0x3200, 1, 1, [0x10, 0x11, 0x12, 0x13, 0x14]), (0x3300, 1, 1, [0x12]), (0x3400, 1, 1, [0x0D, 0x0F, 0x10])]

/-- The object is a tally. -/
def isTally (i j : Nat) : Bool :=
  tallyTable.any (fun t => t.1 ≤ i && (i - t.1) % t.2.2.1 == 0 && (i - t.1) / t.2.2.1 < t.2.1 && t.2.2.2.contains j)

/-- The owner of the block that a tally belongs to; none for a tally of the device. -/
def Dev.tallyOwner (d : Dev) (i j : Nat) : Option Nat :=
  if 0x2301 ≤ i ∧ i ≤ 0x2308 then some (d.owner (blockId 1 (i - 0x2301)))
  else if 0x2501 ≤ i ∧ i ≤ 0x2510 then some (d.owner (blockId 6 (i - 0x2501)))
  else if 0x2511 ≤ i ∧ i ≤ 0x2570 then some (partitionOwner i)
  else if 0x2910 ≤ i ∧ i < 0x2950 then some (d.owner (blockId 9 (i - 0x2910)))
  else if 0x2950 ≤ i ∧ i < 0x2990 then some (d.owner (blockId 9 (i - 0x2950)))
  else (objBlock i j).map d.owner

/-- Action 09h (R33): the live value of every tally of the owner's blocks is copied to its frozen value; the island's bead
copies every tally. -/
def Dev.freezeTallies (d : Dev) (owner : Nat) : Dev :=
  let taken (key : Nat) : Bool :=
    let i := key / 256
    let j := key % 256
    isTally i j && (owner == 0 || d.tallyOwner i j == some owner)
  let kept := d.frozen.filter (fun p => !(taken p.1))
  { d with frozen := (d.objs.filter (fun p => taken p.1)).foldl (fun t p => tabSet 0 t p.1 p.2) kept }

/-! ### Beads firing (R26, R30, R32) -/

/-- The frame meets the frame condition of a bead word (Table 2-3). -/
def frameMeets (w frame : Nat) : Bool :=
  match beadFcond w with
  | 1 => frame % (beadFarg w / 256 % 256 + 1) == beadFarg w % 256
  | 2 => (frame % 2 ^ 32 + 2 ^ 32 - beadFarg w) % 2 ^ 32 < 2 ^ 31
  | _ => true

/-- Action 08h (R458): the ball is low from now, until `width` starts of a line of the bead's rod have come. -/
def Dev.startPulse (d : Dev) (rod ball width : Nat) : Dev :=
  { d with abacus := { d.abacus with
      pulses := d.abacus.pulses ++ [{ ball := ball, rod := rod, lines := width }]
      syncLow := setBits d.abacus.syncLow ball 1 1 } }

/-- A bead of a slot delivers its action (Table 2-4); `band` is the band of a series bead's derived firing. -/
def Dev.deliver (d : Dev) (slot rod a : Nat) (band : Option Nat) : Dev :=
  let g := argOf a
  match actionOf a with
  | 1 => d.post g
  | 2 => d.scanStart (g % 8) (g.testBit 8)
  | 3 => d.hapticArrive (g % 8) g
  | 5 => d.bandDeadline (g % 64) (band.getD (g / 256))
  | 6 => d.preempt (g % 64) (band.getD (g / 256))
  | 7 => d.sampleStream (g % 32) (d.getO (rodIndex rod) 3)
  | 8 => d.startPulse rod (g % 2) (g / 256)
  | 9 => d.freezeTallies (d.owner (blockId 10 slot))
  | _ => d

/-- The derived line of a band for a series bead's action (R153), counted from line 0 of the frame that it serves; a negative
one lies in the frame before. -/
def Dev.derivedLine (d : Dev) (layer act b : Nat) : Int :=
  (d.bandTarget layer b : Int) - (d.getO (bandIndex layer) 8 : Nat)
    - (if act = 6 then d.getO (bandIndex layer) 9 else 0 : Nat)

/-- The derived firings of a series bead on the lines that `hit` names, and those owed: one for each band and frame that meets
the frame condition (R153). A negative line counts from the VTOTAL of the timing in force; the lines that a lock adds lie
above it, and for those that it removes R25 holds. -/
def Dev.fireSeries (d : Dev) (slot r w a frame : Nat) (hit : Nat → Bool) : Nat × Dev :=
  let layer := argOf a % 64
  let act := actionOf a
  (List.range (d.bandCount layer)).foldl (fun acc b =>
    let d := acc.2
    let x := d.band layer
    let key := (slot, act, b)
    let line := d.derivedLine layer act b
    let now := decide (0 ≤ line) && frameMeets w frame && hit line.toNat && !(x.done.contains key)
    let next := decide (line < 0) && frameMeets w (frame + 1) && hit ((d.rodVtotal r : Int) + line).toNat
      && !(x.ahead.contains key)
    if now || next || x.owed.contains key then
      let d := d.setBandLayer layer { x with
        done := if now then key :: x.done else x.done
        ahead := if next then key :: x.ahead else x.ahead
        owed := x.owed.erase key }
      (acc.1 + 1, d.deliver slot r a (some b))
    else acc) (0, d)

/-- A one-shot bead that fires loses its EN in the same cycle, when the pair that fired is the present one (R30). -/
def Dev.disarm (d : Dev) (slot w : Nat) (present : Bool) : Dev :=
  if present && 2 ≤ beadFcond w then
    d.setO (beadIndex slot) (wordSub slot) (setBits (d.beadWord slot) 63 1 0)
  else d

/-- A pair of words of a slot against the lines that `hit` names: how many firings came of it, and the device after them. -/
def Dev.firePair (d : Dev) (slot r frame : Nat) (hit : Nat → Bool) (w a : Nat) (present : Bool) : Nat × Dev :=
  if !(beadEn w) || beadRod w != r then (0, d)
  else if isSeries a then d.fireSeries slot r w a frame hit
  else if hit (beadLine w) && frameMeets w frame then
    let d := (d.disarm slot w present).deliver slot r a none
    (1, if 56 ≤ slot ∧ slot < 64 then d.armClick (slot - 56) else d)
  else (0, d)

/-- The pairs of a slot that govern the line about to start (R29): earlier ones, and the present one unless it came too
late; the last component says which is present. -/
def Dev.governing (d : Dev) (slot : Nat) : List (Nat × Nat × Bool) :=
  let b := d.bead slot
  b.old.map (fun p => (p.1, p.2, false)) ++ (if b.fresh then [] else [(d.beadWord slot, d.actionWord slot, true)])

/-- Every slot in ascending order (R30). -/
def Dev.fireSlots (d : Dev) (r frame : Nat) (hit : Nat → Bool) : Nat × Dev :=
  d.slots.foldl (fun acc slot => (acc.2.governing slot).foldl (fun acc p =>
    let (n, d) := acc.2.firePair slot r frame hit p.1 p.2.1 p.2.2
    (acc.1 + n, d)) acc) (0, d)

/-- Once rod `r` has started a line, the earlier pairs on it are spent, and present pairs on it govern its next line. -/
def Dev.linePassed (d : Dev) (r : Nat) : Dev :=
  d.abacus.beads.foldl (fun d p =>
    d.setBead p.1 { old := p.2.old.filter (fun q => beadRod q.1 != r)
                    fresh := p.2.fresh && beadRod (d.beadWord p.1) != r }) d

/-- Beads fired before their lines, counted in 2100h/05h (R25, R35). -/
def Dev.fireEarly (d : Dev) (r frame : Nat) (hit : Nat → Bool) : Nat × Dev :=
  let (n, d) := d.fireSlots r frame hit
  (n, d.countBy 0x2100 5 n)

/-! ### The start of a frame -/

/-- The trim slews to 0 after a lock has ended (Table 2-2), by the slew limit of each frame. -/
def Dev.trimFrame (d : Dev) (r : Nat) : Dev :=
  let t := d.getI (rodIndex r) 0x12 32
  let s : Int := (100 * d.getO (rodIndex r) 0x0F : Nat)
  let t' := if (d.rod r).slewing then (if 0 ≤ t then max 0 (t - s) else min 0 (t + s)) else t
  let d := d.setI (rodIndex r) 0x12 32 t'
  d.setRod r { d.rod r with trimAt := t', slewing := (d.rod r).slewing && t' != 0 }

/-- A free rod takes the VTOTAL and the line period that have been written (R21). -/
def Dev.freeFrame (d : Dev) (r : Nat) : Dev :=
  let v := d.getO (rodIndex r) 6
  let d := if v = (d.rod r).freeVtotal then d else d.moveBeads r v
  d.setRod r { d.rod r with freeVtotal := v, freePeriod := d.getO (rodIndex r) 7 }

/-- A derived firing still lies ahead once the beads of `line` have fired: for the frame being counted, or for the next. -/
def derivedAhead (vtotal : Nat) (line derived : Int) (next : Bool) : Bool :=
  if next then decide (0 ≤ derived ∨ line < vtotal + derived) else decide (line < derived)

/-- A change of lead, margin or timing since `was` leaves behind the line of a firing that had not been made: it is owed, and
made with the beads of the next line (DESIGN CHOICE, assumption log 28). `line` is the last line of rod `n` whose beads have
fired. -/
def Dev.oweBands (d : Dev) (n : Nat) (line : Int) (was : Dev) : Dev :=
  d.slots.foldl (fun d slot =>
    let w := d.beadWord slot
    let a := d.actionWord slot
    let layer := argOf a % 64
    let act := actionOf a
    if !(beadEn w) || !(isSeries a) || beadRod w != n || outputOf layer != n then d
    else (List.range (d.bandCount layer)).foldl (fun d b =>
      let x := d.band layer
      let key := (slot, act, b)
      let lost (next : Bool) : Bool :=
        derivedAhead (was.rodVtotal n) line (was.derivedLine layer act b) next
          && !(derivedAhead (d.rodVtotal n) line (d.derivedLine layer act b) next)
          && frameMeets w (d.rodFrame n + if next then 1 else 0)
      if lost false && !(x.done.contains key) then
        d.setBandLayer layer { x with done := key :: x.done, owed := x.owed ++ [key] }
      else if lost true && !(x.ahead.contains key) then
        d.setBandLayer layer { x with ahead := key :: x.ahead, owed := x.owed ++ [key] }
      else d) d) d

/-- The values in use of an output's band layers follow the lead and margin taken and the VTOTAL in force. -/
def Dev.formBands (d : Dev) (n : Nat) : Dev :=
  (List.range 6).foldl (fun d k =>
    let i := bandIndex (6 * n + k)
    let x := d.band (6 * n + k)
    if fitLead (d.rodVtotal n) x.lead x.margin = (d.getO i 8, d.getO i 9) then d
    else d.bandValues (6 * n + k) x.lead x.margin) d

/-- An output's band layers take what has been written (R151): at line 0 the lead, before the beads of that line; after the
beads of each line the margin, which so holds from one line after the write at the earliest. -/
def Dev.bandLines (d : Dev) (n : Nat) (lead : Bool) (line : Int) : Dev :=
  let d' := (List.range 6).foldl (fun d k =>
    let layer := 6 * n + k
    let x := d.band layer
    let l := if lead then d.getO (bandIndex layer) 5 else x.lead
    let m := if lead then x.margin else d.getO (bandIndex layer) 6
    if (l, m) = (x.lead, x.margin) then d else d.setBandLayer layer { x with lead := l, margin := m }) d
  let d' := d'.formBands n
  let inUse (d : Dev) : List (Nat × Nat) :=
    (List.range 6).map (fun k => (d.getO (bandIndex (6 * n + k)) 8, d.getO (bandIndex (6 * n + k)) 9))
  if inUse d' = inUse d then d' else d'.oweBands n line d

/-- At line 0 the firings made ahead are those of the frame that starts. -/
def Dev.bandFrames (d : Dev) (n : Nat) : Dev :=
  (List.range 6).foldl (fun d k =>
    let x := d.band (6 * n + k)
    if x.done.isEmpty && x.ahead.isEmpty then d
    else d.setBandLayer (6 * n + k) { x with done := x.ahead, ahead := [] }) d

/-- The first output since boot to reach Active: the time since VIN became good, of which the part before the device clock began
is a free value (3100h/08h, R407). -/
def Dev.firstPixel (d : Dev) : Dev :=
  if d.power.shownFirst then d
  else
    let (k, d) := d.nextFree
    (d.setPower { d.power with shownFirst := true }).setO 0x3100 8 (d.clock.ns / 1000 + Config.freeNat k)

/-- An output at line 0: its pipe restarts, its halted channels fetch again, and Active begins where R72 lets it. -/
def Dev.outputFrame (d : Dev) (n : Nat) : Dev :=
  let d := d.pipeRestarts n
  let d := (List.range 6).foldl (fun d k =>
    let layer := 6 * n + k
    let d := if (d.layer layer).haltLine.isSome then d.setLayer layer { d.layer layer with haltLine := none } else d
    if d.layerState layer = 3 then d.setLayerState layer 2 else d) d
  let d := d.setOutput n { d.output n with underrun := false }
  let d := if d.outState n = 4 ∧ (d.output n).showFrom ≤ d.rodFrame n then (d.setOutState n 5).firstPixel else d
  (d.bandFrames n).bandLines n true (-1)

/-- Line 0 (R17): the frame count has risen; the frame's lines, its time, and what belongs to a frame start. It is the
reference event of the rods locked to this one (R22), here and on the paired device. -/
def Dev.startFrame (d : Dev) (r : Nat) : Dev :=
  let d := if 8 ≤ r then d.freeFrame r else d
  let x := d.rod r
  let d := d.setI (rodIndex r) 0x14 8 x.extra
  let d := d.setRod r { x with extra := x.next, next := 0 }
  let d := d.setO (rodIndex r) 5 (((d.rodVtotal r : Nat) : Int) + x.next).toNat
  let d := (d.setO (rodIndex r) 4 d.clock.ns).trimFrame r
  let d := if r < 8 then d.outputFrame r else d
  let d := (d.lockedTo (0x10 + r)).foldl (fun d f => d.leaderEvent d.clock.ns (d.rodFrame r) f) d
  d.sendMark r

/-! ### Timing changes (R34, R35, R36) -/

/-- A timing takes effect at a latch: beads move, band lines are formed again, and the list is checked again. -/
def Dev.takeTiming (d : Dev) (n : Nat) (set : List Nat) : Dev :=
  let d := (d.putTiming n set).setOutput n { d.output n with apply := none }
  let d := d.setO (outputIndex n + 1) 0x10 0
  ((d.moveBeads n (d.rodVtotal n)).formBands n).recheckList n

/-- The pending timing when the latch of this frame takes it. -/
def Dev.dueTiming (d : Dev) (n : Nat) : Option (List Nat) :=
  let x := d.output n
  if x.applyFrom ≤ d.rodFrame n then x.apply else none

/-- A seamless change (R34): the frame now ends at the new VTOTAL, with the lines that its lock has added or removed. -/
def Dev.changeSeamless (d : Dev) (n : Nat) (set : List Nat) : Dev :=
  let d := (d.takeTiming n set).oweBands n ((d.force n 6 : Int) - 1) d
  let extra := max (d.rod n).extra (1 - ((d.force n 7 : Nat) : Int))
  let d := d.setRod n { d.rod n with extra := extra }
  d.setO (rodIndex n) 5 (((d.rodVtotal n : Nat) : Int) + extra).toNat

/-- Any other change (R35): the beads of the rest of the frame fire at once, in line order, and the rod holds until the PLL
has relocked. A disable that runs meets no frame any more, and ends (R79). -/
def Dev.changeFull (d : Dev) (n : Nat) (set : List Nat) : Nat × Dev :=
  let frame := d.rodFrame n
  let lines := d.rodLines n
  let first := d.force n 6 + 1
  let (fired, d) := (List.range (max lines (d.rodVtotal n) - first)).foldl (fun acc k =>
    let (n', d') := acc.2.fireEarly n frame (fun l => l == first + k)
    (acc.1 + n', d')) (0, d)
  let d := (d.takeTiming n set).stopRod n
  let d := d.setRod n { d.rod n with relock := true, extra := 0, next := 0 }
  (fired, (d.setOutput n { d.output n with line := [] }).endDisable n)

/-! ### The start of a line -/

/-- Pulses that a rod times count a line start (R458). -/
def Dev.pulseLine (d : Dev) (r : Nat) : Dev :=
  { d with abacus := { d.abacus with pulses := d.abacus.pulses.map (fun (p : Pulse) =>
      if p.rod = r then { p with lines := p.lines - 1 } else p) } }

/-- What leaves the port on the line that starts (Table 4-3): composed pixels in Active, black in Active-black, nothing
otherwise; while the pipe is being reset, its last pixel. Only Active fetches layers. -/
def Dev.showLine (d : Dev) (n line : Nat) : Dev :=
  let st := d.outState n
  let d := if st = 5 && line < d.force n 6 && !(d.output n).pipeFault then d.fetchLine n line else d
  let x := d.output n
  let out : List Nat :=
    if d.force n 6 ≤ line ∨ st < 4 ∨ st = 6 then []
    else if st = 4 then List.replicate (d.force n 2) 0
    else if x.pipeFault then List.replicate (d.force n 2) (x.line.getLast?.getD 0)
    else d.composeLine n (d.rodFrame n) line
  if out.isEmpty ∧ x.pipeFault then d
  else d.setOutput n { x with line := out, lineUnder := false, lastPixel := x.line.getLast?.getD x.lastPixel }

/-- The fixed beads of a line (R27, R205): the latch, and in Keep-alive the slow scans that the rod paces. -/
def Dev.fixedBeads (d : Dev) (r line : Nat) : Dev :=
  let d := if r < 8 ∧ line = d.force r 6 ∧ 1 ≤ d.outState r then d.latch r (d.rodFrame r) else d
  if line = 0 ∧ d.power.phase = .keepAlive then
    ((List.range 8).filter (fun p => d.pan p 0x0E == r && d.rodFrame r % max 1 (d.pan p 0x0F) == 0)).foldl
      (fun d p => d.slowScan p) d
  else d

/-- What comes about at the start of a line, once the position has been set. `late` firings come after the bound (R30). -/
def Dev.lineStarts (d : Dev) (r late : Nat) : Dev :=
  let line := d.rodLine r
  let frame := d.rodFrame r
  let d := (d.setRod r { d.rod r with lineAt := d.clock.ns }).scanLine r
  let d := if line = 0 then d.startFrame r else d
  let d := if r < 8 then d.showLine r line else d
  let timing := if r < 8 ∧ line = d.force r 6 then d.dueTiming r else none
  let full := match timing with | some set => !(d.seamless r (fun j => set.getD (j - 1) 0)) | none => false
  let d := d.fixedBeads r line
  let d := match timing with | some set => if full then d else d.changeSeamless r set | none => d
  let lines := d.rodLines r
  let (fired, d) := d.fireSlots r frame (fun l => l == line)
  let d := d.linePassed r
  let (early, d) := match timing with
    | some set => if full then d.changeFull r set else (0, d)
    | none =>
      if line + 1 = lines ∧ lines < d.rodVtotal r then d.fireEarly r frame (fun l => line < l) else (0, d)
  let d := d.countBy 0x2100 6 (min late (fired + early))
  if r < 8 then
    let d := (d.deferredSwaps r line).bandLines r false line
    if line = d.force r 6 + 1 then d.renderWindow r else d
  else d

/-- A rod starts line 0 of a new frame, one after the count it held (R19, R20, R35): state Free, and every pair of words on
it governs from here (R29). -/
def Dev.startRod (d : Dev) (r : Nat) : Dev :=
  let d := (d.setPosition r ((d.rodFrame r + 1) % 2 ^ 48) 0).setRodState r 1
  let d := (d.lockFresh r).setRod r { d.rod r with
    extra := 0, next := 0, slewing := false, relock := false, good := 0, near := 0, far := 0, beyond := 0 }
  (d.linePassed r).lineStarts r 0

/-- The next line of a running rod. At the end of a frame a disable that runs ends (R79), and Off stops the rod. -/
def Dev.nextLine (d : Dev) (r late : Nat) : Dev :=
  if !(d.rodRuns r) then d
  else
    let d := d.pulseLine r
    let line := d.rodLine r + 1
    if line < d.rodLines r then (d.setPosition r (d.rodFrame r) line).lineStarts r late
    else
      let d := if r < 8 then (d.drawEnds r (d.rodLines r)).endDisable r else d
      if d.rodRuns r then (d.setPosition r ((d.rodFrame r + 1) % 2 ^ 48) 0).lineStarts r late else d

/-- The run object of a free rod (R20). -/
def Dev.freeRun (d : Dev) (r v : Nat) : Dev :=
  let d := d.setO (rodIndex r) 8 v
  if v = 0 then d.stopRod r else if d.rodRuns r then d else d.startRod r

/-- Pixel PLL `n` is locked (R69, R35, Table 4-3): an output on its way out of Off shows Standby and follows its request; for
a rod held for a relock the port trains (R72), and the rod starts again. In a stopped domain no PLL locks (R19). -/
def Dev.pllLocked (d : Dev) (n hz : Nat) : Dev :=
  if d.pixelStopped n then d
  else if (d.output n).locking then
    let d := d.setO (outputIndex n + 2) 0x0F hz
    let d := (d.setOutput n { d.output n with locking := false }).setOutState n 1
    ((d.startRod n).followRequest n).offerList n
  else if (d.rod n).relock then ((d.setO (outputIndex n + 2) 0x0F hz).relockState n).startRod n
  else d

/-! ### The meanings -/

/-- ROD_ADVANCE_LINE (R17). -/
def execRodAdvanceLine (rod late : Nat) (s : State) : Host.Outcome State Fault Refusal :=
  act (onUnit rod 12 (fun d => d.nextLine rod late)) s

/-- FREE_RUN_WRITE (R20). -/
def execFreeRunWrite (who : Init) (rod value : Nat) (s : State) : Host.Outcome State Fault Refusal :=
  actServed (onUnit rod 12 (fun d => d.request who (rodIndex rod) 8 (numData (rodIndex rod) 8 value)
    (fun d => .ok (d.freeRun rod value)))) s

/-- PIXEL_PLL_LOCKED (R69). -/
def execPixelPllLocked (output reachedHz : Nat) (s : State) : Host.Outcome State Fault Refusal :=
  act (onUnit output 8 (fun d => if d.awake then d.pllLocked output reachedHz else d)) s

end Sys2Proof.Machine
end

