-- ==== Sys2Proof/Machine/Store.lean ====
section
/-! DEFINITION. The persistent store (03: R62, R63, R451): the snapshot of a save, its end, what a restore drops, and the load
at boot or at "reset communication". An image holds what differs from the defaults (assumption log 11). Its slots are bytes
of the flash. -/

namespace Sys2Proof.Machine

/-! ### Ranges (R62) -/

/-- An index belongs to the range of a subindex of 1010h and 1011h. -/
def inRange (range i : Nat) : Bool :=
  let comm := (0x1000 ≤ i && i ≤ 0x1FFF) || i == 0x2001
  let app := 0x2000 ≤ i && i ≤ 0x34FF
  match range with
  | 1 => comm || app
  | 2 => comm
  | 3 => app
  | _ => false

/-- The store keeps the object (R62). -/
def isStored (key : Nat) : Bool :=
  match objRow (key / 256) (key % 256) with
  | some r => r.stored
  | none => false

/-- A restore has taken the index out of the store (R62). -/
def Kept.dropped (k : Kept) (i : Nat) : Bool := (k.noComm && inRange 2 i) || (k.noApp && inRange 3 i)

/-! ### Images (R63) -/

/-- Where a slot of the store lies (Table 23-1), and its size. -/
def storeSize : Nat := 0x100000
def storeBase (slot : Nat) : Nat := 0x47800000 + slot * storeSize

/-- An entry of the body (Table 3-11): index, subindex, reserved, length, value, padded to 4 bytes. -/
def storeEntry (i j : Nat) (v : List Byte) : List Byte :=
  leBytes 2 i ++ leBytes 1 j ++ zeroBytes 1 ++ leBytes 4 v.length ++ v ++ zeroBytes ((4 - v.length % 4) % 4)

/-- Owners stand in one entry of index 0000h, which no object has: block identifier and owner code, three bytes a block
(DESIGN CHOICE, assumption log 11). -/
def ownerEntries (owners : Tab Nat) : List Byte := owners.flatMap (fun p => leBytes 2 p.1 ++ leBytes 1 p.2)

/-- The body of an image: the entries that differ from the defaults (assumption log 11), numbers in the width of their type. -/
def StoreImage.body (x : StoreImage) : List Byte :=
  (if x.owners.isEmpty then [] else storeEntry 0 0 (ownerEntries x.owners))
    ++ x.objs.flatMap (fun p => storeEntry (p.1 / 256) (p.1 % 256)
        (leBytes (((objRow (p.1 / 256) (p.1 % 256)).bind (fun r => r.ty.size)).getD 8) p.2))
    ++ x.blobs.flatMap (fun p => storeEntry (p.1 / 256) (p.1 % 256) p.2)

/-- The entries of a body: key and value. -/
def storeEntries : Nat → List Byte → List (Nat × List Byte)
  | 0, _ => []
  | fuel + 1, b =>
    if b.length < 8 then []
    else
      let n := field b 4 4
      (256 * field b 0 2 + field b 2 1, (b.drop 8).take n) :: storeEntries fuel (b.drop (8 + n + (4 - n % 4) % 4))

/-- An object that holds bytes, not a number. -/
def holdsBytes (key : Nat) : Bool :=
  match objRow (key / 256) (key % 256) with
  | some r => r.ty.size.isNone
  | none => false

/-- The image that a body describes. -/
def imageOf (gen : Nat) (body : List Byte) : StoreImage :=
  let es := storeEntries body.length body
  let owners := (es.filter (fun p => p.1 == 0)).flatMap (fun p =>
    (List.range (p.2.length / 3)).map (fun k => (field p.2 (3 * k) 2, field p.2 (3 * k + 2) 1)))
  let rest := es.filter (fun p => p.1 != 0)
  { generation := gen, owners := owners
    objs := (rest.filter (fun p => !(holdsBytes p.1))).map (fun p => (p.1, leNat p.2))
    blobs := rest.filter (fun p => holdsBytes p.1) }

/-- The slot with the newest valid image, and the image (R63). -/
def Dev.newestImage (d : Dev) : Option (Nat × StoreImage) :=
  (d.newestBlock (storeBase 0) storeSize).map (fun p => (p.1, imageOf p.2.1 p.2.2))

/-- The entries of a bank that a predicate keeps, with those of another bank added. -/
def mergeTab {α : Type} (old new : Tab α) : Tab α := new.foldl (fun t p => tabInsert p.1 p.2 (tabDrop p.1 t)) old

/-- The snapshot of a save (R62): the stored objects of its range as they stand, the other ranges as the newest image has
them, and nothing of a range that a restore has taken out. 1014h is always listed, since its default follows the node ID. -/
def Dev.snapshot (d : Dev) (range : Nat) (old : StoreImage) : StoreImage :=
  let takes (key : Nat) : Bool := inRange range (key / 256) && isStored key && !(d.kept.dropped (key / 256))
  let keeps (key : Nat) : Bool := !(inRange range (key / 256)) && !(d.kept.dropped (key / 256))
  let own := range == 1 || range == 3
  let objs := mergeTab (old.objs.filter (fun p => keeps p.1)) (d.objs.filter (fun p => takes p.1))
  let emcy := objKey 0x1014 0
  { generation := (old.generation + 1) % 2 ^ 32
    objs := if takes emcy then tabInsert emcy (d.getO 0x1014 0) (tabDrop emcy objs) else objs
    blobs := mergeTab (old.blobs.filter (fun p => keeps p.1)) (d.blobs.filter (fun p => takes p.1))
    owners := if d.kept.noApp then [] else if own then d.iso.owners else old.owners }

/-! ### Saving and restoring (R62, R63) -/

/-- A write of the save signature: the snapshot is taken now, and goes to the slot that does not hold the newest valid image:
its body, then its header but for the commit word (R62, R63). -/
def storeVerdict (range : Nat) (d : Dev) : Verdict :=
  if d.power.saving.isSome then .error abortState
  else
    let (slot, old) := match d.newestImage with
      | some (s, x) => (1 - s, x)
      | none => (0, {})
    let x := d.snapshot range old
    let save : Saving :=
      { range := range, slot := slot, generation := x.generation, dropComm := d.kept.noComm, dropApp := d.kept.noApp }
    .ok (((d.beginBlock (storeBase slot) storeSize x.generation x.body).setPower
      { d.power with saving := some save }).setO 0x2000 9 1)

/-- A write of the load signature: from the next save or boot the store keeps nothing for the range. -/
def restoreVerdict (range : Nat) (d : Dev) : Verdict :=
  let comm := range == 1 || range == 2
  let app := range == 1 || range == 3
  let d := d.setKept { d.kept with noComm := d.kept.noComm || comm, noApp := d.kept.noApp || app }
  let again (x : Saving) : Saving := { x with dropComm := x.dropComm && !comm, dropApp := x.dropApp && !app }
  .ok (d.setPower { d.power with saving := d.power.saving.map again })

/-- The request that started a save gets its answer (R50, R62): through its window, or on its CAN port. -/
def Dev.saveAnswer (d : Dev) (x : Saving) (abort : Nat) : Dev :=
  let d := { d with answer := { abort := abort } }
  match x.path with
  | some (.window w) =>
    let v := d.window w
    if v.busy then d.setWindow w { v with result := some { abort := abort } } else d
  | some (.can p) => if d.portOpen p then d.send (.usdo p 0x1010 x.range abort []) else d
  | none => d

/-- A save has its commit word written, or flash has not confirmed it (R63). -/
def Dev.saveEnds (d : Dev) (confirmed : Bool) : Dev :=
  match d.power.saving with
  | none => d
  | some x =>
    let slot := x.slot
    let d := d.setPower { d.power with saving := none }
    if confirmed then
      let d := d.sealBlock (storeBase slot) x.generation
      let d := d.setKept { d.kept with noComm := d.kept.noComm && !x.dropComm, noApp := d.kept.noApp && !x.dropApp }
      let d := (((d.setO 0x2000 7 slot).setO 0x2000 8 x.generation).setO 0x2000 9 0)
      ({ d with can := { d.can with saveFailed := false } }).saveAnswer x 0
    else
      let d := d.setO 0x2000 9 2
      let d := { d with can := { d.can with saveFailed := true } }
      (d.emergency 0xFF07 0x99 0x9801 0xFF 0xFF [x.range, slot]).saveAnswer x abortSave

/-! ### Loading (R63, R451) -/

/-- An image without what a restore has taken out. -/
def Kept.strip (k : Kept) (x : StoreImage) : StoreImage :=
  { x with
    objs := x.objs.filter (fun p => !(k.dropped (p.1 / 256)))
    blobs := x.blobs.filter (fun p => !(k.dropped (p.1 / 256)))
    owners := if k.noApp then [] else x.owners }

/-- The next boot has come after a restore: both slots lose what it has taken out (R62). -/
def Dev.purgeStore (d : Dev) : Dev :=
  if !(d.kept.noComm || d.kept.noApp) then d
  else
    let k := d.kept
    let d := [0, 1].foldl (fun d s => match d.blockAt (storeBase s) storeSize with
      | some (g, b) => (d.beginBlock (storeBase s) storeSize g (k.strip (imageOf g b)).body).sealBlock (storeBase s) g
      | none => d) d
    d.setKept { k with noComm := false, noApp := false }

/-- One stored value is loaded: one that this firmware does not store, or that fails its range check, gives way to the default,
and an event is logged. A Letterbox source starts inactive (Table 15-5). -/
def Dev.loadValue (d : Dev) (key v : Nat) : Dev :=
  let i := key / 256
  let j := key % 256
  match objRow i j with
  | some r =>
    let n := (r.ty.size).getD 8
    if r.stored && v < 256 ^ n && r.range.holds n v then
      let d := d.setO i j (if 0x2B10 ≤ i ∧ i ≤ 0x2B1F then setBits v 60 2 0 else v)
      -- 2710h + c/08h follows the model (Table 11-6)
      if 0x2710 ≤ i ∧ i ≤ 0x2717 ∧ (j = 3 ∨ j = 4) then d.setResonance (i - 0x2710) else d
    else d.log 0x04 0x9802 0xFF 0xFF [i, j]
  | none => d.log 0x04 0x9802 0xFF 0xFF [i, j]

/-- A stored string or DOMAIN is loaded. -/
def Dev.loadBytes (d : Dev) (key : Nat) (v : List Byte) : Dev :=
  if isStored key then d.setB (key / 256) (key % 256) v else d.log 0x04 0x9802 0xFF 0xFF [key / 256, key % 256]

/-- A stored owner is loaded. -/
def Dev.loadOwner (d : Dev) (id o : Nat) : Dev :=
  if blockExists id && ownerCodeOk o then d.setOwner id o else d.log 0x04 0x9803 0xFF 0xFF [id, o]

/-- The load at boot (R63). -/
def Dev.loadStore (d : Dev) : Dev :=
  let d := d.purgeStore
  match d.newestImage with
  | none => d
  | some (slot, x) =>
    let d := (d.setO 0x2000 7 slot).setO 0x2000 8 x.generation
    let d := x.objs.foldl (fun d p => d.loadValue p.1 p.2) d
    let d := x.blobs.foldl (fun d p => d.loadBytes p.1 p.2) d
    x.owners.foldl (fun d p => d.loadOwner p.1 p.2) d

/-- Reset communication (R55): 1000h to 1FFFh and 2001h come from the store, or from their defaults where a restore has taken
them out; the strap value and what boot showed of the node stay. -/
def Dev.loadComm (d : Dev) : Dev :=
  let keep (key : Nat) : Bool := !(inRange 2 (key / 256)) || (key / 256 == 0x2001 && (key % 256 == 1 || key % 256 == 3))
  let d := { d with objs := d.objs.filter (fun p => keep p.1), blobs := d.blobs.filter (fun p => keep p.1) }
  match d.newestImage with
  | none => d
  | some (_, x) =>
    (x.objs.filter (fun p => inRange 2 (p.1 / 256) && !(d.kept.dropped (p.1 / 256)))).foldl (fun d p => d.loadValue p.1 p.2) d

/-! ### The node starts (R55, R61) -/

/-- The effective node ID (R61). -/
def Dev.nodeId (d : Dev) : Nat := d.getO 0x2001 3

/-- The state byte of the heartbeat (CiA 1301). -/
def Nmt.code : Nmt → Nat
  | .initialisation => 0
  | .preOperational => 127
  | .operational => 5
  | .stopped => 4

/-- A heartbeat goes out on each port that takes part (R54). -/
def Dev.sendHeartbeat (d : Dev) (state : Nat) : Dev := d.sendPorts (fun p => .heartbeat p d.nodeId state)

/-- CANopen starts on a node ID (R61): the rates and ports of 2001h are in force, nothing has been heard, the COB-ID of the
EMCY follows the node unless the store gave one, and the boot-up message is sent. ID 0 does not start the node. The marks of
lost nodes and late RPDOs start anew, so conditions 8130h and 8250h end (DESIGN CHOICE, assumption log 20: Table 3-8 gives
no such end). -/
def Dev.startNode (d : Dev) (node : Nat) : Dev :=
  let d := d.setO 0x2001 3 node
  let listed := match d.newestImage with
    | some (_, x) => x.objs.any (fun p => p.1 == objKey 0x1014 0) && !(d.kept.dropped 0x1014)
    | none => false
  let d := if listed then d else d.setO 0x1014 0 (0x80 + node)
  let d := { d with can := { d.can with
    nmt := .preOperational, started := node != 0
    arbRate := d.getO 0x2001 4, dataRate := d.getO 0x2001 5, ports := d.getO 0x2001 6
    lost := [], heard := [], rpdoLate := [], rpdoHeld := [], tpdoSyncs := [], tpdoInhibit := [], tpdoWaits := [] } }
  if node = 0 then d.log 0x04 0x9804 0x00 0xFF [] else d.sendHeartbeat 0

/-- The node starts with the override of 2001h/02h, or the straps. -/
def Dev.canStart (d : Dev) : Dev :=
  let o := d.getO 0x2001 2
  d.startNode (if 1 ≤ o ∧ o ≤ 127 then o else d.getO 0x2001 1)

/-! ### The meanings -/

/-- STORE_PARAMETERS (R62). -/
def execStoreParameters (who : Init) (sub value : Nat) (s : State) : Host.Outcome State Fault Refusal :=
  actServed (fun d => d.request who 0x1010 sub (numData 0x1010 sub value) (storeVerdict sub)) s

/-- STORE_SAVE_COMPLETE (R63). -/
def execStoreSaveComplete (confirmed : Bool) (s : State) : Host.Outcome State Fault Refusal :=
  act (fun d => d.saveEnds confirmed) s

/-- RESTORE_DEFAULTS (R62). -/
def execRestoreDefaults (who : Init) (sub value : Nat) (s : State) : Host.Outcome State Fault Refusal :=
  actServed (fun d => d.request who 0x1011 sub (numData 0x1011 sub value) (restoreVerdict sub)) s

end Sys2Proof.Machine
end

