-- ==== Sys2Proof/Machine/Boot.lean ====
section
/-! DEFINITION. Reset and boot (23): what a reset leaves (R405), the checks of a boot image (R409), the boot sequence from the
release of the internal reset (R406, R407), the end of DRAM training (R408), and the in-service update (R411 to R413). -/

namespace Sys2Proof.Machine

/-! ### What a reset leaves (R405, R311, R412) -/

/-- The latch settings as the always-on domain holds them: what 2B02h/01h to /11h say while the logic runs. -/
def Dev.latchSettings (d : Dev) : Tab Nat :=
  if d.live then (List.range 17).foldl (fun t pin => tabSet 0 t pin (d.getO 0x2B02 (pin + 1))) [] else d.kept.latchSet

/-- A device address of the flash (R404). -/
def inFlash (key : Nat) : Bool := 0x40000000 ≤ key && key < 0x48000000

/-- All that is neither in the flash, nor in the fuses, nor in the always-on domain is lost; where power stays, the open debug
scope stays as well (R297). What the host drives PERST# to stays. -/
def Dev.lost (d : Dev) (phase : Phase) (pgood scope : Bool) : Dev :=
  { objs := d.objs.filter (fun p => scope && (p.1 == objKey 0x2A03 5 || p.1 == objKey 0x2A03 6))
    kept := { d.kept with latchSet := d.latchSettings }
    mem := d.mem.filter (fun p => inFlash p.1)
    hostMem := d.hostMem, sent := d.sent, free := d.free
    host := { perst := d.host.perst }
    power := { phase := phase, pgood := pgood, canWake := d.power.canWake } }

/-- A reset of the running or held part (Table 23-2): its cause is kept, and the boot counted. -/
def Dev.reset (d : Dev) (cause : Nat) (pgood : Bool) : Dev :=
  let d := d.lost .held pgood (cause == 3 || cause == 4)
  d.setKept { d.kept with cause := cause, boots := (d.kept.boots + 1) % 2 ^ 32 }

/-- Power-on: the always-on domain starts as well, and its counts and latches are empty. -/
def Dev.powerUp (d : Dev) : Dev :=
  let d := d.lost .held false false
  d.setKept { d.kept with cause := 1, boots := 1, shutdowns := 0, latched := [], latchSet := [(16, 5)] }

/-! ### The boot image (R409, Tables 23-5 to 23-7) -/

/-- A section entry. -/
structure Section where
  type   : Nat
  offset : Nat
  length : Nat
  hash   : List Byte
  deriving DecidableEq, Repr

def imageMax : Nat := 58720256

/-- The eight entries of the section table. -/
def sectionEntry (h : List Byte) (k : Nat) : List Byte := (h.drop (32 + 64 * k)).take 64

def sectionsOf (h : List Byte) : List Section :=
  (List.range (min 8 (field h 14 1))).map (fun k =>
    let e := sectionEntry h k
    { type := field e 0 1, offset := field e 4 4, length := field e 8 4, hash := (e.drop 16).take 48 })

/-- The most bytes of a section of a type; no other type exists. -/
def sectionMax (type : Nat) : Option Nat :=
  match type with
  | 1 => some (384 * 1024)
  | 2 => some (4 * 1024 * 1024)
  | 3 => some (1024 * 1024)
  | 4 => some (512 * 1024)
  | 5 => some (16 * 1024 * 1024)
  | 6 => some (16 * 1024 * 1024)
  | _ => none

/-- The reserved fields of the header and its section entries are 0. -/
def headerReserved (h : List Byte) : Bool :=
  field h 15 1 == 0 && field h 20 12 == 0 && field h 544 32 == 0
    && (List.range 8).all (fun k => let e := sectionEntry h k; field e 1 3 == 0 && field e 12 4 == 0)

/-- The layout of the sections (Table 23-6). -/
def layoutOk (h : List Byte) : Bool :=
  let n := field h 14 1
  let ss := sectionsOf h
  let total := field h 16 4
  1 ≤ n && n ≤ 8 && total ≤ imageMax && 768 ≤ total
    && (List.range 8).all (fun k => k < n || leNat (sectionEntry h k) == 0)
    && ss.all (fun x => (match sectionMax x.type with | some m => decide (x.length ≤ m) | none => false)
        && x.offset % 4096 == 0 && 4096 ≤ x.offset && x.offset + x.length ≤ total)
    && [1, 2, 4, 6].all (fun t => (ss.filter (fun x => x.type == t)).length == 1)
    && (List.range n).all (fun a => (List.range n).all (fun b =>
        match ss[a]?, ss[b]? with
        | some x, some y => a == b || x.offset + x.length ≤ y.offset || y.offset + y.length ≤ x.offset
        | _, _ => true))

/-- The key of an image is the one of its slot, which may boot (R294). -/
def Dev.keyOk (d : Dev) (h : List Byte) : Bool :=
  let k := field h 13 1
  k < 4 && (d.key k).boots && (d.key k).hash == sha384 ((h.drop 576).take 96)

/-- The check of a header, in the order of Table 23-7: the first code that fails. `readable` is the check of R411. -/
def Dev.headerFails (d : Dev) (h : List Byte) (readable : Bool) : Option Nat :=
  firstAbort [
    (!(field h 0 4 == 0x49385850 && field h 4 2 == 1 && field h 6 2 == 0x00B0 && headerReserved h), 0x10),
    (!(layoutOk h && readable), 0x19),
    (!(d.keyOk h), 0x14),
    (!(ecdsaVerifies ((h.drop 576).take 96) (h.take 672) ((h.drop 672).take 96)), 0x15),
    (decide (field h 12 1 < d.kept.fusedSec), 0x18)]

/-- The header in a firmware slot. -/
def Dev.slotHeader (d : Dev) (s : Nat) : List Byte := d.bytesAt (slotBase s) 768

/-- The section of a type in a slot. -/
def Dev.slotSection (d : Dev) (s type : Nat) : Option Section := (sectionsOf (d.slotHeader s)).find? (fun x => x.type == type)

/-- The bytes of a section. -/
def Dev.sectionBytes (d : Dev) (s : Nat) (x : Section) : List Byte := d.bytesAt (slotBase s + x.offset) x.length

/-- A section has its hash. -/
def Dev.sectionOk (d : Dev) (s : Nat) (x : Section) : Bool := sha384 (d.sectionBytes s x) == x.hash

/-- A slot passes the boot ROM: the header, then the island firmware and content sections (R409). -/
def Dev.slotBoots (d : Dev) (s : Nat) : Bool :=
  (d.headerFails (d.slotHeader s) true).isNone
    && [1, 2].all (fun t => match d.slotSection s t with | some x => d.sectionOk s x | none => false)

/-- The slots that failed, and the slot that boots (R409). -/
def Dev.bootSlot (d : Dev) : List Nat × Option Nat :=
  let p := d.bootControl.preferred
  if d.slotBoots p then ([], some p)
  else if d.fwSlot (1 - p) = 1 then
    (if d.slotBoots (1 - p) then ([p], some (1 - p)) else ([p, 1 - p], none))
  else ([p], none)

/-! ### The release of the internal reset (R406, R407) -/

/-- Step 3: the straps are sampled, and the fuses and the boot control block are read. -/
def Dev.sampled (d : Dev) (node role sel : Nat) : Dev :=
  let d := d.setPower { d.power with phase := .running, pgood := true }
  let d := ((d.setO 0x2001 1 node).setO 0x3200 2 role).setO 0x3300 3 sel
  let d := (d.setO 0x2A03 1 d.kept.lifecycle).setO 0x2A03 7 d.keyWord
  let d := d.setProt { d.prot with retired := d.savedRetired }
  let d := d.setO 0x2D40 1 d.savedRetired.length
  { d with dram := { d.dram with trained := false } }

/-- The spare ranks (R315): rank 15 first, then rank 13. -/
def Dev.bootRanks (d : Dev) : Dev :=
  let n := d.getO 0x2C00 3
  let d := (d.setO 0x2C00 4 n).setO 0x2C00 6 ((32 - 2 * n) * 1024)
  (d.setRank 15 (if 1 ≤ n then 1 else 0)).setRank 13 (if n = 2 then 1 else 0)

/-- Region 0 and the locked partition 0 (R386). -/
def Dev.bootRegion (d : Dev) : Dev :=
  let i := regionIndex 0 0
  let d := ((d.setO i 1 dramBase).setO i 2 (dramBase + 0x800000)).setO i 3 (2 ^ 31 + 2 ^ 30 + 2 ^ 7 + 2 ^ 3)
  d.setO 0x2C41 5 dramBase

/-- An output's staged set is its timing in force, applied as in Off: stored beads beyond it move (R36, R455). A set that R67
or R68 refuses gives way to the defaults. -/
def Dev.bootTiming (d : Dev) (n : Nat) : Dev :=
  let d := if linkFits (d.staged n) (d.trimPpm n) && timingValid (d.staged n) then d
    else (d.clearIndex (outputIndex n + 1) []).log 0x04 0x9802 0xFF n [outputIndex n + 1]
  let d := d.putTiming n (d.stagedSet n)
  d.moveBeads n (d.rodVtotal n)

/-- A unit whose stored enable is 0 starts disabled, and one whose stored enable is 1 starts enabled. -/
def Dev.bootEnables (d : Dev) : Dev :=
  let d := (List.range 48).foldl (fun d l => if d.getO (layerIndex l) 2 = 0 then d.setO (layerIndex l) 1 0 else d) d
  let d := (List.range 32).foldl (fun d c => if d.getO (copyIndex c) 2 = 0 then d.setChanState c 0 else d) d
  let d := ((List.range 128).filter partOk).foldl (fun d o => (List.range 4).foldl (fun d q =>
    if d.getO (partIndex o) (queueSub q 0) = 0 then d.setGqState o q 0 else d) d) d
  let d := (List.range 8).foldl (fun d n => if d.getO (ninesIndex n) 2 = 0 then d.setEngState n 0 else d) d
  let d := (List.range 8).foldl (fun d c => if d.hap c 2 = 1 then d.setO (hapticIndex c) 1 1 else d) d
  let d := (List.range 8).foldl (fun d p => if d.pan p 2 = 1 && d.panelFits p then d.enablePanel p else d) d
  let d := ((List.range 0x47).map (fun k => 0x2801 + k)).foldl (fun d i =>
    if !(hasEnable i) then d
    else if d.getO i 2 = 1 then (if 0x2842 ≤ i then d.enableAudio i else d)
    else d.setO i 1 (if i = 0x2840 ∨ i = 0x2841 then 6 else 0)) d
  (List.range 12).foldl (fun d s => d.recordStream s) d.busUse

/-- Pairing starts (R398). -/
def Dev.bootPairing (d : Dev) : Dev :=
  if d.getO 0x3200 1 = 0 then d
  else
    let node := d.getO 0x3200 3
    if node = 0 then d.log 0x94 0x9005 0x00 0xFF []
    else
      let d := d.setCourier { d.courier with enabled := true, mask := d.getO 0x3200 7, node := node }
      (d.setO 0x3200 9 1).setO 0x1016 1 (65536 * node + d.getO 0x3200 4)

/-- Lists and engines of the renderer as the store names them; an engine that the island does not own is asked for (R390), and
the list is checked (R386 to R388). -/
def Dev.bootRender (d : Dev) (n : Nat) : Dev :=
  let e := d.getO (listIndex n) 6
  let d := d.setRender n { list := d.getO (listIndex n) 1, engine := e }
  let d := if d.getO (listIndex n) 1 ≠ 0xFF ∧ e ≠ 0xFF ∧ d.owner (blockId 8 e) ≠ 0 then
      match handoverVerdict .island (65536 * blockId 8 e) d with
      | .ok d => d
      | .error _ => d
    else d
  d.bootList n

/-- Each port whose PERST# is deasserted starts Detect (R408). -/
def Dev.portsDetect (d : Dev) : Dev :=
  [0, 1].foldl (fun d p => if d.portExists p && tabGet false d.host.perst p then d.setO (portIndex p) 1 1 else d) d

/-- The profile that a stored request gives: Keep-alive and Sleep are not entered at boot. -/
def Dev.bootProfile (d : Dev) : Dev :=
  let v := d.getO 0x2002 1
  d.setO 0x2002 2 (if v ≤ 2 then v else 0)

/-- The island firmware of a slot is copied to a bank of the TCM (R407, R411). -/
def Dev.fillBank (d : Dev) (b s : Nat) : Dev :=
  match d.slotSection s 1 with
  | some x => d.putBytes (bankBase b) (d.sectionBytes s x)
  | none => d

/-- Steps 5 to 8 of Table 23-4 from firmware slot `s`: both pairs run from the first bank. -/
def Dev.bootNormal (d : Dev) (s : Nat) : Dev :=
  let d := ({ d with island := { d.island with slots := (s, s), banks := (0, 0) } }).fillBank 0 s
  let d := d.loadStore
  let d := (d.setO 0x2900 2 (d.getO 0x2900 1)).bootRanks.bootRegion
  -- in x8 mode port B is absent (Table 13-10)
  let d := if d.getO 0x2900 2 = 1 then d.setO 0x2902 1 6 else d
  let d := (List.range 8).foldl (fun d n => d.bootTiming n) d
  let d := d.bootEnables.bootPairing.canStart.portsDetect
  let d := (List.range 8).foldl (fun d n => d.bootRender n) d
  let d := [8, 9, 10, 11].foldl (fun d r =>
    let d := d.freeFrame r
    if d.getO (rodIndex r) 8 = 1 then d.startRod r else d) d
  (List.range 8).foldl (fun d n => d.followRequest n) d.bootProfile

/-- The recovery loader (R409): over CAN at the strapped node ID, 127 when the straps read 0. -/
def Dev.bootRecovery (d : Dev) : Dev :=
  let d := d.setPower { d.power with recovery := true }
  let n := d.getO 0x2001 1
  d.startNode (if n = 0 then 127 else n)

/-- The internal reset is released. -/
def Dev.released (d : Dev) (node role sel : Nat) : Dev :=
  let d := d.sampled node role sel
  let (bad, slot) := if sel = 0 then ([], none) else d.bootSlot
  let d := bad.foldl (fun d s => d.setSlot s 3) d
  let d := match slot with
    | some s => d.bootNormal s
    | none => d.bootRecovery
  bad.foldl (fun d s => d.log 0x99 0x9805 0xFF s [s]) d

/-! ### The end of DRAM training (R408) -/

/-- A DRAM region that the monitor creates. -/
def Dev.monitorRegion (d : Dev) (r base limit owner : Nat) : Dev :=
  let i := regionIndex 0 r
  ((d.setO i 1 base).setO i 2 limit).setO i 3 (2 ^ 31 + owner * 2 ^ 8 + (if owner = 0 then 2 ^ 7 + 2 ^ 3 else 2 ^ 7 + 2 ^ 5 + 2 ^ 3 + 2 ^ 1))

/-- A section is loaded to an address when it has its hash; otherwise it is not started, and an event names it. -/
def Dev.loadSection (d : Dev) (type addr : Nat) (start : Dev → Dev) : Dev :=
  match d.slotSection d.runningSlot type with
  | none => d
  | some x =>
    if d.sectionOk d.runningSlot x then
      let data := d.sectionBytes d.runningSlot x
      start (if dramBase ≤ addr then (d.memWrite 0 addr data).2 else d.putBytes addr data)
    else d.log 0x99 0x9902 0xFF type [type]

/-- DRAM training ends after `ms`: the monitor, the service-core firmware and the loader are loaded, and application cores 2 to
7 start at the loader's entry. A section that is not started leaves the cores that need it stopped. -/
def Dev.trainingEnds (d : Dev) (ms : Nat) : Dev :=
  if d.dram.trained || d.power.recovery then d
  else
    let d := { d with dram := { d.dram with trained := true } }
    let d := d.setO 0x3300 0x0E ms
    let d := d.setBootControl { d.bootControl with training := true }
    d.loadSection 4 0x02000000 (fun d =>
      let d := d.monitorRegion 1 (dramBase + 0x1000000) (dramBase + 0x2000000) 0x00
      let d := d.monitorRegion 2 (dramBase + 0x2000000) (dramBase + 0x3000000) 0x20
      let d := d.loadSection 5 (dramBase + 0x1000000) (fun d => d)
      d.loadSection 6 (dramBase + 0x2000000) (fun d =>
        [2, 3, 4, 5, 6, 7].foldl (fun d c => d.setCore c { d.core c with pc := dramBase + 0x2000000 }) d))

/-! ### In-service update (R411 to R413) -/

/-- The update state (Table 23-9). -/
def Dev.updateState (d : Dev) : Nat := d.getO 0x3300 8
def Dev.setUpdate (d : Dev) (v : Nat) : Dev := d.setO 0x3300 8 v

/-- The slot that an update writes: the one that does not run; slot A in recovery (R409, R412). -/
def Dev.updateSlot (d : Dev) : Nat := if d.power.recovery then 0 else 1 - d.runningSlot

/-- A transfer on 3300h/06h opens: the slot is marked empty. -/
def Dev.openImage (d : Dev) : Dev :=
  let s := d.updateSlot
  ((d.setPower { d.power with bankNew := s }).setSlot s 0).setUpdate 1

/-- An image may be opened (R412). -/
def Dev.imageOpens (d : Dev) : Bool := (d.updateState == 0 || d.updateState == 3) && d.running

/-- A segment is programmed as it arrives. -/
def Dev.programImage (d : Dev) (offset : Nat) (data : List Byte) : Dev :=
  d.putBytes (slotBase d.power.bankNew + offset) (data.take (imageMax - offset))

/-- The check of an image in a slot (Table 23-7): the first code that fails. -/
def Dev.imageFails (d : Dev) (s : Nat) : Option Nat :=
  let h := d.slotHeader s
  let readable := match d.slotSection s 1 with
    | some x => Config.readsState (d.sectionBytes s x)
    | none => false
  match d.headerFails h readable with
  | some c => some c
  | none => if (sectionsOf h).all (fun x => d.sectionOk s x) then none else some 0x17

/-- Verifying ends: the slot becomes valid, or stays empty. The recovery loader then resets the device. -/
def Dev.verified (d : Dev) : Dev :=
  if d.updateState ≠ 2 then d
  else
    let s := d.power.bankNew
    match d.imageFails s with
    | some c => (d.setUpdate 0).setO 0x3300 9 c
    | none =>
      let d := ((d.setSlot s 1).setUpdate 3).setO 0x3300 9 0
      if d.power.recovery then d.reset 3 true else d

/-- Commit (R413): the new slot is preferred, the other pair moves to the new bank through Loading, and the fused minimum
rises where 3300h/0Bh says so. -/
def Dev.commitUpdate (d : Dev) : Dev :=
  let s := d.power.bankNew
  let other := 1 - d.getO 0x3100 1
  let sec := field (d.slotHeader s) 12 1
  let raised := if d.getO 0x3300 0x0B = 1 then max d.kept.fusedSec sec else d.kept.fusedSec
  let d := (d.setKept { d.kept with fusedSec := raised }).setBootControl { d.bootControl with preferred := s }
  let d := if d.pairState other = 2 then d.setPairState other 5 else d
  d.setUpdate 0

/-- A write of the update command: 1 activate, 2 abandon, 3 commit (Table 23-9). -/
def updateVerdict (v : Nat) (d : Dev) : Verdict :=
  let st := d.updateState
  if v = 1 then
    (if st = 3 ∧ d.standby then .ok ((d.setPairState (1 - d.getO 0x3100 1) 5).setUpdate 4) else .error abortState)
  else if v = 2 then (if st = 3 then .ok ((d.setSlot d.power.bankNew 0).setUpdate 0) else .error abortState)
  else if st = 5 then .ok d.commitUpdate
  else .error abortState

/-- A pair ends Loading: in an update the other bank has the new firmware, and it goes on to Trial with a switch of cause 5,
where the service cores' firmware is loaded as well (R413); after a commit the pair is Standby on the new bank. -/
def Dev.loaded (d : Dev) : Dev :=
  let other := 1 - d.getO 0x3100 1
  if d.pairState other ≠ 5 then d
  else if d.updateState = 4 then
    let b := 1 - d.pairBank (1 - other)
    let d := (((d.fillBank b d.power.bankNew).setPairSlot other d.power.bankNew).setPairBank other b).setPairState other 2
    let d := (d.switchPair 5).setUpdate 5
    if d.dram.trained then d.loadSection 5 (dramBase + 0x1000000) (fun d => d) else d
  else ((d.setPairSlot other d.bootControl.preferred).setPairBank other (d.pairBank (1 - other))).setPairState other 2

/-! ### The meanings -/

/-- POWER_ON (R405, R407): whatever the phase, VIN has risen through the good threshold. -/
def execPowerOn (s : State) : Host.Outcome State Fault Refusal := actAlways (fun d => d.powerUp) s

/-- RESET_N_LOW (R405); out of Sleep, the exit's cause (Table 23-2). -/
def execResetNLow (s : State) : Host.Outcome State Fault Refusal :=
  actAlways (fun d => if d.power.phase = .sleep then d.reset 6 false else d.reset 2 d.power.pgood) s

/-- INTERNAL_RESET_RELEASE (R406, R407, R409). -/
def execInternalResetRelease (nodeStraps pairRole bootSel : Nat) (s : State) : Host.Outcome State Fault Refusal :=
  actAlways (fun d =>
    if d.power.phase = .held then d.released (nodeStraps % 128) (pairRole % 2) (bootSel % 2) else d) s

/-- SOFTWARE_RESET (R405). -/
def execSoftwareReset (who : Init) (value : Nat) (s : State) : Host.Outcome State Fault Refusal :=
  actServed (fun d => d.request who 0x3300 2 (numData 0x3300 2 value) (fun d => .ok (d.reset 3 true))) s

/-- BROWN_OUT (R405, R416). -/
def execBrownOut (s : State) : Host.Outcome State Fault Refusal := actAlways (fun d => d.reset 5 false) s

/-- DRAM_TRAINING_COMPLETE (R408). -/
def execDramTrainingComplete (timeMs : Nat) (s : State) : Host.Outcome State Fault Refusal :=
  act (fun d => d.trainingEnds timeMs) s

/-- VERIFYING_COMPLETE (R412). -/
def execVerifyingComplete (s : State) : Host.Outcome State Fault Refusal := act (fun d => d.verified) s

/-- UPDATE_ACTIVATE (R412). -/
def execUpdateActivate (who : Init) (s : State) : Host.Outcome State Fault Refusal :=
  actServed (fun d => d.request who 0x3300 7 (numData 0x3300 7 1) (updateVerdict 1)) s

/-- UPDATE_ABANDON (R412). -/
def execUpdateAbandon (who : Init) (s : State) : Host.Outcome State Fault Refusal :=
  actServed (fun d => d.request who 0x3300 7 (numData 0x3300 7 2) (updateVerdict 2)) s

/-- UPDATE_COMMIT (R413). -/
def execUpdateCommit (who : Init) (s : State) : Host.Outcome State Fault Refusal :=
  actServed (fun d => d.request who 0x3300 7 (numData 0x3300 7 3) (updateVerdict 3)) s

/-- LOADING_COMPLETE (R412, R413). -/
def execLoadingComplete (s : State) : Host.Outcome State Fault Refusal := act (fun d => d.loaded) s

/-- TRIAL_TIME_EXPIRY (R412). -/
def execTrialTimeExpiry (s : State) : Host.Outcome State Fault Refusal :=
  act (fun d => if d.updateState = 5 then d.commitUpdate else d) s

end Sys2Proof.Machine
end

