-- ==== Sys2Proof/Machine/Power.lean ====
section
/-! DEFINITION. Profiles, Keep-alive and Sleep (R13, R14, R64, R414, R415), the edge latches that end them (R311), thermal
step-down and the supply (R416), and the release of PERST# (R408). -/

namespace Sys2Proof.Machine

/-! ### Profiles (R13, R14, R64) -/

/-- The request for Full, Balanced or Cool that counts: 2002h/01h, or the one before a request for Keep-alive or Sleep. -/
def Dev.wantedProfile (d : Dev) : Nat := let v := d.getO 0x2002 1; if v ≤ 2 then v else d.power.last

/-- The profile in force is the lower of the request and the thermal ceiling. -/
def Dev.followProfile (d : Dev) : Dev :=
  if d.awake then d.setO 0x2002 2 (max d.wantedProfile (d.getO 0x2002 3)) else d

/-- A request to enter Cool, not requested before, while the running outputs exceed 2.4 Gpix/s (R14). A thermal ceiling of
Cool does not let it pass, for it would outlast the step-down. -/
def Dev.coolTooFast (d : Dev) (v : Nat) : Bool := v == 2 && d.wantedProfile != 2 && 2400000000 < d.pixelSum

/-- The same for a request that leaves Keep-alive: the outputs that it would start, by their requested states, exceed
2.4 Gpix/s. -/
def Dev.coolOnReturn (d : Dev) (v : Nat) : Bool :=
  v == 2 && d.wantedProfile != 2
    && decide (2400000000 < ((List.range 8).filter (fun n => d.wantState n != 0)).foldl (fun acc n => acc + d.force n 1) 0)

/-! ### Into Keep-alive and Sleep (R414, R415) -/

/-- Every GPU queue, copy channel and Nines engine is disabled, and every enable keeps its value. -/
def Dev.enginesStop (d : Dev) : Dev :=
  let d := ((List.range 128).filter partOk).foldl (fun d o => (List.range 4).foldl (fun d q => d.disableGq o q) d) d
  let d := (List.range 32).foldl (fun d c => d.disableChan c) d
  (List.range 8).foldl (fun d n => d.disableEngine n) d

/-- The disables still running at the end of the entry end. -/
def Dev.enginesStopped (d : Dev) : Dev :=
  let d := ((List.range 128).filter partOk).foldl (fun d o => (List.range 4).foldl (fun d q =>
    if d.gqState o q = 3 then d.gqDisabled o q else d) d) d
  let d := (List.range 32).foldl (fun d c => if d.chanState c = 3 then d.chanDisabled c else d) d
  (List.range 8).foldl (fun d n => if d.engState n = 6 then d.engDisabled n else d) d

/-- What the enables say holds again. -/
def Dev.enginesResume (d : Dev) : Dev :=
  let d := ((List.range 128).filter partOk).foldl (fun d o => (List.range 4).foldl (fun d q =>
    if d.gqState o q = 0 && d.getO (partIndex o) (queueSub q 0) = 1 then d.setGqState o q 1 else d) d) d
  let d := (List.range 32).foldl (fun d c =>
    if d.chanState c = 0 && d.getO (copyIndex c) 2 = 1 then d.setChanState c 1 else d) d
  (List.range 8).foldl (fun d n => if d.engState n = 0 && d.getO (ninesIndex n) 2 = 1 then d.setEngState n 1 else d) d

/-- Steps 1 to 3 of the entry, after a request `v` for Keep-alive or Sleep. -/
def Dev.enterKeepAlive (d : Dev) (v : Nat) : Dev :=
  let d := d.setPower { d.power with
    phase := .entering, enteredAt := d.clock.ns, toSleep := v == 4, later := none, wakeEdge := false
    last := d.wantedProfile }
  let d := d.setO 0x2002 1 v
  let d := (List.range 64).foldl (fun d i => if d.instancePresent i then d.startQuiesce i else d) d
  d.enginesStop.audioStops.hapticsOff

/-- A port idles after its current frame: its rod stops, and its layer records in force are kept (step 4). A disable that runs
ends first. -/
def Dev.outputIdles (d : Dev) (n : Nat) : Dev :=
  let d := match (d.output n).disable with
    | some target => d.takeDown n target
    | none => d
  let d := d.setOutput n { d.output n with locking := false, line := [], showFrom := 0 }
  let d := ((d.untrained n).setOutState n 0).stopRod n
  d.setRod n { d.rod n with relock := false }

/-- Steps 4 and 5, and the profile in force: Keep-alive. The free rods that pace the panels run (R205). -/
def Dev.beginKeepAlive (d : Dev) : Dev :=
  let d := (List.range 8).foldl (fun d n => d.outputIdles n) d.enginesStopped.audioStops.hapticsOff
  let d := ((d.linkGoesDown 0).linkGoesDown 1).courierStops
  let d := (d.setO 0x3300 0x11 ((d.clock.ns - d.power.enteredAt) / 1000)).count 0x3300 0x12
  let d := (d.setO 0x2002 2 3).setPower { d.power with phase := .keepAlive, enteredAt := d.clock.ns }
  (List.range 8).foldl (fun d p => if d.panelOn p then d.freeRun (d.pan p 0x0E) 1 else d) d

/-- The reference of every enabled panel is saved where R201 allows it; then every rail but the always-on domain's goes. -/
def Dev.fallAsleep (d : Dev) : Dev :=
  let d := (List.range 8).foldl (fun d p =>
    if !(d.panelOn p) then d
    else if d.mayStore p then d.storeReference p
    else d.log 0x32 0x3204 (d.owner (blockId 3 p)) p [p]) d
  let d := d.setPower { d.power with canWake := d.getO 0x3300 0x10 == 1 }
  d.lost .sleep false false

/-! ### Out of Keep-alive (R414) -/

/-- The domains start, the kept enables are restored, and the outputs follow steps 8 to 11 of Table 23-4; the request is `v`. -/
def Dev.leaveKeepAlive (d : Dev) (v : Nat) : Dev :=
  let slept := d.clock.ns - d.power.enteredAt
  let d := if d.prot.running then d.setProt { d.prot with started := d.prot.started + slept } else d
  let d := d.setPower { d.power with phase := .running, toSleep := false, later := none, wakeEdge := false }
  let d := (d.setO 0x2002 1 v).followProfile.enginesResume.audioResumes
  let d := if d.courier.enabled then d.setO 0x3200 9 1 else d
  let d := d.portsDetect
  (List.range 8).foldl (fun d n => d.followRequest n) d

/-- The entry has ended: a wake edge or a request that came meanwhile is acted on, and a request for Sleep goes on. -/
def Dev.entryEnds (d : Dev) : Dev :=
  if d.power.phase ≠ .entering then d
  else
    let d := d.beginKeepAlive
    let want := match d.power.later with
      | some (_, v) => v
      | none => if d.power.toSleep then 4 else 3
    if d.power.wakeEdge then d.leaveKeepAlive d.power.last
    else if want ≤ 2 then d.leaveKeepAlive want
    else if want = 4 then d.fallAsleep
    else d

/-! ### Requests (R64, R414) -/

/-- A request for Keep-alive or Sleep is refused now. -/
def Dev.keepAliveRefused (d : Dev) : Bool :=
  d.inProgress != 0 || (1 ≤ d.updateState && d.updateState ≤ 5)

/-- The initiators whose write ends Keep-alive. -/
def endsKeepAlive (who : Init) : Bool :=
  match who with
  | .island => true
  | .can _ => true
  | _ => false

/-- A write of the requested profile. -/
def profileVerdict (who : Init) (v : Nat) (d : Dev) : Verdict :=
  match d.power.phase with
  | .running =>
    if v ≤ 2 then (if d.coolTooFast v then .error abortState else .ok (d.setO 0x2002 1 v).followProfile)
    else if d.keepAliveRefused then .error abortState
    else .ok (d.enterKeepAlive v)
  | .entering =>
    if d.coolTooFast v then .error abortState else .ok (d.setPower { d.power with later := some (who, v) })
  | .keepAlive =>
    if v = 3 then .ok d
    else if v = 4 then .ok (d.setO 0x2002 1 4).fallAsleep
    else if !(endsKeepAlive who) || d.coolOnReturn v then .error abortState
    else .ok (d.leaveKeepAlive v)
  | _ => .error abortState

/-- A write of 2002h/01h by its path. -/
def Dev.requestProfile (d : Dev) (who : Init) (v : Nat) : Dev :=
  d.request who 0x2002 1 (numData 0x2002 1 v) (profileVerdict who v)

/-! ### Edge latches (R311) -/

/-- The settings of a latch, as the always-on domain holds them. -/
def Dev.latchWord (d : Dev) (pin : Nat) : Nat := tabGet 0 d.latchSettings pin

/-- A latch with WAKE ends Keep-alive or Sleep, or is remembered during the entry. -/
def Dev.wake (d : Dev) : Dev :=
  match d.power.phase with
  | .keepAlive => d.leaveKeepAlive d.power.last
  | .sleep => d.reset 6 false
  | .entering => d.setPower { d.power with wakeEdge := true }
  | _ => d

/-- An edge on a pin: 0 to 15 GPIO, 16 WAKE_IN. -/
def Dev.edge (d : Dev) (pin : Nat) (rising : Bool) : Dev :=
  let w := d.latchWord pin
  let d := if d.live then d.setO 0x2B02 0x12 (setBits (d.getO 0x2B02 0x12) pin 1 (if rising then 1 else 0)) else d
  if (rising && w.testBit 0) || (!rising && w.testBit 1) then
    let d := d.setKept { d.kept with latched := tabSet false d.kept.latched pin true }
    if w.testBit 2 then d.wake else d
  else d

/-- Some latch with WAKE is set. -/
def Dev.wakeLatched (d : Dev) : Bool :=
  (List.range 17).any (fun pin => tabGet false d.kept.latched pin && (d.latchWord pin).testBit 2)

/-! ### Thermal step-down (R14, R416) -/

def Dev.thermalStep (d : Dev) : Nat := d.getO 0x3400 7

/-- The highest profile that a step allows. -/
def stepCeiling (step : Nat) : Nat := min 2 step

/-- A step is taken: the ceiling shows, and the thermal source is posted. -/
def Dev.putStep (d : Dev) (step : Nat) : Dev :=
  (((d.setO 0x3400 7 step).setO 0x2002 3 (stepCeiling step)).followProfile).postNamed 0x3400 0x11

/-- One step down: its event records whether the limit of Cool holds. -/
def Dev.stepDown (d : Dev) : Dev :=
  let step := d.thermalStep + 1
  let fast := if stepCeiling step = 2 ∧ 2400000000 < d.pixelSum then 1 else 0
  ((d.putStep step).count 0x3400 0x0D).emergency 0x4210 0xA0 0xA001 0xFF 0xFF [step, fast]

/-- The step that a junction temperature calls for: the highest whose threshold it reaches. -/
def Dev.stepFor (d : Dev) (tenths : Int) : Nat :=
  [1, 2, 3].foldl (fun n k => if d.getI 0x3400 (7 + k) 16 ≤ tenths then k else n) 0

/-- The junctions are read, and DRAM may have reported its limit. -/
def Dev.heats (d : Dev) (logic analog : Int) (dramHot : Bool) : Dev :=
  let d := (d.setI 0x3400 5 16 logic).setI 0x3400 6 16 analog
  let report := dramHot && 0 < d.power.hotReports
  let d := if report then d.setPower { d.power with hotReports := 0 } else d
  let want := max (d.stepFor (max logic analog)) (if report then min 3 (d.thermalStep + 1) else 0)
  (List.range (want - d.thermalStep)).foldl (fun d _ => d.stepDown) d

/-- One step back. -/
def Dev.stepBack (d : Dev) : Dev :=
  let step := d.thermalStep
  if step = 0 then d else (d.putStep (step - 1)).log 0xA0 0xA002 0xFF 0xFF [step - 1]

/-! ### The supply (Table 23-10) -/

/-- VIN crosses a threshold. -/
def Dev.vinCrosses (d : Dev) (mv : Nat) : Dev :=
  let low := mv < 8800
  let high := 16500 < mv
  let wasLow := d.can.vinLow
  let wasHigh := d.can.vinHigh
  let d := d.setO 0x3400 1 mv
  let d := if d.getO 0x3400 2 = 0 ∨ mv < d.getO 0x3400 2 then d.setO 0x3400 2 mv else d
  let d := if d.getO 0x3400 3 < mv then d.setO 0x3400 3 mv else d
  let d := { d with can := { d.can with vinLow := low, vinHigh := high } }
  let d := if low && !wasLow then (d.count 0x3400 0x0F).emergency 0x3120 0xA1 0xA003 0xFF 0xFF [mv] else d
  let d := if high && !wasHigh then (d.count 0x3400 0x10).emergency 0x3110 0xA1 0xA004 0xFF 0xFF [mv] else d
  if 18000 < mv ∧ !d.power.overVolt then
    [0, 1, 2, 3].foldl (fun d s => d.stageFault s) (d.setPower { d.power with overVolt := true })
  else if mv < 17000 then d.setPower { d.power with overVolt := false }
  else d

/-! ### The meanings -/

/-- PROFILE_REQUEST (R13, R14, R64). -/
def execProfileRequest (who : Init) (value : Nat) (s : State) : Host.Outcome State Fault Refusal :=
  actServed (fun d => d.requestProfile who value) s

/-- KEEP_ALIVE_REQUEST (R414). -/
def execKeepAliveRequest (who : Init) (s : State) : Host.Outcome State Fault Refusal :=
  actServed (fun d => d.requestProfile who 3) s

/-- KEEP_ALIVE_ENTRY_COMPLETE (R414). -/
def execKeepAliveEntryComplete (s : State) : Host.Outcome State Fault Refusal := act (fun d => d.entryEnds) s

/-- KEEP_ALIVE_EXIT (R414): the request, a latch with WAKE that is set, or an approach on a panel of 3300h/0Fh. -/
def execKeepAliveExit (cause : WakeCause) (s : State) : Host.Outcome State Fault Refusal :=
  match cause with
  | .profile who value => actServed (fun d => if d.power.phase = .keepAlive ∧ value ≤ 2 then d.requestProfile who value else d) s
  | .wakeEdge => act (fun d => if d.wakeLatched then d.wake else d) s
  | .approach panel => act (onUnit panel 8 (fun d =>
      if d.power.phase = .keepAlive ∧ d.panelOn panel ∧ (d.getO 0x3300 0x0F).testBit panel ∧ (d.panel panel).approach then
        d.leaveKeepAlive d.power.last
      else d)) s

/-- SLEEP_REQUEST (R415). -/
def execSleepRequest (who : Init) (s : State) : Host.Outcome State Fault Refusal :=
  actServed (fun d => d.requestProfile who 4) s

/-- CAN_WAKE_PATTERN (R415). -/
def execCanWakePattern (port : Nat) (s : State) : Host.Outcome State Fault Refusal :=
  actAlways (onUnit port 2 (fun d => if d.power.phase = .sleep && d.power.canWake then d.reset 6 false else d)) s

/-- EDGE_LATCH_SET (R311): the latches are in the always-on domain. -/
def execEdgeLatchSet (pin : Nat) (rising : Bool) (s : State) : Host.Outcome State Fault Refusal :=
  actAlways (onUnit pin 17 (fun d => d.edge pin rising)) s

/-- THERMAL_STEP_DOWN (R416). -/
def execThermalStepDown (logicTenths analogTenths : Int) (dramHot : Bool) (s : State) : Host.Outcome State Fault Refusal :=
  act (fun d => d.heats logicTenths analogTenths dramHot) s

/-- THERMAL_RETURN_EXPIRY (R416). -/
def execThermalReturnExpiry (s : State) : Host.Outcome State Fault Refusal := act (fun d => d.stepBack) s

/-- THERMAL_SHUTDOWN (R405, R416). -/
def execThermalShutdown (s : State) : Host.Outcome State Fault Refusal :=
  act (fun d => let d := d.reset 4 d.power.pgood; d.setKept { d.kept with shutdowns := (d.kept.shutdowns + 1) % 2 ^ 32 }) s

/-- VIN_THRESHOLD_EVENT (R416). -/
def execVinThresholdEvent (millivolts : Nat) (s : State) : Host.Outcome State Fault Refusal :=
  act (fun d => d.vinCrosses millivolts) s

/-- PERST_DEASSERTION (R408): the port starts Detect, or does so once the part has booted or left Keep-alive. -/
def execPerstDeassertion (port : Nat) (s : State) : Host.Outcome State Fault Refusal :=
  actAlways (onUnit port 2 (fun d =>
    let d := { d with host := { d.host with perst := tabSet false d.host.perst port true } }
    if d.live && d.awake && d.portExists port && !(tabGet false d.host.linked port) then d.setO (portIndex port) 1 1 else d)) s

end Sys2Proof.Machine
end

