-- ==== Sys2Proof/Machine/Reads.lean ====
section
/-! DEFINITION. Reading the dictionary: the checks of a read (Table 3-2), the objects whose value follows from other state, the
bytes that a read returns, and the descriptor that a describe returns (R44, R45, R46, R50, R448). -/

namespace Sys2Proof.Machine

/-! ### Checks -/

/-- Checks 1 to 5 of a read: the first that fails. A DOMAIN is read by its own opcode. -/
def Dev.checkRead (d : Dev) (who : Init) (i j : Nat) (domain : Bool) : Option Nat :=
  match objRow i j with
  | none => if d.hasIndex i then some abortSub else some abortIndex
  | some r =>
    firstAbort [
      ((r.ty == .domain) != domain, abortCommand),
      (!(d.hasIndex i), abortIndex),
      (r.acc == .wo, abortWriteOnly),
      (!(initOk who && r.read.testBit (initBit who) && (!d.power.recovery || recoveryPath who)), abortAccess)]

/-! ### Numbers that follow from other state -/

/-- The state of both CAN ports (2001h/07h). -/
def Dev.portStates (d : Dev) : Nat :=
  let st (p : Nat) : Nat := if d.can.ports.testBit p then tabGet 0 d.can.portState p else 3
  st 0 + 4 * st 1

/-- The version in the header of a firmware slot. -/
def Dev.slotVersion (d : Dev) (s : Nat) : Nat := field (d.slotHeader s) 8 4

/-- A slot's state as 3300h/04h and /05h show it. -/
def Dev.slotShown (d : Dev) (s : Nat) : Nat :=
  if !d.power.recovery && s == d.runningSlot then 2 else d.fwSlot s

/-- The version of the running content (3100h/07h). -/
def Dev.contentShown (d : Dev) : Nat :=
  match d.slotSection d.runningSlot 2 with
  | some x => Config.contentVersion (d.sectionBytes d.runningSlot x)
  | none => 0

/-- The version of the other slot's image (3300h/0Dh); 0 when it is empty. -/
def Dev.otherVersion (d : Dev) : Nat :=
  let s := 1 - d.runningSlot
  if d.fwSlot s = 1 then d.slotVersion s else 0

/-- Entries of the chime directory that hold a chime. -/
def Dev.chimes (d : Dev) : Nat := ((List.range 64).filter (fun n => (d.chimeEntry n).2.1 != 0)).length

/-- Entry e's node is heard on port p: its last heartbeat there came within the entry's time (R57). Bit 2 (e - 1) + p of
2001h/08h. -/
def Dev.heardBits (d : Dev) : Nat :=
  (d.can.heard.filter (fun p => d.clock.ns + 1 - p.2 ≤ d.getO 0x1016 (p.1 / 2 + 1) % 65536 * 1000000)).foldl
    (fun m p => m + 2 ^ p.1) 0

/-- Identity, node and profiles. -/
def Dev.liveIdentity (d : Dev) (i j : Nat) : Option Nat :=
  if i = 0x1001 then some d.errorRegister
  else if i = 0x1018 ∧ j = 4 then some (leNat (uniqueIdBytes.take 4))
  else if i = 0x2000 ∧ j = 4 then some d.kept.boots
  else if i = 0x2000 ∧ j = 5 then some d.runningSlot
  else if i = 0x2000 ∧ j = 6 then some (d.slotVersion d.runningSlot)
  else if i = 0x2001 ∧ j = 7 then some d.portStates
  else if i = 0x2001 ∧ j = 8 then some d.heardBits
  else if i = 0x2100 ∧ j = 7 then some d.clock.ns
  else none

/-- Composition, bands, the GPU, touch and audio. -/
def Dev.liveGraphics (d : Dev) (i j : Nat) : Option Nat :=
  if i = 0x2300 ∧ j = 2 then some ((List.range 8).foldl (fun n k => n + d.getO (0x2301 + k) 1) 0)
  else if 0x2301 ≤ i ∧ i < 0x2309 then
    let n := i - 0x2301
    (if j = 2 then some (d.outForce n)
     else if j = 3 then some (d.outDemand d.comp.commits (d.force n) n)
     else if j = 7 then some (d.comp.commits.filter (fun c => c.output == n)).length
     else none)
  else if 0x2310 ≤ i ∧ i < 0x2340 ∧ j = 5 then some (d.layerDemand [] (d.force (outputOf (i - 0x2310))) (i - 0x2310))
  else if i = 0x2500 ∧ j = 4 then some d.gpuClock
  else if 0x2501 ≤ i ∧ i < 0x2511 ∧ j = 1 then some (d.owner (blockId 6 (i - 0x2501)))
  else if 0x2501 ≤ i ∧ i < 0x2511 ∧ j = 3 then some (d.tileSlotOf (i - 0x2501))
  else if 0x2511 ≤ i ∧ i < 0x2571 then
    let o := partitionOwner i
    (if j = 1 then some (d.coreMask o)
     else if j = 3 then some (if d.spillValid o then 1 else 0)
     else if j = 4 then some (d.l2Share o)
     else if j = 6 then some (d.partState o)
     else none)
  else if 0x2580 ≤ i ∧ i < 0x25B0 ∧ j = 0x0A then some (d.safeMargin (i - 0x2580))
  else if i = 0x25B0 ∧ j = 1 then some d.preemptionBound
  else if i = 0x2600 ∧ j = 3 then some d.slicesUsed
  else if 0x2620 ≤ i ∧ i < 0x2628 ∧ j = 6 then some (d.referenceMask (i - 0x2620))
  else if i = 0x2860 ∧ j = 1 then some d.chimes
  else none

/-- Isolation to the supply. -/
def Dev.liveSystem (d : Dev) (i j : Nat) : Option Nat :=
  if i = 0x2A01 ∧ j = 4 then some d.inProgress
  else if i = 0x2B00 ∧ j = 4 then some d.pendingNow
  else if i = 0x2C40 ∧ j = 3 then some d.freeWays
  else if 0x2D10 ≤ i ∧ i < 0x2D30 ∧ j = 1 then
    some (if attrEn (d.regAttr 0 (i - 0x2D10)) then d.regData (i - 0x2D10) else 0)
  else if 0x2D10 ≤ i ∧ i < 0x2D30 ∧ j = 2 then
    let r := i - 0x2D10
    some (if attrEn (d.regAttr 0 r) && attrCode (d.regAttr 0 r) != 2 then d.regBase 0 r + d.regData r else 0)
  else if i = 0x2D30 ∧ 1 ≤ j then some (Config.sramRepairs j)
  else if i = 0x3100 ∧ j = 7 then some d.contentShown
  else if i = 0x3200 ∧ j = 0x0B then some d.custodyBits
  else if i = 0x3300 ∧ j = 1 then some d.kept.cause
  else if i = 0x3300 ∧ j = 4 then some (d.slotShown 0)
  else if i = 0x3300 ∧ j = 5 then some (d.slotShown 1)
  else if i = 0x3300 ∧ j = 0x0C then some d.kept.fusedSec
  else if i = 0x3300 ∧ j = 0x0D then some d.otherVersion
  else if i = 0x3400 ∧ j = 4 then some (Config.inputPower d.clock.ns % 65536)
  else if i = 0x3400 ∧ j = 0x0E then some d.kept.shutdowns
  else if i = 0x5020 ∧ 1 ≤ j then some (d.getO (0x2610 + (j - 1)) 0x21)
  else none

/-- The value of a numeric object, but a mirror. -/
def Dev.numberOf (d : Dev) (i j : Nat) : Nat :=
  if i < 0x2200 then (d.liveIdentity i j).getD (d.getO i j)
  else if i < 0x2A00 then (d.liveGraphics i j).getD (d.getO i j)
  else (d.liveSystem i j).getD (d.getO i j)

/-- The value of a numeric object: a mirror 5030h/(k + 1) shows the object that 3121h/(k + 1) names (R391). -/
def Dev.readNumber (d : Dev) (i j : Nat) : Nat :=
  if i = 0x5030 ∧ 1 ≤ j then
    let name := d.getO 0x3121 j
    if name = 0 then 0 else d.numberOf (name / 65536) (name / 256 % 256)
  else d.numberOf i j

/-! ### Strings and DOMAINs -/

/-- The default content of a coefficient bank: the linear set (R93), as it is stored. -/
def linearBank : List Byte :=
  ((List.range 64).flatMap (fun p => [0, 0, 0, 1024 - 16 * p, 16 * p, 0, 0, 0].flatMap (fun (v : Nat) => leBytes 2 v)))
    ++ ((List.range 64).flatMap (fun p => [0, 1024 - 16 * p, 16 * p, 0].flatMap (fun (v : Nat) => leBytes 2 v)))

/-- Channels of a sink (Table 12-6). -/
def sinkChannels (s : Nat) : Nat := if s < 4 then 1 else if s < 6 then 2 else if s < 8 then 16 else 2

/-- The default biquads of a sink: each passes the signal through. -/
def passThrough (s : Nat) : List Byte :=
  (List.range (10 * sinkChannels s)).flatMap (fun _ => leBytes 4 0x3F800000 ++ zeroBytes 16)

/-- The default content of a string or a DOMAIN (R42). -/
def defaultBytes (i j : Nat) : List Byte :=
  if i = 0x1008 then [0x50, 0x61, 0x72, 0x6E, 0x6F, 0x73, 0x20, 0x50, 0x58, 0x38]
  else if i = 0x1009 then [0x42, 0x30]
  else if i = 0x100A then (List.range Config.softwareVersionLength).map Config.softwareVersion
  else if i = 0x2000 ∧ j = 1 then [0x48, 0x50, 0x58, 0x38, 0x2D, 0x31, 0x35, 0x32, 0x31]
  else if i = 0x2000 ∧ j = 3 then uniqueIdBytes
  else if 0x2310 ≤ i ∧ i < 0x2340 then zeroBytes (if j = 4 then 64 else 1024)
  else if 0x2340 ≤ i ∧ i < 0x2360 then linearBank
  else if 0x2580 ≤ i ∧ i < 0x25B0 then zeroBytes (if j = 0x0F then 32 else 64)
  else if 0x2620 ≤ i ∧ i < 0x2628 then zeroBytes (if j = 4 then 48 else if j = 5 then 8 else 0)
  else if 0x2801 ≤ i ∧ i ≤ 0x2820 then (List.range 16).flatMap (fun _ => leBytes 2 0x8000)
  else if 0x2831 ≤ i ∧ i ≤ 0x283C then passThrough (i - 0x2831)
  else if i = 0x2840 ∨ i = 0x2841 then windows0
  else if i = 0x2842 ∨ i = 0x2843 then zeroBytes 16
  else if i = 0x2A03 ∧ j = 3 then zeroBytes 16
  else if 0x2A41 ≤ i ∧ i ≤ 0x2A5F then zeroBytes 48
  else if 0x2A61 ≤ i ∧ i ≤ 0x2A6A then
    let n := [8, 48, 8, 8, 68, 16, 32, 8, 64, 512].getD (i - 0x2A61) 0
    if j = 1 then (List.range n).map (fun k => BitVec.ofNat 8 (owner0 (blockId (i - 0x2A60) k))) else zeroBytes n
  else if i = 0x2C00 then (List.range 128).map (fun e => BitVec.ofNat 8 (remapBoot 1 e))
  else if i = 0x2F02 then zeroBytes 32
  else if i = 0x2F04 then Config.codeCatalogue
  else if i = 0x3001 then zeroBytes 256
  else if i = 0x3120 then List.replicate 128 0xAA
  else if i = 0x3200 then zeroBytes (if j = 0x0C then 8 else 16)
  else if i = 0x5001 then zeroBytes 64
  else []

/-- Content that follows from other state. -/
def Dev.liveBytes (d : Dev) (i j : Nat) : Option (List Byte) :=
  if 0x2310 ≤ i ∧ i < 0x2340 ∧ j = 4 then some (d.layerRec (i - 0x2310))
  else if i = 0x2860 ∧ j = 2 then some (if d.chimes = 0 then [] else d.bytesAt chimeArea 768)
  else if 0x2A61 ≤ i ∧ i ≤ 0x2A6A then
    let c := i - 0x2A60
    let n := [8, 48, 8, 8, 68, 16, 32, 8, 64, 512].getD (c - 1) 0
    some ((List.range n).map (fun k =>
      BitVec.ofNat 8 (if j = 1 then d.owner (blockId c k) else (d.hand (blockId c k)).state)))
  else if i = 0x2C00 ∧ j = 0x0D then some d.remapTable
  else if i = 0x2D40 ∧ j = 2 then some (retiredBytes d.prot.retired)
  else if i = 0x2F03 then some d.logBytes
  else if i = 0x3001 ∧ j = 1 then some d.regOwners
  else if i = 0x3200 ∧ j = 0x0C then some ((List.range 8).map (fun n => BitVec.ofNat 8 (d.witness n)))
  else none

/-- The content of a string or a DOMAIN. -/
def Dev.readBytes (d : Dev) (i j : Nat) : List Byte :=
  match d.liveBytes i j with
  | some b => b
  | none => if d.hasB i j then d.getB i j else defaultBytes i j

/-! ### What a read and a describe return -/

/-- The bytes of an object's value, in the size of its type. -/
def Dev.valueOf (d : Dev) (i j : Nat) : List Byte :=
  match (objRow i j).bind (fun r => r.ty.size) with
  | some n => leBytes n (d.readNumber i j)
  | none => d.readBytes i j

/-- The bytes of an object's default. -/
def defaultOf (i j : Nat) : List Byte :=
  match (objRow i j).bind (fun r => r.ty.size) with
  | some n => leBytes n (if i = 0x1018 ∧ j = 4 then leNat (uniqueIdBytes.take 4) else objDefault i j)
  | none => defaultBytes i j

/-- ACC of a descriptor. -/
def Access.code : Access → Nat
  | .ro => 0
  | .rw => 1
  | .wo => 2
  | .const => 3

/-- The descriptor of an object (Table 3-6, WIN_DESC). -/
def ObjRow.desc (r : ObjRow) : Nat :=
  r.ty.code * 2 ^ 16 + r.acc.code * 2 ^ 14 + (if r.mappable then 2 ^ 13 else 0) + r.write * 2 ^ 8 + r.read

/-- The mirrors take the value of the objects that they name, for the TPDOs that carry them. -/
def Dev.refreshMirrors (d : Dev) : Dev :=
  (List.range 8).foldl (fun d k =>
    if d.getO 0x3121 (k + 1) = 0 then d.clearO 0x5030 (k + 1) else d.setO 0x5030 (k + 1) (d.readNumber 0x5030 (k + 1))) d

end Sys2Proof.Machine
end

