-- ==== Sys2Proof/Machine/Dictionary.lean ====
section
/-! DEFINITION. Writing the dictionary: for every object that may be written, what its owning chapter says of a write that has
passed checks 1 to 7 (R45, R46, R49, R56, R60, R391), and the write of any object by any path. -/

namespace Sys2Proof.Machine

/-! ### Communication objects (R56, R57, R60) -/

/-- Bytes that a mapping entry maps. -/
def entryBytes (e : Nat) : Nat := e % 256 / 8

/-- An entry names an object that can be mapped (R56); 0 is an empty entry. -/
def entryMaps (e : Nat) : Bool :=
  e == 0 || (match objRow (e / 65536) (e / 256 % 256) with
    | some r => r.mappable
    | none => false)

/-- The length of an entry is whole bytes, and suits the object (assumption log 23). -/
def entryLengthOk (e : Nat) : Bool :=
  e == 0 || (e % 8 == 0 && (match objRow (e / 65536) (e / 256 % 256) with
    | some r => (match r.ty.size with
        | some n => entryBytes e == n
        | none => 1 ≤ entryBytes e && entryBytes e ≤ (defaultBytes (e / 65536) (e / 256 % 256)).length)
    | none => false))

/-- The bytes of the first `n` entries of a mapping, with a new value in one of them. -/
def Dev.mappedBytes (d : Dev) (i n j v : Nat) : Nat :=
  (List.range n).foldl (fun acc k => acc + entryBytes (if k + 1 = j then v else d.getO i (k + 1))) 0

/-- The communication record of a mapping. -/
def commIndex (i : Nat) : Nat := i - 0x200

/-- The PDO of a communication record is valid: bit 31 of its COB-ID is 0. -/
def Dev.pdoValid (d : Dev) (i : Nat) : Bool := !((d.getO i 1).testBit 31)

/-- A write of a mapping: the count (/00h) or an entry. -/
def mappingVerdict (i j v : Nat) (d : Dev) : Verdict :=
  let n := if j = 0 then v else d.getO i 0
  match firstAbort [
    (j != 0 && !(entryMaps v), abortUnmappable),
    (j != 0 && !(entryLengthOk v), abortRange),
    (decide (64 < d.mappedBytes i n j v), abortTooLong),
    (d.pdoValid (commIndex i), abortState)] with
  | some a => .error a
  | none => .ok (d.setO i j v)

/-- A write of a COB-ID: while the PDO is valid only bit 31 may change. -/
def cobIdVerdict (i v : Nat) (d : Dev) : Verdict :=
  if d.pdoValid i ∧ v % 2 ^ 31 ≠ d.getO i 1 % 2 ^ 31 then .error abortState else .ok (d.setO i 1 v)

/-- Heartbeat consumer entry 1016h/e starts anew: its node is heard on no port, and is not lost. -/
def Dev.entryAnew (d : Dev) (e : Nat) : Dev :=
  { d with can := { d.can with
      lost := tabSet false d.can.lost e false
      heard := tabSet 0 (tabSet 0 d.can.heard (2 * (e - 1)) 0) (2 * (e - 1) + 1) 0 } }

/-- A write of a heartbeat consumer entry: entry 1 is pairing's while pairing is in force (R57, R398). -/
def consumerVerdict (j v : Nat) (d : Dev) : Verdict :=
  if j = 1 ∧ d.courier.enabled then .error abortState else .ok ((d.setO 0x1016 j v).entryAnew j)

/-- A write of 0 clears the history (R60). -/
def historyVerdict (d : Dev) : Verdict := .ok (d.clearIndex 0x1003 [])

/-- Objects of 1000h to 1FFFh. -/
def commVerdict (i j v : Nat) (d : Dev) : Verdict :=
  if i = 0x1003 then historyVerdict d
  else if i = 0x1010 then storeVerdict j d
  else if i = 0x1011 then restoreVerdict j d
  else if i = 0x1016 then consumerVerdict j v d
  else if (0x1400 ≤ i ∧ i < 0x1410 ∨ 0x1800 ≤ i ∧ i < 0x1810) ∧ j = 1 then cobIdVerdict i v d
  else if 0x1600 ≤ i ∧ i < 0x1610 ∨ 0x1A00 ≤ i ∧ i < 0x1A10 then mappingVerdict i j v d
  else Dev.plain i j v d

/-! ### The chapters -/

/-- The Abacus (02). -/
def abacusVerdict (i j v : Nat) (d : Dev) : Verdict :=
  if i = 0x2100 ∧ j = 9 then .ok (d.clockOffset (asSigned 64 v))
  else if 0x2101 ≤ i ∧ i < 0x210D ∧ j = 0x0A then lockSourceVerdict (i - 0x2101) v d
  else if 0x2109 ≤ i ∧ i < 0x210D ∧ j = 8 then .ok (d.freeRun (i - 0x2101) v)
  else if 0x2110 ≤ i ∧ i < 0x2130 then
    let slot := 16 * (i - 0x2110) + (j - 1) / 2
    (if j % 2 = 1 then beadWordVerdict slot v d else actionWordVerdict slot v d)
  else Dev.plain i j v d

/-- Display outputs (04). -/
def displayVerdict (i j : Nat) (data : List Byte) (d : Dev) : Verdict :=
  let n := (i - 0x2200) / 16
  let v := leNat data
  if i % 16 = 0 ∧ j = 1 then requestedStateVerdict n v d
  else if i % 16 = 0 ∧ j = 4 then hpdModeVerdict n v d
  else if i % 16 = 1 ∧ j = 0x0F then timingApplyVerdict n d
  else if i % 16 = 6 then auxVerdict n data d
  else Dev.plain i j v d

/-- Composition and the copy engine (05, 06), but for their submit objects. -/
def composeVerdict (i j v : Nat) (d : Dev) : Verdict :=
  if 0x2301 ≤ i ∧ i < 0x2309 ∧ j = 1 then reservationVerdict (i - 0x2301) v d
  else if 0x2310 ≤ i ∧ i < 0x2340 ∧ j = 2 then layerEnableVerdict (i - 0x2310) v d
  else if 0x2401 ≤ i ∧ i < 0x2421 ∧ j = 2 then copyEnableVerdict (i - 0x2401) v d
  else Dev.plain i j v d

/-- The GPU (07 to 09), but for its submit objects. -/
def gpuVerdict (who : Init) (i j v : Nat) (d : Dev) : Verdict :=
  if 0x2511 ≤ i ∧ i < 0x2571 then
    let o := partitionOwner i
    (if j = 2 then spillVerdict o v d
     else if 0x10 ≤ j ∧ j % 8 = 0 then gqEnableVerdict o ((j - 0x10) / 8) v d
     else Dev.plain i j v d)
  else if 0x2580 ≤ i ∧ i < 0x25B0 ∧ (j = 3 ∨ j = 4) then
    (if v % 64 ≠ 0 then .error abortRange else .ok (d.setO i j (v % 2 ^ 40)))
  else if 0x2580 ≤ i ∧ i < 0x25B0 ∧ j = 0x0B then Dev.sourceWrite (d.owner (blockId 2 (i - 0x2580))) i j v d
  else if i = 0x25C0 ∧ j = 3 then destroyVerdict who v d
  else Dev.plain i j v d

/-- Touch (10). -/
def touchVerdict (i j v : Nat) (d : Dev) : Verdict :=
  if 0x2601 ≤ i ∧ i < 0x2609 then
    let p := i - 0x2601
    (if j = 2 then panelEnableVerdict p v d
     else if j = 0x1E then rebaseVerdict p v d
     else if j = 0x1F then saveReferenceVerdict p d
     else panelVerdict p j v d)
  else if 0x2610 ≤ i ∧ i < 0x2618 then zoneVerdict (i - 0x2610) j v d
  else Dev.plain i j v d

/-- Haptics and audio (11, 12). -/
def senseVerdict (i j : Nat) (data : List Byte) (d : Dev) : Verdict :=
  let v := leNat data
  if 0x2701 ≤ i ∧ i < 0x2709 then hapticVerdict (i - 0x2701) j v d
  else if 0x2710 ≤ i ∧ i < 0x2718 then (if j = 9 then identifyVerdict (i - 0x2710) d else modelVerdict (i - 0x2710) j v d)
  else if 0x2801 ≤ i ∧ i < 0x2848 then
    match (objRow i j).bind (fun r => r.ty.size) with
    | some _ => audioVerdict i j v d
    | none => audioStringVerdict i j data d
  else Dev.plain i j v d

/-- Isolation and hand-over (14). -/
def isolationVerdict (who : Init) (i j : Nat) (data : List Byte) (d : Dev) : Verdict :=
  let v := leNat data
  if i = 0x2A01 then (if j = 1 then handoverVerdict who v d else releaseVerdict who v d)
  else if i = 0x2A03 then
    (if j = 2 then .ok d.newNonce
     else if j = 8 then programVerdict data d
     else if j = 9 then revokeVerdict v d
     else retireVerdict v d)
  else if 0x2A41 ≤ i ∧ i < 0x2A60 then
    (if j = 7 then Dev.plain i j v d else enclaveFieldVerdict (i - 0x2A40) j v d)
  else if i = 0x2A70 then Dev.sourceWrite (j - 1) i j v d
  else match regionOfIndex i with
    | some (t, r) => regionVerdict who t r j v d
    | none => Dev.plain i j v d

/-- The Letterbox (15). A setting word has a COUNT of 1 to 255, and its bits 15:8 stay 0 (R308, R449). -/
def letterVerdict (who : Init) (i j v : Nat) (d : Dev) : Verdict :=
  if i = 0x2B01 then (if v % 256 = 0 then .error abortRange else .ok (d.setO i j (setBits v 8 8 0)))
  else if i = 0x2B02 then .ok (d.setO i j (v % 8))
  else entryVerdict who (128 * (i - 0x2B10) + (j - 1)) v d

/-- DRAM and protection (16, 17). -/
def dramVerdict (i j v : Nat) (d : Dev) : Verdict :=
  if i = 0x2C01 ∧ 5 ≤ j then slotsVerdict j v d
  else if 0x2C10 ≤ i ∧ i < 0x2C20 then .ok (d.rankOut (i - 0x2C10))
  else if 0x2C20 ≤ i ∧ i < 0x2C40 ∧ j = 2 then remapVerdict (i - 0x2C20) v d
  else if 0x2C41 ≤ i ∧ i < 0x2C51 then
    let k := i - 0x2C41
    (if j = 3 then wayMaskVerdict k v d else if j = 4 then lockVerdict k v d else partitionVerdict k j v d)
  else if i = 0x2D40 then .ok (d.saveRetired [])
  else Dev.plain i j v d

/-- Nines (18). -/
def checkUnitVerdict (i j : Nat) (data : List Byte) (d : Dev) : Verdict :=
  let n := i - 0x2E01
  let v := leNat data
  if j = 2 then ninesEnableVerdict n v d
  else if j = 7 then catalogueVerdict n v d
  else if j = 8 then selfCheckVerdict n d
  else if j = 0x0B then controlVerdict n v d
  else if j = 0x0D then feedVerdict n v d
  else if j = 0x0E then directVerdict n data d
  else ninesVerdict n j v d

/-- The event recorder (19). -/
def recorderVerdict (who : Init) (i j : Nat) (data : List Byte) (d : Dev) : Verdict :=
  let v := leNat data
  if i = 0x2F00 ∧ j = 4 then clearVerdict v d
  else if i = 0x2F00 ∧ j = 0x0A then Dev.plain i j v d
  else if i = 0x2F01 then postEventVerdict who data d
  else bucketVerdict (128 * (i - 0x2F10) + (j - 1)) v d

/-- A name that 3121h may hold: none, or a ro unsigned object (R391). -/
def mirrorNameOk (v : Nat) : Bool :=
  v == 0 || (v % 256 == 0 && (match objRow (v / 65536) (v / 256 % 256) with
    | some r => r.acc == .ro && (r.ty == .u8 || r.ty == .u16 || r.ty == .u32 || r.ty == .u64)
    | none => false))

/-- The island, pairing, boot, update and supply (21 to 23). -/
def islandVerdict (who : Init) (i j : Nat) (data : List Byte) (d : Dev) : Verdict :=
  let v := leNat data
  if i = 0x3100 ∧ j = 6 then switchVerdict d
  else if 0x3110 ≤ i ∧ i < 0x3120 ∧ j = 1 then dogOwnerVerdict (i - 0x3110) v d
  else if 0x3110 ≤ i ∧ i < 0x3120 ∧ j = 3 then kickVerdict who (i - 0x3110) d
  else if i = 0x3120 then (if data.length = 128 then .ok (d.setB i j data) else .error abortLength)
  else if i = 0x3121 then (if mirrorNameOk v then .ok (d.setO i j v) else .error abortRange)
  else if i = 0x3300 ∧ j = 2 then .ok (d.reset 3 true)
  else if i = 0x3300 ∧ j = 7 then updateVerdict v d
  else Dev.plain i j v d

/-! ### Any object -/

/-- What the owning chapter says of a write that has passed checks 1 to 7. -/
def objectVerdict (who : Init) (i j : Nat) (data : List Byte) (d : Dev) : Verdict :=
  let v := leNat data
  match i / 256 with
  | 0x21 => abacusVerdict i j v d
  | 0x22 => displayVerdict i j data d
  | 0x23 => composeVerdict i j v d
  | 0x24 => composeVerdict i j v d
  | 0x25 => gpuVerdict who i j v d
  | 0x26 => touchVerdict i j v d
  | 0x27 => senseVerdict i j data d
  | 0x28 => senseVerdict i j data d
  | 0x29 => if 0x2950 ≤ i then ringVerdict (i - 0x2950) j v d else Dev.plain i j v d
  | 0x2A => isolationVerdict who i j data d
  | 0x2B => letterVerdict who i j v d
  | 0x2C => dramVerdict i j v d
  | 0x2D => dramVerdict i j v d
  | 0x2E => checkUnitVerdict i j data d
  | 0x2F => recorderVerdict who i j data d
  | 0x31 => islandVerdict who i j data d
  | 0x32 => islandVerdict who i j data d
  | 0x33 => islandVerdict who i j data d
  | 0x34 => islandVerdict who i j data d
  | _ => if i < 0x2000 then commVerdict i j v d else Dev.plain i j v d

/-- The objects whose writes answer for themselves: the submit objects, a profile request, an instance's command and a clock
request. -/
def answersItself (i j : Nat) : Bool :=
  (0x2301 ≤ i && i < 0x2309 && j == 6) || (0x2401 ≤ i && i < 0x2421 && j == 3)
    || (0x2511 ≤ i && i < 0x2571 && 0x10 ≤ j && j % 8 == 2) || (i == 0x25C0 && j == 2) || (i == 0x2002 && j == 1)
    || (0x2910 ≤ i && i < 0x2950 && j == 4) || (i == 0x2A02 && j == 1)

/-- A write of any object but a DOMAIN, by any path. -/
def Dev.writeAny (d : Dev) (who : Init) (i j : Nat) (data : List Byte) : Dev :=
  let v := leNat data
  let sized : Bool := match (objRow i j).bind (fun r => r.ty.size) with
    | some n => data.length == n
    | none => false
  if !sized || !(answersItself i j) then d.request who i j data (objectVerdict who i j data)
  else if 0x2301 ≤ i ∧ i < 0x2309 ∧ j = 6 then d.submitCommit who (i - 0x2301) v
  else if 0x2401 ≤ i ∧ i < 0x2421 ∧ j = 3 then d.submitCopy who (i - 0x2401) v
  else if 0x2511 ≤ i ∧ i < 0x2571 ∧ 0x10 ≤ j ∧ j % 8 = 2 then d.submitGpuJob who (partitionOwner i) ((j - 0x10) / 8) v
  else if i = 0x25C0 ∧ j = 2 then d.submitCreate who v
  else if i = 0x2002 ∧ j = 1 then d.requestProfile who v
  else if 0x2910 ≤ i ∧ i < 0x2950 ∧ j = 4 then
    let k := i - 0x2910
    d.request who i j data (fun d =>
      if v = 1 then (if d.instState k ≠ 1 ∨ (d.inst k).d3hot then .error abortState else .ok (d.startQuiesce k))
      else (if d.instState k ≠ 3 ∨ (d.inst k).d3hot then .error abortState else .ok (d.resumeInstance k)))
  else d.clockRequest who (v / 65536) (v % 65536)

/-- The Registry entry of a dictionary write (R372, Tables 20-1 and 20-3): kind 09h, with the object, the class and the length.
`unit` is the request path: the window, or 80h + the CAN port. -/
def writeEntry (who : Init) (unit i j : Nat) (data : List Byte) : RegEntry :=
  { kind := 9, owner := initCode who % 256, unit := unit, length := data.length
    extra := leBytes 2 i ++ leBytes 1 j ++ leBytes 1 (2 ^ initBit who) ++ leBytes 4 data.length
      ++ leBytes 1 (match objRow i j with | some r => r.acc.code | none => 0) }

/-! ### The meanings -/

/-- ERROR_HISTORY_CLEAR (R60). -/
def execErrorHistoryClear (who : Init) (value : Nat) (s : State) : Host.Outcome State Fault Refusal :=
  actServed (fun d => d.request who 0x1003 0 (numData 0x1003 0 value) historyVerdict) s

end Sys2Proof.Machine
end

