-- ==== Sys2Proof/Machine/Windows.lean ====
section
/-! DEFINITION. The windows (R49, R50, R52): their registers, the requests that WIN_CMD makes, and the end of a request; and the
DOMAIN transfers that a window or a CAN port carries (R51, R450). -/

namespace Sys2Proof.Machine

/-! ### DOMAIN transfers -/

/-- The transfer that is open on an object. -/
def Dev.transfer (d : Dev) (i j : Nat) : Option Transfer := tabGet none d.transfers (objKey i j)

def Dev.setTransfer (d : Dev) (i j : Nat) (t : Option Transfer) : Dev :=
  { d with transfers := tabSet none d.transfers (objKey i j) t }

/-- Checks 1 to 5 of a DOMAIN write: the first that fails. -/
def Dev.checkDomain (d : Dev) (who : Init) (i j : Nat) : Option Nat :=
  match objRow i j with
  | none => if d.hasIndex i then some abortSub else some abortIndex
  | some r =>
    firstAbort [
      (r.ty != .domain, abortCommand),
      (!(d.hasIndex i), abortIndex),
      (r.acc == .ro || r.acc == .const, abortReadOnly),
      (!(d.mayWrite who i j r), abortAccess)]

/-- The object is a DOMAIN. -/
def Dev.checkType (d : Dev) (i j : Nat) : Option Nat :=
  match objRow i j with
  | none => if d.hasIndex i then some abortSub else some abortIndex
  | some r => if r.ty == .domain then none else some abortCommand

/-- The image object, whose segments are programmed as they arrive (R412). -/
def isImage (i j : Nat) : Bool := i == 0x3300 && j == 6

/-- Check 8 of an open: no transfer is open on the object, and an update state lets an image start. -/
def Dev.domainFree (d : Dev) (i j : Nat) : Bool := (d.transfer i j).isNone && (!(isImage i j) || d.imageOpens)

/-- A transfer is discarded; one of an image leaves the update Idle. -/
def Dev.discard (d : Dev) (i j : Nat) : Dev :=
  let d := d.setTransfer i j none
  if isImage i j && d.updateState == 1 then d.setUpdate 0 else d

/-- A transfer that writes is opened, with its first bytes. -/
def Dev.openWrite (d : Dev) (path : Path) (who : Init) (i j : Nat) (data : List Byte) : Dev :=
  let d := if isImage i j then d.openImage.programImage 0 data else d
  d.setTransfer i j (some { path := path, who := who, writing := true, data := data })

/-- The sum of the INTEGER16s of a list. -/
def sumI16 (b : List Byte) (n : Nat) : Int := ((List.range n).map (fun k => asSigned 16 (field b (2 * k) 2))).foldl (· + ·) 0

/-- The rules of a coefficient bank (R93). -/
def bankOk (b : List Byte) : Bool :=
  (List.range 768).all (fun k => let c := asSigned 16 (field b (2 * k) 2); -2048 ≤ c && c ≤ 2047)
    && (List.range 64).all (fun p => sumI16 (b.drop (16 * p)) 8 == 1024)
    && (List.range 64).all (fun p => sumI16 (b.drop (1024 + 8 * p)) 4 == 1024)

/-- The total size suits the object (R450). -/
def domainSizeOk (i n : Nat) : Bool :=
  if 0x2310 ≤ i ∧ i < 0x2340 then n == 1024
  else if 0x2340 ≤ i ∧ i < 0x2360 then n == 1536
  else if 0x2831 ≤ i ∧ i ≤ 0x283C then n == 200 * sinkChannels (i - 0x2831)
  else if i = 0x2A03 then n == 256
  else if i = 0x3300 then true
  else false

/-- The first check of the content that fails at the end of a DOMAIN write (R450), with the length and CRC that it carries. -/
def Dev.contentAbort (d : Dev) (i j len crc : Nat) (data : List Byte) : Option Nat :=
  firstAbort [
    (len != data.length || crc != crc32c (256 * i + j) data, abortCheck),
    (!(domainSizeOk i data.length) || (i == 0x3300 && j == 0x13 && 0x800000 < data.length), abortLength),
    ((0x2340 ≤ i && i < 0x2360 && !(bankOk data)) || (isImage i j && imageMax < data.length), abortRange),
    (isImage i j && d.updateState != 1, abortState)]

/-- The chime area is replaced whole (R404); what lies beyond the new content reads 00h. -/
def Dev.putChimes (d : Dev) (data : List Byte) : Dev :=
  let keep (k : Nat) : Bool := !(chimeArea ≤ k && k < chimeArea + 0x800000)
  ({ d with mem := d.mem.filter (fun p => keep p.1) }).putBytes chimeArea data

/-- The object takes its new content, all at once. -/
def Dev.domainTakes (d : Dev) (i j : Nat) (data : List Byte) : Dev :=
  if 0x2340 ≤ i ∧ i < 0x2360 then (d.setB i j data).count i 2
  else if i = 0x2A03 then ({ d with iso := { d.iso with checking := some data } }).setO 0x2A03 5 1
  else if isImage i j then d.setUpdate 2
  else if i = 0x3300 then d.putChimes data
  else d.setB i j data

/-- A segment of a DOMAIN write (R51): the abort code, 0 when it is accepted. Through a window, an offset that is no multiple of
4 is refused (erratum B0-03). -/
def Dev.writeSegment (d : Dev) (path : Path) (who : Init) (i j len off : Nat) (data : List Byte) : Nat × Dev :=
  let sizeOk := 1 ≤ len && len ≤ 2048
  match d.transfer i j with
  | some t =>
    if t.path ≠ path || !t.writing then (match d.checkDomain who i j with
      | some a => (a, d)
      | none => (abortState, d))
    else if !sizeOk then (abortLength, d.discard i j)
    else if off ≠ t.data.length || off % 4 ≠ 0 then (abortState, d.discard i j)
    else
      let d := if isImage i j then d.programImage off data else d
      (0, d.setTransfer i j (some { t with data := t.data ++ data }))
  | none =>
    match d.checkDomain who i j with
    | some a => (a, d)
    | none =>
      if !sizeOk then (abortLength, d)
      else if !(d.domainFree i j) || off ≠ 0 then (abortState, d)
      else (0, d.openWrite path who i j data)

/-- A segment of a DOMAIN read (R51): the abort code, the bytes and the total length. The content is taken at the first segment;
the read closes when a segment reaches its end. An offset beyond the total length is refused with 0609_0030h (DESIGN CHOICE,
assumption log 19: the rule names no answer). -/
def Dev.readSegment (d : Dev) (path : Path) (who : Init) (i j off : Nat) : Nat × List Byte × Nat × Dev :=
  let give (t : Transfer) (d : Dev) : Nat × List Byte × Nat × Dev :=
    if t.data.length < off then (abortRange, [], 0, d)
    else
      let part := (t.data.drop off).take 2048
      (0, part, t.data.length, d.setTransfer i j (if t.data.length ≤ off + part.length then none else some t))
  match d.transfer i j with
  | some t =>
    if t.path ≠ path || t.writing then (match d.checkRead who i j true with
      | some a => (a, [], 0, d)
      | none => (abortState, [], 0, d))
    else if i = 0x2F03 ∧ t.base ≠ d.baseSeq then (abortState, [], 0, d.setTransfer i j none)
    else give t d
  | none =>
    match d.checkRead who i j true with
    | some a => (a, [], 0, d)
    | none => give { path := path, who := who, writing := false, data := d.valueOf i j, base := d.baseSeq } d

/-- The end of a transfer (R450): the abort code. The end of a read closes it. -/
def Dev.endTransfer (d : Dev) (path : Path) (i j len crc : Nat) : Nat × Dev :=
  match d.checkType i j with
  | some a => (a, d)
  | none =>
    match d.transfer i j with
    | none => (abortState, d)
    | some t =>
      if t.path ≠ path then (abortState, d)
      else if !t.writing then (0, d.setTransfer i j none)
      else match d.contentAbort i j len crc t.data with
        | some a => (a, d.discard i j)
        | none => (0, (d.setTransfer i j none).domainTakes i j t.data)

/-- A transfer is abandoned. -/
def Dev.abortTransfer (d : Dev) (path : Path) (i j : Nat) : Nat × Dev :=
  match d.checkType i j with
  | some a => (a, d)
  | none =>
    match d.transfer i j with
    | none => (abortState, d)
    | some t => if t.path ≠ path then (abortState, d) else (0, d.discard i j)

/-! ### The registers of a window (Tables 3-4 to 3-6) -/

/-- The path reaches the window (R49): windows 0 to 32 on the chip, 64 + i of instance i while its BAR is open. -/
def Dev.reaches (d : Dev) (who : Init) (w : Nat) : Bool :=
  match who with
  | .openWorld => w == 0
  | .enclave e => 1 ≤ e && e ≤ 31 && w == e
  | .island => w == 32
  | .host i => i < 64 && w == 64 + i && d.barOpen i
  | .can _ => false

/-- A window takes a WIN_CMD: its instance is Present (R52). -/
def Dev.takesCommand (d : Dev) (who : Init) : Bool :=
  match who with
  | .host i => d.instancePresent i
  | _ => true

/-- A write was ignored while BUSY = 1. -/
def Dev.collide (d : Dev) (w : Nat) : Dev := d.setWindow w { d.window w with collide := true }

/-- An access to a window by a class that is not its own: an error under R16 (R49). A window of an instance is not in the device's
address map, and no other initiator reaches it. -/
def Dev.unreached (d : Dev) (w : Nat) : Dev := if w < 64 then d.busError else d

/-- A window that takes a request: BUSY is set, and nothing of an earlier one is left. -/
def Dev.opened (d : Dev) (w : Nat) : Dev :=
  d.setWindow w { d.window w with busy := true, result := none, writes := false, wo := false, entry := none }

/-- A WIN_CMD: ignored by a window that does not take it, or while BUSY; else BUSY is set and the request is made. -/
def Dev.windowCommand (d : Dev) (who : Init) (w : Nat) (f : Dev → Dev) : Dev :=
  if !(d.reaches who w) then d.unreached w
  else if !(d.takesCommand who) then d
  else if (d.window w).busy then d.collide w
  else f (d.opened w)

/-- The server has finished with a window's request; the window shows it when the request ends. A reset that the request brought
about has left nothing to show. -/
def Dev.windowAnswers (d : Dev) (w : Nat) (r : WinResult) : Dev :=
  let d := { d with answer := { abort := r.abort, data := r.data.getD [] } }
  if (d.window w).busy then d.setWindow w { d.window w with result := some r } else d

/-- The data that a write takes from the buffer. -/
def Window.payload (v : Window) : List Byte := (List.range (min v.len 2049)).map (fun k => tabGet 0 v.buffer k)

/-- The bytes of the buffer from its start are replaced. -/
def putBuffer (b : Tab Byte) (off : Nat) (data : List Byte) : Tab Byte :=
  (data.zip (List.range data.length)).foldl (fun b p => tabSet 0 b (off + p.2) p.1) b

/-- A read through a window. -/
def Dev.windowReads (d : Dev) (who : Init) (w i j : Nat) : Dev :=
  match d.checkRead who i j false with
  | some a => d.windowAnswers w { abort := a }
  | none => d.windowAnswers w { data := some (d.valueOf i j) }

/-- A write through a window: it is journaled (R372), made, and held until it ends; a save ends when flash has it (R62). -/
def Dev.windowWrites (d : Dev) (who : Init) (w i j : Nat) : Dev :=
  let data := (d.window w).payload
  let (e, d) := d.journal (writeEntry who w i j data)
  let d := (d.regIssue e).writeAny who i j data
  let a := d.answer.abort
  if !(d.window w).busy then d
  else
    let wo := match objRow i j with
      | some r => r.acc == .wo
      | none => false
    let v := { d.window w with writes := true, wo := wo, entry := e }
    if i = 0x1010 ∧ a = 0 then
      (d.setWindow w v).setPower { d.power with saving := d.power.saving.map (fun x => { x with path := some (.window w) }) }
    else d.setWindow w { v with result := some { abort := a } }

/-- A describe through a window: no right is needed. Of a default longer than the buffer, the first 2048 bytes are returned
(DESIGN CHOICE, assumption log 18). -/
def Dev.windowDescribes (d : Dev) (w i j : Nat) : Dev :=
  match objRow i j with
  | none => d.windowAnswers w { abort := if d.hasIndex i then abortSub else abortIndex }
  | some r =>
    if d.hasIndex i then d.windowAnswers w { data := some ((defaultOf i j).take 2048), desc := some r.desc }
    else d.windowAnswers w { abort := abortIndex }

/-- The request of a window ends (R50): the data and WIN_LEN, WIN_ABORT, SEQ and DONE, then BUSY; and the window's source is
posted. -/
def Dev.windowEnds (d : Dev) (w : Nat) : Dev :=
  let v := d.window w
  match v.busy, v.result with
  | true, some r =>
    let d := d.regEnded v.entry
    let d := d.setWindow w { v with
      buffer := match r.data with | some b => putBuffer v.buffer 0 b | none => v.buffer
      len := match r.data with | some b => b.length | none => v.len
      desc := r.desc.getD v.desc, dlen := r.dlen.getD v.dlen
      abort := r.abort, seq := (v.seq + 1) % 65536, done := true, busy := false
      result := none, writes := false, wo := false, entry := none }
    if v.irqEn then d.post (if w < 64 then w else 33 + (w - 64)) else d
  | _, _ => d

/-- A write of WIN_STATUS: DONE and COLLIDE are cleared by a 1, IRQ_EN takes its bit. -/
def Window.status (v : Window) (x : Nat) : Window :=
  { v with done := v.done && !(x.testBit 30), collide := v.collide && !(x.testBit 29), irqEn := x.testBit 28 }

/-- A write of a register of a window that is not busy; reserved and ro offsets ignore it, and WIN_CMD is a request. -/
def Window.store (v : Window) (off : Nat) (data : List Byte) : Window :=
  if 0x800 ≤ off ∧ off + data.length ≤ 0x1000 then { v with buffer := putBuffer v.buffer (off - 0x800) data }
  else if data.length ≠ 4 then v
  else if off = 0x004 then { v with len := leNat data }
  else if off = 0x008 then { v with offset := leNat data }
  else if off = 0x018 then { v with dlen := leNat data }
  else if off = 0x01C then { v with dcrc := leNat data }
  else v

/-! ### WIN_CMD (Table 3-5) -/

/-- DOMAIN read segment through a window. -/
def Dev.windowReadSeg (d : Dev) (who : Init) (w i j : Nat) : Dev :=
  let (a, data, total, d) := d.readSegment (.window w) who i j (d.window w).offset
  d.windowAnswers w (if a = 0 then { data := some data, dlen := some total } else { abort := a })

/-- DOMAIN write segment through a window. -/
def Dev.windowWriteSeg (d : Dev) (who : Init) (w i j : Nat) : Dev :=
  let v := d.window w
  let (a, d) := d.writeSegment (.window w) who i j v.len v.offset v.payload
  d.windowAnswers w { abort := a }

/-- DOMAIN end through a window. -/
def Dev.windowEndSeg (d : Dev) (w i j : Nat) : Dev :=
  let v := d.window w
  let (a, d) := d.endTransfer (.window w) i j v.dlen v.dcrc
  d.windowAnswers w { abort := a }

/-- DOMAIN abort through a window. -/
def Dev.windowAbortSeg (d : Dev) (w i j : Nat) : Dev :=
  let (a, d) := d.abortTransfer (.window w) i j
  d.windowAnswers w { abort := a }

/-- A WIN_CMD by its opcode; an opcode that Table 3-5 does not list is refused (check 1 of Table 3-2). -/
def Dev.windowOp (d : Dev) (who : Init) (w op i j : Nat) : Dev :=
  d.windowCommand who w (fun d =>
    match op with
    | 1 => d.windowReads who w i j
    | 2 => d.windowWrites who w i j
    | 3 => d.windowDescribes w i j
    | 4 => d.windowReadSeg who w i j
    | 5 => d.windowWriteSeg who w i j
    | 6 => d.windowEndSeg w i j
    | 7 => d.windowAbortSeg w i j
    | _ => d.windowAnswers w { abort := abortCommand })

/-- An access by a host that reaches no window register: none but an aligned 32-bit one does, and none to the reserved range
(R261). -/
def oddAccess (who : Init) (off len : Nat) : Bool :=
  match who with
  | .host _ => off % 4 != 0 || len != 4 || (0x20 ≤ off && off < 0x800) || 0x1000 ≤ off
  | _ => false

/-- A write of a window register; one of WIN_CMD makes the request, while the server serves. A host's access that reaches no
register is counted (R261). -/
def Dev.windowStore (d : Dev) (who : Init) (w off : Nat) (data : List Byte) : Dev :=
  if !(d.reaches who w) then d.unreached w
  else if oddAccess who off data.length then d.count (instIndex (w - 64)) 0x0F
  else if off = 0 ∧ data.length = 4 then
    (if d.serving then d.windowOp who w (bits (leNat data) 24 8) (leNat data % 65536) (bits (leNat data) 16 8) else d)
  else if off = 0x00C ∧ data.length = 4 then d.setWindow w ((d.window w).status (leNat data))
  else if (d.window w).busy then d.collide w
  else d.setWindow w ((d.window w).store off data)

/-! ### Memory-mapped control spaces (R48) -/

/-- The address of an object in the control spaces. -/
def objAddress (i j : Nat) : Nat := 0x10000000 + (i / 256 - 0x20) * 0x1000000 + i % 256 * 0x10000 + j * 0x100

/-- The object whose slot an address lies in, and the place in the slot: index, subindex, offset. -/
def objectAt (addr : Nat) : Nat × Nat × Nat :=
  let o := addr - 0x10000000
  (0x2000 + o / 0x1000000 * 256 + o / 0x10000 % 256, o / 0x100 % 256, o % 256)

/-- The address lies in a control space: index range 2000h to 34FFh (Table 3-3). -/
def inControl (addr : Nat) : Bool := 0x10000000 ≤ addr && addr < 0x25000000

/-- The window at an address, 0 to 32 (R49). -/
def windowAt (addr : Nat) : Option Nat :=
  if 0x10F00000 ≤ addr && addr < 0x10F21000 then some ((addr - 0x10F00000) / 0x1000) else none

/-- The initiator is on the chip: hosts do not see the address map, and CAN has none (R16). -/
def onChip : Init → Bool
  | .host _ => false
  | .can _ => false
  | _ => true

/-- The access fits a used slot: it starts at the slot's first byte and is not wider than the type; no DOMAIN is mapped. -/
def Dev.mappedFits (d : Dev) (addr n : Nat) : Bool :=
  let (i, j, off) := objectAt addr
  match objRow i j with
  | none => false
  | some r => inControl addr && off == 0 && d.hasIndex i && r.ty != .domain && n ≤ (r.ty.size).getD 256

/-- A store to a control space: the write of an object, or of a window's register. Whatever is refused returns an error. -/
def Dev.mappedStore (d : Dev) (who : Init) (addr : Nat) (data : List Byte) : Dev :=
  if !(onChip who) then d.busError
  else match windowAt addr with
    | some w => d.windowStore who w (addr % 0x1000) data
    | none =>
      if !(d.mappedFits addr data.length) then d.busError
      else
        let (i, j, _) := objectAt addr
        let d := d.writeAny who i j data
        if d.answer.abort = 0 then d else d.busError d.answer.abort

/-- A load of `n` bytes from an object's slot: its value, or an error. -/
def Dev.mappedLoad (d : Dev) (who : Init) (addr n : Nat) : Dev :=
  let (i, j, _) := objectAt addr
  if !(onChip who) || !(d.mappedFits addr n) then d.busError
  else match d.checkRead who i j false with
    | some a => d.busError a
    | none => d.reply ((d.valueOf i j).take n)

/-! ### The meanings -/

/-- OBJECT_WRITE (R45, R48): a write of an object by its name, or of a control space by its address. -/
def execObjectWrite (who : Init) (target : ObjTarget) (place : Nat) (data : List Byte) (s : State) :
    Host.Outcome State Fault Refusal :=
  actServed (fun d => match target with
    | .object index => d.writeAny who index place data
    | .address => d.mappedStore who place data) s

/-- WINDOW_READ (R50). -/
def execWindowRead (who : Init) (win index sub : Nat) (s : State) : Host.Outcome State Fault Refusal :=
  actServed (fun d => d.windowCommand who win (fun d => d.windowReads who win index sub)) s

/-- WINDOW_WRITE (R50). -/
def execWindowWrite (who : Init) (win index sub : Nat) (s : State) : Host.Outcome State Fault Refusal :=
  actServed (fun d => d.windowCommand who win (fun d => d.windowWrites who win index sub)) s

/-- WINDOW_DESCRIBE (R50). -/
def execWindowDescribe (who : Init) (win index sub : Nat) (s : State) : Host.Outcome State Fault Refusal :=
  actServed (fun d => d.windowCommand who win (fun d => d.windowDescribes win index sub)) s

/-- WINDOW_REGISTER_WRITE (R50). -/
def execWindowRegisterWrite (who : Init) (win offset : Nat) (data : List Byte) (s : State) :
    Host.Outcome State Fault Refusal :=
  act (fun d => d.windowStore who win offset data) s

/-- WINDOW_REQUEST_END (R50). -/
def execWindowRequestEnd (win : Nat) (s : State) : Host.Outcome State Fault Refusal :=
  actServed (fun d => d.windowEnds win) s

/-- DOMAIN_READ_SEGMENT (R51). -/
def execDomainReadSegment (who : Init) (win index sub : Nat) (s : State) : Host.Outcome State Fault Refusal :=
  actServed (fun d => d.windowCommand who win (fun d => d.windowReadSeg who win index sub)) s

/-- DOMAIN_WRITE_SEGMENT (R51). -/
def execDomainWriteSegment (who : Init) (win index sub : Nat) (s : State) : Host.Outcome State Fault Refusal :=
  actServed (fun d => d.windowCommand who win (fun d => d.windowWriteSeg who win index sub)) s

/-- DOMAIN_END (R450). -/
def execDomainEnd (who : Init) (win index sub : Nat) (s : State) : Host.Outcome State Fault Refusal :=
  actServed (fun d => d.windowCommand who win (fun d => d.windowEndSeg win index sub)) s

/-- DOMAIN_ABORT (R51). -/
def execDomainAbort (who : Init) (win index sub : Nat) (s : State) : Host.Outcome State Fault Refusal :=
  actServed (fun d => d.windowCommand who win (fun d => d.windowAbortSeg win index sub)) s

end Sys2Proof.Machine
end

