-- ==== Sys2Proof/Machine/Bar.lean ====
section
/-! DEFINITION. The BAR of an instance as its registers (13: R261, Tables 13-1 to 13-4): what a read returns, what a write does,
and the accesses that complete with nothing and are counted. -/

namespace Sys2Proof.Machine

/-! ### Registers -/

/-- A register of a window (Table 3-4). -/
def Window.reg (v : Window) (off : Nat) : Nat :=
  let bit (b : Bool) (n : Nat) : Nat := if b then 2 ^ n else 0
  if 0x800 ≤ off then leNat ((List.range 4).map (fun k => tabGet 0 v.buffer (off - 0x800 + k)))
  else match off with
    | 0x004 => v.len
    | 0x008 => v.offset
    | 0x00C => bit v.busy 31 + bit v.done 30 + bit v.collide 29 + bit v.irqEn 28 + v.seq
    | 0x010 => v.abort
    | 0x014 => v.desc
    | 0x018 => v.dlen
    | 0x01C => v.dcrc
    | _ => 0

/-- A word of the MSI-X table: address, data, and the Mask bit in vector control. -/
def Dev.msixWord (d : Dev) (i off : Nat) : Nat :=
  let k := 64 * i + off / 16
  match off % 16 with
  | 0 => tabGet 0 d.letter.vecAddr k % 2 ^ 32
  | 4 => tabGet 0 d.letter.vecAddr k / 2 ^ 32
  | 8 => tabGet 0 d.letter.vecData k
  | _ => if tabGet false d.letter.unmasked k then 0 else 1

/-- A half of the PBA. -/
def Dev.pbaWord (d : Dev) (i half : Nat) : Nat :=
  (List.range 32).foldl (fun w n => if tabGet false d.letter.pba (64 * i + 32 * half + n) then w + 2 ^ n else w) 0

/-- A register of the manager page (Table 13-4): the dirty-log registers and QUIESCE_TIME show the function selected. -/
def Dev.managerReg (d : Dev) (p off : Nat) : Option Nat :=
  let g := d.page p
  let i := 32 * p + g.select
  let l := (d.inst i).log
  match off with
  | 0x2100 => some g.select
  | 0x2104 => some 0
  | 0x2108 => some ((if g.busy.isSome then 2 ^ 31 else 0) + d.instState i * 256 + g.result)
  | 0x210C => some (l.active + (if l.logging then 2 else 0) + (if l.overrun then 4 else 0) + l.count * 65536)
  | 0x2110 => some (l.map0 % 2 ^ 32)
  | 0x2114 => some (l.map0 / 2 ^ 32)
  | 0x2118 => some (l.map1 % 2 ^ 32)
  | 0x211C => some (l.map1 / 2 ^ 32)
  | 0x2120 => some (l.base % 2 ^ 32)
  | 0x2124 => some (l.base / 2 ^ 32)
  | 0x2128 => some l.pages
  | 0x2130 => some (d.getO (instIndex i) 5)
  | _ => none

/-- The 32-bit register at an offset of an instance's BAR; none in a reserved range. -/
def Dev.barReg (d : Dev) (i off : Nat) : Option Nat :=
  if off < 0x80 then
    match off % 16 with
    | 8 => some (d.ringStatus i (off / 16))
    | 12 => none
    | _ => some 0
  else if 0x1000 ≤ off ∧ off < 0x2000 then
    (if 0x1020 ≤ off ∧ off < 0x1800 then none else some ((d.window (64 + i)).reg (off - 0x1000)))
  else if 0x2100 ≤ off ∧ off < 0x2200 then (if i % 32 = 0 then d.managerReg (instPort i) off else some 0)
  else if 0x3000 ≤ off ∧ off < 0x3400 then some (d.msixWord i (off - 0x3000))
  else if off = 0x3800 ∨ off = 0x3804 then some (d.pbaWord i ((off - 0x3800) / 4))
  else match off with
    | 0x2000 => some (d.getO (instIndex i) 6)
    | 0x2004 => some (d.instState i + (if (d.inst i).flrRefused then 256 else 0))
    | 0x2008 => some (d.clock.ns % 2 ^ 32)
    | 0x200C => some (d.inst i).timeHi
    | _ => none

/-- What a read of a register does beside returning it: INST_STATE clears FLR_REFUSED, and TIME_LO latches TIME_HI. -/
def Dev.barReadEffect (d : Dev) (i off : Nat) : Dev :=
  if off = 0x2004 then d.setInst i { d.inst i with flrRefused := false }
  else if off = 0x2008 then d.latchTime i
  else d

/-- A 64-bit register with one half replaced. -/
def putHalf (old half v : Nat) : Nat := if half = 0 then old / 2 ^ 32 * 2 ^ 32 + v else v * 2 ^ 32 + old % 2 ^ 32

/-- A write of a word of the MSI-X table. -/
def Dev.msixPut (d : Dev) (i off v : Nat) : Dev :=
  let k := 64 * i + off / 16
  let addr (half : Nat) : Dev :=
    { d with letter := { d.letter with vecAddr := tabSet 0 d.letter.vecAddr k (putHalf (tabGet 0 d.letter.vecAddr k) half v) } }
  match off % 16 with
  | 0 => addr 0
  | 4 => addr 1
  | 8 => { d with letter := { d.letter with vecData := tabSet 0 d.letter.vecData k v } }
  | _ => d.setMask i (.vector (off / 16)) (v % 2 == 1)

/-- A write of a register of the manager page. -/
def Dev.managerPut (d : Dev) (p off v : Nat) : Dev :=
  let i := 32 * p + (d.page p).select
  let l := (d.inst i).log
  match off with
  | 0x2100 => d.setPage p { d.page p with select := v % 32 }
  | 0x2104 => d.mgrCmd p v
  | 0x2110 => d.setLog i { l with map0 := putHalf l.map0 0 v }
  | 0x2114 => d.setLog i { l with map0 := putHalf l.map0 1 v }
  | 0x2118 => d.setLog i { l with map1 := putHalf l.map1 0 v }
  | 0x211C => d.setLog i { l with map1 := putHalf l.map1 1 v }
  | 0x2120 => d.setLog i { l with base := putHalf l.base 0 v }
  | 0x2124 => d.setLog i { l with base := putHalf l.base 1 v }
  | 0x2128 => d.setLog i { l with pages := v }
  | _ => d

/-- A write of a 32-bit register; one of a ro register is ignored. -/
def Dev.barPut (d : Dev) (i off v : Nat) : Dev :=
  if off < 0x80 then
    match off % 16 with
    | 0 => d.sqTail i (off / 16) v
    | 4 => d.cqHead i (off / 16) v
    | _ => d
  else if 0x1000 ≤ off ∧ off < 0x2000 then d.windowStore (.host i) (64 + i) (off - 0x1000) (leBytes 4 v)
  else if 0x2100 ≤ off ∧ off < 0x2200 then (if i % 32 = 0 then d.managerPut (instPort i) off v else d)
  else if 0x3000 ≤ off ∧ off < 0x3400 then d.msixPut i (off - 0x3000) v
  else if off = 0x2000 then d.idleHint i v
  else d

/-- An access that R261 lets complete with nothing: to a reserved range, or to a register that is not an aligned 32-bit access;
in the MSI-X table and the PBA aligned 64-bit ones are made too, and other widths are ignored (PRESUMED, assumption log 44). -/
def Dev.barIgnored (d : Dev) (i off size : Nat) : Bool :=
  if (0x3000 ≤ off && off + size ≤ 0x3400) || (0x3800 ≤ off && off + size ≤ 0x3808) then false
  else size != 4 || off % 4 != 0 || (d.barReg i off).isNone

/-- The aligned words of an access. -/
def barWords (off size : Nat) : List Nat :=
  if off % size ≠ 0 then [] else if size = 8 then [off, off + 4] else if size = 4 then [off] else []

/-- An access to the BAR by offset, of `size` bytes. -/
def Dev.barAccess (d : Dev) (inst offset size : Nat) (value : Option Nat) : Dev :=
  if !(d.barOpen inst) then d
  else
    let d := d.linkUse (instPort inst)
    if d.barIgnored inst offset size then
      let d := d.count (instIndex inst) 0x0F
      if value.isNone then d.reply (zeroBytes size) else d
    else
      let l := barWords offset size
      match value with
      | some v => (l.zip (List.range l.length)).foldl (fun d p => d.barPut inst p.1 (v / 2 ^ (32 * p.2) % 2 ^ 32)) d
      | none =>
        let data := l.flatMap (fun o => leBytes 4 ((d.barReg inst o).getD 0))
        (l.foldl (fun d o => d.barReadEffect inst o) d).reply (if l.isEmpty then zeroBytes size else data)

/-- BAR_RESERVED_ACCESS (R261): an access to the BAR by offset, a write with a value or a read. A reserved range or a wrong
width reads 0 and ignores a write, and is counted; any other access is the register's. -/
def execBarReservedAccess (access : BarAccess) (s : State) : Host.Outcome State Fault Refusal :=
  act (onUnit access.inst 64 (fun d => d.barAccess access.inst access.offset access.size access.value)) s

end Sys2Proof.Machine
end

