-- ==== Sys2Proof/Machine/Canopen.lean ====
section
/-! DEFINITION. The CANopen node (R53 to R61): NMT, USDO, RPDO and TPDO, SYNC and TIME, heartbeats, emergency messages, and the
state of the ports; and the stale policies of process data (R391). PDO `pdo` is number pdo + 1: its records are 1400h + pdo,
1600h + pdo, 1800h + pdo and 1A00h + pdo. -/

namespace Sys2Proof.Machine

/-! ### NMT (R54, R55) -/

/-- The node is in a state in which it serves USDO. -/
def Dev.nodeServes (d : Dev) : Bool := d.can.nmt == .preOperational || d.can.nmt == .operational

/-- An NMT command received on a port addresses this node: node 0 is every node. -/
def Dev.nmtTakes (d : Dev) (port node : Nat) : Bool := d.portOpen port && (node == 0 || node == d.nodeId)

def Dev.setNmt (d : Dev) (x : Nmt) : Dev := { d with can := { d.can with nmt := x } }

/-- Reset communication (R55): 1000h to 1FFFh and 2001h are loaded, the node starts, and pairing's entry 1 is written again. -/
def Dev.resetComm (d : Dev) : Dev :=
  let entry1 := d.getO 0x1016 1
  let d := d.loadComm.canStart
  let d := if d.courier.enabled then d.setO 0x1016 1 entry1 else d
  (d.setCourier { d.courier with canHeard := false, canGone := false }).showAlarms

/-- Process data return to their defaults (R55). -/
def Dev.clearProcess (d : Dev) : Dev :=
  let keep (key : Nat) : Bool := !(0x5000 ≤ key / 256 && key / 256 ≤ 0x5FFF)
  { d with objs := d.objs.filter (fun p => keep p.1), blobs := d.blobs.filter (fun p => keep p.1) }

/-! ### USDO (R54) -/

/-- A USDO request is taken: the node serves, and no save that this port began is waiting for its answer. -/
def Dev.usdoTaken (d : Dev) (port : Nat) : Bool :=
  d.portOpen port && d.nodeServes && (d.power.saving.bind (fun x => x.path)) != some (.can port)

/-- A USDO request is answered on its port. -/
def Dev.usdoAnswer (d : Dev) (port i j abort : Nat) (data : List Byte) : Dev :=
  ({ d with answer := { abort := abort, data := data } }).send (.usdo port i j abort data)

/-- A DOMAIN written by a segmented transfer: the checks of its opening and of its end (R450); the transfer carries no length
or CRC of its own. -/
def Dev.usdoDomain (d : Dev) (port i j : Nat) (data : List Byte) : Nat × Dev :=
  match d.checkDomain (.can port) i j with
  | some a => (a, d)
  | none =>
    if !(d.domainFree i j) then (abortState, d)
    else
      let d := d.openWrite (.can port) (.can port) i j data
      match d.contentAbort i j data.length (crc32c (256 * i + j) data) data with
      | some a => (a, d.discard i j)
      | none => (0, (d.setTransfer i j none).domainTakes i j data)

/-- A USDO write of an object that is no DOMAIN: journaled while it is in the server (R372). A save is answered when it ends. -/
def Dev.usdoWrite (d : Dev) (port i j : Nat) (data : List Byte) : Dev :=
  let (e, d) := d.journal (writeEntry (.can port) (0x80 + port) i j data)
  let d := (d.regIssue e).writeAny (.can port) i j data
  let d := d.regEnded e
  let a := d.answer.abort
  if i = 0x1010 ∧ a = 0 then
    d.setPower { d.power with saving := d.power.saving.map (fun x => { x with path := some (.can port) }) }
  else d.usdoAnswer port i j a []

/-- A USDO read. -/
def Dev.usdoRead (d : Dev) (port i j : Nat) : Dev :=
  let domain := match objRow i j with
    | some r => r.ty == .domain
    | none => false
  match d.checkRead (.can port) i j domain with
  | some a => d.usdoAnswer port i j a []
  | none =>
    if domain && (d.transfer i j).isSome then d.usdoAnswer port i j abortState []
    else d.usdoAnswer port i j 0 (d.valueOf i j)

/-! ### Process data and stale marks (R56, R391, R401) -/

/-- The entries that an RPDO maps: index, subindex and bytes. -/
def Dev.rpdoEntries (d : Dev) (k : Nat) : List (Nat × Nat × Nat) :=
  (List.range (d.getO (0x1600 + k) 0)).map (fun n =>
    let e := d.getO (0x1600 + k) (n + 1)
    (e / 65536, e / 256 % 256, entryBytes e))

/-- The telltale inputs, and the values, that an RPDO feeds. -/
def Dev.fedInputs (d : Dev) (k : Nat) : List Nat :=
  (d.rpdoEntries k).flatMap (fun e => if e.1 = 0x5000 ∧ 1 ≤ e.2.1 then (List.range 8).map (fun b => 8 * (e.2.1 - 1) + b) else [])
def Dev.fedValues (d : Dev) (k : Nat) : List Nat :=
  (d.rpdoEntries k).filterMap (fun e => if e.1 = 0x5010 ∧ 1 ≤ e.2.1 then some (e.2.1 - 1) else none)

/-- A telltale input takes a level. -/
def Dev.setInput (d : Dev) (t : Nat) (b : Bool) : Dev :=
  d.setO 0x5000 (t / 8 + 1) (setBits (d.getO 0x5000 (t / 8 + 1)) (t % 8) 1 (if b then 1 else 0))

/-- The stale bit of an input (5001h). -/
def Dev.setStale (d : Dev) (t : Nat) (b : Bool) : Dev :=
  let old := padTo 64 (d.getB 0x5001 1)
  let v := setBits (byteAt old (t / 8)).toNat (t % 8) 1 (if b then 1 else 0)
  let new := putField old (t / 8) 1 v
  d.setB 0x5001 1 (if new.all (· == 0) then [] else new)

/-- The stale mark of a value (5011h). -/
def Dev.setStaleValue (d : Dev) (v : Nat) (b : Bool) : Dev :=
  d.setO 0x5011 1 (setBits (d.getO 0x5011 1) v 1 (if b then 1 else 0))

/-- The policy of an input (3120h): 0 hold, 1 force to 0, 2 force to 1. -/
def Dev.stalePolicy (d : Dev) (t : Nat) : Nat := (byteAt (d.readBytes 0x3120 1) (t / 4)).toNat / 4 ^ (t % 4) % 4

/-- Inputs that an RPDO feeds have gone stale. -/
def Dev.inputsStale (d : Dev) (k : Nat) : Dev :=
  let d := (d.fedInputs k).foldl (fun d t =>
    let d := d.setStale t true
    match d.stalePolicy t with
    | 1 => d.setInput t false
    | 2 => d.setInput t true
    | _ => d) d
  (d.fedValues k).foldl (fun d v => d.setStaleValue v true) d

/-- The stale marks of what an RPDO feeds are cleared. -/
def Dev.inputsFresh (d : Dev) (k : Nat) : Dev :=
  (d.fedValues k).foldl (fun d v => d.setStaleValue v false) ((d.fedInputs k).foldl (fun d t => d.setStale t false) d)

/-- The objects that the mirror frames of the primary write in place of this device's RPDOs (R401). -/
def mirrored (i : Nat) : Bool := i == 0x5000 || i == 0x5001 || i == 0x5010 || i == 0x5011

/-- An RPDO writes its mapped objects; a write that is refused changes nothing, and no answer goes out. -/
def Dev.rpdoWrites (d : Dev) (port k : Nat) (data : List Byte) : Dev :=
  let skip := d.mirrorWrites
  let answer := d.answer
  let (_, d) := (d.rpdoEntries k).foldl (fun (acc : List Byte × Dev) e =>
    let (rest, d) := acc
    (rest.drop e.2.2,
      if e.2.2 = 0 ∨ (skip && mirrored e.1) then d else d.writeAny (.can port) e.1 e.2.1 (rest.take e.2.2))) (data, d)
  let d := { d with answer := answer }
  if skip then d else d.inputsFresh k

/-- Bytes that an RPDO maps. -/
def Dev.rpdoLength (d : Dev) (k : Nat) : Nat := ((d.rpdoEntries k).map (fun e => e.2.2)).foldl (· + ·) 0

/-- An RPDO is received: its timeout ends; one of a synchronous type is held for the next SYNC. -/
def Dev.rpdoTakes (d : Dev) (port k : Nat) (data : List Byte) : Dev :=
  if !(d.portOpen port) || d.can.nmt ≠ .operational || !(d.pdoValid (0x1400 + k)) || data.length < d.rpdoLength k then d
  else
    let d := { d with can := { d.can with rpdoLate := tabSet false d.can.rpdoLate k false } }
    if d.getO (0x1400 + k) 2 ≤ 0xF0 then { d with can := { d.can with rpdoHeld := tabSet [] d.can.rpdoHeld k data } }
    else d.rpdoWrites port k data

/-- An RPDO's event timer has expired (R56, R391). -/
def Dev.rpdoExpires (d : Dev) (k : Nat) : Dev :=
  if !(d.pdoValid (0x1400 + k)) || d.getO (0x1400 + k) 5 = 0 || tabGet false d.can.rpdoLate k then d
  else
    let d := { d with can := { d.can with rpdoLate := tabSet false d.can.rpdoLate k true } }
    let d := if d.mirrorWrites then d else d.inputsStale k
    d.emergency 0x8250 0x01 0x0104 0xFF k [k]

/-! ### SYNC (R58) -/

/-- A synchronous TPDO at a SYNC: acyclic when a mapped object has changed, cyclic at every n-th. -/
def Dev.tpdoSync (d : Dev) (t : Nat) : Dev :=
  let type := d.getO (0x1800 + t) 2
  if !(d.tpdoValid t) || 0xF0 < type then d
  else if type = 0 then (if tabGet false d.can.tpdoWaits t then d.sendTpdo t else d)
  else
    let n := tabGet 0 d.can.tpdoSyncs t + 1
    if n < type then { d with can := { d.can with tpdoSyncs := tabSet 0 d.can.tpdoSyncs t n } }
    else ({ d with can := { d.can with tpdoSyncs := tabSet 0 d.can.tpdoSyncs t 0 } }).sendTpdo t

/-- A SYNC: the held RPDOs write their objects, then the synchronous TPDOs are sent. -/
def Dev.syncTakes (d : Dev) (port : Nat) : Dev :=
  if !(d.portOpen port) || d.can.nmt ≠ .operational then d
  else
    let held := d.can.rpdoHeld
    let d := { d with can := { d.can with rpdoHeld := [] } }
    let d := held.foldl (fun d p => d.rpdoWrites port p.1 p.2) d
    (List.range 16).foldl (fun d t => d.tpdoSync t) d.refreshMirrors

/-! ### Heartbeats (R57) -/

/-- Heartbeat consumer entry 1016h/e: its node and its time; unused while either is 0. -/
def Dev.consumerNode (d : Dev) (e : Nat) : Nat := d.getO 0x1016 e / 65536 % 128
def Dev.consumerUsed (d : Dev) (e : Nat) : Bool := d.consumerNode e != 0 && d.getO 0x1016 e % 65536 != 0

/-- The heartbeat of an entry's node arrived on a port. -/
def Dev.entryHeard (d : Dev) (e port : Nat) : Dev :=
  let d := { d with can := { d.can with
    lost := tabSet false d.can.lost e false
    heard := tabSet 0 d.can.heard (2 * (e - 1) + port) (1 + d.clock.ns) } }
  if e = 1 && d.courier.enabled then d.partnerHeard else d

/-- A heartbeat of a node: every entry that names it. -/
def Dev.heartbeatTakes (d : Dev) (port node : Nat) : Dev :=
  if !(d.portOpen port) then d
  else ((List.range 8).filter (fun k => d.consumerUsed (k + 1) && d.consumerNode (k + 1) == node)).foldl
    (fun d k => d.entryHeard (k + 1) port) d

/-- The time of an entry has passed on every port: the node is lost. -/
def Dev.entryLost (d : Dev) (e : Nat) : Dev :=
  if !(d.consumerUsed e) || tabGet false d.can.lost e then d
  else
    let d := { d with can := { d.can with
      lost := tabSet false d.can.lost e true
      heard := tabSet 0 (tabSet 0 d.can.heard (2 * (e - 1)) 0) (2 * (e - 1) + 1) 0 } }
    let d := if e = 1 && d.courier.enabled then d.partnerGone else d
    d.emergency 0x8130 0x01 0x0102 0xFF 0xFF [e, d.consumerNode e]

/-! ### Ports (R59) -/

/-- The port is one that 2001h/06h has put in force. -/
def Dev.portEnabled (d : Dev) (p : Nat) : Bool := d.can.ports.testBit p

def Dev.setPortState (d : Dev) (p st : Nat) : Dev := { d with can := { d.can with portState := tabSet 0 d.can.portState p st } }

/-- A port changes state: 0 error active, 1 error passive, 2 bus-off. -/
def Dev.portChanges (d : Dev) (p st : Nat) : Dev :=
  if !(d.portEnabled p) || 2 < st || tabGet 0 d.can.portState p = st then d
  else
    let d := d.setPortState p st
    if st = 1 then d.emergency 0x8120 0x01 0x0101 0xFF p [p] else d

/-! ### The meanings -/

/-- TIME_RECEIVED (R58, R37). -/
def execTimeReceived (port days ms : Nat) (s : State) : Host.Outcome State Fault Refusal :=
  actServed (onUnit port 2 (fun d => if d.portOpen port && d.nodeServes then d.timeTarget days ms else d)) s

/-- USDO_DOWNLOAD (R54). -/
def execUsdoDownload (port index sub : Nat) (data : List Byte) (s : State) : Host.Outcome State Fault Refusal :=
  actServed (onUnit port 2 (fun d =>
    if !(d.usdoTaken port) then d
    else match objRow index sub with
      | some r =>
        if r.ty == .domain then
          let (a, d) := d.usdoDomain port index sub data
          d.usdoAnswer port index sub a []
        else d.usdoWrite port index sub data
      | none => d.usdoWrite port index sub data)) s

/-- USDO_UPLOAD (R54). -/
def execUsdoUpload (port index sub : Nat) (s : State) : Host.Outcome State Fault Refusal :=
  actServed (onUnit port 2 (fun d => if d.usdoTaken port then d.usdoRead port index sub else d)) s

/-- RPDO_RECEIVED (R54). -/
def execRpdoReceived (port pdo : Nat) (data : List Byte) (s : State) : Host.Outcome State Fault Refusal :=
  actServed (onUnit port 2 (onUnit pdo 16 (fun d => d.rpdoTakes port pdo data))) s

/-- RPDO_TIMEOUT (R56). -/
def execRpdoTimeout (pdo : Nat) (s : State) : Host.Outcome State Fault Refusal :=
  actServed (onUnit pdo 16 (fun d => d.rpdoExpires pdo)) s

/-- TPDO_EVENT_TIMER_EXPIRY (R53). -/
def execTpdoEventTimerExpiry (pdo : Nat) (s : State) : Host.Outcome State Fault Refusal :=
  actServed (onUnit pdo 16 (fun d =>
    if d.can.nmt = .operational && d.tpdoValid pdo && 0xFE ≤ d.getO (0x1800 + pdo) 2 && d.getO (0x1800 + pdo) 5 != 0 then
      (if tabGet false d.can.tpdoInhibit pdo then { d with can := { d.can with tpdoWaits := tabSet false d.can.tpdoWaits pdo true } }
       else d.refreshMirrors.sendTpdo pdo)
    else d)) s

/-- TPDO_INHIBIT_EXPIRY (R60). -/
def execTpdoInhibitExpiry (pdo : Nat) (s : State) : Host.Outcome State Fault Refusal :=
  actServed (onUnit pdo 16 (fun d =>
    let waits := tabGet false d.can.tpdoInhibit pdo && tabGet false d.can.tpdoWaits pdo
    let d := { d with can := { d.can with tpdoInhibit := tabSet false d.can.tpdoInhibit pdo false } }
    if waits && d.can.nmt = .operational && d.tpdoValid pdo && 0xFE ≤ d.getO (0x1800 + pdo) 2 then d.sendTpdo pdo else d)) s

/-- SYNC_RECEIVED (R58). -/
def execSyncReceived (port : Nat) (s : State) : Host.Outcome State Fault Refusal :=
  actServed (onUnit port 2 (fun d => d.syncTakes port)) s

/-- HEARTBEAT_PRODUCER_TIMER (R54): in every state but Initialisation; 1017h of 0 disables. -/
def execHeartbeatProducerTimer (s : State) : Host.Outcome State Fault Refusal :=
  actServed (fun d =>
    if d.getO 0x1017 0 = 0 || d.can.nmt = .initialisation then d else d.sendHeartbeat d.can.nmt.code) s

/-- HEARTBEAT_RECEIVED (R57). -/
def execHeartbeatReceived (port node : Nat) (s : State) : Host.Outcome State Fault Refusal :=
  actServed (onUnit port 2 (fun d => d.heartbeatTakes port node)) s

/-- HEARTBEAT_CONSUMER_TIMEOUT (R57): of entry 1016h/e, e = 1 to 8. -/
def execHeartbeatConsumerTimeout (entry : Nat) (s : State) : Host.Outcome State Fault Refusal :=
  actServed (onUnit entry 9 (fun d => if entry = 0 then d else d.entryLost entry)) s

/-- EMCY_INHIBIT_EXPIRY (R59): the oldest EMCY that waits is sent, and the inhibit time starts again. -/
def execEmcyInhibitExpiry (s : State) : Host.Outcome State Fault Refusal :=
  actServed (fun d =>
    let w := d.can.waiting
    let d := { d with can := { d.can with inhibited := false, waiting := w.tail } }
    match w.head? with
    | some e => d.sendEmcy e
    | none => d) s

/-- CAN_RECEIVE_OVERRUN (R59). -/
def execCanReceiveOverrun (port : Nat) (s : State) : Host.Outcome State Fault Refusal :=
  actServed (onUnit port 2 (fun d => if d.portOpen port then d.emergency 0x8110 0x01 0x0100 0xFF port [port] else d)) s

/-- CAN_BUS_OFF_RECOVERY (R59). -/
def execCanBusOffRecovery (port : Nat) (s : State) : Host.Outcome State Fault Refusal :=
  actServed (onUnit port 2 (fun d =>
    if d.portEnabled port && tabGet 0 d.can.portState port = 2 then
      (d.setPortState port 0).emergency 0x8140 0x00 0x0103 0xFF port [port]
    else d)) s

/-- CAN_PORT_STATE_CHANGE (R59). -/
def execCanPortStateChange (port value : Nat) (s : State) : Host.Outcome State Fault Refusal :=
  act (onUnit port 2 (fun d => d.portChanges port value)) s

/-- NMT_START_REMOTE_NODE (R55). -/
def execNmtStartRemoteNode (port node : Nat) (s : State) : Host.Outcome State Fault Refusal :=
  actServed (onUnit port 2 (fun d => if d.nmtTakes port node then d.setNmt .operational else d)) s

/-- NMT_STOP_REMOTE_NODE (R55). -/
def execNmtStopRemoteNode (port node : Nat) (s : State) : Host.Outcome State Fault Refusal :=
  actServed (onUnit port 2 (fun d => if d.nmtTakes port node then d.setNmt .stopped else d)) s

/-- NMT_ENTER_PRE_OPERATIONAL (R55). -/
def execNmtEnterPreOperational (port node : Nat) (s : State) : Host.Outcome State Fault Refusal :=
  actServed (onUnit port 2 (fun d => if d.nmtTakes port node then d.setNmt .preOperational else d)) s

/-- NMT_RESET_NODE (R55). -/
def execNmtResetNode (port node : Nat) (s : State) : Host.Outcome State Fault Refusal :=
  actServed (onUnit port 2 (fun d => if d.nmtTakes port node then d.resetComm.clearProcess else d)) s

/-- NMT_RESET_COMMUNICATION (R55). -/
def execNmtResetCommunication (port node : Nat) (s : State) : Host.Outcome State Fault Refusal :=
  actServed (onUnit port 2 (fun d => if d.nmtTakes port node then d.resetComm else d)) s

end Sys2Proof.Machine
end

