-- ==== Sys2Proof/Machine/Dispatch.lean ====
section
/-! DEFINITION. The dispatch: one arm per command of spec/opcode_table.json, each one direct call of its meaning. -/

namespace Sys2Proof.Machine

/-- What a command does to everything but the queue. -/
def exec (i : Instr) (s : State) : Host.Outcome State Fault Refusal :=
  match i with
  | .rodAdvanceLine rod late => Sys2Proof.Machine.execRodAdvanceLine rod late s
  | .syncOutRelease ball => Sys2Proof.Machine.execSyncOutRelease ball s
  | .freeRunWrite who rod value => Sys2Proof.Machine.execFreeRunWrite who rod value s
  | .freeRodTimingWrite who rod sub value => Sys2Proof.Machine.execFreeRodTimingWrite who rod sub value s
  | .lockSourceWrite who rod value => Sys2Proof.Machine.execLockSourceWrite who rod value s
  | .lockReferenceEvent rod phaseNs trimNeeded => Sys2Proof.Machine.execLockReferenceEvent rod phaseNs trimNeeded s
  | .lockReferenceAbsent rod => Sys2Proof.Machine.execLockReferenceAbsent rod s
  | .holdoverExpiry rod => Sys2Proof.Machine.execHoldoverExpiry rod s
  | .beadWordWrite who slot value => Sys2Proof.Machine.execBeadWordWrite who slot value s
  | .actionWordWrite who slot value => Sys2Proof.Machine.execActionWordWrite who slot value s
  | .pixelPllLocked output reachedHz => Sys2Proof.Machine.execPixelPllLocked output reachedHz s
  | .clockOffsetWrite who value => Sys2Proof.Machine.execClockOffsetWrite who value s
  | .rateTrimWrite who value => Sys2Proof.Machine.execRateTrimWrite who value s
  | .offsetSlewSpent => Sys2Proof.Machine.execOffsetSlewSpent s
  | .timeReceived port days ms => Sys2Proof.Machine.execTimeReceived port days ms s
  | .objectWrite who target place data => Sys2Proof.Machine.execObjectWrite who target place data s
  | .windowRead who win index sub => Sys2Proof.Machine.execWindowRead who win index sub s
  | .windowWrite who win index sub => Sys2Proof.Machine.execWindowWrite who win index sub s
  | .windowDescribe who win index sub => Sys2Proof.Machine.execWindowDescribe who win index sub s
  | .domainReadSegment who win index sub => Sys2Proof.Machine.execDomainReadSegment who win index sub s
  | .domainWriteSegment who win index sub => Sys2Proof.Machine.execDomainWriteSegment who win index sub s
  | .domainEnd who win index sub => Sys2Proof.Machine.execDomainEnd who win index sub s
  | .domainAbort who win index sub => Sys2Proof.Machine.execDomainAbort who win index sub s
  | .windowRegisterWrite who win offset data => Sys2Proof.Machine.execWindowRegisterWrite who win offset data s
  | .windowRequestEnd win => Sys2Proof.Machine.execWindowRequestEnd win s
  | .usdoDownload port index sub data => Sys2Proof.Machine.execUsdoDownload port index sub data s
  | .usdoUpload port index sub => Sys2Proof.Machine.execUsdoUpload port index sub s
  | .rpdoReceived port pdo data => Sys2Proof.Machine.execRpdoReceived port pdo data s
  | .rpdoTimeout pdo => Sys2Proof.Machine.execRpdoTimeout pdo s
  | .tpdoEventTimerExpiry pdo => Sys2Proof.Machine.execTpdoEventTimerExpiry pdo s
  | .syncReceived port => Sys2Proof.Machine.execSyncReceived port s
  | .heartbeatProducerTimer => Sys2Proof.Machine.execHeartbeatProducerTimer s
  | .heartbeatReceived port node => Sys2Proof.Machine.execHeartbeatReceived port node s
  | .heartbeatConsumerTimeout entry => Sys2Proof.Machine.execHeartbeatConsumerTimeout entry s
  | .emcyInhibitExpiry => Sys2Proof.Machine.execEmcyInhibitExpiry s
  | .canReceiveOverrun port => Sys2Proof.Machine.execCanReceiveOverrun port s
  | .canBusOffRecovery port => Sys2Proof.Machine.execCanBusOffRecovery port s
  | .nmtStartRemoteNode port node => Sys2Proof.Machine.execNmtStartRemoteNode port node s
  | .nmtStopRemoteNode port node => Sys2Proof.Machine.execNmtStopRemoteNode port node s
  | .nmtEnterPreOperational port node => Sys2Proof.Machine.execNmtEnterPreOperational port node s
  | .nmtResetNode port node => Sys2Proof.Machine.execNmtResetNode port node s
  | .nmtResetCommunication port node => Sys2Proof.Machine.execNmtResetCommunication port node s
  | .errorHistoryClear who value => Sys2Proof.Machine.execErrorHistoryClear who value s
  | .storeParameters who sub value => Sys2Proof.Machine.execStoreParameters who sub value s
  | .storeSaveComplete confirmed => Sys2Proof.Machine.execStoreSaveComplete confirmed s
  | .restoreDefaults who sub value => Sys2Proof.Machine.execRestoreDefaults who sub value s
  | .profileRequest who value => Sys2Proof.Machine.execProfileRequest who value s
  | .keepAliveRequest who => Sys2Proof.Machine.execKeepAliveRequest who s
  | .keepAliveEntryComplete => Sys2Proof.Machine.execKeepAliveEntryComplete s
  | .keepAliveExit cause => Sys2Proof.Machine.execKeepAliveExit cause s
  | .sleepRequest who => Sys2Proof.Machine.execSleepRequest who s
  | .canWakePattern port => Sys2Proof.Machine.execCanWakePattern port s
  | .outputRequestedStateWrite who output value => Sys2Proof.Machine.execOutputRequestedStateWrite who output value s
  | .outputDisableComplete output => Sys2Proof.Machine.execOutputDisableComplete output s
  | .timingApply who output value => Sys2Proof.Machine.execTimingApply who output value s
  | .hpdDebouncedRise output => Sys2Proof.Machine.execHpdDebouncedRise output s
  | .hpdDebouncedFall output => Sys2Proof.Machine.execHpdDebouncedFall output s
  | .hpdIrq output laneLost => Sys2Proof.Machine.execHpdIrq output laneLost s
  | .trainingPass output dpcdRevision => Sys2Proof.Machine.execTrainingPass output dpcdRevision s
  | .trainingFail output cause => Sys2Proof.Machine.execTrainingFail output cause s
  | .trainingTimeout output => Sys2Proof.Machine.execTrainingTimeout output s
  | .retryIntervalExpiry output => Sys2Proof.Machine.execRetryIntervalExpiry output s
  | .edidReadComplete output edid => Sys2Proof.Machine.execEdidReadComplete output edid s
  | .auxRequest who output request => Sys2Proof.Machine.execAuxRequest who output request s
  | .auxTransactionEnd output reply => Sys2Proof.Machine.execAuxTransactionEnd output reply s
  | .auxTimeout output => Sys2Proof.Machine.execAuxTimeout output s
  | .pixelUnderrun late => Sys2Proof.Machine.execPixelUnderrun late s
  | .commitSubmit who output address => Sys2Proof.Machine.execCommitSubmit who output address s
  | .reservationWrite who output value => Sys2Proof.Machine.execReservationWrite who output value s
  | .layerEnableWrite who layer value => Sys2Proof.Machine.execLayerEnableWrite who layer value s
  | .layerFetchHalt layer address uncorrectable => Sys2Proof.Machine.execLayerFetchHalt layer address uncorrectable s
  | .checkedLineMismatch layer line => Sys2Proof.Machine.execCheckedLineMismatch layer line s
  | .copyJobSubmit who channel address => Sys2Proof.Machine.execCopyJobSubmit who channel address s
  | .copyJobCopy channel => Sys2Proof.Machine.execCopyJobCopy channel s
  | .encode channel => Sys2Proof.Machine.execEncode channel s
  | .decode channel => Sys2Proof.Machine.execDecode channel s
  | .fill channel => Sys2Proof.Machine.execFill channel s
  | .clear channel => Sys2Proof.Machine.execClear channel s
  | .copyJobComplete channel => Sys2Proof.Machine.execCopyJobComplete channel s
  | .copyJobHalt channel => Sys2Proof.Machine.execCopyJobHalt channel s
  | .copyChannelEnableWrite who channel value => Sys2Proof.Machine.execCopyChannelEnableWrite who channel value s
  | .copyChannelDisableComplete channel => Sys2Proof.Machine.execCopyChannelDisableComplete channel s
  | .gpuJobSubmit who partition queue address => Sys2Proof.Machine.execGpuJobSubmit who partition queue address s
  | .gpuJobStart partition queue => Sys2Proof.Machine.execGpuJobStart partition queue s
  | .gpuJobComplete partition queue => Sys2Proof.Machine.execGpuJobComplete partition queue s
  | .gpuJobHalt partition queue => Sys2Proof.Machine.execGpuJobHalt partition queue s
  | .budgetOverrun partition => Sys2Proof.Machine.execBudgetOverrun partition s
  | .nop partition queue => Sys2Proof.Machine.execNop partition queue s
  | .setPipeline partition queue => Sys2Proof.Machine.execSetPipeline partition queue s
  | .setState partition queue => Sys2Proof.Machine.execSetState partition queue s
  | .call partition queue => Sys2Proof.Machine.execCall partition queue s
  | .draw partition queue => Sys2Proof.Machine.execDraw partition queue s
  | .drawIndexed partition queue => Sys2Proof.Machine.execDrawIndexed partition queue s
  | .drawIndirect partition queue => Sys2Proof.Machine.execDrawIndirect partition queue s
  | .dispatch partition queue => Sys2Proof.Machine.execDispatch partition queue s
  | .dispatchIndirect partition queue => Sys2Proof.Machine.execDispatchIndirect partition queue s
  | .bandBegin partition queue => Sys2Proof.Machine.execBandBegin partition queue s
  | .bandEnd partition queue => Sys2Proof.Machine.execBandEnd partition queue s
  | .bandWritebackDone partition queue => Sys2Proof.Machine.execBandWritebackDone partition queue s
  | .copy partition queue => Sys2Proof.Machine.execCopy partition queue s
  | .fenceWrite partition queue => Sys2Proof.Machine.execFenceWrite partition queue s
  | .fenceWait partition queue => Sys2Proof.Machine.execFenceWait partition queue s
  | .fenceWaitSatisfied partition queue => Sys2Proof.Machine.execFenceWaitSatisfied partition queue s
  | .fenceWaitTimeout partition queue => Sys2Proof.Machine.execFenceWaitTimeout partition queue s
  | .beadArm partition queue => Sys2Proof.Machine.execBeadArm partition queue s
  | .rodWait partition queue => Sys2Proof.Machine.execRodWait partition queue s
  | .rodWaitSatisfied partition queue => Sys2Proof.Machine.execRodWaitSatisfied partition queue s
  | .rodWaitTimeout partition queue => Sys2Proof.Machine.execRodWaitTimeout partition queue s
  | .timestamp partition queue => Sys2Proof.Machine.execTimestamp partition queue s
  | .gpuCoreFault failed => Sys2Proof.Machine.execGpuCoreFault failed s
  | .gpuCoreResetDone core => Sys2Proof.Machine.execGpuCoreResetDone core s
  | .coreLeavingDrained core => Sys2Proof.Machine.execCoreLeavingDrained core s
  | .reshapePoint partition => Sys2Proof.Machine.execReshapePoint partition s
  | .gpuQueueEnableWrite who partition queue value => Sys2Proof.Machine.execGpuQueueEnableWrite who partition queue value s
  | .disableGraceExpiry partition queue => Sys2Proof.Machine.execDisableGraceExpiry partition queue s
  | .gpuQueueDisableComplete partition queue => Sys2Proof.Machine.execGpuQueueDisableComplete partition queue s
  | .preemptionComplete partition => Sys2Proof.Machine.execPreemptionComplete partition s
  | .preemptionHoldEnd partition => Sys2Proof.Machine.execPreemptionHoldEnd partition s
  | .pipelineCreateSubmit who address => Sys2Proof.Machine.execPipelineCreateSubmit who address s
  | .compilationStart serviceCore => Sys2Proof.Machine.execCompilationStart serviceCore s
  | .compilationComplete serviceCore firstBytes secondBytes => Sys2Proof.Machine.execCompilationComplete serviceCore firstBytes secondBytes s
  | .pipelineDestroy who handle => Sys2Proof.Machine.execPipelineDestroy who handle s
  | .serviceCoreFault serviceCore => Sys2Proof.Machine.execServiceCoreFault serviceCore s
  | .scanComplete panel found => Sys2Proof.Machine.execScanComplete panel found s
  | .longRestExpiry panel identity => Sys2Proof.Machine.execLongRestExpiry panel identity s
  | .touchIdleExpiry panel => Sys2Proof.Machine.execTouchIdleExpiry panel s
  | .rebaseline who panel => Sys2Proof.Machine.execRebaseline who panel s
  | .recalibrate who panel => Sys2Proof.Machine.execRecalibrate who panel s
  | .saveReference who panel value => Sys2Proof.Machine.execSaveReference who panel value s
  | .panelEnableWrite who panel value => Sys2Proof.Machine.execPanelEnableWrite who panel value s
  | .panelDisableComplete panel => Sys2Proof.Machine.execPanelDisableComplete panel s
  | .temperatureBandChange degrees => Sys2Proof.Machine.execTemperatureBandChange degrees s
  | .nodeMemoryFault panel => Sys2Proof.Machine.execNodeMemoryFault panel s
  | .hapticTrigger who channel argument => Sys2Proof.Machine.execHapticTrigger who channel argument s
  | .triggerTaken channel => Sys2Proof.Machine.execTriggerTaken channel s
  | .hapticLoopPeriod channel currentMa voltageMv diDt => Sys2Proof.Machine.execHapticLoopPeriod channel currentMa voltageMv diDt s
  | .checkPhaseEnd channel resistance forceFactor => Sys2Proof.Machine.execCheckPhaseEnd channel resistance forceFactor s
  | .driveEnd channel resistance forceFactor => Sys2Proof.Machine.execDriveEnd channel resistance forceFactor s
  | .inDriveCheck channel resistance forceFactor => Sys2Proof.Machine.execInDriveCheck channel resistance forceFactor s
  | .brakeEnd channel => Sys2Proof.Machine.execBrakeEnd channel s
  | .brakeTimeout channel => Sys2Proof.Machine.execBrakeTimeout channel s
  | .bridgeTrip channel overTemperature => Sys2Proof.Machine.execBridgeTrip channel overTemperature s
  | .identify who channel => Sys2Proof.Machine.execIdentify who channel s
  | .identificationEnd channel fit => Sys2Proof.Machine.execIdentificationEnd channel fit s
  | .clearFault who channel value => Sys2Proof.Machine.execClearFault who channel value s
  | .modelStateWrite who channel value => Sys2Proof.Machine.execModelStateWrite who channel value s
  | .hapticEnableWrite who channel value => Sys2Proof.Machine.execHapticEnableWrite who channel value s
  | .hapticDisableComplete channel => Sys2Proof.Machine.execHapticDisableComplete channel s
  | .audioBlock => Sys2Proof.Machine.execAudioBlock s
  | .lowLatencyBlock => Sys2Proof.Machine.execLowLatencyBlock s
  | .inputRunWrite who input value => Sys2Proof.Machine.execInputRunWrite who input value s
  | .writePositionWrite who input value => Sys2Proof.Machine.execWritePositionWrite who input value s
  | .readPositionWrite who sink value => Sys2Proof.Machine.execReadPositionWrite who sink value s
  | .gainWrite who index sub data => Sys2Proof.Machine.execGainWrite who index sub data s
  | .gainStepTimeout index sub => Sys2Proof.Machine.execGainStepTimeout index sub s
  | .stageSilenceHoldExpiry sink => Sys2Proof.Machine.execStageSilenceHoldExpiry sink s
  | .speakerStageFault sink => Sys2Proof.Machine.execSpeakerStageFault sink s
  | .stageRetryExpiry sink => Sys2Proof.Machine.execStageRetryExpiry sink s
  | .headsetDetEdge port present => Sys2Proof.Machine.execHeadsetDetEdge port present s
  | .headsetDebounceExpiry port => Sys2Proof.Machine.execHeadsetDebounceExpiry port s
  | .headsetMeasurementComplete port za zb => Sys2Proof.Machine.execHeadsetMeasurementComplete port za zb s
  | .headsetRemeasureExpiry port => Sys2Proof.Machine.execHeadsetRemeasureExpiry port s
  | .headsetWatchTick port za => Sys2Proof.Machine.execHeadsetWatchTick port za s
  | .headsetPlugAbsentExpiry port => Sys2Proof.Machine.execHeadsetPlugAbsentExpiry port s
  | .headsetButtonDebounce port resistance => Sys2Proof.Machine.execHeadsetButtonDebounce port resistance s
  | .audioUnitEnableWrite who index value => Sys2Proof.Machine.execAudioUnitEnableWrite who index value s
  | .audioDisableComplete index => Sys2Proof.Machine.execAudioDisableComplete index s
  | .sqTail inst ring value => Sys2Proof.Machine.execSqTail inst ring value s
  | .cqHead inst ring value => Sys2Proof.Machine.execCqHead inst ring value s
  | .ringNop inst ring => Sys2Proof.Machine.execRingNop inst ring s
  | .ringCompositionCommit inst ring => Sys2Proof.Machine.execRingCompositionCommit inst ring s
  | .ringCopyJob inst ring => Sys2Proof.Machine.execRingCopyJob inst ring s
  | .ringGpuJob inst ring => Sys2Proof.Machine.execRingGpuJob inst ring s
  | .ringPipelineCreate inst ring => Sys2Proof.Machine.execRingPipelineCreate inst ring s
  | .ringPipelineDestroy inst ring => Sys2Proof.Machine.execRingPipelineDestroy inst ring s
  | .ringBlockReadComplete inst ring good => Sys2Proof.Machine.execRingBlockReadComplete inst ring good s
  | .ringHalt inst ring => Sys2Proof.Machine.execRingHalt inst ring s
  | .ringEnableWrite who inst ring value => Sys2Proof.Machine.execRingEnableWrite who inst ring value s
  | .ringDisableComplete inst ring => Sys2Proof.Machine.execRingDisableComplete inst ring s
  | .idleHint inst value => Sys2Proof.Machine.execIdleHint inst value s
  | .timeLo inst => Sys2Proof.Machine.execTimeLo inst s
  | .ptmRequest port turnaroundNs => Sys2Proof.Machine.execPtmRequest port turnaroundNs s
  | .quiesce who inst => Sys2Proof.Machine.execQuiesce who inst s
  | .quiesceComplete inst => Sys2Proof.Machine.execQuiesceComplete inst s
  | .resume who inst => Sys2Proof.Machine.execResume who inst s
  | .startDirtyLog port function settings => Sys2Proof.Machine.execStartDirtyLog port function settings s
  | .stopDirtyLog port function => Sys2Proof.Machine.execStopDirtyLog port function s
  | .harvest port function => Sys2Proof.Machine.execHarvest port function s
  | .functionLevelReset inst => Sys2Proof.Machine.execFunctionLevelReset inst s
  | .d3hotTransition inst => Sys2Proof.Machine.execD3hotTransition inst s
  | .vfRemoval port numVfs => Sys2Proof.Machine.execVfRemoval port numVfs s
  | .vfEnableSet port numVfs => Sys2Proof.Machine.execVfEnableSet port numVfs s
  | .linkUp port speed width => Sys2Proof.Machine.execLinkUp port speed width s
  | .linkDown port => Sys2Proof.Machine.execLinkDown port s
  | .detachComplete inst => Sys2Proof.Machine.execDetachComplete inst s
  | .instanceResetComplete inst => Sys2Proof.Machine.execInstanceResetComplete inst s
  | .linkRetrain port => Sys2Proof.Machine.execLinkRetrain port s
  | .l1Entry rest => Sys2Proof.Machine.execL1Entry rest s
  | .barReservedAccess access => Sys2Proof.Machine.execBarReservedAccess access s
  | .regionRecordWrite who index sub value => Sys2Proof.Machine.execRegionRecordWrite who index sub value s
  | .enclaveBuild who enclave => Sys2Proof.Machine.execEnclaveBuild who enclave s
  | .enclaveSeal who enclave => Sys2Proof.Machine.execEnclaveSeal who enclave s
  | .sealingComplete enclave => Sys2Proof.Machine.execSealingComplete enclave s
  | .enclaveDestroy who enclave => Sys2Proof.Machine.execEnclaveDestroy who enclave s
  | .destroyComplete enclave => Sys2Proof.Machine.execDestroyComplete enclave s
  | .enclaveEnter core enclave thread => Sys2Proof.Machine.execEnclaveEnter core enclave thread s
  | .enclaveExit core made => Sys2Proof.Machine.execEnclaveExit core made s
  | .enclaveResume core enclave thread => Sys2Proof.Machine.execEnclaveResume core enclave thread s
  | .enclaveInterrupt core cause saved => Sys2Proof.Machine.execEnclaveInterrupt core cause saved s
  | .handoverRequest who word => Sys2Proof.Machine.execHandoverRequest who word s
  | .handoverRelease who block => Sys2Proof.Machine.execHandoverRelease who block s
  | .releaseTimeout block => Sys2Proof.Machine.execReleaseTimeout block s
  | .blockResetDone block => Sys2Proof.Machine.execBlockResetDone block s
  | .forcedBlockReset block => Sys2Proof.Machine.execForcedBlockReset block s
  | .run who block => Sys2Proof.Machine.execRun who block s
  | .stopClock who block => Sys2Proof.Machine.execStopClock who block s
  | .powerOff who block => Sys2Proof.Machine.execPowerOff who block s
  | .programKeySlot who data => Sys2Proof.Machine.execProgramKeySlot who data s
  | .revokeKeySlot who slot => Sys2Proof.Machine.execRevokeKeySlot who slot s
  | .retire who value => Sys2Proof.Machine.execRetire who value s
  | .drawNonce who value => Sys2Proof.Machine.execDrawNonce who value s
  | .certificate data => Sys2Proof.Machine.execCertificate data s
  | .certificateCheckComplete => Sys2Proof.Machine.execCertificateCheckComplete s
  | .idcode => Sys2Proof.Machine.execIdcode s
  | .uid => Sys2Proof.Machine.execUid s
  | .nonce => Sys2Proof.Machine.execNonce s
  | .cert data => Sys2Proof.Machine.execCert data s
  | .status => Sys2Proof.Machine.execStatus s
  | .bypass => Sys2Proof.Machine.execBypass s
  | .extest => Sys2Proof.Machine.execExtest s
  | .samplePreload => Sys2Proof.Machine.execSamplePreload s
  | .dmi domain => Sys2Proof.Machine.execDmi domain s
  | .debugReq => Sys2Proof.Machine.execDebugReq s
  | .doorbell who page word => Sys2Proof.Machine.execDoorbell who page word s
  | .claim core page => Sys2Proof.Machine.execClaim core page s
  | .complete core page source => Sys2Proof.Machine.execComplete core page source s
  | .thresholdWrite core page value => Sys2Proof.Machine.execThresholdWrite core page value s
  | .sourceEntryWrite who source value => Sys2Proof.Machine.execSourceEntryWrite who source value s
  | .moderationTimerExpiry owner cls => Sys2Proof.Machine.execModerationTimerExpiry owner cls s
  | .coreWfi core => Sys2Proof.Machine.execCoreWfi core s
  | .msixWriteIssue inst vector => Sys2Proof.Machine.execMsixWriteIssue inst vector s
  | .msixMaskWrite inst sel masked => Sys2Proof.Machine.execMsixMaskWrite inst sel masked s
  | .edgeLatchSet pin rising => Sys2Proof.Machine.execEdgeLatchSet pin rising s
  | .edgeLatchPost pin => Sys2Proof.Machine.execEdgeLatchPost pin s
  | .requestPromotion request => Sys2Proof.Machine.execRequestPromotion request s
  | .bankSkewWindow channel transfers busiestBank busiestCount region => Sys2Proof.Machine.execBankSkewWindow channel transfers busiestBank busiestCount region s
  | .modeRegister4Read rank field limitExceeded => Sys2Proof.Machine.execModeRegister4Read rank field limitExceeded s
  | .commandPathCheck rank mismatch again => Sys2Proof.Machine.execCommandPathCheck rank mismatch again s
  | .takeOutOfService who rank value => Sys2Proof.Machine.execTakeOutOfService who rank value s
  | .carryCopyComplete => Sys2Proof.Machine.execCarryCopyComplete s
  | .carryDrainComplete => Sys2Proof.Machine.execCarryDrainComplete s
  | .remap who region value => Sys2Proof.Machine.execRemap who region value s
  | .remapBlockDone => Sys2Proof.Machine.execRemapBlockDone s
  | .wayMaskWrite who partition value => Sys2Proof.Machine.execWayMaskWrite who partition value s
  | .wayWritebackComplete partition => Sys2Proof.Machine.execWayWritebackComplete partition s
  | .lockWrite who partition value => Sys2Proof.Machine.execLockWrite who partition value s
  | .dramReadComplete owner address merge => Sys2Proof.Machine.execDramReadComplete owner address merge s
  | .scrubBurst => Sys2Proof.Machine.execScrubBurst s
  | .lapLimitExpiry => Sys2Proof.Machine.execLapLimitExpiry s
  | .sramError word => Sys2Proof.Machine.execSramError word s
  | .clearRetiredList who value => Sys2Proof.Machine.execClearRetiredList who value s
  | .catalogueLoad who engine code => Sys2Proof.Machine.execCatalogueLoad who engine code s
  | .selfCheck who engine value => Sys2Proof.Machine.execSelfCheck who engine value s
  | .streamOpen who engine => Sys2Proof.Machine.execStreamOpen who engine s
  | .streamClose who engine => Sys2Proof.Machine.execStreamClose who engine s
  | .streamAbort who engine => Sys2Proof.Machine.execStreamAbort who engine s
  | .feedWord who engine value => Sys2Proof.Machine.execFeedWord who engine value s
  | .feedEnd engine => Sys2Proof.Machine.execFeedEnd engine s
  | .feedHalt engine => Sys2Proof.Machine.execFeedHalt engine s
  | .directData who engine data => Sys2Proof.Machine.execDirectData who engine data s
  | .ninesEnableWrite who engine value => Sys2Proof.Machine.execNinesEnableWrite who engine value s
  | .ninesDisableComplete engine => Sys2Proof.Machine.execNinesDisableComplete engine s
  | .recordCommit => Sys2Proof.Machine.execRecordCommit s
  | .logClear who value => Sys2Proof.Machine.execLogClear who value s
  | .postEvent who data => Sys2Proof.Machine.execPostEvent who data s
  | .bucketRefill cls => Sys2Proof.Machine.execBucketRefill cls s
  | .pixelPipeFault output => Sys2Proof.Machine.execPixelPipeFault output s
  | .lockstepMismatch => Sys2Proof.Machine.execLockstepMismatch s
  | .islandWatchdogExpiry => Sys2Proof.Machine.execIslandWatchdogExpiry s
  | .islandSwitch who value => Sys2Proof.Machine.execIslandSwitch who value s
  | .islandRestartComplete => Sys2Proof.Machine.execIslandRestartComplete s
  | .pairSelfTestComplete pair passed => Sys2Proof.Machine.execPairSelfTestComplete pair passed s
  | .watchdogKick who watchdog value => Sys2Proof.Machine.execWatchdogKick who watchdog value s
  | .ownerWatchdogExpiry watchdog => Sys2Proof.Machine.execOwnerWatchdogExpiry watchdog s
  | .courierHeartbeatTimer => Sys2Proof.Machine.execCourierHeartbeatTimer s
  | .heartbeatFrame frame => Sys2Proof.Machine.execHeartbeatFrame frame s
  | .mirrorFrame frame => Sys2Proof.Machine.execMirrorFrame frame s
  | .mirrorTimer => Sys2Proof.Machine.execMirrorTimer s
  | .rodMarkFrame frame => Sys2Proof.Machine.execRodMarkFrame frame s
  | .probeTimer => Sys2Proof.Machine.execProbeTimer s
  | .probeFrame frame turnaround => Sys2Proof.Machine.execProbeFrame frame turnaround s
  | .echoFrame frame roundTripNs => Sys2Proof.Machine.execEchoFrame frame roundTripNs s
  | .courierBlockLock => Sys2Proof.Machine.execCourierBlockLock s
  | .courierSilenceTimeout => Sys2Proof.Machine.execCourierSilenceTimeout s
  | .takeoverExpiry output => Sys2Proof.Machine.execTakeoverExpiry output s
  | .returnDelayExpiry output => Sys2Proof.Machine.execReturnDelayExpiry output s
  | .powerOn => Sys2Proof.Machine.execPowerOn s
  | .resetNLow => Sys2Proof.Machine.execResetNLow s
  | .internalResetRelease nodeStraps pairRole bootSel => Sys2Proof.Machine.execInternalResetRelease nodeStraps pairRole bootSel s
  | .softwareReset who value => Sys2Proof.Machine.execSoftwareReset who value s
  | .brownOut => Sys2Proof.Machine.execBrownOut s
  | .dramTrainingComplete timeMs => Sys2Proof.Machine.execDramTrainingComplete timeMs s
  | .verifyingComplete => Sys2Proof.Machine.execVerifyingComplete s
  | .updateActivate who => Sys2Proof.Machine.execUpdateActivate who s
  | .updateAbandon who => Sys2Proof.Machine.execUpdateAbandon who s
  | .updateCommit who => Sys2Proof.Machine.execUpdateCommit who s
  | .loadingComplete => Sys2Proof.Machine.execLoadingComplete s
  | .trialTimeExpiry => Sys2Proof.Machine.execTrialTimeExpiry s
  | .thermalStepDown logicTenths analogTenths dramHot => Sys2Proof.Machine.execThermalStepDown logicTenths analogTenths dramHot s
  | .thermalReturnExpiry => Sys2Proof.Machine.execThermalReturnExpiry s
  | .thermalShutdown => Sys2Proof.Machine.execThermalShutdown s
  | .vinThresholdEvent millivolts => Sys2Proof.Machine.execVinThresholdEvent millivolts s
  | .canPortStateChange port value => Sys2Proof.Machine.execCanPortStateChange port value s
  | .tpdoInhibitExpiry pdo => Sys2Proof.Machine.execTpdoInhibitExpiry pdo s
  | .perstDeassertion port => Sys2Proof.Machine.execPerstDeassertion port s
  | .d0Transition inst => Sys2Proof.Machine.execD0Transition inst s

end Sys2Proof.Machine
end

