-- ==== Sys2Proof/Machine/Tick.lean ====
section
/-! DEFINITION. What happens while no command waits: one cycle of the 38.4 MHz reference passes. -/

namespace Sys2Proof.Machine

/-- One cycle of the reference (R37, R38): the device clock advances, and the mirrors of 5030h follow (R391). -/
def Dev.tick (d : Dev) : Dev := d.clockTick.refreshMirrors

/-- The empty queue: a tick of the running logic (assumption log 3). -/
def tick (s : State) : Host.Outcome State Fault Refusal := act Dev.tick s

end Sys2Proof.Machine
end

