-- ==== Sys2Proof/WellFormed.lean ====
section
/-! DEFINITION. Well-formed commands: the units that a command names exist, and its numbers fit the words that carry them. A
command that names no unit of the block changes nothing (assumption log 2). -/

namespace Sys2Proof

open Machine

/-- Rods 0 to 11. -/
def isRod (n : Nat) : Bool := n < 12
/-- A CAN, host, headset or courier port, an island pair, a SYNC_OUT ball, a service core: 0 or 1. -/
def isPair (n : Nat) : Bool := n < 2
/-- Outputs, haptic channels, DRAM channels, Nines engines: 0 to 7. -/
def isOutput (n : Nat) : Bool := n < 8
/-- Touch panels 0 to 7. -/
def isPanel (n : Nat) : Bool := n < 8
/-- Layers 0 to 47. -/
def isLayer (n : Nat) : Bool := n < 48
/-- Copy channels 0 to 31. -/
def isChannel (n : Nat) : Bool := n < 32
/-- DRAM regions 0 to 31. -/
def isRegion (n : Nat) : Bool := n < 32
/-- Bead slots 0 to 511. -/
def isSlot (n : Nat) : Bool := n < 512
/-- Owner codes that have a GPU partition (R145). -/
def isPartition (o : Nat) : Bool := (1 ≤ o && o ≤ 0x20) || (0x40 ≤ o && o ≤ 0x7F)
/-- Queues of a partition. -/
def isQueue (n : Nat) : Bool := n < 4
/-- GPU cores 0 to 15. -/
def isGpuCore (n : Nat) : Bool := n < 16
/-- Cores as the Letterbox counts them: service cores 0 and 1, application cores 2 to 7, the island pair as 8. -/
def isCore (n : Nat) : Bool := n < 9
/-- Audio inputs 0 to 31. -/
def isInput (n : Nat) : Bool := n < 32
/-- Audio sinks 0 to 11. -/
def isSink (n : Nat) : Bool := n < 12
/-- Host instances 0 to 63. -/
def isInst (n : Nat) : Bool := n < 64
/-- Functions of a port, 0 the PF. -/
def isFunction (n : Nat) : Bool := n < 32
/-- Rings of an instance. -/
def isRing (n : Nat) : Bool := n < 8
/-- MSI-X vectors of an instance. -/
def isVector (n : Nat) : Bool := n < 64
/-- Enclaves 1 to 31. -/
def isEnclave (n : Nat) : Bool := 1 ≤ n && n ≤ 31
/-- Threads of an enclave. -/
def isThread (n : Nat) : Bool := n < 8
/-- Key slots of the fuses. -/
def isKeySlot (n : Nat) : Bool := n < 4
/-- Blocks of Table 14-5, and the clock domains F00h + d (R293). -/
def isBlock (n : Nat) : Bool := blockExists n || (0xF00 ≤ n && n < 0x1000)
/-- Sources that Table 15-2 lists. -/
def isSource (n : Nat) : Bool := !(sourceReserved n)
/-- GPIO 0 to 15, and WAKE_IN as 16. -/
def isPin (n : Nat) : Bool := n < 17
/-- PDOs, watchdogs, ranks, way partitions, clock domains, moderation classes: 0 to 15. -/
def isPdo (n : Nat) : Bool := n < 16
/-- CANopen node IDs, 0 for every node. -/
def isNode (n : Nat) : Bool := n < 128
/-- Heartbeat consumer entries 1 to 8. -/
def isEntry (n : Nat) : Bool := 1 ≤ n && n ≤ 8
/-- Windows: 0 to 32 on the chip, 64 + i of instance i. -/
def isWindow (n : Nat) : Bool := n < 33 || (64 ≤ n && n < 128)
/-- Offsets in a window. -/
def isOffset (n : Nat) : Bool := n < 4096
/-- Indexes of the dictionary. -/
def isIndex (n : Nat) : Bool := n < 65536
/-- Subindexes; owner codes and event classes. -/
def isSub (n : Nat) : Bool := n < 256
/-- A number that a register of the block can carry. -/
def isWord (n : Nat) : Bool := n < 2 ^ 64

/-- The command is well formed. -/
def Instr.wellFormed : Instr → Bool
  | .rodAdvanceLine rod _ => isRod rod
  | .syncOutRelease ball => isPair ball
  | .freeRunWrite who rod value => initOk who && isRod rod && isWord value
  | .freeRodTimingWrite who rod sub value => initOk who && isRod rod && isSub sub && isWord value
  | .lockSourceWrite who rod value => initOk who && isRod rod && isWord value
  | .lockReferenceEvent rod _ _ => isRod rod
  | .lockReferenceAbsent rod => isRod rod
  | .holdoverExpiry rod => isRod rod
  | .beadWordWrite who slot value => initOk who && isSlot slot && isWord value
  | .actionWordWrite who slot value => initOk who && isSlot slot && isWord value
  | .pixelPllLocked output _ => isOutput output
  | .clockOffsetWrite who _ => initOk who
  | .rateTrimWrite who _ => initOk who
  | .offsetSlewSpent => true
  | .timeReceived port _ _ => isPair port
  | .objectWrite who (.object index) place _ => initOk who && isIndex index && isSub place
  | .objectWrite who .address place _ => initOk who && place < 2 ^ 40
  | .windowRead who win index sub => initOk who && isWindow win && isIndex index && isSub sub
  | .windowWrite who win index sub => initOk who && isWindow win && isIndex index && isSub sub
  | .windowDescribe who win index sub => initOk who && isWindow win && isIndex index && isSub sub
  | .domainReadSegment who win index sub => initOk who && isWindow win && isIndex index && isSub sub
  | .domainWriteSegment who win index sub => initOk who && isWindow win && isIndex index && isSub sub
  | .domainEnd who win index sub => initOk who && isWindow win && isIndex index && isSub sub
  | .domainAbort who win index sub => initOk who && isWindow win && isIndex index && isSub sub
  | .windowRegisterWrite who win offset _ => initOk who && isWindow win && isOffset offset
  | .windowRequestEnd win => isWindow win
  | .usdoDownload port index sub _ => isPair port && isIndex index && isSub sub
  | .usdoUpload port index sub => isPair port && isIndex index && isSub sub
  | .rpdoReceived port pdo _ => isPair port && isPdo pdo
  | .rpdoTimeout pdo => isPdo pdo
  | .tpdoEventTimerExpiry pdo => isPdo pdo
  | .syncReceived port => isPair port
  | .heartbeatProducerTimer => true
  | .heartbeatReceived port node => isPair port && isNode node
  | .heartbeatConsumerTimeout entry => isEntry entry
  | .emcyInhibitExpiry => true
  | .canReceiveOverrun port => isPair port
  | .canBusOffRecovery port => isPair port
  | .nmtStartRemoteNode port node => isPair port && isNode node
  | .nmtStopRemoteNode port node => isPair port && isNode node
  | .nmtEnterPreOperational port node => isPair port && isNode node
  | .nmtResetNode port node => isPair port && isNode node
  | .nmtResetCommunication port node => isPair port && isNode node
  | .errorHistoryClear who value => initOk who && isWord value
  | .storeParameters who sub value => initOk who && isSub sub && isWord value
  | .storeSaveComplete _ => true
  | .restoreDefaults who sub value => initOk who && isSub sub && isWord value
  | .profileRequest who value => initOk who && isWord value
  | .keepAliveRequest who => initOk who
  | .keepAliveEntryComplete => true
  | .keepAliveExit _ => true
  | .sleepRequest who => initOk who
  | .canWakePattern port => isPair port
  | .outputRequestedStateWrite who output value => initOk who && isOutput output && isWord value
  | .outputDisableComplete output => isOutput output
  | .timingApply who output value => initOk who && isOutput output && isWord value
  | .hpdDebouncedRise output => isOutput output
  | .hpdDebouncedFall output => isOutput output
  | .hpdIrq output _ => isOutput output
  | .trainingPass output _ => isOutput output
  | .trainingFail output _ => isOutput output
  | .trainingTimeout output => isOutput output
  | .retryIntervalExpiry output => isOutput output
  | .edidReadComplete output _ => isOutput output
  | .auxRequest who output _ => initOk who && isOutput output
  | .auxTransactionEnd output _ => isOutput output
  | .auxTimeout output => isOutput output
  | .pixelUnderrun late => isOutput late.output && isWord late.first && isWord late.count
  | .commitSubmit who output address => initOk who && isOutput output && isWord address
  | .reservationWrite who output value => initOk who && isOutput output && isWord value
  | .layerEnableWrite who layer value => initOk who && isLayer layer && isWord value
  | .layerFetchHalt layer address _ => isLayer layer && isWord address
  | .checkedLineMismatch layer _ => isLayer layer
  | .copyJobSubmit who channel address => initOk who && isChannel channel && isWord address
  | .copyJobCopy channel => isChannel channel
  | .encode channel => isChannel channel
  | .decode channel => isChannel channel
  | .fill channel => isChannel channel
  | .clear channel => isChannel channel
  | .copyJobComplete channel => isChannel channel
  | .copyJobHalt channel => isChannel channel
  | .copyChannelEnableWrite who channel value => initOk who && isChannel channel && isWord value
  | .copyChannelDisableComplete channel => isChannel channel
  | .gpuJobSubmit who partition queue address => initOk who && isPartition partition && isQueue queue && isWord address
  | .gpuJobStart partition queue => isPartition partition && isQueue queue
  | .gpuJobComplete partition queue => isPartition partition && isQueue queue
  | .gpuJobHalt partition queue => isPartition partition && isQueue queue
  | .budgetOverrun partition => isPartition partition
  | .nop partition queue => isPartition partition && isQueue queue
  | .setPipeline partition queue => isPartition partition && isQueue queue
  | .setState partition queue => isPartition partition && isQueue queue
  | .call partition queue => isPartition partition && isQueue queue
  | .draw partition queue => isPartition partition && isQueue queue
  | .drawIndexed partition queue => isPartition partition && isQueue queue
  | .drawIndirect partition queue => isPartition partition && isQueue queue
  | .dispatch partition queue => isPartition partition && isQueue queue
  | .dispatchIndirect partition queue => isPartition partition && isQueue queue
  | .bandBegin partition queue => isPartition partition && isQueue queue
  | .bandEnd partition queue => isPartition partition && isQueue queue
  | .bandWritebackDone partition queue => isPartition partition && isQueue queue
  | .copy partition queue => isPartition partition && isQueue queue
  | .fenceWrite partition queue => isPartition partition && isQueue queue
  | .fenceWait partition queue => isPartition partition && isQueue queue
  | .fenceWaitSatisfied partition queue => isPartition partition && isQueue queue
  | .fenceWaitTimeout partition queue => isPartition partition && isQueue queue
  | .beadArm partition queue => isPartition partition && isQueue queue
  | .rodWait partition queue => isPartition partition && isQueue queue
  | .rodWaitSatisfied partition queue => isPartition partition && isQueue queue
  | .rodWaitTimeout partition queue => isPartition partition && isQueue queue
  | .timestamp partition queue => isPartition partition && isQueue queue
  | .gpuCoreFault failed => isGpuCore failed.core && failed.queues < 16
  | .gpuCoreResetDone core => isGpuCore core
  | .coreLeavingDrained core => isGpuCore core
  | .reshapePoint partition => isPartition partition
  | .gpuQueueEnableWrite who partition queue value => initOk who && isPartition partition && isQueue queue && isWord value
  | .disableGraceExpiry partition queue => isPartition partition && isQueue queue
  | .gpuQueueDisableComplete partition queue => isPartition partition && isQueue queue
  | .preemptionComplete partition => isPartition partition
  | .preemptionHoldEnd partition => isPartition partition
  | .pipelineCreateSubmit who address => initOk who && isWord address
  | .compilationStart serviceCore => isPair serviceCore
  | .compilationComplete serviceCore _ _ => isPair serviceCore
  | .pipelineDestroy who handle => initOk who && isWord handle
  | .serviceCoreFault serviceCore => isPair serviceCore
  | .scanComplete panel _ => isPanel panel
  | .longRestExpiry panel _ => isPanel panel
  | .touchIdleExpiry panel => isPanel panel
  | .rebaseline who panel => initOk who && isPanel panel
  | .recalibrate who panel => initOk who && isPanel panel
  | .saveReference who panel value => initOk who && isPanel panel && isWord value
  | .panelEnableWrite who panel value => initOk who && isPanel panel && isWord value
  | .panelDisableComplete panel => isPanel panel
  | .temperatureBandChange _ => true
  | .nodeMemoryFault panel => isPanel panel
  | .hapticTrigger who channel argument => initOk who && isOutput channel && isWord argument
  | .triggerTaken channel => isOutput channel
  | .hapticLoopPeriod channel _ _ _ => isOutput channel
  | .checkPhaseEnd channel _ _ => isOutput channel
  | .driveEnd channel _ _ => isOutput channel
  | .inDriveCheck channel _ _ => isOutput channel
  | .brakeEnd channel => isOutput channel
  | .brakeTimeout channel => isOutput channel
  | .bridgeTrip channel _ => isOutput channel
  | .identify who channel => initOk who && isOutput channel
  | .identificationEnd channel _ => isOutput channel
  | .clearFault who channel value => initOk who && isOutput channel && isWord value
  | .modelStateWrite who channel value => initOk who && isOutput channel && isWord value
  | .hapticEnableWrite who channel value => initOk who && isOutput channel && isWord value
  | .hapticDisableComplete channel => isOutput channel
  | .audioBlock => true
  | .lowLatencyBlock => true
  | .inputRunWrite who input value => initOk who && isInput input && isWord value
  | .writePositionWrite who input value => initOk who && isInput input && isWord value
  | .readPositionWrite who sink value => initOk who && isSink sink && isWord value
  | .gainWrite who index sub _ => initOk who && isIndex index && isSub sub
  | .gainStepTimeout index sub => isIndex index && isSub sub
  | .stageSilenceHoldExpiry sink => isSink sink
  | .speakerStageFault sink => isSink sink
  | .stageRetryExpiry sink => isSink sink
  | .headsetDetEdge port _ => isPair port
  | .headsetDebounceExpiry port => isPair port
  | .headsetMeasurementComplete port _ _ => isPair port
  | .headsetRemeasureExpiry port => isPair port
  | .headsetWatchTick port _ => isPair port
  | .headsetPlugAbsentExpiry port => isPair port
  | .headsetButtonDebounce port _ => isPair port
  | .audioUnitEnableWrite who index value => initOk who && isIndex index && isWord value
  | .audioDisableComplete index => isIndex index
  | .sqTail inst ring value => isInst inst && isRing ring && isWord value
  | .cqHead inst ring value => isInst inst && isRing ring && isWord value
  | .ringNop inst ring => isInst inst && isRing ring
  | .ringCompositionCommit inst ring => isInst inst && isRing ring
  | .ringCopyJob inst ring => isInst inst && isRing ring
  | .ringGpuJob inst ring => isInst inst && isRing ring
  | .ringPipelineCreate inst ring => isInst inst && isRing ring
  | .ringPipelineDestroy inst ring => isInst inst && isRing ring
  | .ringBlockReadComplete inst ring _ => isInst inst && isRing ring
  | .ringHalt inst ring => isInst inst && isRing ring
  | .ringEnableWrite who inst ring value => initOk who && isInst inst && isRing ring && isWord value
  | .ringDisableComplete inst ring => isInst inst && isRing ring
  | .idleHint inst value => isInst inst && isWord value
  | .timeLo inst => isInst inst
  | .ptmRequest port _ => isPair port
  | .quiesce who inst => initOk who && isInst inst
  | .quiesceComplete inst => isInst inst
  | .resume who inst => initOk who && isInst inst
  | .startDirtyLog port function _ => isPair port && isFunction function
  | .stopDirtyLog port function => isPair port && isFunction function
  | .harvest port function => isPair port && isFunction function
  | .functionLevelReset inst => isInst inst
  | .d3hotTransition inst => isInst inst
  | .vfRemoval port _ => isPair port
  | .vfEnableSet port _ => isPair port
  | .linkUp port _ _ => isPair port
  | .linkDown port => isPair port
  | .detachComplete inst => isInst inst
  | .instanceResetComplete inst => isInst inst
  | .linkRetrain port => isPair port
  | .l1Entry rest => isPair rest.port && 3 ≤ rest.state && rest.state ≤ 5
  | .barReservedAccess access =>
    isInst access.inst && access.offset + access.size ≤ 65536 && [1, 2, 4, 8].contains access.size
      && (access.value.getD 0) < 256 ^ access.size
  | .regionRecordWrite who index sub value => initOk who && isIndex index && isSub sub && isWord value
  | .enclaveBuild who enclave => initOk who && isEnclave enclave
  | .enclaveSeal who enclave => initOk who && isEnclave enclave
  | .sealingComplete enclave => isEnclave enclave
  | .enclaveDestroy who enclave => initOk who && isEnclave enclave
  | .destroyComplete enclave => isEnclave enclave
  | .enclaveEnter core enclave thread => isCore core && isEnclave enclave && isThread thread
  | .enclaveExit core made => isCore core && isWord made.value
  | .enclaveResume core enclave thread => isCore core && isEnclave enclave && isThread thread
  | .enclaveInterrupt core _ _ => isCore core
  | .handoverRequest who word => initOk who && isWord word
  | .handoverRelease who block => initOk who && isBlock block
  | .releaseTimeout block => isBlock block
  | .blockResetDone block => isBlock block
  | .forcedBlockReset block => isBlock block
  | .run who block => initOk who && isBlock block
  | .stopClock who block => initOk who && isBlock block
  | .powerOff who block => initOk who && isBlock block
  | .programKeySlot who _ => initOk who
  | .revokeKeySlot who slot => initOk who && isKeySlot slot
  | .retire who value => initOk who && isWord value
  | .drawNonce who value => initOk who && isWord value
  | .certificate _ => true
  | .certificateCheckComplete => true
  | .idcode => true
  | .uid => true
  | .nonce => true
  | .cert _ => true
  | .status => true
  | .bypass => true
  | .extest => true
  | .samplePreload => true
  | .dmi domain => isPdo domain
  | .debugReq => true
  | .doorbell who page word => initOk who && isSub page && isWord word
  | .claim core page => isCore core && isSub page
  | .complete core page source => isCore core && isSub page && isSource source
  | .thresholdWrite core page value => isCore core && isSub page && isWord value
  | .sourceEntryWrite who source value => initOk who && isSource source && isWord value
  | .moderationTimerExpiry owner cls => isSub owner && isPdo cls
  | .coreWfi core => isCore core
  | .msixWriteIssue inst vector => isInst inst && isVector vector
  | .msixMaskWrite inst _ _ => isInst inst
  | .edgeLatchSet pin _ => isPin pin
  | .edgeLatchPost pin => isPin pin
  | .requestPromotion request => isOutput request.channel
  | .bankSkewWindow channel _ _ _ region => isOutput channel && isRegion region
  | .modeRegister4Read rank _ _ => isPdo rank
  | .commandPathCheck rank _ _ => isPdo rank
  | .takeOutOfService who rank value => initOk who && isPdo rank && isWord value
  | .carryCopyComplete => true
  | .carryDrainComplete => true
  | .remap who region value => initOk who && isRegion region && isWord value
  | .remapBlockDone => true
  | .wayMaskWrite who partition value => initOk who && isPdo partition && isWord value
  | .wayWritebackComplete partition => isPdo partition
  | .lockWrite who partition value => initOk who && isPdo partition && isWord value
  | .dramReadComplete owner address _ => isSub owner && isWord address
  | .scrubBurst => true
  | .lapLimitExpiry => true
  | .sramError _ => true
  | .clearRetiredList who value => initOk who && isWord value
  | .catalogueLoad who engine code => initOk who && isOutput engine && isSub code
  | .selfCheck who engine value => initOk who && isOutput engine && isWord value
  | .streamOpen who engine => initOk who && isOutput engine
  | .streamClose who engine => initOk who && isOutput engine
  | .streamAbort who engine => initOk who && isOutput engine
  | .feedWord who engine value => initOk who && isOutput engine && isWord value
  | .feedEnd engine => isOutput engine
  | .feedHalt engine => isOutput engine
  | .directData who engine _ => initOk who && isOutput engine
  | .ninesEnableWrite who engine value => initOk who && isOutput engine && isWord value
  | .ninesDisableComplete engine => isOutput engine
  | .recordCommit => true
  | .logClear who value => initOk who && isWord value
  | .postEvent who _ => initOk who
  | .bucketRefill cls => isSub cls
  | .pixelPipeFault output => isOutput output
  | .lockstepMismatch => true
  | .islandWatchdogExpiry => true
  | .islandSwitch who value => initOk who && isWord value
  | .islandRestartComplete => true
  | .pairSelfTestComplete pair _ => isPair pair
  | .watchdogKick who watchdog value => initOk who && isPdo watchdog && isWord value
  | .ownerWatchdogExpiry watchdog => isPdo watchdog
  | .courierHeartbeatTimer => true
  | .heartbeatFrame _ => true
  | .mirrorFrame _ => true
  | .mirrorTimer => true
  | .rodMarkFrame _ => true
  | .probeTimer => true
  | .probeFrame _ _ => true
  | .echoFrame _ _ => true
  | .courierBlockLock => true
  | .courierSilenceTimeout => true
  | .takeoverExpiry output => isOutput output
  | .returnDelayExpiry output => isOutput output
  | .powerOn => true
  | .resetNLow => true
  | .internalResetRelease _ _ _ => true
  | .softwareReset who value => initOk who && isWord value
  | .brownOut => true
  | .dramTrainingComplete _ => true
  | .verifyingComplete => true
  | .updateActivate who => initOk who
  | .updateAbandon who => initOk who
  | .updateCommit who => initOk who
  | .loadingComplete => true
  | .trialTimeExpiry => true
  | .thermalStepDown _ _ _ => true
  | .thermalReturnExpiry => true
  | .thermalShutdown => true
  | .vinThresholdEvent _ => true
  | .canPortStateChange port value => isPair port && isWord value
  | .tpdoInhibitExpiry pdo => isPdo pdo
  | .perstDeassertion port => isPair port
  | .d0Transition inst => isInst inst

end Sys2Proof
end

