-- ==== Sys2Proof/Safety.lean ====
section
/-! DEFINITION. The terms in which claims speak of a run: when commands act, the state that a command leaves, and the invariant
of the error register. -/

namespace Sys2Proof.Machine

/-- The logic runs and the island serves requests. -/
def State.ready (s : State) : Bool := s.dev.live && s.dev.serving

/-- The state that a command with the effect `d` leaves: the queue as it is, and what follows every command (R54, R59). -/
def State.after (s : State) (d : Dev) : State := { s with dev := Dev.finish s.dev d }

/-- An EMCY that has been sent still has a condition that lasts, or error code 0000h has followed it (R59). -/
def Dev.errorsShown (d : Dev) : Prop := d.live = true → d.can.shown = true → d.errorRegister ≠ 0

/-- The indices of the recorder's objects (Tables 19-5, 19-6). -/
def logIndex (i : Nat) : Bool := 0x2F00 ≤ i && i ≤ 0x2F27

/-- The Letterbox's tallies and source entries (Tables 15-6, 15-8): what a post may change among the objects. -/
def letterIndex (i : Nat) : Bool := i == 0x2B00 || (0x2B10 ≤ i && i ≤ 0x2B1F)

/-- The block `b` is `a` but for the objects of the indices `own`, the recorder and its objects, and what every command may
leave: its answer, what was sent, the CAN node and the error history 1003h (R59). -/
def Dev.objectsOnly (own : Nat → Bool) (a b : Dev) : Prop :=
  b = { a with objs := b.objs, recorder := b.recorder, can := b.can, answer := b.answer, sent := b.sent } ∧
  ∀ i j, j < 256 → own i = false → logIndex i = false → i ≠ 0x1003 → b.getO i j = a.getO i j

/-- The GPU domain runs, the job in hand of a queue runs and stands at a packet `p` of opcode `op`; `d1` is the block once it has been fetched. -/
abbrev Dev.atPacket (d : Dev) (o q op : Nat) (j : GpuJob) (p : Packet) (d1 : Dev) : Prop :=
  (d.gq o q).jobs.head? = some j ∧ j.runs = true ∧ j.atEnd = false ∧ d.fetchPacket o q j = (.ok p, d1) ∧ p.op = op ∧ d.gpuRuns = true

/-- A job that has moved past a packet. -/
def GpuJob.past (j : GpuJob) (p : Packet) : GpuJob := { j with pc := j.pc + p.bytes }

/-- The job after a packet that may halt it: with a status it stays at the packet, otherwise it goes on. -/
def GpuJob.outcome (j : GpuJob) (p : Packet) (halt : Option Nat) : GpuJob :=
  match halt with
  | some status => { (j.past p).halted status with packet := j.pc }
  | none => (j.past p).norm

end Sys2Proof.Machine

namespace Sys2Proof

/-- The commands that act without the logic running: the supply, RESET_N, the release of the internal reset, the CAN wake-up
pattern, the edge latches of the always-on domain, and a port's PERST# (R403, R406, R415, R311, R257). -/
def Instr.alwaysOn : Instr → Bool
  | .powerOn => true
  | .resetNLow => true
  | .internalResetRelease _ _ _ => true
  | .brownOut => true
  | .canWakePattern _ => true
  | .edgeLatchSet _ _ => true
  | .perstDeassertion _ => true
  | _ => false

/-- The commands that take the island's program: requests to the dictionary, and the messages that it processes. They need a
serving island (R45, R383). Of the wake-ups from Keep-alive, the profile request is one. -/
def Instr.request : Instr → Bool
  | .freeRunWrite _ _ _ => true
  | .freeRodTimingWrite _ _ _ _ => true
  | .lockSourceWrite _ _ _ => true
  | .beadWordWrite _ _ _ => true
  | .actionWordWrite _ _ _ => true
  | .clockOffsetWrite _ _ => true
  | .rateTrimWrite _ _ => true
  | .timeReceived _ _ _ => true
  | .objectWrite _ _ _ _ => true
  | .windowRead _ _ _ _ => true
  | .windowWrite _ _ _ _ => true
  | .windowDescribe _ _ _ _ => true
  | .domainReadSegment _ _ _ _ => true
  | .domainWriteSegment _ _ _ _ => true
  | .domainEnd _ _ _ _ => true
  | .domainAbort _ _ _ _ => true
  | .windowRequestEnd _ => true
  | .usdoDownload _ _ _ _ => true
  | .usdoUpload _ _ _ => true
  | .rpdoReceived _ _ _ => true
  | .rpdoTimeout _ => true
  | .tpdoEventTimerExpiry _ => true
  | .syncReceived _ => true
  | .heartbeatProducerTimer => true
  | .heartbeatReceived _ _ => true
  | .heartbeatConsumerTimeout _ => true
  | .emcyInhibitExpiry => true
  | .canReceiveOverrun _ => true
  | .canBusOffRecovery _ => true
  | .nmtStartRemoteNode _ _ => true
  | .nmtStopRemoteNode _ _ => true
  | .nmtEnterPreOperational _ _ => true
  | .nmtResetNode _ _ => true
  | .nmtResetCommunication _ _ => true
  | .errorHistoryClear _ _ => true
  | .storeParameters _ _ _ => true
  | .restoreDefaults _ _ _ => true
  | .profileRequest _ _ => true
  | .keepAliveRequest _ => true
  | .keepAliveExit (.profile _ _) => true
  | .sleepRequest _ => true
  | .outputRequestedStateWrite _ _ _ => true
  | .timingApply _ _ _ => true
  | .auxRequest _ _ _ => true
  | .commitSubmit _ _ _ => true
  | .reservationWrite _ _ _ => true
  | .layerEnableWrite _ _ _ => true
  | .copyJobSubmit _ _ _ => true
  | .copyChannelEnableWrite _ _ _ => true
  | .gpuJobSubmit _ _ _ _ => true
  | .gpuQueueEnableWrite _ _ _ _ => true
  | .pipelineCreateSubmit _ _ => true
  | .pipelineDestroy _ _ => true
  | .rebaseline _ _ => true
  | .recalibrate _ _ => true
  | .saveReference _ _ _ => true
  | .panelEnableWrite _ _ _ => true
  | .hapticTrigger _ _ _ => true
  | .identify _ _ => true
  | .clearFault _ _ _ => true
  | .modelStateWrite _ _ _ => true
  | .hapticEnableWrite _ _ _ => true
  | .inputRunWrite _ _ _ => true
  | .writePositionWrite _ _ _ => true
  | .readPositionWrite _ _ _ => true
  | .gainWrite _ _ _ _ => true
  | .audioUnitEnableWrite _ _ _ => true
  | .ringEnableWrite _ _ _ _ => true
  | .quiesce _ _ => true
  | .resume _ _ => true
  | .regionRecordWrite _ _ _ _ => true
  | .enclaveBuild _ _ => true
  | .enclaveSeal _ _ => true
  | .enclaveDestroy _ _ => true
  | .handoverRequest _ _ => true
  | .handoverRelease _ _ => true
  | .run _ _ => true
  | .stopClock _ _ => true
  | .powerOff _ _ => true
  | .programKeySlot _ _ => true
  | .revokeKeySlot _ _ => true
  | .retire _ _ => true
  | .drawNonce _ _ => true
  | .sourceEntryWrite _ _ _ => true
  | .takeOutOfService _ _ _ => true
  | .remap _ _ _ => true
  | .wayMaskWrite _ _ _ => true
  | .lockWrite _ _ _ => true
  | .clearRetiredList _ _ => true
  | .catalogueLoad _ _ _ => true
  | .selfCheck _ _ _ => true
  | .streamOpen _ _ => true
  | .streamClose _ _ => true
  | .streamAbort _ _ => true
  | .feedWord _ _ _ => true
  | .directData _ _ _ => true
  | .ninesEnableWrite _ _ _ => true
  | .logClear _ _ => true
  | .postEvent _ _ => true
  | .islandSwitch _ _ => true
  | .watchdogKick _ _ _ => true
  | .softwareReset _ _ => true
  | .updateActivate _ => true
  | .updateAbandon _ => true
  | .updateCommit _ => true
  | .tpdoInhibitExpiry _ => true
  | _ => false

end Sys2Proof
end

