-- ==== Sys2Proof/Certificates/Slice0/Obligations.lean ====
section
/-! DEFINITION. The statements about the block that the provers are to prove. A command is run on a state with the queue `q` and
the block `d`; what it leaves is the block after its own effect and after what follows every command (`Dev.finish`). -/

open Sys2Proof Sys2Proof.Machine

/-- For every command c, rest of the queue and block: step of a state with c at the front of its queue is exec of c on the state with
that rest. -/
def Obligations.step_runs_the_front_command : Prop :=
  ∀ (c : Instr) (rest : List Instr) (d : Dev), step ⟨c :: rest, d⟩ = exec c ⟨rest, d⟩

/-- With no command waiting, a step of a block whose logic runs advances the device clock by its step and refreshes the mirrors; a
block whose logic does not run stays as it is. That the tick stands on the empty queue is the model's own choice (assumption log 3). -/
def Obligations.an_empty_queue_ticks : Prop :=
  ∀ (d : Dev),
    (d.live → step ⟨[], d⟩ = .next ⟨[], Dev.finish d d.clockTick.refreshMirrors⟩) ∧
    (d.live = false → step ⟨[], d⟩ = .next ⟨[], d⟩)

/-- The opcode table gives none of its rows any bits, so the decoder reads no command from any word, and withFetchWord leaves every
state as it is. -/
def Obligations.no_word_spells_a_command : Prop :=
  (∀ nbits w : Nat, decodeTableWord nbits w = none) ∧ ∀ (s : State) (nbits w : Nat), s.withFetchWord nbits w = s

/-- For every list of commands l, queue q and block: as many steps as l has commands, from a state whose queue is l and then q, answer a
next state whose queue is q. No command of the table ends in a fault or a refusal in any state, and none touches the queue. -/
def Obligations.commands_run_to_the_end_in_order : Prop :=
  ∀ (l q : List Instr) (d : Dev), ∃ d' : Dev, core.run l.length ⟨l ++ q, d⟩ = .next ⟨q, d'⟩

/-- In a block without supply, held in reset or asleep, every command other than power-on, RESET_N low, the release of the internal
reset, a brown-out, the CAN wake-up pattern, an edge on a latched pin and a port's PERST# leaves the whole state as it is. -/
def Obligations.nothing_acts_while_the_logic_is_off : Prop :=
  ∀ (c : Instr) (s : State), s.dev.live = false → c.alwaysOn = false → exec c s = .next s

/-- When the logic runs and the island does not serve, every command that is a request to the dictionary server leaves the block's own
state as it is: only the messages and posts that follow every command may go out. That requests wait unserved is a deduction from
R383 (assumption log). -/
def Obligations.a_halted_island_serves_no_request : Prop :=
  ∀ (c : Instr) (s : State), s.dev.live → s.dev.serving = false → c.request = true → exec c s = .next (s.after s.dev)

/-- In the state after reset no EMCY has been sent whose end still has to be reported with error code 0000h. -/
def Obligations.errors_are_shown_at_reset : Prop :=
  State.reset.dev.errorsShown

/-- If in a state every EMCY that has been sent still has a lasting condition in 1001h or has been followed by error code 0000h, then so
it is after every step: when 1001h has become 00h, code 0000h has been sent in that very step. -/
def Obligations.every_step_keeps_errors_shown : Prop :=
  ∀ (s t : State), s.dev.errorsShown → step s = .next t → t.dev.errorsShown

/-- The queue is empty, the device clock is 0, memory and host memory list nothing, the recorder is empty, no window, transfer or Registry
entry is in use, and the objects read the defaults of their tables: the recorder records, the profile is Full, outputs are Off, the
layers are disabled or empty by owner, ranks, pairs and thermal step stand as their tables say. Values that the spec leaves open are
in assumption log 5 and are not stated here. -/
def Obligations.state_after_reset : Prop :=
  State.reset.pending = [] ∧ State.reset.dev.clock.ns = 0 ∧ State.reset.dev.mem = [] ∧ State.reset.dev.hostMem = [] ∧
  State.reset.dev.recorder.hand = none ∧ State.reset.dev.recorder.queue = [] ∧ State.reset.dev.windows = [] ∧
  State.reset.dev.transfers = [] ∧ State.reset.dev.registry.entries = [] ∧
  State.reset.dev.getO 0x2F00 1 = 0 ∧ State.reset.dev.getO 0x2002 1 = 0 ∧ State.reset.dev.getO 0x2200 2 = 0 ∧
  State.reset.dev.getO 0x2100 0x0A = 0 ∧ State.reset.dev.getO 0x3100 1 = 0 ∧ State.reset.dev.getO 0x3400 7 = 0 ∧
  (∀ c, c < 128 → State.reset.dev.getO 0x2F10 (c + 1) = if 0x78 ≤ c ∧ c < 0x80 then 0xFFFFFFFF else 0x000A0020)

/-- For every initiator, object and data: when a check of Table 3-2 up to the value's range refuses the write, the abort code of the
first check that fails is the answer, and nothing else of the block changes; the submit objects, which answer for themselves, do
the same. A store to the object's slot in a control space is refused in the same way, with a bus error. -/
def Obligations.refused_writes_change_nothing : Prop :=
  ∀ (q : List Instr) (d : Dev) (who : Init) (i j a : Nat) (b : List Byte),
    d.live → d.serving → d.checkWrite who i j b = some a →
    exec (.objectWrite who (.object i) j b) ⟨q, d⟩ = .next ⟨q, Dev.finish d { d with answer := { abort := a } }⟩ ∧
    (∀ addr, objectAt addr = (i, j, 0) → windowAt addr = none → onChip who → d.mappedFits addr b.length →
      exec (.objectWrite who .address addr b) ⟨q, d⟩ = .next ⟨q, Dev.finish d (d.busError a)⟩)

/-- For every object that exists, is no DOMAIN and may be written: a write by an initiator that does not pass the owner check of R9, or
whose class the rights mask does not permit, is refused with abort 0601_0000h and changes nothing else. -/
def Obligations.only_the_owner_configures_a_block : Prop :=
  ∀ (q : List Instr) (d : Dev) (who : Init) (i j : Nat) (b : List Byte) (r : ObjRow),
    d.live → d.serving → objRow i j = some r → d.hasIndex i → r.ty ≠ .domain → r.acc ≠ .ro → r.acc ≠ .const →
    (d.ownerPasses who i j = false ∨ r.write.testBit (initBit who) = false) →
    exec (.objectWrite who (.object i) j b) ⟨q, d⟩ = .next ⟨q, Dev.finish d { d with answer := { abort := 0x06010000 } }⟩

/-- One cycle adds to the 64-bit clock and its 32 fraction bits, taken as one number, the step (10^9 / 38 400 000) x (1 + trim / 10^9) ns
in units of 2^-32 ns, rounded to the nearest with halves up: with trim 0 it is 111 848 106 667 units. While an offset is slewed out,
the cycle adds what the slew's rate makes of the step, and at most what is left; that much less is left then, and the slew ends when
nothing is left. -/
def Obligations.device_clock_advances : Prop :=
  ∀ (d : Dev), d.getI 0x2100 0x0A 32 + d.clock.slew ≥ -1000000000 → d.getI 0x2100 0x0A 32 ≥ -1000000000 →
    let rounded (step : Nat) (rate : Int) : Prop :=
      -38400000 < 2 * ((step : Int) * 38400000 - 2 ^ 32 * rate) ∧ 2 * ((step : Int) * 38400000 - 2 ^ 32 * rate) ≤ 38400000
    let old : Int := (d.clock.ns * 2 ^ 32 + d.clock.frac : Nat)
    let new : Int := (d.clockTick.clock.ns * 2 ^ 32 + d.clockTick.clock.frac : Nat)
    ∃ step full : Nat, rounded step (1000000000 + d.getI 0x2100 0x0A 32) ∧
      rounded full (1000000000 + d.getI 0x2100 0x0A 32 + d.clock.slew) ∧ d.clockTick.clock.frac < 2 ^ 32 ∧
      (d.getI 0x2100 0x0A 32 = 0 → step = 111848106667) ∧
      (d.clock.slew = 0 → new = (old + step) % 2 ^ 96 ∧ d.clockTick.clock.slew = 0) ∧
      (d.clock.slew ≠ 0 → ∃ gain : Int, new = (old + step + gain) % 2 ^ 96 ∧ d.clockTick.clock.left = d.clock.left - gain ∧
        gain.natAbs ≤ d.clock.left.natAbs ∧ (gain = full - step ∨ d.clockTick.clock.left = 0) ∧
        d.clockTick.clock.slew = if d.clockTick.clock.left = 0 then 0 else d.clock.slew)

/-- On the running logic each command of a rod or a bead answers a next state, which is written out: the advance of a line sets
the position and starts the line (a frame ends after its last line), a free rod starts and stops, its timing and a lock source
are taken, the three lock events act, the two words of a bead are written under R29, a pixel PLL that has locked releases its
output, and a SYNC_OUT ball whose pulses are over is released. Requests pass the checks of Table 3-2 first. -/
def Obligations.rods_and_beads_complete : Prop :=
  (∀ (q : List Instr) (d : Dev) (rod late : Nat),
      d.live → rod < 12 → d.rodRuns rod → d.rodLine rod + 1 < d.rodLines rod →
      exec (.rodAdvanceLine rod late) ⟨q, d⟩ = .next ⟨q, Dev.finish d (((d.pulseLine rod).setPosition rod (d.rodFrame rod) (d.rodLine rod + 1)).lineStarts rod late)⟩) ∧
  (∀ (q : List Instr) (d : Dev) (rod late : Nat),
      d.live → 8 ≤ rod → rod < 12 → d.rodRuns rod → d.rodLines rod ≤ d.rodLine rod + 1 →
      exec (.rodAdvanceLine rod late) ⟨q, d⟩ = .next ⟨q, Dev.finish d (((d.pulseLine rod).setPosition rod ((d.rodFrame rod + 1) % 2 ^ 48) 0).lineStarts rod late)⟩) ∧
  (∀ (q : List Instr) (d : Dev) (rod late : Nat),
      d.live → rod < 8 → d.rodRuns rod → d.rodLines rod ≤ d.rodLine rod + 1 →
      (((d.pulseLine rod).drawEnds rod (d.rodLines rod)).endDisable rod).rodRuns rod →
      exec (.rodAdvanceLine rod late) ⟨q, d⟩ = .next ⟨q, Dev.finish d ((let x := ((d.pulseLine rod).drawEnds rod (d.rodLines rod)).endDisable rod; (x.setPosition rod ((x.rodFrame rod + 1) % 2 ^ 48) 0).lineStarts rod late))⟩) ∧
  (∀ (q : List Instr) (d : Dev) (rod late : Nat),
      d.live → rod < 12 → d.rodState rod = 0 →
      exec (.rodAdvanceLine rod late) ⟨q, d⟩ = .next ⟨q, Dev.finish d (d)⟩) ∧
  (∀ (q : List Instr) (d : Dev) (ball : Nat),
      d.live → ball < 2 → (∀ p ∈ d.abacus.pulses, p.ball = ball → p.lines = 0) →
      exec (.syncOutRelease ball) ⟨q, d⟩ = .next ⟨q, Dev.finish d ({ d with abacus := { d.abacus with pulses := d.abacus.pulses.filter (fun p => p.ball != ball), syncLow := setBits d.abacus.syncLow ball 1 0 } })⟩) ∧
  (∀ (q : List Instr) (d : Dev) (who : Init) (rod : Nat),
      d.live → d.serving → 8 ≤ rod → rod < 12 →
      d.checkWrite who (rodIndex rod) 8 (numData (rodIndex rod) 8 1) = none → d.rodState rod = 0 →
      exec (.freeRunWrite who rod 1) ⟨q, d⟩ = .next ⟨q, Dev.finish d (((d.setO (rodIndex rod) 8 1).startRod rod).accept)⟩) ∧
  (∀ (q : List Instr) (d : Dev) (who : Init) (rod : Nat),
      d.live → d.serving → 8 ≤ rod → rod < 12 →
      d.checkWrite who (rodIndex rod) 8 (numData (rodIndex rod) 8 0) = none →
      exec (.freeRunWrite who rod 0) ⟨q, d⟩ = .next ⟨q, Dev.finish d (((d.setO (rodIndex rod) 8 0).stopRod rod).accept)⟩) ∧
  (∀ (q : List Instr) (d : Dev) (who : Init) (rod sub value : Nat),
      d.live → d.serving → rod < 12 → (sub = 6 ∨ sub = 7) →
      d.checkWrite who (rodIndex rod) sub (numData (rodIndex rod) sub value) = none →
      exec (.freeRodTimingWrite who rod sub value) ⟨q, d⟩ = .next ⟨q, Dev.finish d ((d.setO (rodIndex rod) sub value).accept)⟩) ∧
  (∀ (q : List Instr) (d : Dev) (who : Init) (rod value : Nat),
      d.live → d.serving → rod < 12 →
      d.checkWrite who (rodIndex rod) 0x0A (numData (rodIndex rod) 0x0A value) = none →
      (0x10 ≤ value → value ≤ 0x1B → d.lockReaches rod 13 (value - 0x10) = false) → value ≠ 0 →
      exec (.lockSourceWrite who rod value) ⟨q, d⟩ = .next ⟨q, Dev.finish d (((d.setO (rodIndex rod) 0x0A value).lockFresh rod).accept)⟩) ∧
  (∀ (q : List Instr) (d : Dev) (rod : Nat) (phase trim : Int),
      d.live → rod < 12 → d.rodState rod = 1 → d.getO (rodIndex rod) 0x0A ≠ 0 → d.lockBlind rod = false →
      (d.rod rod).good = 0 →
      exec (.lockReferenceEvent rod phase trim) ⟨q, d⟩ = .next ⟨q, Dev.finish d ((d.setI (rodIndex rod) 0x13 32 (clampInt (-2147483648) 2147483647 (phase - d.getI (rodIndex rod) 0x0C 32))).setRod rod { d.rod rod with good := 1 })⟩) ∧
  (∀ (q : List Instr) (d : Dev) (rod : Nat),
      d.live → rod < 12 → (d.rodState rod = 2 ∨ d.rodState rod = 3) →
      exec (.lockReferenceAbsent rod) ⟨q, d⟩ = .next ⟨q, Dev.finish d (((d.setRod rod { d.rod rod with markAt := none }).setRodState rod 4).lockFresh rod)⟩) ∧
  (∀ (q : List Instr) (d : Dev) (rod : Nat),
      d.live → rod < 12 → d.rodState rod = 4 →
      exec (.holdoverExpiry rod) ⟨q, d⟩ = .next ⟨q, Dev.finish d (((d.setRodState rod 1).lockFresh rod).setRod rod { ((d.setRodState rod 1).lockFresh rod).rod rod with slewing := true })⟩) ∧
  (∀ (q : List Instr) (d : Dev) (who : Init) (slot value : Nat),
      d.live → d.serving → slot < 512 →
      d.checkWrite who (beadIndex slot) (wordSub slot) (numData (beadIndex slot) (wordSub slot) value) = none →
      beadRod value < 12 → beadLine value < d.rodVtotal (beadRod value) → fargOk value →
      seriesOk value (d.actionWord slot) →
      (beadEn value = true → d.actionOwned (d.owner (blockId 10 slot)) (d.actionWord slot)) →
      (beadEn value = true → isSeries (d.actionWord slot) = false → d.armedOn slot (beadRod value) (beadLine value) < 32) →
      exec (.beadWordWrite who slot value) ⟨q, d⟩ = .next ⟨q, Dev.finish d ((d.writePair slot (setBits (setBits value 60 3 0) 32 4 0) (d.actionWord slot)).accept)⟩) ∧
  (∀ (q : List Instr) (d : Dev) (who : Init) (slot value : Nat),
      d.live → d.serving → slot < 512 →
      d.checkWrite who (beadIndex slot) (wordSub slot + 1) (numData (beadIndex slot) (wordSub slot + 1) value) = none →
      beadEn (d.beadWord slot) = false → argOk (setBits value 32 24 0) →
      d.actionOwned (d.owner (blockId 10 slot)) (setBits value 32 24 0) →
      exec (.actionWordWrite who slot value) ⟨q, d⟩ = .next ⟨q, Dev.finish d ((d.writePair slot (d.beadWord slot) (setBits value 32 24 0)).accept)⟩) ∧
  (∀ (q : List Instr) (d : Dev) (output hz : Nat),
      d.live → d.awake → output < 8 → d.pixelStopped output = false → (d.output output).locking →
      exec (.pixelPllLocked output hz) ⟨q, d⟩ = .next ⟨q, Dev.finish d ((((((d.setO (outputIndex output + 2) 0x0F hz).setOutput output { d.output output with locking := false }).setOutState output 1).startRod output).followRequest output).offerList output)⟩) ∧
  (∀ (q : List Instr) (d : Dev) (output hz : Nat),
      d.live → d.awake → output < 8 → d.pixelStopped output = false → (d.output output).locking = false →
      (d.rod output).relock →
      exec (.pixelPllLocked output hz) ⟨q, d⟩ = .next ⟨q, Dev.finish d (((d.setO (outputIndex output + 2) 0x0F hz).relockState output).startRod output)⟩)

/-- An offset of at most 1 ms from the selected source is slewed out and replaces one not yet spent; a larger one steps the
clock, is held in 2100h/0Bh and logged; the rate trim is taken at once; a spent offset ends the slew with the whole offset added; a TIME object
from CAN, when it is the selected source, sets the offset to the received time. The slewing rate is the part's own, 0.001 ppm to
500 ppm. -/
def Obligations.clock_commands_complete : Prop :=
  (∀ (q : List Instr) (d : Dev) (who : Init) (value : Int),
      d.live → d.serving → d.checkWrite who 0x2100 0x09 (intData 0x2100 0x09 value) = none → 0 < value →
      value ≤ 1000000 →
      exec (.clockOffsetWrite who value) ⟨q, d⟩ = .next ⟨q, Dev.finish d (({ d with clock := { d.clock with left := value * 4294967296, slew := ((1 + Config.slewRate value % 500000 : Nat) : Int) } }).accept)⟩) ∧
  (∀ (q : List Instr) (d : Dev) (who : Init) (value : Int),
      d.live → d.serving → d.checkWrite who 0x2100 0x09 (intData 0x2100 0x09 value) = none → 1000000 < value →
      exec (.clockOffsetWrite who value) ⟨q, d⟩ = .next ⟨q, Dev.finish d (((({ d with clock := { d.clock with left := 0, slew := 0, ns := (((d.clock.ns : Int) + value) % (2 ^ 64 : Int)).toNat } }).setI 0x2100 0x0B 64 value).log 0x08 0x805 0 0xFF [ofSigned 64 value]).accept)⟩) ∧
  (∀ (q : List Instr) (d : Dev) (who : Init) (value : Int),
      d.live → d.serving → d.checkWrite who 0x2100 0x0A (intData 0x2100 0x0A value) = none →
      exec (.rateTrimWrite who value) ⟨q, d⟩ = .next ⟨q, Dev.finish d ((d.setI 0x2100 0x0A 32 value).accept)⟩) ∧
  (∀ (q : List Instr) (d : Dev),
      d.live →
      exec (.offsetSlewSpent) ⟨q, d⟩ = .next ⟨q, Dev.finish d ({ d with clock := { d.clock.move d.clock.left with left := 0, slew := 0 } })⟩) ∧
  (∀ (q : List Instr) (d : Dev) (port days ms : Nat),
      d.live → d.serving → port < 2 → d.portOpen port → d.nodeServes → d.getO 0x2100 0x08 = 1 →
      exec (.timeReceived port days ms) ⟨q, d⟩ = .next ⟨q, Dev.finish d (d.clockOffset (((days * 86400000 + ms) * 1000000 : Nat) - (d.clock.ns : Int)))⟩)

/-- On the running logic each command of a display output answers a next state, which is written out, with the conditions under
which it holds: a request from Off starts the PLL, a disable ends, a valid timing is applied in Off at once or stays pending for
the next latch, HPD, training and retry move the output between its states, an EDID is exposed, an AUX transaction starts, ends
or times out, and an underrun is counted, the first of a frame logged. -/
def Obligations.outputs_complete : Prop :=
  (∀ (q : List Instr) (d : Dev) (who : Init) (n : Nat),
      d.live → d.serving → n < 8 → d.checkWrite who (outputIndex n) 1 (numData (outputIndex n) 1 1) = none →
      d.outState n = 0 → (d.output n).disable = none → d.coolExceeded n = false → d.pixelStopped n = false →
      exec (.outputRequestedStateWrite who n 1) ⟨q, d⟩ = .next ⟨q, Dev.finish d (((d.setO (outputIndex n) 1 1).setOutput n { d.output n with locking := true }).accept)⟩) ∧
  (∀ (q : List Instr) (d : Dev) (who : Init) (n : Nat),
      d.live → d.serving → n < 8 → d.checkWrite who (outputIndex n) 1 (numData (outputIndex n) 1 0) = none →
      (d.output n).disable = none → d.frameRuns n = false →
      exec (.outputRequestedStateWrite who n 0) ⟨q, d⟩ = .next ⟨q, Dev.finish d (((d.setO (outputIndex n) 1 0).disableOutput n 0).accept)⟩) ∧
  (∀ (q : List Instr) (d : Dev) (n target : Nat),
      d.live → n < 8 → (d.rodRuns n → d.rodLines n ≤ d.rodLine n + 1) → (d.output n).disable = some target →
      exec (.outputDisableComplete n) ⟨q, d⟩ = .next ⟨q, Dev.finish d (d.disableOutput n target)⟩) ∧
  (∀ (q : List Instr) (d : Dev) (who : Init) (n : Nat),
      d.live → d.serving → n < 8 →
      d.checkWrite who (outputIndex n + 1) 0x0F (numData (outputIndex n + 1) 0x0F 1) = none →
      linkFits (d.staged n) (d.trimPpm n) → timingValid (d.staged n) → (d.output n).disable = none →
      d.outDemand d.comp.commits (d.staged n) n ≤ d.getO (0x2301 + n) 1 →
      ((List.range 6).map (fun k => d.layerRec (6 * n + k)) ++ (d.comp.commits.filter (fun c => c.output == n)).flatMap (fun c => c.records.map (fun q => q.2))).any (d.recBreaks n (d.staged n)) = false →
      d.getO 0x2002 2 ≠ 2 → (d.output n).apply = none → d.outState n = 0 →
      exec (.timingApply who n 1) ⟨q, d⟩ = .next ⟨q, Dev.finish d ((((d.putTiming n (d.stagedSet n)).moveBeads n (vtotalOf (d.staged n))).setO (outputIndex n + 1) 0x10 0).accept)⟩) ∧
  (∀ (q : List Instr) (d : Dev) (who : Init) (n : Nat),
      d.live → d.serving → n < 8 →
      d.checkWrite who (outputIndex n + 1) 0x0F (numData (outputIndex n + 1) 0x0F 1) = none →
      linkFits (d.staged n) (d.trimPpm n) → timingValid (d.staged n) → (d.output n).disable = none →
      d.outDemand d.comp.commits (d.staged n) n ≤ d.getO (0x2301 + n) 1 →
      ((List.range 6).map (fun k => d.layerRec (6 * n + k)) ++ (d.comp.commits.filter (fun c => c.output == n)).flatMap (fun c => c.records.map (fun q => q.2))).any (d.recBreaks n (d.staged n)) = false →
      d.getO 0x2002 2 ≠ 2 → (d.output n).apply = none → d.outState n ≠ 0 →
      exec (.timingApply who n 1) ⟨q, d⟩ = .next ⟨q, Dev.finish d (((d.setOutput n { d.output n with apply := some (d.stagedSet n), applyFrom := d.nextLatchFrame n }).setO (outputIndex n + 1) 0x10 (if d.seamless n (d.staged n) then 1 else 2)).accept)⟩) ∧
  (∀ (q : List Instr) (d : Dev) (n : Nat),
      d.live → n < 8 → d.outState n = 2 →
      exec (.hpdDebouncedRise n) ⟨q, d⟩ = .next ⟨q, Dev.finish d (((d.setO (outputIndex n) 6 1).setOutput n { d.output n with edidBusy := true }).toTraining n false)⟩) ∧
  (∀ (q : List Instr) (d : Dev) (n : Nat),
      d.live → n < 8 → 3 ≤ d.outState n → d.edp n = false →
      exec (.hpdDebouncedFall n) ⟨q, d⟩ = .next ⟨q, Dev.finish d ((d.setO (outputIndex n) 6 0).toWaiting n)⟩) ∧
  (∀ (q : List Instr) (d : Dev) (n : Nat),
      d.live → n < 8 → d.outState n = 5 →
      exec (.hpdIrq n true) ⟨q, d⟩ = .next ⟨q, Dev.finish d ((d.count (outputIndex n + 3) 4).toTraining n false)⟩) ∧
  (∀ (q : List Instr) (d : Dev) (n : Nat),
      d.live → n < 8 →
      exec (.hpdIrq n false) ⟨q, d⟩ = .next ⟨q, Dev.finish d (d.count (outputIndex n + 3) 4)⟩) ∧
  (∀ (q : List Instr) (d : Dev) (n revision : Nat),
      d.live → n < 8 → d.outState n = 3 →
      exec (.trainingPass n revision) ⟨q, d⟩ = .next ⟨q, Dev.finish d (((((d.setO (outputIndex n) 7 (d.force n 0x0C)).setO (outputIndex n) 8 (d.force n 0x0D)).setO (outputIndex n) 9 0).setO (outputIndex n) 0x0A revision).setOutState n 4)⟩) ∧
  (∀ (q : List Instr) (d : Dev) (n cause : Nat),
      d.live → n < 8 → 1 ≤ cause → cause ≤ 4 → d.outState n = 3 →
      exec (.trainingFail n cause) ⟨q, d⟩ = .next ⟨q, Dev.finish d ((((((d.untrained n).setOutState n 6).count (outputIndex n + 3) 3).setO (outputIndex n) 9 cause)).log 0x11 0x1101 0xFF n [n, cause])⟩) ∧
  (∀ (q : List Instr) (d : Dev) (n : Nat),
      d.live → n < 8 → d.outState n = 3 →
      exec (.trainingTimeout n) ⟨q, d⟩ = .next ⟨q, Dev.finish d ((((((d.untrained n).setOutState n 6).count (outputIndex n + 3) 3).setO (outputIndex n) 9 5)).log 0x11 0x1101 0xFF n [n, 5])⟩) ∧
  (∀ (q : List Instr) (d : Dev) (n : Nat),
      d.live → n < 8 → d.outState n = 6 → d.hpdHigh n →
      exec (.retryIntervalExpiry n) ⟨q, d⟩ = .next ⟨q, Dev.finish d (d.toTraining n false)⟩) ∧
  (∀ (q : List Instr) (d : Dev) (n : Nat) (edid : List Byte),
      d.live → n < 8 → (d.output n).edidBusy → edid.length ≤ 32768 →
      exec (.edidReadComplete n edid) ⟨q, d⟩ = .next ⟨q, Dev.finish d ((((d.setOutput n { d.output n with edidBusy := false }).setB (outputIndex n + 5) 1 edid).setO (outputIndex n + 5) 2 edid.length).count (outputIndex n + 5) 3)⟩) ∧
  (∀ (q : List Instr) (d : Dev) (who : Init) (n : Nat) (r : List Byte),
      d.live → d.serving → n < 8 → d.checkWrite who (outputIndex n + 6) 1 r = none → auxFormOk r →
      auxManaged r = false → (d.output n).aux = none → d.outState n ≠ 3 → (d.output n).disable = none →
      exec (.auxRequest who n r) ⟨q, d⟩ = .next ⟨q, Dev.finish d ((((d.setOutput n { d.output n with aux := some r }).setO (outputIndex n + 6) 3 1).send (.aux n r)).accept)⟩) ∧
  (∀ (q : List Instr) (d : Dev) (n : Nat) (reply : List Byte),
      d.live → n < 8 → (d.output n).aux.isSome → reply.length ≤ 17 →
      exec (.auxTransactionEnd n reply) ⟨q, d⟩ = .next ⟨q, Dev.finish d (((d.setOutput n { d.output n with aux := none }).setB (outputIndex n + 6) 2 reply).setO (outputIndex n + 6) 3 2)⟩) ∧
  (∀ (q : List Instr) (d : Dev) (n : Nat),
      d.live → n < 8 → (d.output n).aux.isSome →
      exec (.auxTimeout n) ⟨q, d⟩ = .next ⟨q, Dev.finish d (((d.setOutput n { d.output n with aux := none }).setO (outputIndex n + 6) 3 3).count (outputIndex n + 3) 5)⟩) ∧
  (∀ (q : List Instr) (d : Dev) (n first count : Nat),
      d.live → n < 8 → d.outState n = 5 → d.rodLine n < d.force n 6 → 0 < first → 0 < count →
      first + count ≤ d.force n 2 → (d.output n).line.length = d.force n 2 → (d.output n).underrun = false →
      (d.output n).lineUnder = false →
      exec (.pixelUnderrun ⟨n, first, count⟩) ⟨q, d⟩ = .next ⟨q, Dev.finish d ((((d.setOutput n { d.output n with line := (d.output n).line.take first ++ List.replicate count ((d.output n).line.getD (first - 1) 0) ++ (d.output n).line.drop (first + count), lineUnder := true, underrun := true }).count (outputIndex n + 3) 1).log 0x11 0x1102 0xFF n [n]))⟩)

/-- A commit block that its submitter may read and write, that the Registry has room for and that passes every check of Table 5-5
is journaled, becomes pending for the first latch that it can reach and gets status 0001h; a reservation that covers the demand
and leaves the sum at or below 48 000 is taken; the enable of a layer empties or disables it; a halt and a failed check stop the
layer at the line that first needs the byte, when the output is Active. -/
def Obligations.composition_completes : Prop :=
  (∀ (q : List Instr) (d : Dev) (who : Init) (n addr : Nat) (h b : List Byte) (d1 d2 d3 : Dev) (x : CommitCheck) (it : Item),
      d.live → d.serving → n < 8 → d.checkWrite who (0x2301 + n) 6 (numData (0x2301 + n) 6 addr) = none →
      d.readSubmitted (initCode who) addr 32 = (some h, d1) →
      d1.readSubmitted (initCode who) addr (commitLength h) = (some b, d2) → d.submitRoom (initCode who) →
      d2.checkCommit (initCode who) addr (some n) b = x → x.status = 1 →
      d2.journalItem 1 { block := addr, code := initCode who, seq := field b 4 4, replay := hdrReplay b } (hdrOutput b) (commitLength b) (leBytes 8 (hdrTarget b) ++ leBytes 1 (hdrMask b) ++ leBytes 1 (hdrFlags b) ++ leBytes 4 x.demand ++ leBytes 8 d2.clock.ns) = (it, d3) →
      exec (.commitSubmit who n addr) ⟨q, d⟩ = .next ⟨q, Dev.finish d (let gone (c : Commit) : Bool := c.output == hdrOutput b && c.records.any (fun p => ((commitRecords b).map (fun p => p.1)).contains p.1)
        let d4 := if hdrReplace b then d3.endCommits gone 0x21 else d3
        let c : Commit := { item := it, output := hdrOutput b, records := commitRecords b, atFrame := if hdrAtFrame b then some (hdrTarget b) else none, from_ := d4.nextLatchFrame (hdrOutput b), demand := x.demand }
        let d5 : Dev := { d4 with comp := { d4.comp with commits := d4.comp.commits ++ [c] } }
        ((d5.regIssue it.entry).writeBlock it 16 (leBytes 2 1 ++ leBytes 2 0xFFFF ++ leBytes 4 x.demand)).accept)⟩) ∧
  (∀ (q : List Instr) (d : Dev) (who : Init) (n v : Nat),
      d.live → d.serving → n < 8 → d.checkWrite who (0x2301 + n) 1 (numData (0x2301 + n) 1 v) = none →
      ((List.range 8).filter (fun m => m != n)).foldl (fun acc m => acc + d.getO (0x2301 + m) 1) 0 + v ≤ 48000 →
      d.outDemand d.comp.commits (d.force n) n ≤ v →
      exec (.reservationWrite who n v) ⟨q, d⟩ = .next ⟨q, Dev.finish d ((d.setO (0x2301 + n) 1 v).accept)⟩) ∧
  (∀ (q : List Instr) (d : Dev) (who : Init) (layer : Nat),
      d.live → d.serving → layer < 48 →
      d.checkWrite who (layerIndex layer) 2 (numData (layerIndex layer) 2 1) = none → d.layerState layer = 0 →
      exec (.layerEnableWrite who layer 1) ⟨q, d⟩ = .next ⟨q, Dev.finish d (((d.setO (layerIndex layer) 2 1).setO (layerIndex layer) 1 1).accept)⟩) ∧
  (∀ (q : List Instr) (d : Dev) (who : Init) (layer : Nat),
      d.live → d.serving → layer < 48 →
      d.checkWrite who (layerIndex layer) 2 (numData (layerIndex layer) 2 0) = none → 1 ≤ d.layerState layer →
      d.layerState layer ≤ 3 → d.outState (outputOf layer) ≠ 0 → d.comp.commits = [] →
      exec (.layerEnableWrite who layer 0) ⟨q, d⟩ = .next ⟨q, Dev.finish d (((d.setO (layerIndex layer) 2 0).setO (layerIndex layer) 1 4).accept)⟩) ∧
  (∀ (q : List Instr) (d : Dev) (layer addr line : Nat),
      d.live → layer < 48 → recShow (d.layerRec layer) → d.outState (outputOf layer) = 5 →
      d.haltLineOf layer addr = some line →
      exec (.layerFetchHalt layer addr true) ⟨q, d⟩ = .next ⟨q, Dev.finish d (d.haltLayer layer line 6 0x1901)⟩) ∧
  (∀ (q : List Instr) (d : Dev) (layer line : Nat),
      d.live → layer < 48 → recShow (d.layerRec layer) → recCheck (d.layerRec layer) →
      d.outState (outputOf layer) = 5 → recSrcY (d.layerRec layer) ≤ line →
      line < recSrcY (d.layerRec layer) + recSrcH (d.layerRec layer) →
      exec (.checkedLineMismatch layer line) ⟨q, d⟩ = .next ⟨q, Dev.finish d (d.haltLayer layer (firstLineOf (d.layerRec layer) (line - recSrcY (d.layerRec layer))) 7 0x1903)⟩)

/-- A job that passes the checks of R121 joins its channel's queue; the job in hand moves its next segment, at most 64 KiB, as its
operation says (copy, encode, decode, fill, clear), never on a channel that is not running nor after a halt or its last segment;
it completes with status 0000h after its last segment and with the status of a halt, counted, after one; an enable returns a
disabled channel to idle or starts a disable, and the end of a disable cancels the jobs. -/
def Obligations.copy_engine_completes : Prop :=
  (∀ (q : List Instr) (d : Dev) (who : Init) (c addr : Nat) (b x : List Byte) (d1 d2 d3 : Dev) (it : Item),
      d.live → d.serving → c < 32 → d.checkWrite who (copyIndex c) 3 (numData (copyIndex c) 3 addr) = none →
      d.readSubmitted (initCode who) addr 64 = (some b, d1) → (d.chan c).jobs.length < 16 →
      d.submitRoom (initCode who) →
      d1.checkCopy { block := addr, code := initCode who, seq := field b 4 4, replay := (field b 1 1).testBit 0 } c b = (1, x, d2) →
      d2.journalItem 2 { block := addr, code := initCode who, seq := field b 4 4, replay := (field b 1 1).testBit 0 } c 64 [] = (it, d3) →
      exec (.copyJobSubmit who c addr) ⟨q, d⟩ = .next ⟨q, Dev.finish d ((((d3.setChan c { d3.chan c with jobs := (d3.chan c).jobs ++ [{ item := it, body := b ++ x }] }).setChanState c 2).writeBlock it 48 (leBytes 2 1)).accept)⟩) ∧
  (∀ (q : List Instr) (d : Dev) (c : Nat) (j : CopyJob) (rest : List CopyJob),
      d.live → c < 32 → (d.chan c).jobs = j :: rest → jobOp j.body = 1 → d.chanState c = 2 →
      d.ringCancels j.item = false → j.halt = none → j.pos < jobEnd j.body →
      exec (.copyJobCopy c) ⟨q, d⟩ = .next ⟨q, Dev.finish d (let stop := min (j.pos + 65536) (jobEnd j.body)
        let m := (rowPieces (jobWidth j.body) 65536 j.pos stop).foldl Dev.copyPiece (j, d.regIssue j.item.entry)
        m.2.setChan c { m.2.chan c with jobs := { m.1 with pos := stop } :: rest })⟩) ∧
  (∀ (q : List Instr) (d : Dev) (c : Nat) (j : CopyJob) (rest : List CopyJob),
      d.live → c < 32 → (d.chan c).jobs = j :: rest → jobOp j.body = 4 → d.chanState c = 2 →
      d.ringCancels j.item = false → j.halt = none → j.pos < jobEnd j.body →
      exec (.fill c) ⟨q, d⟩ = .next ⟨q, Dev.finish d (let stop := min (j.pos + 65536) (jobEnd j.body)
        let m := (rowPieces (jobWidth j.body) 65536 j.pos stop).foldl Dev.fillPiece (j, d.regIssue j.item.entry)
        m.2.setChan c { m.2.chan c with jobs := { m.1 with pos := stop } :: rest })⟩) ∧
  (∀ (q : List Instr) (d : Dev) (c : Nat) (j : CopyJob) (rest : List CopyJob) (x : PtsDesc),
      d.live → c < 32 → (d.chan c).jobs = j :: rest → jobOp j.body = 2 → d.chanState c = 2 →
      d.ringCancels j.item = false → j.halt = none → j.pos < jobEnd j.body → ptsDesc (j.body.drop 64) = some x →
      exec (.encode c) ⟨q, d⟩ = .next ⟨q, Dev.finish d (let stop := min (j.pos + tilesPerSegment j.body x) (jobEnd j.body)
        let m := ((List.range (stop - j.pos)).map (fun k => j.pos + k)).foldl (Dev.encodePiece x) (j, d.regIssue j.item.entry)
        m.2.setChan c { m.2.chan c with jobs := { m.1 with pos := stop } :: rest })⟩) ∧
  (∀ (q : List Instr) (d : Dev) (c : Nat) (j : CopyJob) (rest : List CopyJob) (x : PtsDesc),
      d.live → c < 32 → (d.chan c).jobs = j :: rest → jobOp j.body = 3 → d.chanState c = 2 →
      d.ringCancels j.item = false → j.halt = none → j.pos < jobEnd j.body → ptsDesc (j.body.drop 64) = some x →
      exec (.decode c) ⟨q, d⟩ = .next ⟨q, Dev.finish d (let stop := min (j.pos + tilesPerSegment j.body x) (jobEnd j.body)
        let m := ((List.range (stop - j.pos)).map (fun k => j.pos + k)).foldl (Dev.decodePiece x) (j, d.regIssue j.item.entry)
        m.2.setChan c { m.2.chan c with jobs := { m.1 with pos := stop } :: rest })⟩) ∧
  (∀ (q : List Instr) (d : Dev) (c : Nat) (j : CopyJob) (rest : List CopyJob) (x : PtsDesc),
      d.live → c < 32 → (d.chan c).jobs = j :: rest → jobOp j.body = 5 → d.chanState c = 2 →
      d.ringCancels j.item = false → j.halt = none → j.pos < jobEnd j.body → ptsDesc (j.body.drop 64) = some x →
      exec (.clear c) ⟨q, d⟩ = .next ⟨q, Dev.finish d (let stop := min (j.pos + tilesPerSegment j.body x) (jobEnd j.body)
        let m := ((List.range (stop - j.pos)).map (fun k => j.pos + k)).foldl (Dev.clearPiece x) (j, d.regIssue j.item.entry)
        m.2.setChan c { m.2.chan c with jobs := { m.1 with pos := stop } :: rest })⟩) ∧
  (∀ (q : List Instr) (d : Dev) (c : Nat) (j : CopyJob) (rest : List CopyJob),
      d.live → c < 32 → (d.chan c).jobs = j :: rest → j.halt = none → jobEnd j.body ≤ j.pos →
      exec (.copyJobComplete c) ⟨q, d⟩ = .next ⟨q, Dev.finish d (d.endCopy c j 0 j.moved)⟩) ∧
  (∀ (q : List Instr) (d : Dev) (c : Nat) (j : CopyJob) (rest : List CopyJob) (status : Nat),
      d.live → c < 32 → (d.chan c).jobs = j :: rest → j.halt = some status →
      exec (.copyJobHalt c) ⟨q, d⟩ = .next ⟨q, Dev.finish d ((d.endCopy c j status j.moved).count 0x2400 4)⟩) ∧
  (∀ (q : List Instr) (d : Dev) (who : Init) (c : Nat),
      d.live → d.serving → c < 32 → d.checkWrite who (copyIndex c) 2 (numData (copyIndex c) 2 1) = none →
      d.chanState c = 0 → d.running →
      exec (.copyChannelEnableWrite who c 1) ⟨q, d⟩ = .next ⟨q, Dev.finish d (((d.setO (copyIndex c) 2 1).setO (copyIndex c) 1 1).accept)⟩) ∧
  (∀ (q : List Instr) (d : Dev) (who : Init) (c : Nat),
      d.live → d.serving → c < 32 → d.checkWrite who (copyIndex c) 2 (numData (copyIndex c) 2 0) = none →
      (d.chanState c = 1 ∨ d.chanState c = 2) → (d.chan c).jobs ≠ [] →
      exec (.copyChannelEnableWrite who c 0) ⟨q, d⟩ = .next ⟨q, Dev.finish d ((((d.setO (copyIndex c) 2 0).setChan c { d.chan c with disableAt := d.clock.ns }).setO (copyIndex c) 1 3).accept)⟩) ∧
  (∀ (q : List Instr) (d : Dev) (c : Nat),
      d.live → c < 32 → d.chanState c = 3 →
      exec (.copyChannelDisableComplete c) ⟨q, d⟩ = .next ⟨q, Dev.finish d (d.chanDisabled c)⟩)

/-- A descriptor that passes the checks of Table 7-4 is queued; the job at the head of a queue starts from known state with the L2
invalidated, completes after its last packet, and halts with the status of what stopped it; a budget overrun is counted and
logged once and the job runs on; a core fault, the end of a core's reset, a drained core and a reshape point act on the
partition; a queue's enable, the grace and the end of a disable, and the end of a preemption and of a hold act as R144, R159 and
R161 say. -/
def Obligations.gpu_queues_complete : Prop :=
  (∀ (q : List Instr) (d : Dev) (who : Init) (o k addr : Nat) (b : List Byte) (d1 d2 d3 : Dev) (it : Item) (j : GpuJob),
      d.live → d.serving → partOk o → k < 4 →
      d.checkWrite who (partIndex o) (queueSub k 2) (numData (partIndex o) (queueSub k 2) addr) = none →
      d.readSubmitted o addr 64 = (some b, d1) → d.gqFull o b = false → d.submitRoom o →
      d1.checkGpuJob o addr b = 1 →
      d1.journalItem 3 { block := addr, code := o, seq := field b 4 4, replay := (field b 1 1).testBit 0 } (gjQueue b % 4 + 256 * o) 64 [] = (it, d2) →
      d2.countBands { item := it, number := d2.gpu.accepted + 1, body := b } = (j, d3) →
      exec (.gpuJobSubmit who o k addr) ⟨q, d⟩ = .next ⟨q, Dev.finish d ((((({ d3 with gpu := { d3.gpu with accepted := d2.gpu.accepted + 1 } } : Dev).setGq o (gjQueue b) { d3.gq o (gjQueue b) with jobs := (d3.gq o (gjQueue b)).jobs ++ [j] }).setGqState o (gjQueue b) 2).writeBlock it 24 (leBytes 2 1)).accept)⟩) ∧
  (∀ (q : List Instr) (d : Dev) (o k : Nat) (j : GpuJob) (rest : List GpuJob),
      d.live → partOk o → k < 4 → (d.gq o k).jobs = j :: rest → j.started = false → j.held = false →
      (if k = 1 then d.computeCores o else d.members o) ≠ [] → d.gqState o k = 2 → d.gpuRuns →
      exec (.gpuJobStart o k) ⟨q, d⟩ = .next ⟨q, Dev.finish d (((((d.freshMap o k).invalidateL2 o).regIssue j.item.entry).setHead o k { j with started := true, startAt := d.clock.ns }).writeBlock j.item 24 (leBytes 2 2))⟩) ∧
  (∀ (q : List Instr) (d : Dev) (o k : Nat) (j : GpuJob) (rest : List GpuJob),
      d.live → partOk o → k < 4 → (d.gq o k).jobs = j :: rest → j.runs → j.atEnd → j.band = none →
      j.awaySince = none →
      exec (.gpuJobComplete o k) ⟨q, d⟩ = .next ⟨q, Dev.finish d (d.endGpuJob o k j (if j.overran then 3 else 0))⟩) ∧
  (∀ (q : List Instr) (d : Dev) (o k : Nat) (j : GpuJob) (rest : List GpuJob) (status : Nat),
      d.live → partOk o → k < 4 → (d.gq o k).jobs = j :: rest → j.started → j.held = false →
      j.halt = some status →
      exec (.gpuJobHalt o k) ⟨q, d⟩ = .next ⟨q, Dev.finish d (d.endGpuJob o k j status)⟩) ∧
  (∀ (q : List Instr) (d : Dev) (o : Nat) (j : GpuJob) (rest : List GpuJob),
      d.live → partOk o → (d.gq o 1).jobs = j :: rest → j.started → gjBudget j.body ≠ 0 → j.overran = false →
      j.awaySince = none → 1000 * gjBudget j.body < d.jobTime j →
      exec (.budgetOverrun o) ⟨q, d⟩ = .next ⟨q, Dev.finish d (((d.setHead o 1 { j with overran := true }).count (partIndex o) 7).log 0x2A 0x2A03 o 1 [j.item.seq])⟩) ∧
  (∀ (q : List Instr) (d : Dev) (c had : Nat),
      d.live → d.awake → c < 16 → d.gpuCore c = 2 →
      exec (.gpuCoreFault ⟨c, had⟩) ⟨q, d⟩ = .next ⟨q, Dev.finish d (((List.range 4).filter (fun k => had.testBit k)).foldl (fun x k => x.holdGpuJob (d.ownerByte (blockId 6 c)) k) (((((d.setGpuCore c 5).count 0x2500 9).count (0x2501 + c) 4).transientFault 0x8101 c).flushL2 (d.ownerByte (blockId 6 c))))⟩) ∧
  (∀ (q : List Instr) (d : Dev) (c : Nat),
      d.live → d.awake → c < 16 → d.gpuCore c = 4 → partOk (d.ownerByte (blockId 6 c)) = false →
      exec (.gpuCoreResetDone c) ⟨q, d⟩ = .next ⟨q, Dev.finish d (d.setGpuCore c 0)⟩) ∧
  (∀ (q : List Instr) (d : Dev) (c : Nat),
      d.live → d.awake → c < 16 → d.gpuCore c = 5 → partOk (d.ownerByte (blockId 6 c)) →
      exec (.gpuCoreResetDone c) ⟨q, d⟩ = .next ⟨q, Dev.finish d ((List.range 4).foldl (fun x k => x.reissueGpuJob (d.ownerByte (blockId 6 c)) k) (d.setGpuCore c 2))⟩) ∧
  (∀ (q : List Instr) (d : Dev) (c : Nat),
      d.live → c < 16 → d.gpuCore c = 3 → d.workLeft (d.ownerByte (blockId 6 c)) = false →
      d.staying (d.ownerByte (blockId 6 c)) ≠ [] →
      exec (.coreLeavingDrained c) ⟨q, d⟩ = .next ⟨q, Dev.finish d ((((d.flushL2 (d.ownerByte (blockId 6 c))).invalidateL2 (d.ownerByte (blockId 6 c))).setGpuCore c 4).reshape (d.ownerByte (blockId 6 c)))⟩) ∧
  (∀ (q : List Instr) (d : Dev) (c : Nat),
      d.live → c < 16 → d.gpuCore c = 3 → d.workLeft (d.ownerByte (blockId 6 c)) = false →
      d.staying (d.ownerByte (blockId 6 c)) = [] → partOk (d.ownerByte (blockId 6 c)) →
      exec (.coreLeavingDrained c) ⟨q, d⟩ = .next ⟨q, Dev.finish d ((let o := d.ownerByte (blockId 6 c);
        let x := (List.range 4).foldl (fun b k => if b.gqState o k = 3 then b.gqDisabled o k else b) d;
        let y := ((x.flushL2 o).invalidateL2 o).setGpuCore c 4;
        y.setPart o { y.part o with map := [] }))⟩) ∧
  (∀ (q : List Instr) (d : Dev) (o : Nat),
      d.live → partOk o → d.drawing o = false → d.coresOf o ≠ [] →
      exec (.reshapePoint o) ⟨q, d⟩ = .next ⟨q, Dev.finish d ((let x := (d.flushL2 o).invalidateL2 o;
        let y := ((x.coresOf o).filter (fun c => x.gpuCore c == 1)).foldl (fun b c => b.setGpuCore c 2) x;
        (y.setPart o { y.part o with map := y.members o }).count (partIndex o) 9))⟩) ∧
  (∀ (q : List Instr) (d : Dev) (who : Init) (o k : Nat),
      d.live → d.serving → partOk o → k < 4 →
      d.checkWrite who (partIndex o) (queueSub k 0) (numData (partIndex o) (queueSub k 0) 1) = none →
      (d.setO (partIndex o) (queueSub k 0) 1).gqState o k = 0 → d.running →
      exec (.gpuQueueEnableWrite who o k 1) ⟨q, d⟩ = .next ⟨q, Dev.finish d (((d.setO (partIndex o) (queueSub k 0) 1).setGqState o k 1).accept)⟩) ∧
  (∀ (q : List Instr) (d : Dev) (who : Init) (o k : Nat),
      d.live → d.serving → partOk o → k < 4 →
      d.checkWrite who (partIndex o) (queueSub k 0) (numData (partIndex o) (queueSub k 0) 0) = none →
      exec (.gpuQueueEnableWrite who o k 0) ⟨q, d⟩ = .next ⟨q, Dev.finish d (((d.setO (partIndex o) (queueSub k 0) 0).disableGq o k).accept)⟩) ∧
  (∀ (q : List Instr) (d : Dev) (o k : Nat) (j : GpuJob) (rest : List GpuJob),
      d.live → partOk o → k < 4 → (d.gq o k).jobs = j :: rest → j.started → d.gqState o k = 3 →
      exec (.disableGraceExpiry o k) ⟨q, d⟩ = .next ⟨q, Dev.finish d (d.endGpuJob o k (if k = 1 ∧ j.awaySince = none then { j with preempts := j.preempts + 1 } else j) 0x20)⟩) ∧
  (∀ (q : List Instr) (d : Dev) (o k : Nat),
      d.live → partOk o → k < 4 → d.gqState o k = 3 → (d.gq o k).jobs.any (fun j => j.started) = false →
      exec (.gpuQueueDisableComplete o k) ⟨q, d⟩ = .next ⟨q, Dev.finish d (d.gqDisabled o k)⟩) ∧
  (∀ (q : List Instr) (d : Dev) (o t layer : Nat),
      d.live → partOk o → (d.part o).request = some (t, layer) → d.clock.ns - t ≤ d.getO 0x25B0 5 →
      1000 * ((d.setPart o { d.part o with request := none }).setO (bandIndex layer) 0x13 (d.clock.ns - t)).preemptionBound ≥ d.clock.ns - t →
      exec (.preemptionComplete o) ⟨q, d⟩ = .next ⟨q, Dev.finish d (((d.setPart o { d.part o with request := none }).setO (bandIndex layer) 0x13 (d.clock.ns - t)).spillWaves o)⟩) ∧
  (∀ (q : List Instr) (d : Dev) (o : Nat) (j : GpuJob) (rest : List GpuJob) (t : Nat),
      d.live → partOk o → (d.part o).request = none → (d.part o).hold.all (fun h => d.bandState h.1 h.2 == 2) →
      (d.gq o 1).jobs = j :: rest → j.awaySince = some t →
      exec (.preemptionHoldEnd o) ⟨q, d⟩ = .next ⟨q, Dev.finish d ((d.setPart o { d.part o with hold := [] }).setHead o 1 { j with awaySince := none, away := j.away + (d.clock.ns - t) })⟩)

/-- A packet is executed when the job in hand of its queue runs and stands at it. NOP moves past it; SET_PIPELINE binds a pipeline
of the owner and of the queue's kind; SET_STATE writes registers inside one row of Table 7-7; CALL starts the called buffer; draws
and dispatches, compute not being held, run what their pipeline, records and counts say, and COPY its rows; each of these goes on
or halts its job with the status of the access that failed. -/
def Obligations.gpu_packets_complete : Prop :=
  (∀ (q : List Instr) (d : Dev) (o k : Nat) (j : GpuJob) (p : Packet) (d1 : Dev),
      d.live → partOk o → k < 4 → d.atPacket o k 0x00 j p d1 →
      exec (.nop o k) ⟨q, d⟩ = .next ⟨q, Dev.finish d (d1.setHead o k (j.past p).norm)⟩) ∧
  (∀ (q : List Instr) (d : Dev) (o k : Nat) (j : GpuJob) (p : Packet) (d1 : Dev) (x : Pipeline),
      d.live → partOk o → k < 4 → d.atPacket o k 0x01 j p d1 → d1.pipeline o (p.pair 1) j.number = some x →
      (x.kind = 2 ↔ k = 1) →
      exec (.setPipeline o k) ⟨q, d⟩ = .next ⟨q, Dev.finish d (d1.setHead o k ({ j.past p with pipeline := p.pair 1 } : GpuJob).norm)⟩) ∧
  (∀ (q : List Instr) (d : Dev) (o k : Nat) (j : GpuJob) (p : Packet) (d1 : Dev),
      d.live → partOk o → k < 4 → d.atPacket o k 0x02 j p d1 → p.word 1 < 65536 →
      registerRows.any (fun r => r.1 ≤ p.word 1 && p.word 1 + (p.words.drop 1).length - 1 ≤ r.2) →
      exec (.setState o k) ⟨q, d⟩ = .next ⟨q, Dev.finish d (d1.setHead o k ({ j.past p with regs := ((p.words.drop 1).zip (List.range (p.words.drop 1).length)).foldl (fun t x => tabSet 0 t (p.word 1 + x.2) x.1) j.regs } : GpuJob).norm)⟩) ∧
  (∀ (q : List Instr) (d : Dev) (o k : Nat) (j : GpuJob) (p : Packet) (d1 : Dev),
      d.live → partOk o → k < 4 → d.atPacket o k 0x03 j p d1 → j.called = none → addrOk (p.pair 1) →
      p.pair 1 % 64 = 0 → p.word 3 % 4 = 0 → 4 ≤ p.word 3 → p.word 3 ≤ 16777216 →
      exec (.call o k) ⟨q, d⟩ = .next ⟨q, Dev.finish d (d1.setHead o k ({ j.past p with called := some (p.pair 1, p.word 3), back := j.pc + p.bytes, pc := 0 } : GpuJob).norm)⟩) ∧
  (∀ (q : List Instr) (d : Dev) (o k : Nat) (j : GpuJob) (p : Packet) (d1 : Dev) (x : Pipeline) (r : Halted),
      d.live → partOk o → k < 4 → d.atPacket o k 0x10 j p d1 → d1.pipeline o j.pipeline j.number = some x →
      d1.drawCall o (j.past p) x (plainCall (p.word 1) (p.word 2) (p.word 3) (p.word 4)) = some r →
      exec (.draw o k) ⟨q, d⟩ = .next ⟨q, Dev.finish d (r.2.setHead o k (j.outcome p r.1))⟩) ∧
  (∀ (q : List Instr) (d : Dev) (o k : Nat) (j : GpuJob) (p : Packet) (d1 : Dev) (x : Pipeline) (dr : Dev),
      d.live → partOk o → k < 4 → d.atPacket o k 0x10 j p d1 → d1.pipeline o j.pipeline j.number = some x →
      d1.drawCall o (j.past p) x (plainCall (p.word 1) (p.word 2) (p.word 3) (p.word 4)) = some (none, dr) →
      exec (.draw o k) ⟨q, d⟩ = .next ⟨q, Dev.finish d (dr.setHead o k (j.past p).norm)⟩) ∧
  (∀ (q : List Instr) (d : Dev) (o k : Nat) (j : GpuJob) (p : Packet) (d1 : Dev) (x : Pipeline) (l : List Nat) (d2 : Dev) (r : Halted),
      d.live → partOk o → k < 4 → d.atPacket o k 0x11 j p d1 → bits (p.word 7) 8 23 = 0 →
      d1.pipeline o j.pipeline j.number = some x →
      d1.readIndices o (p.pair 6 % 2 ^ 40) (if (p.word 7).testBit 31 then 4 else 2) (p.word 8) (p.word 3) (p.word 1) = (.ok l, d2) →
      d2.drawCall o (j.past p) x { vertices := l.map (fun (i : Nat) => (((i : Int) + asSigned 32 (p.word 4)) % (2 ^ 32 : Int)).toNat), instances := p.word 2, firstInst := p.word 5 } = some r →
      exec (.drawIndexed o k) ⟨q, d⟩ = .next ⟨q, Dev.finish d (r.2.setHead o k (j.outcome p r.1))⟩) ∧
  (∀ (q : List Instr) (d : Dev) (o k : Nat) (j : GpuJob) (p : Packet) (d1 : Dev) (x : Pipeline) (l : List Nat) (d2 : Dev) (dr : Dev),
      d.live → partOk o → k < 4 → d.atPacket o k 0x11 j p d1 → bits (p.word 7) 8 23 = 0 →
      d1.pipeline o j.pipeline j.number = some x →
      d1.readIndices o (p.pair 6 % 2 ^ 40) (if (p.word 7).testBit 31 then 4 else 2) (p.word 8) (p.word 3) (p.word 1) = (.ok l, d2) →
      d2.drawCall o (j.past p) x { vertices := l.map (fun (i : Nat) => (((i : Int) + asSigned 32 (p.word 4)) % (2 ^ 32 : Int)).toNat), instances := p.word 2, firstInst := p.word 5 } = some (none, dr) →
      exec (.drawIndexed o k) ⟨q, d⟩ = .next ⟨q, Dev.finish d (dr.setHead o k (j.past p).norm)⟩) ∧
  (∀ (q : List Instr) (d : Dev) (o k : Nat) (j : GpuJob) (p : Packet) (d1 : Dev) (x : Pipeline) (r : Halted),
      d.live → partOk o → k < 4 → d.atPacket o k 0x12 j p d1 → addrOk (p.pair 1) → p.word 4 % 4 = 0 →
      16 ≤ p.word 4 → d1.pipeline o j.pipeline j.number = some x →
      d1.drawRecords o (j.past p) x (p.pair 1) (p.word 4) (p.word 3) = some r →
      exec (.drawIndirect o k) ⟨q, d⟩ = .next ⟨q, Dev.finish d (r.2.setHead o k (j.outcome p r.1))⟩) ∧
  (∀ (q : List Instr) (d : Dev) (o k : Nat) (j : GpuJob) (p : Packet) (d1 : Dev) (x : Pipeline) (dr : Dev),
      d.live → partOk o → k < 4 → d.atPacket o k 0x12 j p d1 → addrOk (p.pair 1) → p.word 4 % 4 = 0 →
      16 ≤ p.word 4 → d1.pipeline o j.pipeline j.number = some x →
      d1.drawRecords o (j.past p) x (p.pair 1) (p.word 4) (p.word 3) = some (none, dr) →
      exec (.drawIndirect o k) ⟨q, d⟩ = .next ⟨q, Dev.finish d (dr.setHead o k (j.past p).norm)⟩) ∧
  (∀ (q : List Instr) (d : Dev) (o k : Nat) (j : GpuJob) (p : Packet) (d1 : Dev) (x : Pipeline) (r : Halted),
      d.live → partOk o → k < 4 → d.atPacket o k 0x18 j p d1 → d1.computeHeld o = false → 1 ≤ p.word 1 →
      p.word 1 ≤ 65535 → 1 ≤ p.word 2 → p.word 2 ≤ 65535 → 1 ≤ p.word 3 → p.word 3 ≤ 65535 →
      d1.pipeline o j.pipeline j.number = some x →
      d1.dispatchCall o (j.past p) x [p.word 1, p.word 2, p.word 3] = some r →
      exec (.dispatch o k) ⟨q, d⟩ = .next ⟨q, Dev.finish d (r.2.setHead o k (j.outcome p r.1))⟩) ∧
  (∀ (q : List Instr) (d : Dev) (o k : Nat) (j : GpuJob) (p : Packet) (d1 : Dev) (x : Pipeline) (dr : Dev),
      d.live → partOk o → k < 4 → d.atPacket o k 0x18 j p d1 → d1.computeHeld o = false → 1 ≤ p.word 1 →
      p.word 1 ≤ 65535 → 1 ≤ p.word 2 → p.word 2 ≤ 65535 → 1 ≤ p.word 3 → p.word 3 ≤ 65535 →
      d1.pipeline o j.pipeline j.number = some x →
      d1.dispatchCall o (j.past p) x [p.word 1, p.word 2, p.word 3] = some (none, dr) →
      exec (.dispatch o k) ⟨q, d⟩ = .next ⟨q, Dev.finish d (dr.setHead o k (j.past p).norm)⟩) ∧
  (∀ (q : List Instr) (d : Dev) (o k : Nat) (j : GpuJob) (p : Packet) (d1 : Dev) (x : Pipeline) (b : List Byte) (d2 : Dev) (r : Halted),
      d.live → partOk o → k < 4 → d.atPacket o k 0x19 j p d1 → d1.computeHeld o = false → addrOk (p.pair 1) →
      d1.gpuRead o (p.pair 1) 12 = (.ok b, d2) → 1 ≤ field b 0 4 → field b 0 4 ≤ 65535 → 1 ≤ field b 4 4 →
      field b 4 4 ≤ 65535 → 1 ≤ field b 8 4 → field b 8 4 ≤ 65535 → d2.pipeline o j.pipeline j.number = some x →
      d2.dispatchCall o (j.past p) x [field b 0 4, field b 4 4, field b 8 4] = some r →
      exec (.dispatchIndirect o k) ⟨q, d⟩ = .next ⟨q, Dev.finish d (r.2.setHead o k (j.outcome p r.1))⟩) ∧
  (∀ (q : List Instr) (d : Dev) (o k : Nat) (j : GpuJob) (p : Packet) (d1 : Dev) (x : Pipeline) (b : List Byte) (d2 : Dev) (dr : Dev),
      d.live → partOk o → k < 4 → d.atPacket o k 0x19 j p d1 → d1.computeHeld o = false → addrOk (p.pair 1) →
      d1.gpuRead o (p.pair 1) 12 = (.ok b, d2) → 1 ≤ field b 0 4 → field b 0 4 ≤ 65535 → 1 ≤ field b 4 4 →
      field b 4 4 ≤ 65535 → 1 ≤ field b 8 4 → field b 8 4 ≤ 65535 → d2.pipeline o j.pipeline j.number = some x →
      d2.dispatchCall o (j.past p) x [field b 0 4, field b 4 4, field b 8 4] = some (none, dr) →
      exec (.dispatchIndirect o k) ⟨q, d⟩ = .next ⟨q, Dev.finish d (dr.setHead o k (j.past p).norm)⟩) ∧
  (∀ (q : List Instr) (d : Dev) (o k : Nat) (j : GpuJob) (p : Packet) (d1 : Dev),
      d.live → partOk o → k < 4 → d.atPacket o k 0x28 j p d1 → p.word 1 ≤ 2 → addrOk (p.pair 4) →
      (p.word 1 = 2 → p.word 3 = 0) → (p.word 1 ≠ 2 → addrOk (p.pair 2) = true) →
      exec (.copy o k) ⟨q, d⟩ = .next ⟨q, Dev.finish d (let r := (List.range (if p.word 1 = 0 then 1 else p.word 7)).foldl (gpuCopyRow o p) (none, d1)
        r.2.setHead o k (j.outcome p r.1))⟩) ∧
  (∀ (q : List Instr) (d : Dev) (o k : Nat) (j : GpuJob) (p : Packet) (d1 : Dev) (dr : Dev),
      d.live → partOk o → k < 4 → d.atPacket o k 0x28 j p d1 → p.word 1 ≤ 2 → addrOk (p.pair 4) →
      (p.word 1 = 2 → p.word 3 = 0) → (p.word 1 ≠ 2 → addrOk (p.pair 2) = true) →
      (List.range (if p.word 1 = 0 then 1 else p.word 7)).foldl (gpuCopyRow o p) (none, d1) = (none, dr) →
      exec (.copy o k) ⟨q, d⟩ = .next ⟨q, Dev.finish d (dr.setHead o k (j.past p).norm)⟩)

/-- FENCE_WRITE writes dirty lines back, then the value and the device time, and then posts a source of its owner; a fence or rod
that has been reached lets its packet go on, any other makes the job wait; the wait ends when the fence or rod is reached, and
with status 0034h at its timeout; BAND_BEGIN opens a band of the owner's layer and takes its pending count back, BAND_END starts
the write-back, whose end makes the band Ready; BEAD_ARM writes the action word and then the bead word as its owner; TIMESTAMP
writes the device time and a rod's position. -/
def Obligations.gpu_waits_and_fences_complete : Prop :=
  (∀ (q : List Instr) (d : Dev) (o k : Nat) (j : GpuJob) (p : Packet) (d1 : Dev) (d2 : Dev),
      d.live → partOk o → k < 4 → d.atPacket o k 0x30 j p d1 → addrOk (p.pair 1) → p.pair 1 % 16 = 0 →
      bits (p.word 5) 11 20 = 0 → (p.word 5).testBit 31 = false →
      (d1.flushL2 o).gpuWrite o (p.pair 1) (leBytes 8 (p.pair 3) ++ leBytes 8 (d1.flushL2 o).clock.ns) = (true, d2) →
      exec (.fenceWrite o k) ⟨q, d⟩ = .next ⟨q, Dev.finish d (((d2.flushL2 o).fenceWritten (p.pair 1)).setHead o k (j.past p).norm)⟩) ∧
  (∀ (q : List Instr) (d : Dev) (o k : Nat) (j : GpuJob) (p : Packet) (d1 : Dev) (d2 : Dev),
      d.live → partOk o → k < 4 → d.atPacket o k 0x30 j p d1 → addrOk (p.pair 1) → p.pair 1 % 16 = 0 →
      bits (p.word 5) 11 20 = 0 → (p.word 5).testBit 31 = true →
      (d1.flushL2 o).gpuWrite o (p.pair 1) (leBytes 8 (p.pair 3) ++ leBytes 8 (d1.flushL2 o).clock.ns) = (true, d2) →
      ((d2.flushL2 o).fenceWritten (p.pair 1)).sourceFor o (p.word 5 % 2048) →
      exec (.fenceWrite o k) ⟨q, d⟩ = .next ⟨q, Dev.finish d ((((d2.flushL2 o).fenceWritten (p.pair 1)).post (p.word 5 % 2048)).setHead o k (j.past p).norm)⟩) ∧
  (∀ (q : List Instr) (d : Dev) (o k : Nat) (j : GpuJob) (p : Packet) (d1 : Dev) (d2 : Dev),
      d.live → partOk o → k < 4 → d.atPacket o k 0x31 j p d1 → addrOk (p.pair 1) → p.pair 1 % 8 = 0 →
      d1.fenceReached o (p.pair 1) (p.pair 3) = (.ok true, d2) →
      exec (.fenceWait o k) ⟨q, d⟩ = .next ⟨q, Dev.finish d ((d2.invalidateL2 o).setHead o k (j.past p).norm)⟩) ∧
  (∀ (q : List Instr) (d : Dev) (o k : Nat) (j : GpuJob) (p : Packet) (d1 : Dev) (d2 : Dev),
      d.live → partOk o → k < 4 → d.atPacket o k 0x31 j p d1 → addrOk (p.pair 1) → p.pair 1 % 8 = 0 →
      d1.fenceReached o (p.pair 1) (p.pair 3) = (.ok false, d2) →
      exec (.fenceWait o k) ⟨q, d⟩ = .next ⟨q, Dev.finish d (d2.setHead o k ({ j.past p with wait := some (p.pair 1, p.pair 3), timeout := p.word 5 != 0 } : GpuJob))⟩) ∧
  (∀ (q : List Instr) (d : Dev) (o k : Nat) (j : GpuJob) (rest : List GpuJob) (a v : Nat) (d2 : Dev),
      d.live → partOk o → k < 4 → (d.gq o k).jobs = j :: rest → j.wait = some (a, v) →
      d.fenceReached o a v = (.ok true, d2) →
      exec (.fenceWaitSatisfied o k) ⟨q, d⟩ = .next ⟨q, Dev.finish d ((d2.invalidateL2 o).setHead o k ({ j with wait := none } : GpuJob).norm)⟩) ∧
  (∀ (q : List Instr) (d : Dev) (o k : Nat) (j : GpuJob) (rest : List GpuJob),
      d.live → partOk o → k < 4 → (d.gq o k).jobs = j :: rest → j.timeout → j.wait.isSome →
      exec (.fenceWaitTimeout o k) ⟨q, d⟩ = .next ⟨q, Dev.finish d (d.setHead o k { j.halted 0x34 with wait := none, rodWait := none, packet := j.pc - 24 })⟩) ∧
  (∀ (q : List Instr) (d : Dev) (o k : Nat) (j : GpuJob) (rest : List GpuJob) (r v : Nat),
      d.live → partOk o → k < 4 → (d.gq o k).jobs = j :: rest → j.rodWait = some (r, v) → v ≤ d.rodPosition r →
      exec (.rodWaitSatisfied o k) ⟨q, d⟩ = .next ⟨q, Dev.finish d (d.setHead o k ({ j with rodWait := none } : GpuJob).norm)⟩) ∧
  (∀ (q : List Instr) (d : Dev) (o k : Nat) (j : GpuJob) (rest : List GpuJob),
      d.live → partOk o → k < 4 → (d.gq o k).jobs = j :: rest → j.timeout → j.rodWait.isSome →
      exec (.rodWaitTimeout o k) ⟨q, d⟩ = .next ⟨q, Dev.finish d (d.setHead o k { j.halted 0x34 with wait := none, rodWait := none, packet := j.pc - 20 })⟩) ∧
  (∀ (q : List Instr) (d : Dev) (o k : Nat) (j : GpuJob) (p : Packet) (d1 : Dev),
      d.live → partOk o → k < 4 → d.atPacket o k 0x39 j p d1 → p.word 1 < 12 →
      p.pair 2 ≤ d1.rodPosition (p.word 1) →
      exec (.rodWait o k) ⟨q, d⟩ = .next ⟨q, Dev.finish d (d1.setHead o k (j.past p).norm)⟩) ∧
  (∀ (q : List Instr) (d : Dev) (o k : Nat) (j : GpuJob) (p : Packet) (d1 : Dev),
      d.live → partOk o → k < 4 → d.atPacket o k 0x39 j p d1 → p.word 1 < 12 →
      d1.rodPosition (p.word 1) < p.pair 2 →
      exec (.rodWait o k) ⟨q, d⟩ = .next ⟨q, Dev.finish d (d1.setHead o k ({ j.past p with rodWait := some (p.word 1, p.pair 2), timeout := p.word 4 != 0 } : GpuJob))⟩) ∧
  (∀ (q : List Instr) (d : Dev) (o k : Nat) (j : GpuJob) (p : Packet) (d1 : Dev) (l b : Nat),
      d.live → partOk o → k < 4 → d.atPacket o k 0x20 j p d1 → p.word 1 = l + 256 * b → l < 48 → b < 256 →
      j.band = none → j.called = none → (d1.band l).on → d1.owner (blockId 2 l) = o → b < d1.bandCount l →
      tabGet false (d1.band l).deferred b = false → j.named.contains (l, b) →
      exec (.bandBegin o k) ⟨q, d⟩ = .next ⟨q, Dev.finish d (((d1.setBandPending l b (d1.bandPending l b - 1)).setBandState l b 1).setHead o k ({ j.past p with band := some (l, b), named := j.named.erase (l, b) } : GpuJob).norm)⟩) ∧
  (∀ (q : List Instr) (d : Dev) (o k : Nat) (j : GpuJob) (p : Packet) (d1 : Dev),
      d.live → partOk o → k < 4 → d.atPacket o k 0x21 j p d1 → j.band.isSome →
      exec (.bandEnd o k) ⟨q, d⟩ = .next ⟨q, Dev.finish d (d1.setHead o k ({ j.past p with closing := true } : GpuJob).norm)⟩) ∧
  (∀ (q : List Instr) (d : Dev) (o k : Nat) (j : GpuJob) (rest : List GpuJob) (l b : Nat),
      d.live → partOk o → k < 4 → (d.gq o k).jobs = j :: rest → j.closing → j.band = some (l, b) →
      (d.writeBack o (d.inBand l b)).bandState l b = 1 →
      exec (.bandWritebackDone o k) ⟨q, d⟩ = .next ⟨q, Dev.finish d (((d.writeBack o (d.inBand l b)).setBandState l b 2).setHead o k { j with band := none, closing := false })⟩) ∧
  (∀ (q : List Instr) (d : Dev) (o k : Nat) (j : GpuJob) (p : Packet) (d1 : Dev) (d2 d3 : Dev),
      d.live → partOk o → k < 4 → d.atPacket o k 0x38 j p d1 → p.word 1 < 512 →
      d1.tryWrite (initOf o) (beadIndex (p.word 1)) (wordSub (p.word 1) + 1) (leBytes 8 (p.pair 4)) (actionWordVerdict (p.word 1) (p.pair 4)) = .ok d2 →
      d2.tryWrite (initOf o) (beadIndex (p.word 1)) (wordSub (p.word 1)) (leBytes 8 (p.pair 2)) (beadWordVerdict (p.word 1) (p.pair 2)) = .ok d3 →
      exec (.beadArm o k) ⟨q, d⟩ = .next ⟨q, Dev.finish d (d3.setHead o k (j.past p).norm)⟩) ∧
  (∀ (q : List Instr) (d : Dev) (o k : Nat) (j : GpuJob) (p : Packet) (d1 : Dev) (d2 : Dev),
      d.live → partOk o → k < 4 → d.atPacket o k 0x3A j p d1 → addrOk (p.pair 1) → p.pair 1 % 16 = 0 →
      p.word 3 < 12 →
      d1.gpuWrite o (p.pair 1) (leBytes 8 d1.clock.ns ++ leBytes 8 (d1.rodPosition (p.word 3))) = (true, d2) →
      exec (.timestamp o k) ⟨q, d⟩ = .next ⟨q, Dev.finish d (d2.setHead o k (j.past p).norm)⟩)

/-- A create block with room in the queue that passes the checks of Table 9-7 waits; a free service core takes the next request by
rotation over the owners; a compilation whose modules pass the checks and whose code fits leaves code and a handle, counts and completes, and one that fails
counts its failure and ends with the status of the first check that fails; a destroy ends the pipeline for jobs accepted from now on; a fault of a service core loses its request. -/
def Obligations.pipelines_complete : Prop :=
  (∀ (q : List Instr) (d : Dev) (who : Init) (addr : Nat) (b : List Byte) (d1 d2 : Dev) (it : Item),
      d.live → d.serving → d.checkWrite who 0x25C0 2 (numData 0x25C0 2 addr) = none →
      d.readSubmitted (initCode who) addr 160 = (some b, d1) → d.createFull (initCode who) = false →
      d.submitRoom (initCode who) →
      d1.checkCreate { block := addr, code := initCode who, seq := field b 4 4 } b = 1 →
      d1.journalItem 4 { block := addr, code := initCode who, seq := field b 4 4 } 0 160 [] = (it, d2) →
      exec (.pipelineCreateSubmit who addr) ⟨q, d⟩ = .next ⟨q, Dev.finish d (((d2.setWaiting (d2.gpu.waiting ++ [{ item := it, body := b }])).writeBlock it 44 (leBytes 2 1)).accept)⟩) ∧
  (∀ (q : List Instr) (d : Dev) (c : Nat) (x : Compile),
      d.live → d.awake → c < 2 → d.compiling c = none → nextCreate d.gpu.waiting d.gpu.turn = some x →
      exec (.compilationStart c) ⟨q, d⟩ = .next ⟨q, Dev.finish d ((({ d.setWaiting (d.gpu.waiting.erase x) with gpu := { (d.setWaiting (d.gpu.waiting.erase x)).gpu with turn := x.item.code } } : Dev).setCompiling c (some { x with startAt := d.clock.ns })).regIssue x.item.entry)⟩) ∧
  (∀ (q : List Instr) (d : Dev) (c first second status : Nat) (x : Compile) (f l : List Nat) (spec : List (Nat × Nat)) (d0 : Dev),
      d.live → d.awake → c < 2 → d.compiling c = some x →
      d.readModules x.item.code x.body = ((f, l, spec, status), d0) → first + second ≤ field x.body 40 4 →
      (d0.clock.ns - x.startAt) / 1000 ≤ d0.getO 0x25C0 7 →
      exec (.compilationComplete c first second) ⟨q, d⟩ = .next ⟨q, Dev.finish d (if status = 0 then (let d1 := (d0.setCompiling c none).nextFree.2
        let d2 := (d1.memWrite x.item.code (pcCode x.body) ((List.range (first + second)).map (Config.freeByte d0.free))).2
        let d3 : Dev := { d2 with gpu := { d2.gpu with serial := d2.gpu.serial + 1, pipes := d2.gpu.pipes ++ [{ handle := x.item.code * 2 ^ 56 + (d2.gpu.serial + 1), owner := x.item.code, kind := field x.body 0 1, body := x.body, used := first + second, first := f, second := l, constants := spec }] } }
        (d3.count 0x25C0 5).finishCreate x.item x.body [(48, leBytes 8 (x.item.code * 2 ^ 56 + (d2.gpu.serial + 1))), (56, leBytes 4 (first + second)), (60, leBytes 4 ((d0.clock.ns - x.startAt) / 1000))] 0 (x.item.code * 2 ^ 56 + (d2.gpu.serial + 1))) else ((d0.setCompiling c none).count 0x25C0 6).finishCreate x.item x.body (if status = 0x44 then [(56, leBytes 4 (first + second)), (60, leBytes 4 ((d0.clock.ns - x.startAt) / 1000))] else [(60, leBytes 4 ((d0.clock.ns - x.startAt) / 1000))]) status 0)⟩) ∧
  (∀ (q : List Instr) (d : Dev) (c first second status : Nat) (x : Compile) (f l : List Nat) (spec : List (Nat × Nat)) (d0 : Dev),
      d.live → d.awake → c < 2 → d.compiling c = some x →
      d.readModules x.item.code x.body = ((f, l, spec, status), d0) → status ≠ 0 → status ≠ 0x44 →
      (d0.clock.ns - x.startAt) / 1000 ≤ d0.getO 0x25C0 7 →
      exec (.compilationComplete c first second) ⟨q, d⟩ = .next ⟨q, Dev.finish d (((d0.setCompiling c none).count 0x25C0 6).finishCreate x.item x.body [(60, leBytes 4 ((d0.clock.ns - x.startAt) / 1000))] status 0)⟩) ∧
  (∀ (q : List Instr) (d : Dev) (who : Init) (handle : Nat),
      d.live → d.serving → d.checkWrite who 0x25C0 3 (numData 0x25C0 3 handle) = none →
      d.gpu.pipes.any (fun p => p.handle == handle && p.owner == initCode who && p.destroyed.isNone) →
      exec (.pipelineDestroy who handle) ⟨q, d⟩ = .next ⟨q, Dev.finish d (({ d with gpu := { d.gpu with pipes := d.gpu.pipes.map (fun p => if p.handle = handle ∧ p.owner = initCode who then { p with destroyed := some d.gpu.accepted } else p) } } : Dev).accept)⟩) ∧
  (∀ (q : List Instr) (d : Dev) (c : Nat) (x : Compile),
      d.live → d.awake → c < 2 → d.compiling c = some x →
      exec (.serviceCoreFault c) ⟨q, d⟩ = .next ⟨q, Dev.finish d (let d1 := (((d.transientFault 0x8105 c).setCompiling c none).regHold x.item.entry).2
        ((d1.regReissue x.item.entry false false).2).finishCreate x.item x.body [] 0x22 0)⟩)

/-- A full and a ganged scan end with their raw values; a touch at rest is counted, logged and posted once; a panel without touch or
approach idles; re-baseline and recalibrate act on a panel that is not Off, and a save needs Tracking without suspects; an enable
starts Calibrating and a disable ends Off; the temperature band follows R200; a node-memory fault is counted, logged and
recalibrates the panel. -/
def Obligations.touch_completes : Prop :=
  (∀ (q : List Instr) (d : Dev) (p edges : Nat) (raw : List Nat) (sc : Scan),
      d.live → p < 8 → (d.panel p).scan = some sc → (sc.waiting && d.rodRuns sc.rod) = false →
      sc.ganged = false →
      exec (.scanComplete p ⟨raw, edges⟩) ⟨q, d⟩ = .next ⟨q, Dev.finish d (((d.setPanel p { d.panel p with scan := none }).countBy 0x2600 7 edges).fullScan p raw sc)⟩) ∧
  (∀ (q : List Instr) (d : Dev) (p edges : Nat) (raw : List Nat) (sc : Scan),
      d.live → p < 8 → (d.panel p).scan = some sc → (sc.waiting && d.rodRuns sc.rod) = false → sc.ganged = true →
      exec (.scanComplete p ⟨raw, edges⟩) ⟨q, d⟩ = .next ⟨q, Dev.finish d (((d.setPanel p { d.panel p with scan := none }).countBy 0x2600 7 edges).gangedScan p raw sc)⟩) ∧
  (∀ (q : List Instr) (d : Dev) (p identity : Nat),
      d.live → p < 8 → (d.panel p).touches.any (fun t => t.identity == identity && !t.longRest && !t.hover) →
      d.baseState p ≠ 4 →
      exec (.longRestExpiry p identity) ⟨q, d⟩ = .next ⟨q, Dev.finish d ((((d.setPanel p { d.panel p with touches := (d.panel p).touches.map (fun t => if t.identity = identity then { t with longRest := true } else t) }).count (panelIndex p) 0x29).log 0x30 0x3001 (d.owner (blockId 3 p)) p [p, identity]).postNamed (panelIndex p) 0x1D)⟩) ∧
  (∀ (q : List Instr) (d : Dev) (p : Nat),
      d.live → p < 8 → d.panelState p = 1 → d.pan p 0x0C ≠ 0 → (d.panel p).reported = false →
      (d.panel p).approach = false →
      exec (.touchIdleExpiry p) ⟨q, d⟩ = .next ⟨q, Dev.finish d (d.setO (panelIndex p) 1 2)⟩) ∧
  (∀ (q : List Instr) (d : Dev) (who : Init) (p : Nat),
      d.live → d.serving → p < 8 → d.checkWrite who (panelIndex p) 0x1E (leBytes 1 1) = none →
      d.baseState p ≠ 0 →
      exec (.rebaseline who p) ⟨q, d⟩ = .next ⟨q, Dev.finish d (((d.setPanel p { d.panel p with absorb := true }).setO (panelIndex p) 0x20 6).accept)⟩) ∧
  (∀ (q : List Instr) (d : Dev) (who : Init) (p : Nat),
      d.live → d.serving → p < 8 → d.checkWrite who (panelIndex p) 0x1E (leBytes 1 2) = none →
      d.baseState p ≠ 0 →
      exec (.recalibrate who p) ⟨q, d⟩ = .next ⟨q, Dev.finish d (((d.setPanel p { d.panel p with absorb := true }).calibrate p).accept)⟩) ∧
  (∀ (q : List Instr) (d : Dev) (who : Init) (p value k gen : Nat),
      d.live → d.serving → p < 8 →
      d.checkWrite who (panelIndex p) 0x1F (numData (panelIndex p) 0x1F value) = none → d.baseState p = 3 →
      d.suspects p = 0 →
      (match d.newestReferences with | some (n, g, _) => ((n + 1) % 16, (g + 1) % 2 ^ 32) | none => (0, 1)) = (k, gen) →
      exec (.saveReference who p value) ⟨q, d⟩ = .next ⟨q, Dev.finish d (let b := d.refHead p ++ bytes16 (d.baselines p) ++ (d.codes p).map (fun c => BitVec.ofNat 8 c)
        let refs := (d.savedReferences.filter (fun e => e.1 != 8 * p + d.touchBand)) ++ [(8 * p + d.touchBand, b)]
        let a := referenceArea + k * referenceSector
        ((d.beginBlock a referenceSector gen (refs.flatMap (fun e => leBytes 1 e.1 ++ leBytes 2 e.2.length ++ e.2))).sealBlock a gen).accept)⟩) ∧
  (∀ (q : List Instr) (d : Dev) (who : Init) (p : Nat),
      d.live → d.serving → p < 8 → d.checkWrite who (panelIndex p) 2 (numData (panelIndex p) 2 1) = none →
      d.panelState p = 0 → d.panelFits p →
      exec (.panelEnableWrite who p 1) ⟨q, d⟩ = .next ⟨q, Dev.finish d ((((((d.setO (panelIndex p) 2 1).setPanel p { lastStart := (d.panel p).lastStart }).setO (panelIndex p) 1 1)).calibrate p).accept)⟩) ∧
  (∀ (q : List Instr) (d : Dev) (who : Init) (p : Nat),
      d.live → d.serving → p < 8 → d.checkWrite who (panelIndex p) 2 (numData (panelIndex p) 2 0) = none →
      exec (.panelEnableWrite who p 0) ⟨q, d⟩ = .next ⟨q, Dev.finish d (((d.setO (panelIndex p) 2 0).disablePanel p).accept)⟩) ∧
  (∀ (q : List Instr) (d : Dev) (p : Nat),
      d.live → p < 8 → d.panelState p = 3 → (d.panel p).scan = none →
      exec (.panelDisableComplete p) ⟨q, d⟩ = .next ⟨q, Dev.finish d (d.panelDisabled p)⟩) ∧
  (∀ (q : List Instr) (d : Dev) (t : Int),
      d.live →
      exec (.temperatureBandChange t) ⟨q, d⟩ = .next ⟨q, Dev.finish d (d.setO 0x2600 6 (newBand (d.getO 0x2600 6) t))⟩) ∧
  (∀ (q : List Instr) (d : Dev) (p : Nat),
      d.live → p < 8 → d.panelState p ≠ 0 →
      exec (.nodeMemoryFault p) ⟨q, d⟩ = .next ⟨q, Dev.finish d (((((d.count 0x2600 8).log 0x31 0x3101 (d.owner (blockId 3 p)) p [p])).setZones p []).calibrate p)⟩)

/-- A trigger arrives and is taken at a loop period, from Rest with a grant of what is left; Check, Drive and Brake end as R225 says,
a check that shows a cause ends in Fault; a timeout of Brake is counted; the loop estimates and drives; a tripped bridge faults;
identification and clear-fault start, the model's state is set when its values are in range, and enable, disable and the end of a
disable move the channel between Off, Rest and Disabling. -/
def Obligations.haptics_complete : Prop :=
  (∀ (q : List Instr) (d : Dev) (who : Init) (n a : Nat),
      d.live → d.serving → n < 8 → d.checkWrite who (hapticIndex n) 3 (numData (hapticIndex n) 3 a) = none →
      a % 8 = n → argOk (3 * 2 ^ 56 + a) → (d.haptic n).arrived = none →
      exec (.hapticTrigger who n a) ⟨q, d⟩ = .next ⟨q, Dev.finish d ((d.setHaptic n { d.haptic n with arrived := some a }).accept)⟩) ∧
  (∀ (q : List Instr) (d : Dev) (n a : Nat),
      d.live → n < 8 → (d.haptic n).arrived = some a →
      exec (.triggerTaken n) ⟨q, d⟩ = .next ⟨q, Dev.finish d ((d.setHaptic n { d.haptic n with arrived := none }).takeTrigger n a)⟩) ∧
  (∀ (q : List Instr) (d : Dev) (n : Nat) (i u slope : Int),
      d.live → n < 8 → (d.hapticPhase n = 3 ∨ d.hapticPhase n = 4) →
      exec (.hapticLoopPeriod n i u slope) ⟨q, d⟩ = .next ⟨q, Dev.finish d (d.hapticLoop n i u slope)⟩) ∧
  (∀ (q : List Instr) (d : Dev) (n r bl : Nat),
      d.live → n < 8 → d.hapticPhase n = 2 → (d.haptic n).probing = false → (d.haptic n).clearing = false →
      exec (.checkPhaseEnd n r bl) ⟨q, d⟩ = .next ⟨q, Dev.finish d (d.startDrive n true)⟩) ∧
  (∀ (q : List Instr) (d : Dev) (n r bl : Nat),
      d.live → n < 8 → d.hapticPhase n = 2 → (d.haptic n).probing → d.checkCause n r bl ≠ 0 →
      exec (.checkPhaseEnd n r bl) ⟨q, d⟩ = .next ⟨q, Dev.finish d ((d.recordCheck n r bl).hapticFault n (d.checkCause n r bl))⟩) ∧
  (∀ (q : List Instr) (d : Dev) (n r bl : Nat),
      d.live → n < 8 → d.hapticPhase n = 3 → d.checkCause n r bl = 0 →
      exec (.driveEnd n r bl) ⟨q, d⟩ = .next ⟨q, Dev.finish d ((d.recordCheck n r bl).setHapticPhase n 4)⟩) ∧
  (∀ (q : List Instr) (d : Dev) (n r bl : Nat),
      d.live → n < 8 → d.hapticPhase n = 3 → d.checkCause n r bl ≠ 0 →
      exec (.driveEnd n r bl) ⟨q, d⟩ = .next ⟨q, Dev.finish d ((d.recordCheck n r bl).hapticFault n (d.checkCause n r bl))⟩) ∧
  (∀ (q : List Instr) (d : Dev) (n r bl : Nat),
      d.live → n < 8 → d.hapticPhase n = 3 → d.checkCause n r bl = 0 →
      exec (.inDriveCheck n r bl) ⟨q, d⟩ = .next ⟨q, Dev.finish d (d.recordCheck n r bl)⟩) ∧
  (∀ (q : List Instr) (d : Dev) (n : Nat),
      d.live → n < 8 → d.hapticPhase n = 4 → (d.haptic n).still → (d.haptic n).waiting = none →
      exec (.brakeEnd n) ⟨q, d⟩ = .next ⟨q, Dev.finish d ((((d.stopLoop n).setHapticPhase n 1).setGrant n 0).setO (hapticIndex n) 0x0A 0)⟩) ∧
  (∀ (q : List Instr) (d : Dev) (n : Nat),
      d.live → n < 8 → d.hapticPhase n = 4 →
      exec (.brakeTimeout n) ⟨q, d⟩ = .next ⟨q, Dev.finish d ((d.count (hapticIndex n) 0x0E).endBrake n)⟩) ∧
  (∀ (q : List Instr) (d : Dev) (n : Nat) (hot : Bool),
      d.live → n < 8 → 1 ≤ d.hapticPhase n → d.hapticPhase n ≤ 4 →
      exec (.bridgeTrip n hot) ⟨q, d⟩ = .next ⟨q, Dev.finish d (d.hapticFault n (if hot then 6 else 5))⟩) ∧
  (∀ (q : List Instr) (d : Dev) (who : Init) (n : Nat),
      d.live → d.serving → n < 8 → d.checkWrite who (modelIndex n) 9 (numData (modelIndex n) 9 1) = none →
      d.hap n 1 = 1 → d.running → 300 ≤ d.hap n 5 → 300 ≤ d.hapticLeft n →
      exec (.identify who n) ⟨q, d⟩ = .next ⟨q, Dev.finish d ((((d.setGrant n 300).setO (hapticIndex n) 1 6).setO (modelIndex n) 0x0A 1).accept)⟩) ∧
  (∀ (q : List Instr) (d : Dev) (n : Nat) (fit : Fit),
      d.live → n < 8 → d.hapticPhase n = 6 → fit.openOrShort = some 1 →
      exec (.identificationEnd n fit) ⟨q, d⟩ = .next ⟨q, Dev.finish d ((d.nextFree.2.setO (modelIndex n) 0x0A 5).hapticFault n 1)⟩) ∧
  (∀ (q : List Instr) (d : Dev) (n : Nat) (fit : Fit),
      d.live → n < 8 → d.hapticPhase n = 6 → fit.openOrShort = none → 100 < fit.residual →
      exec (.identificationEnd n fit) ⟨q, d⟩ = .next ⟨q, Dev.finish d (((((d.nextFree.2.setO (modelIndex n) 0x0B (min fit.residual 65535)).setO (modelIndex n) 0x0A 3).setHapticPhase n 1).setGrant n 0))⟩) ∧
  (∀ (q : List Instr) (d : Dev) (n : Nat) (fit : Fit) (t : Int),
      d.live → n < 8 → d.hapticPhase n = 6 → fit.openOrShort = none → fit.residual ≤ 100 →
      [(2, fit.bl), (3, fit.mass), (4, fit.stiffness), (5, fit.resistance), (6, fit.inductance)].all (fun x => fitValueOk x.1 x.2) →
      d.getI 0x3400 6 16 / 10 + (if d.getI 0x3400 6 16 % 10 = 0 then 0 else Config.freeNat d.nextFree.1 % 2 : Nat) = t →
      -40 ≤ t → t ≤ 125 → resonanceOk fit.stiffness fit.mass →
      exec (.identificationEnd n fit) ⟨q, d⟩ = .next ⟨q, Dev.finish d ((((((((((((d.nextFree.2.setO (modelIndex n) 0x0B fit.residual).setO (modelIndex n) 2 fit.bl).setO (modelIndex n) 3 fit.mass).setO (modelIndex n) 4 fit.stiffness).setO (modelIndex n) 5 fit.resistance).setO (modelIndex n) 6 fit.inductance).setO (modelIndex n) 7 (ofSigned 8 t)).setResonance n).setO (modelIndex n) 1 1).setO (modelIndex n) 0x0A 2).setHapticPhase n 1).setGrant n 0)⟩) ∧
  (∀ (q : List Instr) (d : Dev) (who : Init) (n value : Nat),
      d.live → d.serving → n < 8 → d.checkWrite who (hapticIndex n) 9 (numData (hapticIndex n) 9 value) = none →
      d.hap n 1 = 5 → d.running →
      exec (.clearFault who n value) ⟨q, d⟩ = .next ⟨q, Dev.finish d (((d.setHaptic n { d.haptic n with probing := true, clearing := true }).setO (hapticIndex n) 1 2).accept)⟩) ∧
  (∀ (q : List Instr) (d : Dev) (who : Init) (n value : Nat),
      d.live → d.serving → n < 8 → d.checkWrite who (modelIndex n) 1 (numData (modelIndex n) 1 value) = none →
      (value = 1 → d.modelInRange n = true) →
      exec (.modelStateWrite who n value) ⟨q, d⟩ = .next ⟨q, Dev.finish d ((d.setO (modelIndex n) 1 value).accept)⟩) ∧
  (∀ (q : List Instr) (d : Dev) (who : Init) (n : Nat),
      d.live → d.serving → n < 8 → d.checkWrite who (hapticIndex n) 2 (numData (hapticIndex n) 2 1) = none →
      d.hap n 1 = 0 →
      exec (.hapticEnableWrite who n 1) ⟨q, d⟩ = .next ⟨q, Dev.finish d (((d.setO (hapticIndex n) 2 1).setO (hapticIndex n) 1 1).accept)⟩) ∧
  (∀ (q : List Instr) (d : Dev) (who : Init) (n : Nat),
      d.live → d.serving → n < 8 → d.checkWrite who (hapticIndex n) 2 (numData (hapticIndex n) 2 0) = none →
      exec (.hapticEnableWrite who n 0) ⟨q, d⟩ = .next ⟨q, Dev.finish d (((d.setO (hapticIndex n) 2 0).disableHaptic n).accept)⟩) ∧
  (∀ (q : List Instr) (d : Dev) (n : Nat),
      d.live → n < 8 → d.hap n 1 = 7 → (d.haptic n).phase = 1 ∨ (d.haptic n).phase = 5 →
      exec (.hapticDisableComplete n) ⟨q, d⟩ = .next ⟨q, Dev.finish d (d.hapticOff n)⟩)

/-- While the audio domain runs, a block of 8 frames and a low-latency block of 4 are mixed; run starts and stops an input, the ring
positions move inside the ring, a gain in its range starts a ramp to its new level, a crossing timeout takes the steps due; a
silent stage goes to standby, a class-D fault stops a stage and its retry restarts it; an enable and the end of a disable move a
unit between its states. -/
def Obligations.audio_completes : Prop :=
  (∀ (q : List Instr) (d : Dev),
      d.live → d.awake && d.domainRuns 15 →
      exec (.audioBlock) ⟨q, d⟩ = .next ⟨q, Dev.finish d (d.audioBlock)⟩) ∧
  (∀ (q : List Instr) (d : Dev),
      d.live → d.awake && d.domainRuns 15 →
      exec (.lowLatencyBlock) ⟨q, d⟩ = .next ⟨q, Dev.finish d (d.lowLatencyBlock)⟩) ∧
  (∀ (q : List Instr) (d : Dev),
      d.live → d.awake && d.domainRuns 15 →
      ∃ t, exec .audioBlock ⟨q, d⟩ = .next t ∧ t.pending = q ∧ t.dev.audio.frames = d.audio.frames + 8 ∧ t.dev.audio.zeroed = []) ∧
  (∀ (q : List Instr) (d : Dev) (who : Init) (i : Nat),
      d.live → d.serving → i < 32 → d.checkWrite who (inIndex i) 4 (numData (inIndex i) 4 1) = none →
      d.inp i 1 = 1 →
      exec (.inputRunWrite who i 1) ⟨q, d⟩ = .next ⟨q, Dev.finish d ((d.startInput i).accept)⟩) ∧
  (∀ (q : List Instr) (d : Dev) (who : Init) (i : Nat),
      d.live → d.serving → i < 32 → d.checkWrite who (inIndex i) 4 (numData (inIndex i) 4 0) = none →
      d.inp i 1 = 2 → (d.inKind i = 1 ∨ d.inKind i = 2) →
      exec (.inputRunWrite who i 0) ⟨q, d⟩ = .next ⟨q, Dev.finish d ((d.inputStops i).accept)⟩) ∧
  (∀ (q : List Instr) (d : Dev) (who : Init) (i v : Nat),
      d.live → d.serving → i < 32 → d.checkWrite who (inIndex i) 0x12 (numData (inIndex i) 0x12 v) = none →
      (d.inp i 1 = 1 ∨ d.inp i 1 = 2) → (v + 2 ^ 32 - d.inp i 0x13) % 2 ^ 32 ≤ d.inp i 0x0B →
      d.available i ≤ (v + 2 ^ 32 - d.inp i 0x13) % 2 ^ 32 →
      exec (.writePositionWrite who i v) ⟨q, d⟩ = .next ⟨q, Dev.finish d ((d.setO (inIndex i) 0x12 v).accept)⟩) ∧
  (∀ (q : List Instr) (d : Dev) (who : Init) (s v : Nat),
      d.live → d.serving → s < 12 → d.checkWrite who (sinkIndex s) 0x15 (numData (sinkIndex s) 0x15 v) = none →
      (d.snk s 0x14 + 2 ^ 32 - v) % 2 ^ 32 ≤ d.recorded s →
      exec (.readPositionWrite who s v) ⟨q, d⟩ = .next ⟨q, Dev.finish d ((d.setO (sinkIndex s) 0x15 v).accept)⟩) ∧
  (∀ (q : List Instr) (d : Dev) (who : Init) (g i j : Nat) (data : List Byte),
      d.live → d.serving → d.checkWrite who i j data = none → gainOf i j = some g →
      gainOk (asSigned 16 (leNat data)) → (d.setO i j (leNat data)).gainLevel g ≠ d.gainLevel g →
      exec (.gainWrite who i j data) ⟨q, d⟩ = .next ⟨q, Dev.finish d (((d.setO i j (leNat data)).startRamp g (d.gainLevel g) ((d.setO i j (leNat data)).gainLevel g)).accept)⟩) ∧
  (∀ (q : List Instr) (d : Dev) (i j g : Nat),
      d.live → d.awake && d.domainRuns 15 → gainOf i j = some g →
      exec (.gainStepTimeout i j) ⟨q, d⟩ = .next ⟨q, Dev.finish d (d.gainTimeout g)⟩) ∧
  (∀ (q : List Instr) (d : Dev) (s : Nat),
      d.live → d.awake && d.domainRuns 15 → s < 4 → d.snk s 1 = 1 → (d.sink s).quiet → d.snk s 0x0D ≠ 0 →
      d.routeRuns s = false →
      exec (.stageSilenceHoldExpiry s) ⟨q, d⟩ = .next ⟨q, Dev.finish d (d.setO (sinkIndex s) 1 2)⟩) ∧
  (∀ (q : List Instr) (d : Dev) (s : Nat),
      d.live → d.awake && d.domainRuns 15 → s < 4 → (d.snk s 1 = 1 ∨ d.snk s 1 = 2) →
      exec (.speakerStageFault s) ⟨q, d⟩ = .next ⟨q, Dev.finish d (let d1 := ((d.setO (sinkIndex s) 1 3).count (sinkIndex s) 0x18).count 0x2800 9
        (d1.setSink s { d1.sink s with faults := (d.clock.ns :: (d.sink s).faults).take 3 }).log 0x41 0x1704 (d.sinkOwner s) (32 + s) [s])⟩) ∧
  (∀ (q : List Instr) (d : Dev) (s : Nat),
      d.live → d.awake && d.domainRuns 15 → s < 4 → d.snk s 1 = 3 → d.recentFaults s < 3 →
      d.power.overVolt = false →
      exec (.stageRetryExpiry s) ⟨q, d⟩ = .next ⟨q, Dev.finish d (d.setO (sinkIndex s) 1 1)⟩) ∧
  (∀ (q : List Instr) (d : Dev) (who : Init) (i : Nat),
      d.live → d.serving → hasEnable i → d.checkWrite who i 2 (numData i 2 1) = none →
      d.audioDisabling i = false →
      exec (.audioUnitEnableWrite who i 1) ⟨q, d⟩ = .next ⟨q, Dev.finish d (((d.setO i 2 1).enableAudio i).accept)⟩) ∧
  (∀ (q : List Instr) (d : Dev) (who : Init) (i : Nat),
      d.live → d.serving → hasEnable i → d.checkWrite who i 2 (numData i 2 0) = none →
      exec (.audioUnitEnableWrite who i 0) ⟨q, d⟩ = .next ⟨q, Dev.finish d (((d.setO i 2 0).disableAudio i).accept)⟩) ∧
  (∀ (q : List Instr) (d : Dev) (i : Nat),
      d.live → d.awake && d.domainRuns 15 → 0x2801 ≤ i → i ≤ 0x2820 → d.getO i 1 = 3 →
      exec (.audioDisableComplete i) ⟨q, d⟩ = .next ⟨q, Dev.finish d (let k : Dev := { d with audio := { d.audio with disableAt := tabDrop i d.audio.disableAt } }
        ((k.inputStops (i - 0x2801)).setO i 1 0).setO i 0x1C ((d.clock.ns - tabGet 0 d.audio.disableAt i) / 1000))⟩) ∧
  (∀ (q : List Instr) (d : Dev) (i : Nat),
      d.live → d.awake && d.domainRuns 15 → 0x2831 ≤ i → i ≤ 0x283C → d.getO i 1 = 4 →
      exec (.audioDisableComplete i) ⟨q, d⟩ = .next ⟨q, Dev.finish d (let k : Dev := { d with audio := { d.audio with disableAt := tabDrop i d.audio.disableAt } }
        let k := (k.setO i 1 0).setO i 0x19 ((d.clock.ns - tabGet 0 d.audio.disableAt i) / 1000)
        (k.setSink (i - 0x2831) { k.sink (i - 0x2831) with out := [], faults := [] }).recordStream (i - 0x2831))⟩) ∧
  (∀ (q : List Instr) (d : Dev) (i : Nat),
      d.live → d.awake && d.domainRuns 15 → 0x2842 ≤ i → i ≤ 0x2847 → d.getO i 1 = 2 →
      exec (.audioDisableComplete i) ⟨q, d⟩ = .next ⟨q, Dev.finish d (({ d with audio := { d.audio with disableAt := tabDrop i d.audio.disableAt } } : Dev).setO i 1 0)⟩) ∧
  (∀ (q : List Instr) (d : Dev) (i : Nat),
      d.live → d.awake && d.domainRuns 15 → hasEnable i →
      exec (.audioDisableComplete i) ⟨q, d⟩ = .next ⟨q, Dev.finish d (d.audioDisabled i)⟩)

/-- A plug starts Debounce and its end a measurement, counted; the measurement classifies the plug; a three-pole port looks at ZA
again and a second measurement comes once for each plug; the end of the absence empties the port, and a stable resistance presses
or releases a button, counted and posted. -/
def Obligations.headset_completes : Prop :=
  (∀ (q : List Instr) (d : Dev) (n : Nat),
      d.live → d.awake && d.domainRuns 15 → n < 2 → d.getO (headsetIndex n) 1 = 0 →
      exec (.headsetDetEdge n true) ⟨q, d⟩ = .next ⟨q, Dev.finish d ((d.setPlug n { d.plug n with present := true }).setHeadset n 1)⟩) ∧
  (∀ (q : List Instr) (d : Dev) (n : Nat),
      d.live → d.awake && d.domainRuns 15 → n < 2 → d.getO (headsetIndex n) 1 = 1 →
      exec (.headsetDetEdge n false) ⟨q, d⟩ = .next ⟨q, Dev.finish d ((d.setPlug n { d.plug n with present := false }).headsetEmpty n)⟩) ∧
  (∀ (q : List Instr) (d : Dev) (n : Nat),
      d.live → d.awake && d.domainRuns 15 → n < 2 → d.getO (headsetIndex n) 1 = 1 → (d.plug n).present →
      exec (.headsetDebounceExpiry n) ⟨q, d⟩ = .next ⟨q, Dev.finish d ((d.count (headsetIndex n) 0x0B).setHeadset n 2)⟩) ∧
  (∀ (q : List Instr) (d : Dev) (n za zb : Nat),
      d.live → d.awake && d.domainRuns 15 → n < 2 → d.getO (headsetIndex n) 1 = 2 →
      d.getO (headsetIndex n) 4 = 0 → za < 70 → zb < 70 →
      exec (.headsetMeasurementComplete n za zb) ⟨q, d⟩ = .next ⟨q, Dev.finish d (((d.setO (headsetIndex n) 3 1).setO (headsetIndex n) 0x0A zb).setHeadset n 3)⟩) ∧
  (∀ (q : List Instr) (d : Dev) (n : Nat),
      d.live → d.awake && d.domainRuns 15 → n < 2 →
      (d.getO (headsetIndex n) 1 = 3 ∨ d.getO (headsetIndex n) 1 = 5) → (d.plug n).remeasured = false →
      exec (.headsetRemeasureExpiry n) ⟨q, d⟩ = .next ⟨q, Dev.finish d ((d.setPlug n { d.plug n with remeasured := true }).setHeadset n 2)⟩) ∧
  (∀ (q : List Instr) (d : Dev) (n za : Nat),
      d.live → d.awake && d.domainRuns 15 → n < 2 → d.getO (headsetIndex n) 1 = 3 → 1000 < za →
      exec (.headsetWatchTick n za) ⟨q, d⟩ = .next ⟨q, Dev.finish d ((d.setO (headsetIndex n) 0x0A (min 65535 za)).setHeadset n 2)⟩) ∧
  (∀ (q : List Instr) (d : Dev) (n : Nat),
      d.live → d.awake && d.domainRuns 15 → n < 2 → 2 ≤ d.getO (headsetIndex n) 1 →
      d.getO (headsetIndex n) 1 ≤ 5 → (d.plug n).present = false →
      exec (.headsetPlugAbsentExpiry n) ⟨q, d⟩ = .next ⟨q, Dev.finish d ((d.count (headsetIndex n) 0x0B).headsetEmpty n)⟩) ∧
  (∀ (q : List Instr) (d : Dev) (n z k : Nat),
      d.live → d.awake && d.domainRuns 15 → n < 2 → d.getO (headsetIndex n) 1 = 4 → d.buttonAt n z = some k →
      ((d.setO (headsetIndex n) 0x0A (min 65535 z)).muteMic n).getO (headsetIndex n) 7 ≠ 2 ^ k →
      exec (.headsetButtonDebounce n z) ⟨q, d⟩ = .next ⟨q, Dev.finish d (((((d.setO (headsetIndex n) 0x0A (min 65535 z)).muteMic n).setO (headsetIndex n) 7 (2 ^ k)).count (headsetIndex n) 0x0C).postNamed (headsetIndex n) 9)⟩)

/-- A doorbell below E moves SQ_TAIL or CQ_HEAD and clears the idle hint; an entry is taken and, for a NOP, done at once; a block
read ends with the block taken by its unit or with status 0031h; a failed ring read halts the ring and is logged; an enable starts
the ring again, a disable starts to end it, and the last record ends it. -/
def Obligations.rings_complete : Prop :=
  (∀ (q : List Instr) (d : Dev) (i r v : Nat),
      d.live → i < 64 → r < 8 → d.barOpen i → d.ringState i r = 1 → d.owner (blockId 9 i) = 0x40 + i →
      v % 4096 < d.ringE i r →
      exec (.sqTail i r v) ⟨q, d⟩ = .next ⟨q, Dev.finish d (((d.linkUse (instPort i)).setO (0x2910 + i) 6 0).setRing i r { d.ring i r with tail := v % 4096 })⟩) ∧
  (∀ (q : List Instr) (d : Dev) (i r v : Nat),
      d.live → i < 64 → r < 8 → d.barOpen i → (d.ringState i r = 1 ∨ d.ringState i r = 2) →
      v % 4096 < d.ringE i r →
      exec (.cqHead i r v) ⟨q, d⟩ = .next ⟨q, Dev.finish d (((d.ring i r).records.filter (fun p => passedBy (d.ringE i r) (d.ring i r).head (v % 4096) p.1)).foldl (fun d p => if p.2 = 0 then d else d.regFree (p.2 - 1)) (((d.linkUse (instPort i)).setO (0x2910 + i) 6 0).setRing i r { d.ring i r with head := v % 4096, records := (d.ring i r).records.filter (fun p => !(passedBy (d.ringE i r) (d.ring i r).head (v % 4096) p.1)) }))⟩) ∧
  (∀ (q : List Instr) (d : Dev) (i r : Nat),
      d.live → i < 64 → r < 8 → d.ringReady i r → entOpcode (d.ringEntry i r (d.ring i r).sqHead) = 0 →
      d.regRoom (0x40 + i) → entryOk (d.ringEntry i r (d.ring i r).sqHead) →
      exec (.ringNop i r) ⟨q, d⟩ = .next ⟨q, Dev.finish d (let b := d.ringEntry i r (d.ring i r).sqHead
        let c := ((d.linkUse (instPort i)).count (ringIndex i) (ringSub r 6)).count (0x2910 + i) 0x09
        let x := { d.ring i r with sqHead := if (d.ring i r).sqHead + 1 = c.ringE i r then 0 else (d.ring i r).sqHead + 1, open_ := (d.ring i r).open_ ++ [(d.ring i r).sqHead], paused := false }
        let j := (c.setRing i r x).journal (ringJournal i r (d.ring i r).sqHead b)
        let k := j.2.setRing i r { x with slot := (d.ring i r).sqHead, entry := j.1, waiting := some b }
        (k.setRing i r { k.ring i r with waiting := none, entry := none }).completeItem (k.ringItem i r b) [] 0 0)⟩) ∧
  (∀ (q : List Instr) (d : Dev) (i r : Nat),
      d.live → i < 64 → r < 8 → d.ringReady i r → entOpcode (d.ringEntry i r (d.ring i r).sqHead) = 1 →
      d.regRoom (0x40 + i) → entryOk (d.ringEntry i r (d.ring i r).sqHead) →
      exec (.ringCompositionCommit i r) ⟨q, d⟩ = .next ⟨q, Dev.finish d (let b := d.ringEntry i r (d.ring i r).sqHead
        let c := ((d.linkUse (instPort i)).count (ringIndex i) (ringSub r 6)).count (0x2910 + i) 0x09
        let x := { d.ring i r with sqHead := if (d.ring i r).sqHead + 1 = c.ringE i r then 0 else (d.ring i r).sqHead + 1, open_ := (d.ring i r).open_ ++ [(d.ring i r).sqHead], paused := false }
        let j := (c.setRing i r x).journal (ringJournal i r (d.ring i r).sqHead b)
        let k := j.2.setRing i r { x with slot := (d.ring i r).sqHead, entry := j.1, waiting := some b }
        k)⟩) ∧
  (∀ (q : List Instr) (d : Dev) (i r : Nat),
      d.live → i < 64 → r < 8 → d.ringReady i r → entOpcode (d.ringEntry i r (d.ring i r).sqHead) = 2 →
      d.regRoom (0x40 + i) → entryOk (d.ringEntry i r (d.ring i r).sqHead) →
      exec (.ringCopyJob i r) ⟨q, d⟩ = .next ⟨q, Dev.finish d (let b := d.ringEntry i r (d.ring i r).sqHead
        let c := ((d.linkUse (instPort i)).count (ringIndex i) (ringSub r 6)).count (0x2910 + i) 0x09
        let x := { d.ring i r with sqHead := if (d.ring i r).sqHead + 1 = c.ringE i r then 0 else (d.ring i r).sqHead + 1, open_ := (d.ring i r).open_ ++ [(d.ring i r).sqHead], paused := false }
        let j := (c.setRing i r x).journal (ringJournal i r (d.ring i r).sqHead b)
        let k := j.2.setRing i r { x with slot := (d.ring i r).sqHead, entry := j.1, waiting := some b }
        k)⟩) ∧
  (∀ (q : List Instr) (d : Dev) (i r : Nat),
      d.live → i < 64 → r < 8 → d.ringReady i r → entOpcode (d.ringEntry i r (d.ring i r).sqHead) = 3 →
      d.regRoom (0x40 + i) → entryOk (d.ringEntry i r (d.ring i r).sqHead) →
      exec (.ringGpuJob i r) ⟨q, d⟩ = .next ⟨q, Dev.finish d (let b := d.ringEntry i r (d.ring i r).sqHead
        let c := ((d.linkUse (instPort i)).count (ringIndex i) (ringSub r 6)).count (0x2910 + i) 0x09
        let x := { d.ring i r with sqHead := if (d.ring i r).sqHead + 1 = c.ringE i r then 0 else (d.ring i r).sqHead + 1, open_ := (d.ring i r).open_ ++ [(d.ring i r).sqHead], paused := false }
        let j := (c.setRing i r x).journal (ringJournal i r (d.ring i r).sqHead b)
        let k := j.2.setRing i r { x with slot := (d.ring i r).sqHead, entry := j.1, waiting := some b }
        k)⟩) ∧
  (∀ (q : List Instr) (d : Dev) (i r : Nat),
      d.live → i < 64 → r < 8 → d.ringReady i r → entOpcode (d.ringEntry i r (d.ring i r).sqHead) = 4 →
      d.regRoom (0x40 + i) → entryOk (d.ringEntry i r (d.ring i r).sqHead) →
      exec (.ringPipelineCreate i r) ⟨q, d⟩ = .next ⟨q, Dev.finish d (let b := d.ringEntry i r (d.ring i r).sqHead
        let c := ((d.linkUse (instPort i)).count (ringIndex i) (ringSub r 6)).count (0x2910 + i) 0x09
        let x := { d.ring i r with sqHead := if (d.ring i r).sqHead + 1 = c.ringE i r then 0 else (d.ring i r).sqHead + 1, open_ := (d.ring i r).open_ ++ [(d.ring i r).sqHead], paused := false }
        let j := (c.setRing i r x).journal (ringJournal i r (d.ring i r).sqHead b)
        let k := j.2.setRing i r { x with slot := (d.ring i r).sqHead, entry := j.1, waiting := some b }
        k)⟩) ∧
  (∀ (q : List Instr) (d : Dev) (i r : Nat),
      d.live → i < 64 → r < 8 → d.ringReady i r → entOpcode (d.ringEntry i r (d.ring i r).sqHead) = 5 →
      d.regRoom (0x40 + i) → entryOk (d.ringEntry i r (d.ring i r).sqHead) →
      exec (.ringPipelineDestroy i r) ⟨q, d⟩ = .next ⟨q, Dev.finish d (let b := d.ringEntry i r (d.ring i r).sqHead
        let c := ((d.linkUse (instPort i)).count (ringIndex i) (ringSub r 6)).count (0x2910 + i) 0x09
        let x := { d.ring i r with sqHead := if (d.ring i r).sqHead + 1 = c.ringE i r then 0 else (d.ring i r).sqHead + 1, open_ := (d.ring i r).open_ ++ [(d.ring i r).sqHead], paused := false }
        let j := (c.setRing i r x).journal (ringJournal i r (d.ring i r).sqHead b)
        let k := j.2.setRing i r { x with slot := (d.ring i r).sqHead, entry := j.1, waiting := some b }
        match (k.setRing i r { k.ring i r with waiting := none, entry := none }).destroyPipe (0x40 + i) (entArgument b) with | some d => d.completeItem (k.ringItem i r b) [] 0 0 | none => (k.setRing i r { k.ring i r with waiting := none, entry := none }).completeItem (k.ringItem i r b) [] 0x33 0)⟩) ∧
  (∀ (q : List Instr) (d : Dev) (i r : Nat) (b : List Byte),
      d.live → i < 64 → r < 8 → (d.ring i r).waiting = some b →
      exec (.ringBlockReadComplete i r false) ⟨q, d⟩ = .next ⟨q, Dev.finish d ((d.setRing i r { d.ring i r with waiting := none, entry := none }).completeItem (d.ringItem i r b) [] 0x31 0)⟩) ∧
  (∀ (q : List Instr) (d : Dev) (i r : Nat) (b : List Byte),
      d.live → i < 64 → r < 8 → (d.ring i r).waiting = some b → entOpcode b = 2 →
      d.chanFull (entUnit b) = false →
      exec (.ringBlockReadComplete i r true) ⟨q, d⟩ = .next ⟨q, Dev.finish d ((d.setRing i r { d.ring i r with waiting := none, entry := none }).takeCopy (d.ringItem i r b) (entUnit b) (d.hostRead (instPort i) (entBlock b) 64))⟩) ∧
  (∀ (q : List Instr) (d : Dev) (i r : Nat),
      d.live → i < 64 → r < 8 → d.ringReady i r →
      exec (.ringHalt i r) ⟨q, d⟩ = .next ⟨q, Dev.finish d ((d.setO (ringIndex i) (ringSub r 1) 2).log 0x49 0x1801 (0x40 + i) r [i, r])⟩) ∧
  (∀ (q : List Instr) (d : Dev) (who : Init) (i r : Nat),
      d.live → d.serving → i < 64 → r < 8 →
      d.checkWrite who (ringIndex i) (ringSub r 0) (numData (ringIndex i) (ringSub r 0) 1) = none →
      d.ringState i r = 0 →
      exec (.ringEnableWrite who i r 1) ⟨q, d⟩ = .next ⟨q, Dev.finish d ((d.ringEnable i r).accept)⟩) ∧
  (∀ (q : List Instr) (d : Dev) (who : Init) (i r : Nat),
      d.live → d.serving → i < 64 → r < 8 →
      d.checkWrite who (ringIndex i) (ringSub r 0) (numData (ringIndex i) (ringSub r 0) 0) = none →
      d.ringState i r = 1 →
      exec (.ringEnableWrite who i r 0) ⟨q, d⟩ = .next ⟨q, Dev.finish d (((((d.setO (ringIndex i) (ringSub r 0) 0).setRing i r { d.ring i r with started := d.clock.ns }).setRingState i r 3).ringCancel i r).accept)⟩) ∧
  (∀ (q : List Instr) (d : Dev) (i r : Nat),
      d.live → i < 64 → r < 8 → d.ringState i r = 3 → (d.ring i r).drained →
      exec (.ringDisableComplete i r) ⟨q, d⟩ = .next ⟨q, Dev.finish d ((d.setO (ringIndex i) (ringSub r 7) ((d.clock.ns - (d.ring i r).started) / 1000)).setO (ringIndex i) (ringSub r 1) 0)⟩)

/-- The idle hint, the time page, a PTM request and a reserved access answer; quiesce and resume move an instance between
Present, Quiescing and Quiesced; dirty logging starts, is harvested and stops; a reset of quiesced functions starts and ends; D3hot
and D0, VF removal and enabling, links up and down, detaching, a retrain and L1 have their effects. -/
def Obligations.host_instances_complete : Prop :=
  (∀ (q : List Instr) (d : Dev) (i : Nat),
      d.live → i < 64 → d.barOpen i →
      exec (.idleHint i 0) ⟨q, d⟩ = .next ⟨q, Dev.finish d ((d.linkUse (instPort i)).setO (0x2910 + i) 6 0)⟩) ∧
  (∀ (q : List Instr) (d : Dev) (i : Nat),
      d.live → i < 64 → d.barOpen i →
      exec (.idleHint i 1) ⟨q, d⟩ = .next ⟨q, Dev.finish d (((d.linkUse (instPort i)).setO (0x2910 + i) 6 1).releaseAll (0x40 + i))⟩) ∧
  (∀ (q : List Instr) (d : Dev) (i : Nat),
      d.live → i < 64 → d.barOpen i →
      exec (.timeLo i) ⟨q, d⟩ = .next ⟨q, Dev.finish d (((d.linkUse (instPort i)).setInst i { d.inst i with timeHi := d.clock.ns / 2 ^ 32 }).reply (leBytes 4 (d.clock.ns % 2 ^ 32)))⟩) ∧
  (∀ (q : List Instr) (d : Dev) (p t : Nat),
      d.live → p < 2 → d.instState (32 * p) ≠ 0 → tabGet false d.host.linked p = true →
      exec (.ptmRequest p t) ⟨q, d⟩ = .next ⟨q, Dev.finish d (((d.linkUse p).setO (portIndex p) 5 1).send (.ptm p d.clock.ns t))⟩) ∧
  (∀ (q : List Instr) (d : Dev) (who : Init) (i : Nat),
      d.live → d.serving → i < 64 → managerOf who i = true → d.barOpen (32 * instPort i) →
      (d.page (instPort i)).busy = none → d.instState i = 1 →
      exec (.quiesce who i) ⟨q, d⟩ = .next ⟨q, Dev.finish d (let k := (d.selected (instPort i) (i % 32)).startQuiesce i
        k.setPage (instPort i) { k.page (instPort i) with busy := some (i % 32) })⟩) ∧
  (∀ (q : List Instr) (d : Dev) (i : Nat),
      d.live → i < 64 → d.instState i = 2 → d.quiesced i →
      exec (.quiesceComplete i) ⟨q, d⟩ = .next ⟨q, Dev.finish d (((d.setO (0x2910 + i) 5 ((d.clock.ns - (d.inst i).quiesceAt) / 1000)).setInstState i 3).mgrDone i)⟩) ∧
  (∀ (q : List Instr) (d : Dev) (who : Init) (i : Nat),
      d.live → d.serving → i < 64 → managerOf who i = true → d.barOpen (32 * instPort i) →
      (d.page (instPort i)).busy = none → d.instState i = 3 → (d.inst i).d3hot = false →
      exec (.resume who i) ⟨q, d⟩ = .next ⟨q, Dev.finish d (((d.selected (instPort i) (i % 32)).resumeInstance i).mgrResult (instPort i) 0)⟩) ∧
  (∀ (q : List Instr) (d : Dev) (p f : Nat) (x : DirtySettings),
      d.live → p < 2 → f < 32 → d.barOpen (32 * p) → (d.page p).busy = none → d.instState (32 * p + f) ≠ 0 →
      settingsOk x →
      exec (.startDirtyLog p f x) ⟨q, d⟩ = .next ⟨q, Dev.finish d (((d.selected p f).setLog (32 * p + f) { (d.inst (32 * p + f)).log with map0 := x.map0, map1 := x.map1, base := x.base, pages := x.pages, active := 0, overrun := false, logging := true }).mgrResult p 0)⟩) ∧
  (∀ (q : List Instr) (d : Dev) (p f : Nat),
      d.live → p < 2 → f < 32 → d.barOpen (32 * p) → (d.page p).busy = none → d.instState (32 * p + f) ≠ 0 →
      (d.inst (32 * p + f)).log.logging = true →
      exec (.harvest p f) ⟨q, d⟩ = .next ⟨q, Dev.finish d (((d.selected p f).harvestLog (32 * p + f)).mgrResult p 0)⟩) ∧
  (∀ (q : List Instr) (d : Dev) (p f : Nat),
      d.live → p < 2 → f < 32 → d.barOpen (32 * p) → (d.page p).busy = none → d.instState (32 * p + f) ≠ 0 →
      (d.inst (32 * p + f)).log.logging = true →
      exec (.stopDirtyLog p f) ⟨q, d⟩ = .next ⟨q, Dev.finish d ((((d.selected p f).harvestLog (32 * p + f)).setLog (32 * p + f) { (((d.selected p f).harvestLog (32 * p + f)).inst (32 * p + f)).log with logging := false }).mgrResult p 0)⟩) ∧
  (∀ (q : List Instr) (d : Dev) (i : Nat),
      d.live → i < 64 → d.instState i ≠ 0 → d.mayReset (affected i) →
      exec (.functionLevelReset i) ⟨q, d⟩ = .next ⟨q, Dev.finish d (d.startReset (affected i))⟩) ∧
  (∀ (q : List Instr) (d : Dev) (i : Nat),
      d.live → i < 64 → i % 32 ≠ 0 → d.instState i = 3 →
      exec (.d3hotTransition i) ⟨q, d⟩ = .next ⟨q, Dev.finish d (d.setInst i { d.inst i with d3hot := true })⟩) ∧
  (∀ (q : List Instr) (d : Dev) (i : Nat),
      d.live → i < 64 → i % 32 ≠ 0 → d.instState i = 3 → (d.inst i).d3hot = true →
      exec (.d0Transition i) ⟨q, d⟩ = .next ⟨q, Dev.finish d ((d.setInst i { d.inst i with d3hot := false }).startReset [i])⟩) ∧
  (∀ (q : List Instr) (d : Dev) (p n : Nat),
      d.live → p < 2 → n < d.getO (portIndex p) 4 → d.mayReset ((portInstances p).filter (fun i => n < i % 32)) →
      exec (.vfRemoval p n) ⟨q, d⟩ = .next ⟨q, Dev.finish d (((((portInstances p).filter (fun i => n < i % 32)).filter (fun i => d.instState i == 3)).foldl (fun d i => (d.instDefaults i).setInstState i 0) d).setO (portIndex p) 4 n)⟩) ∧
  (∀ (q : List Instr) (d : Dev) (p n : Nat),
      d.live → p < 2 → n ≤ 31 → d.getO (portIndex p) 4 ≤ n → d.barOpen (32 * p) →
      exec (.vfEnableSet p n) ⟨q, d⟩ = .next ⟨q, Dev.finish d ((((portInstances p).filter (fun i => 1 ≤ i % 32 && i % 32 ≤ n && d.instState i == 0)).foldl (fun d i => d.setInstState i 1) d).setO (portIndex p) 4 n)⟩) ∧
  (∀ (q : List Instr) (d : Dev) (p speed : Nat),
      d.live → p < 2 → d.awake → d.portExists p → 1 ≤ speed → speed ≤ 5 → d.domainRuns 17 →
      exec (.linkUp p speed 4) ⟨q, d⟩ = .next ⟨q, Dev.finish d (d.linkComesUp p speed 4)⟩) ∧
  (∀ (q : List Instr) (d : Dev) (p : Nat),
      d.live → p < 2 → tabGet false d.host.linked p = true →
      exec (.linkDown p) ⟨q, d⟩ = .next ⟨q, Dev.finish d (d.linkGoesDown p)⟩) ∧
  (∀ (q : List Instr) (d : Dev) (i : Nat),
      d.live → i < 64 → d.instState i = 5 → (List.range 8).all (fun r => (d.ring i r).drained) →
      (d.inst i).audio = [] →
      exec (.detachComplete i) ⟨q, d⟩ = .next ⟨q, Dev.finish d (d.detached i)⟩) ∧
  (∀ (q : List Instr) (d : Dev) (i : Nat),
      d.live → i < 64 → d.instState i = 4 →
      exec (.instanceResetComplete i) ⟨q, d⟩ = .next ⟨q, Dev.finish d (((d.instDefaults i).setInstState i 1).count (0x2910 + i) 7)⟩) ∧
  (∀ (q : List Instr) (d : Dev) (p : Nat),
      d.live → p < 2 → tabGet false d.host.linked p = true →
      exec (.linkRetrain p) ⟨q, d⟩ = .next ⟨q, Dev.finish d (d.retrain p)⟩) ∧
  (∀ (q : List Instr) (d : Dev) (p n : Nat),
      d.live → p < 2 → d.getO (portIndex p) 1 = 2 → (n = 3 ∨ n = 4 ∨ n = 5) →
      (((portInstances p).filter (fun i => d.instState i == 1)).foldl (fun d i => d.releaseAll (0x40 + i)) d).msixWaits p = false →
      exec (.l1Entry ⟨p, n⟩) ⟨q, d⟩ = .next ⟨q, Dev.finish d (((((portInstances p).filter (fun i => d.instState i == 1)).foldl (fun d i => d.releaseAll (0x40 + i)) d).setO (portIndex p) 1 n).count (portIndex p) 10)⟩) ∧
  (∀ (q : List Instr) (d : Dev) (i o n : Nat),
      d.live → i < 64 → d.barOpen i → (d.linkUse (instPort i)).barIgnored i o n →
      exec (.barReservedAccess ⟨i, o, n, none⟩) ⟨q, d⟩ = .next ⟨q, Dev.finish d (((d.linkUse (instPort i)).count (0x2910 + i) 15).reply (zeroBytes n))⟩) ∧
  (∀ (q : List Instr) (d : Dev) (i o n v : Nat),
      d.live → i < 64 → d.barOpen i → (d.linkUse (instPort i)).barIgnored i o n →
      exec (.barReservedAccess ⟨i, o, n, some v⟩) ⟨q, d⟩ = .next ⟨q, Dev.finish d ((d.linkUse (instPort i)).count (0x2910 + i) 15)⟩)

/-- A request moves a stopped block to Resetting and another to Requested with a notice to its owner; a release starts the reset
step; the release timeout revokes the block; the end of the step, or its forced end, retargets the block; a clock or power request
on an idle block is entered. -/
def Obligations.handover_completes : Prop :=
  (∀ (q : List Instr) (d : Dev) (who : Init) (w : Nat),
      d.live → d.serving → who ≠ .openWorld → d.checkWrite who 0x2A01 1 (numData 0x2A01 1 w) = none →
      blockExists (w / 65536) → w % 256 = 0 → ownerCodeOk (bits w 8 8) → bits w 8 8 ≠ d.owner (w / 65536) →
      d.limitBroken (w / 65536) (bits w 8 8) = false → (d.hand (w / 65536)).state = 0 → d.running →
      d.owner (w / 65536) ≠ 0xFF →
      exec (.handoverRequest who w) ⟨q, d⟩ = .next ⟨q, Dev.finish d (((d.setHand (w / 65536) { state := 1, newOwner := bits w 8 8 }).notice (d.owner (w / 65536))).accept)⟩) ∧
  (∀ (q : List Instr) (d : Dev) (who : Init) (b : Nat),
      d.live → d.serving → d.checkWrite who 0x2A01 2 (numData 0x2A01 2 b) = none → blockExists b →
      initCode who = d.owner b → (d.hand b).state = 1 →
      exec (.handoverRelease who b) ⟨q, d⟩ = .next ⟨q, Dev.finish d ((d.toResetting b (d.hand b).newOwner).accept)⟩) ∧
  (∀ (q : List Instr) (d : Dev) (b : Nat),
      d.live → blockExists b → (d.hand b).state = 1 →
      exec (.releaseTimeout b) ⟨q, d⟩ = .next ⟨q, Dev.finish d ((((d.log 0x52 0x5001 (d.owner b) (b % 256) [b]).count 0x2A00 9).toResetting b (d.hand b).newOwner))⟩) ∧
  (∀ (q : List Instr) (d : Dev) (b : Nat),
      d.live → blockExists b → (d.hand b).state = 2 → d.resetEnded b →
      exec (.blockResetDone b) ⟨q, d⟩ = .next ⟨q, Dev.finish d (((d.setHand b { d.hand b with state := 3 }).finishReset b).retarget b)⟩) ∧
  (∀ (q : List Instr) (d : Dev) (b : Nat),
      d.live → blockExists b → (d.hand b).state = 2 →
      exec (.forcedBlockReset b) ⟨q, d⟩ = .next ⟨q, Dev.finish d (((d.count 0x2A00 8).forceReset b).resetDone b)⟩) ∧
  (∀ (q : List Instr) (d : Dev) (who : Init) (b : Nat),
      d.live → d.serving → d.checkWrite who 0x2A02 1 (numData 0x2A02 1 (65536 * b)) = none → b / 256 ≠ 15 →
      blockExists b → who = .island → (d.hand b).state = 0 → d.blockBusy b = false →
      exec (.run who b) ⟨q, d⟩ = .next ⟨q, Dev.finish d (let k : Dev := (let d' := d.setO 0x2A02 2 0; { d' with iso := { d'.iso with blocks := tabSet 0 d'.iso.blocks b 0 } })
        (if b / 4096 = 1 then k.followRequest (b % 512) else k).accept)⟩) ∧
  (∀ (q : List Instr) (d : Dev) (who : Init) (b : Nat),
      d.live → d.serving → d.checkWrite who 0x2A02 1 (numData 0x2A02 1 (65536 * b)) = none → b / 256 = 15 →
      domainOk (b % 256) → who = .island →
      (domainBlocks (b % 256)).any (fun id => (d.hand id).state != 0 || d.blockBusy id) = false →
      exec (.run who b) ⟨q, d⟩ = .next ⟨q, Dev.finish d (((let d' := d.setO 0x2A02 2 0; { d' with iso := { d'.iso with domains := tabSet 0 d'.iso.domains (b % 256) 0 } }).clocksChange (b % 256) (domainBlocks (b % 256)) 0).accept)⟩) ∧
  (∀ (q : List Instr) (d : Dev) (who : Init) (b : Nat),
      d.live → d.serving → d.checkWrite who 0x2A02 1 (numData 0x2A02 1 (65536 * b + 1)) = none → b / 256 ≠ 15 →
      blockExists b → who = .island → (d.hand b).state = 0 → d.blockBusy b = false →
      exec (.stopClock who b) ⟨q, d⟩ = .next ⟨q, Dev.finish d ((let d' := d.setO 0x2A02 2 0; { d' with iso := { d'.iso with blocks := tabSet 0 d'.iso.blocks b 1 } }).accept)⟩) ∧
  (∀ (q : List Instr) (d : Dev) (who : Init) (b : Nat),
      d.live → d.serving → d.checkWrite who 0x2A02 1 (numData 0x2A02 1 (65536 * b + 1)) = none → b / 256 = 15 →
      domainOk (b % 256) → who = .island →
      (domainBlocks (b % 256)).any (fun id => (d.hand id).state != 0 || d.blockBusy id) = false →
      exec (.stopClock who b) ⟨q, d⟩ = .next ⟨q, Dev.finish d (((let d' := d.setO 0x2A02 2 0; { d' with iso := { d'.iso with domains := tabSet 0 d'.iso.domains (b % 256) 1 } }).clocksChange (b % 256) (domainBlocks (b % 256)) 1).accept)⟩) ∧
  (∀ (q : List Instr) (d : Dev) (who : Init) (b : Nat),
      d.live → d.serving → d.checkWrite who 0x2A02 1 (numData 0x2A02 1 (65536 * b + 2)) = none → b / 256 ≠ 15 →
      blockExists b → who = .island → (d.hand b).state = 0 → d.blockBusy b = false →
      exec (.powerOff who b) ⟨q, d⟩ = .next ⟨q, Dev.finish d ((let d' := d.setO 0x2A02 2 0; { d' with iso := { d'.iso with blocks := tabSet 0 d'.iso.blocks b (if hasSwitch b then 2 else 1) } }).accept)⟩) ∧
  (∀ (q : List Instr) (d : Dev) (who : Init) (b : Nat),
      d.live → d.serving → d.checkWrite who 0x2A02 1 (numData 0x2A02 1 (65536 * b + 2)) = none → b / 256 = 15 →
      domainOk (b % 256) → who = .island →
      (domainBlocks (b % 256)).any (fun id => (d.hand id).state != 0 || d.blockBusy id) = false →
      exec (.powerOff who b) ⟨q, d⟩ = .next ⟨q, Dev.finish d (((let d' := d.setO 0x2A02 2 0; { d' with iso := { d'.iso with domains := tabSet 0 d'.iso.domains (b % 256) 1 } }).clocksChange (b % 256) (domainBlocks (b % 256)) 2).accept)⟩)

/-- A disabled region outside every enclave takes its base; build, seal and destroy move an enclave from Free to Building,
Sealing and Destroying with the owner and masks of its set; the ends of sealing and destroying leave Sealed and Free; entering,
leaving, interrupting and resuming a thread set the core's domain tag, the thread's state and the returned values. -/
def Obligations.enclaves_and_regions_complete : Prop :=
  (∀ (q : List Instr) (d : Dev) (who : Init) (t r v : Nat),
      d.live → d.serving → who = .island → regionOfIndex (regionIndex t r) = some (t, r) →
      d.checkWrite who (regionIndex t r) 1 (numData (regionIndex t r) 1 v) = none → v % regionGrain t = 0 →
      attrEn (d.regAttr t r) = false → d.heldBy t r = none →
      exec (.regionRecordWrite who (regionIndex t r) 1 v) ⟨q, d⟩ = .next ⟨q, Dev.finish d ((d.setO (regionIndex t r) 1 v).accept)⟩) ∧
  (∀ (q : List Instr) (d : Dev) (who : Init) (n : Nat),
      d.live → d.serving → 1 ≤ n → n ≤ 31 → d.checkWrite who (enclaveIndex n) 2 [1#8] = none →
      d.enclaveState n = 0 → d.setFree (d.getO (enclaveIndex n) 3) →
      exec (.enclaveBuild who n) ⟨q, d⟩ = .next ⟨q, Dev.finish d (((d.setAttrs (d.getO (enclaveIndex n) 3) n 0xA).setO (enclaveIndex n) 1 1).accept)⟩) ∧
  (∀ (q : List Instr) (d : Dev) (who : Init) (n : Nat),
      d.live → d.serving → 1 ≤ n → n ≤ 31 → d.checkWrite who (enclaveIndex n) 2 [2#8] = none →
      d.enclaveState n = 1 →
      exec (.enclaveSeal who n) ⟨q, d⟩ = .next ⟨q, Dev.finish d (((d.setAttrs (d.getO (enclaveIndex n) 3) n 0).setO (enclaveIndex n) 1 2).accept)⟩) ∧
  (∀ (q : List Instr) (d : Dev) (n : Nat),
      d.live → 1 ≤ n → n ≤ 31 → d.enclaveState n = 2 →
      exec (.sealingComplete n) ⟨q, d⟩ = .next ⟨q, Dev.finish d (((d.setB (enclaveIndex n) 6 (padTo 48 (sha384 (d.setBytes (d.getO (enclaveIndex n) 3))))).setAttrs (d.getO (enclaveIndex n) 3) n 4).setO (enclaveIndex n) 1 3)⟩) ∧
  (∀ (q : List Instr) (d : Dev) (who : Init) (n : Nat),
      d.live → d.serving → 1 ≤ n → n ≤ 31 → d.checkWrite who (enclaveIndex n) 2 [3#8] = none →
      (d.enclaveState n = 1 ∨ d.enclaveState n = 3) → d.iso.owners = [] →
      exec (.enclaveDestroy who n) ⟨q, d⟩ = .next ⟨q, Dev.finish d (((d.setAttrs (d.getO (enclaveIndex n) 3) n 0).setO (enclaveIndex n) 1 4).accept)⟩) ∧
  (∀ (q : List Instr) (d : Dev) (n : Nat),
      d.live → 1 ≤ n → n ≤ 31 → d.enclaveState n = 4 → d.threadsStill n →
      d.iso.owners.any (fun p => p.2 == n) = false →
      exec (.destroyComplete n) ⟨q, d⟩ = .next ⟨q, Dev.finish d ((((List.range 6).foldl (fun d t => d.setThread n t {}) ((d.zeroSet (d.getO (enclaveIndex n) 3)).setAttrs (d.getO (enclaveIndex n) 3) 0x20 2)).setB (enclaveIndex n) 6 []).setO (enclaveIndex n) 1 0)⟩) ∧
  (∀ (q : List Instr) (d : Dev) (c n t : Nat),
      d.live → d.awake → appCore c → (d.core c).tag = 0 → 1 ≤ n → n ≤ 31 → d.enclaveState n = 3 →
      t < d.getO (enclaveIndex n) 5 → (d.thread n t).state ≠ 1 → d.coreRuns c →
      exec (.enclaveEnter c n t) ⟨q, d⟩ = .next ⟨q, Dev.finish d (((d.setThread n t { state := 1, core := c, saved := [] }).setCore c { tag := n, thread := t, regs := [], a0 := n, a1 := t, pc := d.getO (enclaveIndex n) 4 }).offerAll n)⟩) ∧
  (∀ (q : List Instr) (d : Dev) (c v : Nat),
      d.live → d.awake → appCore c → (d.core c).tag ≠ 0 → d.coreRuns c →
      exec (.enclaveExit c ⟨v, false⟩) ⟨q, d⟩ = .next ⟨q, Dev.finish d (((d.setThread (d.core c).tag (d.core c).thread { state := 0, core := c }).setCore c { a0 := 0, a1 := v }).offerAll (d.core c).tag)⟩) ∧
  (∀ (q : List Instr) (d : Dev) (c v : Nat),
      d.live → d.awake → appCore c → (d.core c).tag ≠ 0 → d.coreRuns c →
      exec (.enclaveExit c ⟨v, true⟩) ⟨q, d⟩ = .next ⟨q, Dev.finish d (((d.setThread (d.core c).tag (d.core c).thread { state := 0, core := c }).setCore c { a0 := 3, a1 := 0 }).offerAll (d.core c).tag)⟩) ∧
  (∀ (q : List Instr) (d : Dev) (c n v : Nat) (l : List Nat),
      d.live → d.awake → appCore c → (d.core c).tag ≠ 0 → (d.core c).tag ≠ n → d.coreRuns c →
      exec (.enclaveInterrupt c (.interrupt n v) l) ⟨q, d⟩ = .next ⟨q, Dev.finish d (((d.setThread (d.core c).tag (d.core c).thread { state := 2, core := c, saved := l, pc := v }).setCore c { a0 := 1, a1 := 0 }).offerAll (d.core c).tag)⟩) ∧
  (∀ (q : List Instr) (d : Dev) (c : Nat) (l : List Nat),
      d.live → d.awake → appCore c → (d.core c).tag ≠ 0 → d.coreRuns c →
      exec (.enclaveInterrupt c .trap l) ⟨q, d⟩ = .next ⟨q, Dev.finish d (d.setCore c { d.core c with pc := d.getO (enclaveIndex (d.core c).tag) 4 + 0x40 })⟩) ∧
  (∀ (q : List Instr) (d : Dev) (c n t : Nat),
      d.live → d.awake → appCore c → (d.core c).tag = 0 → 1 ≤ n → n ≤ 31 → d.enclaveState n = 3 →
      t < d.getO (enclaveIndex n) 5 → (d.thread n t).state = 2 → d.coreRuns c →
      exec (.enclaveResume c n t) ⟨q, d⟩ = .next ⟨q, Dev.finish d (((d.setThread n t { state := 1, core := c, saved := [] }).setCore c { tag := n, thread := t, regs := (d.thread n t).saved, a0 := n, a1 := t, pc := (d.thread n t).pc }).offerAll n)⟩)

/-- An empty key slot is programmed and one that is not the last is revoked; the kill word retires the part; a draw replaces the
nonce; a certificate of 256 bytes is checked and opens its scope when every check passes; each TAP instruction selects its register;
one whose scope bit is open selects itself and, while it is not, BYPASS; a debug request halts the cores of the open domains. -/
def Obligations.fuses_and_debug_complete : Prop :=
  (∀ (q : List Instr) (d : Dev) (who : Init) (b : List Byte),
      d.live → d.serving → d.checkWrite who 0x2A03 8 b = none → b.length = 50 → (byteAt b 0).toNat ≤ 3 →
      (byteAt b 1).toNat ≤ 3 → (d.key (byteAt b 0).toNat).programmed = false →
      exec (.programKeySlot who b) ⟨q, d⟩ = .next ⟨q, Dev.finish d ((d.fuseKey (byteAt b 0).toNat { hash := b.drop 2, programmed := true, bootUse := (byteAt b 1).toNat.testBit 0, debugUse := (byteAt b 1).toNat.testBit 1 }).accept)⟩) ∧
  (∀ (q : List Instr) (d : Dev) (who : Init) (k : Nat),
      d.live → d.serving → d.checkWrite who 0x2A03 9 (numData 0x2A03 9 k) = none → (d.key k).programmed = true →
      (d.key k).revoked = false → (d.key k).bootUse = false →
      exec (.revokeKeySlot who k) ⟨q, d⟩ = .next ⟨q, Dev.finish d ((d.fuseKey k { d.key k with revoked := true }).accept)⟩) ∧
  (∀ (q : List Instr) (d : Dev) (who : Init),
      d.live → d.serving → d.checkWrite who 0x2A03 10 (numData 0x2A03 10 0x6B696C6C) = none →
      exec (.retire who 0x6B696C6C) ⟨q, d⟩ = .next ⟨q, Dev.finish d ((({ d with kept := { d.kept with lifecycle := 3 } }).setO 0x2A03 1 3).accept)⟩) ∧
  (∀ (q : List Instr) (d : Dev) (who : Init) (v : Nat),
      d.live → d.serving → d.checkWrite who 0x2A03 2 (numData 0x2A03 2 v) = none →
      exec (.drawNonce who v) ⟨q, d⟩ = .next ⟨q, Dev.finish d (d.newNonce.accept)⟩) ∧
  (∀ (q : List Instr) (d : Dev) (b : List Byte),
      d.live → b.length = 256 →
      exec (.certificate b) ⟨q, d⟩ = .next ⟨q, Dev.finish d ((({ d with iso := { d.iso with checking := some b } }).setO 0x2A03 5 1).accept)⟩) ∧
  (∀ (q : List Instr) (d : Dev) (b : List Byte) (x : Nat × Bool),
      d.live → d.iso.checking = some b → (d.certChecks b).find? (fun c => !c.2) = some x →
      exec (.certificateCheckComplete) ⟨q, d⟩ = .next ⟨q, Dev.finish d (({ d with iso := { d.iso with checking := none, nonce := if ((d.certChecks b).take 3).any (fun c => !c.2) then d.iso.nonce else none } }).setO 0x2A03 5 x.1)⟩) ∧
  (∀ (q : List Instr) (d : Dev),
      d.live →
      exec (.idcode) ⟨q, d⟩ = .next ⟨q, Dev.finish d (({ d with iso := { d.iso with tap := { ir := 1, selected := 1, data := leBytes 4 0x185210F3, driving := false } } }).send (.tdo (leBytes 4 0x185210F3)))⟩) ∧
  (∀ (q : List Instr) (d : Dev),
      d.live →
      exec (.uid) ⟨q, d⟩ = .next ⟨q, Dev.finish d (({ d with iso := { d.iso with tap := { ir := 0x10, selected := 0x10, data := uniqueIdBytes, driving := false } } }).send (.tdo uniqueIdBytes))⟩) ∧
  (∀ (q : List Instr) (d : Dev),
      d.live →
      exec (.nonce) ⟨q, d⟩ = .next ⟨q, Dev.finish d ((d.tapSelect 0x11 0x11 (padTo 16 (d.getB 0x2A03 3))).newNonce)⟩) ∧
  (∀ (q : List Instr) (d : Dev) (b : List Byte),
      d.live → b.length = 256 →
      exec (.cert b) ⟨q, d⟩ = .next ⟨q, Dev.finish d ((d.tapSelect 0x12 0x12 []).presentCertificate b)⟩) ∧
  (∀ (q : List Instr) (d : Dev),
      d.live →
      exec (.status) ⟨q, d⟩ = .next ⟨q, Dev.finish d (d.tapSelect 0x13 0x13 (leBytes 4 (d.getO 0x2A03 5)))⟩) ∧
  (∀ (q : List Instr) (d : Dev),
      d.live →
      exec (.bypass) ⟨q, d⟩ = .next ⟨q, Dev.finish d ({ d with iso := { d.iso with tap := { ir := 0xFF, selected := 0xFF, data := [], driving := false } } })⟩) ∧
  (∀ (q : List Instr) (d : Dev),
      d.live → (d.getO 0x2A03 6).testBit 0 = false →
      exec (.extest) ⟨q, d⟩ = .next ⟨q, Dev.finish d ({ d with iso := { d.iso with tap := { ir := 2, selected := 0xFF, data := [], driving := false } } })⟩) ∧
  (∀ (q : List Instr) (d : Dev),
      d.live → (d.getO 0x2A03 6).testBit 0 →
      exec (.extest) ⟨q, d⟩ = .next ⟨q, Dev.finish d ({ d with iso := { d.iso with tap := { ir := 2, selected := 2, data := [], driving := true } } })⟩) ∧
  (∀ (q : List Instr) (d : Dev),
      d.live → (d.getO 0x2A03 6).testBit 0 = false →
      exec (.samplePreload) ⟨q, d⟩ = .next ⟨q, Dev.finish d ({ d with iso := { d.iso with tap := { ir := 3, selected := 0xFF, data := [], driving := false } } })⟩) ∧
  (∀ (q : List Instr) (d : Dev),
      d.live → (d.getO 0x2A03 6).testBit 0 →
      exec (.samplePreload) ⟨q, d⟩ = .next ⟨q, Dev.finish d ({ d with iso := { d.iso with tap := { ir := 3, selected := 3, data := [], driving := false } } })⟩) ∧
  (∀ (q : List Instr) (d : Dev) (n : Nat),
      d.live → coreScopes.contains n → (d.getO 0x2A03 6).testBit n = false →
      exec (.dmi n) ⟨q, d⟩ = .next ⟨q, Dev.finish d ({ d with iso := { d.iso with tap := { ir := 0x20, selected := 0xFF, data := [], driving := false } } })⟩) ∧
  (∀ (q : List Instr) (d : Dev) (n : Nat),
      d.live → coreScopes.contains n → (d.getO 0x2A03 6).testBit n →
      exec (.dmi n) ⟨q, d⟩ = .next ⟨q, Dev.finish d ({ d with iso := { d.iso with tap := { ir := 0x20, selected := 0x20, data := [], driving := false } } })⟩) ∧
  (∀ (q : List Instr) (d : Dev),
      d.live →
      exec (.debugReq) ⟨q, d⟩ = .next ⟨q, Dev.finish d ({ d with iso := { d.iso with halted := ((List.range 9).filter (fun c => (d.getO 0x2A03 6).testBit (d.coreScope c))).foldl (fun t c => tabSet false t c true) d.iso.halted } })⟩)

/-- A doorbell posts an allowed source and counts a refused one; a claim returns and claims the best source; a completion ends it; a
threshold is taken; an entry write keeps STATE and the reserved fields; a moderation timer releases its class; WFI releases what is
held for the core; an MSI-X write is issued or a mask set; a latched edge posts its source. -/
def Obligations.letterbox_completes : Prop :=
  (∀ (q : List Instr) (d : Dev) (p w : Nat),
      d.live → doorbellPage p → w < 2048 → 256 ≤ w → entryTarget (d.entry w) = p →
      exec (.doorbell .island p w) ⟨q, d⟩ = .next ⟨q, Dev.finish d (d.post w)⟩) ∧
  (∀ (q : List Instr) (d : Dev) (p w : Nat),
      d.live → doorbellPage p → 2048 ≤ w →
      exec (.doorbell .island p w) ⟨q, d⟩ = .next ⟨q, Dev.finish d (d.count 0x2B00 5)⟩) ∧
  (∀ (q : List Instr) (d : Dev) (k p s : Nat),
      d.live → d.serves k p → d.bestSource p k = some s → d.coreRuns k →
      exec (.claim k p) ⟨q, d⟩ = .next ⟨q, Dev.finish d ((let a := { d with letter := { d.letter with wfi := tabSet false d.letter.wfi k false } }; let b := (a.setSourceState s 2).setReleased s false; { b with letter := { b.letter with claimedBy := tabSet 0 b.letter.claimedBy s (k + 1), woken := tabSet false b.letter.woken s false } }).reply (leBytes 4 s))⟩) ∧
  (∀ (q : List Instr) (d : Dev) (k p s : Nat),
      d.live → s < 2048 → d.serves k p → entryState (d.entry s) = 2 → tabGet 0 d.letter.claimedBy s = k + 1 →
      d.coreRuns k →
      exec (.complete k p s) ⟨q, d⟩ = .next ⟨q, Dev.finish d (({ d with letter := { d.letter with claimedBy := tabSet 0 d.letter.claimedBy s 0 } }).setSourceState s 0)⟩) ∧
  (∀ (q : List Instr) (d : Dev) (k p v : Nat),
      d.live → d.serves k p → d.coreRuns k →
      exec (.thresholdWrite k p v) ⟨q, d⟩ = .next ⟨q, Dev.finish d ((Dev.withdrawn d { d with letter := { d.letter with thresholds := tabSet 0 d.letter.thresholds (256 * p + k) (v % 16) } } (({ d with letter := { d.letter with thresholds := tabSet 0 d.letter.thresholds (256 * p + k) (v % 16) } } : Dev).sourcesOf p)).offerAll p)⟩) ∧
  (∀ (q : List Instr) (d : Dev) (s v : Nat),
      d.live → d.serving → s < 2048 →
      d.checkWrite .island (0x2B10 + s / 128) (s % 128 + 1) (numData (0x2B10 + s / 128) (s % 128 + 1) v) = none →
      sourceReserved s = false → ownerCodeOk (entryTarget v) → ownerCodeOk (entryPoster v) →
      routeOk (entryTarget v) (entryRoute v) → entryTarget v = entryTarget (d.entry s) → entryEn v →
      exec (.sourceEntryWrite .island s v) ⟨q, d⟩ = .next ⟨q, Dev.finish d (((Dev.withdrawn d (d.setEntry s (setBits (setBits (setBits (setBits (setBits (setBits (d.entry s) 63 1 (bits v 63 1)) 56 4 (entryPrio v)) 52 4 (entryClass v)) 40 8 (entryPoster v)) 16 8 (entryRoute v)) 8 8 (entryTarget v))) [s]).offer s).accept)⟩) ∧
  (∀ (q : List Instr) (d : Dev) (o k : Nat),
      d.live → k < 16 → tabGet false d.letter.timers (16 * o + k) = true →
      exec (.moderationTimerExpiry o k) ⟨q, d⟩ = .next ⟨q, Dev.finish d ((let held := d.usedSources.filter (fun s => entryTarget (d.entry s) == o && entryClass (d.entry s) == k && entryState (d.entry s) == 1); let d := held.foldl (fun d s => d.setReleased s true) d; ({ d with letter := { d.letter with counts := tabSet 0 d.letter.counts (16 * o + k) 0, timers := tabSet false d.letter.timers (16 * o + k) false, settings := tabSet 1 d.letter.settings (16 * o + k) (d.getO 0x2B01 (k + 1)) } } : Dev)).offerAll o)⟩) ∧
  (∀ (q : List Instr) (d : Dev) (k : Nat),
      d.live → k < 9 → d.requestRaised k = false → d.coreRuns k →
      exec (.coreWfi k) ⟨q, d⟩ = .next ⟨q, Dev.finish d ((d.corePages k).foldl (fun d p => d.releaseTo p k) { d with letter := { d.letter with wfi := tabSet false d.letter.wfi k true } })⟩) ∧
  (∀ (q : List Instr) (d : Dev) (i v : Nat),
      d.live → i < 64 → v < 64 → d.vectorBlocked i v = false → (d.vectorSources i v).isEmpty = false →
      exec (.msixWriteIssue i v) ⟨q, d⟩ = .next ⟨q, Dev.finish d (let d := (d.vectorSources i v).foldl (fun d s => (d.setSourceState s 0).setReleased s false) d
        let d := ((d.linkUse (instPort i)).setPba i v false).setO (0x2910 + i) 6 0
        d.send (.msix i v (tabGet 0 d.letter.vecAddr (64 * i + v)) (tabGet 0 d.letter.vecData (64 * i + v))))⟩) ∧
  (∀ (q : List Instr) (d : Dev) (i : Nat) (x : MaskSel) (m : Bool),
      d.live → i < 64 →
      exec (.msixMaskWrite i x m) ⟨q, d⟩ = .next ⟨q, Dev.finish d (let d' := match x with
        | .vector v => { d with letter := { d.letter with unmasked := tabSet false d.letter.unmasked (64 * i + v % 64) (!m) } } | .function => { d with letter := { d.letter with fmask := tabSet false d.letter.fmask i m } }
        let d' := Dev.withdrawn d d' (d.sourcesOf (0x40 + i))
        ((List.range 64).filter (fun v => tabGet false d'.letter.pba (64 * i + v))).foldl (fun d v => if d.vectorBlocked i v then d else d.msixWrite i v) d')⟩) ∧
  (∀ (q : List Instr) (d : Dev) (n : Nat),
      d.live → n < 17 → tabGet false d.kept.latched n = true → entryEn (d.entry (160 + n)) →
      exec (.edgeLatchPost n) ⟨q, d⟩ = .next ⟨q, Dev.finish d (({ d with kept := { d.kept with latched := tabSet false d.kept.latched n false } }).post (160 + n))⟩)

/-- A promotion is counted; a window's statistics are entered; a mode register is taken; a mismatch seen twice is a command-path error;
a rank is taken out of service; a carry is copied and flips; a remap is queued and moves block by block; way masks, write-backs and
locks change a partition. -/
def Obligations.dram_completes : Prop :=
  (∀ (q : List Instr) (d : Dev) (k t : Nat) (x : DramInitiator),
      d.live → d.awake → k < 8 → d.ageLimit x < t →
      exec (.requestPromotion ⟨k, x, t⟩) ⟨q, d⟩ = .next ⟨q, Dev.finish d (d.count (0x2C02 + k) 5)⟩) ∧
  (∀ (q : List Instr) (d : Dev) (k t b n r : Nat),
      d.live → d.awake → k < 8 → (t < 10000 ∨ 32 ≤ r) →
      exec (.bankSkewWindow k t b n r) ⟨q, d⟩ = .next ⟨q, Dev.finish d (let d := (((d.countBy (0x2C02 + k) 1 t).setO (0x2C02 + k) 2 b).setO (0x2C02 + k) 3 (if t = 0 then 0 else min 255 (n * 256 / t))).setO (0x2C02 + k) 4 r
        { d with dram := { d.dram with skewed := tabSet 0 d.dram.skewed k 0, skewOf := tabSet 0xFF d.dram.skewOf k 0xFF } })⟩) ∧
  (∀ (q : List Instr) (d : Dev) (k t b n r : Nat),
      d.live → d.awake → k < 8 →
      exec (.bankSkewWindow k t b n r) ⟨q, d⟩ = .next ⟨q, Dev.finish d (d.skewWindow k t b n r)⟩) ∧
  (∀ (q : List Instr) (d : Dev) (p f : Nat),
      d.live → p < 16 → d.awake → d.rankState p ≠ 5 → f < 256 → d.getO 0x2C00 0x0B ≤ f →
      exec (.modeRegister4Read p f false) ⟨q, d⟩ = .next ⟨q, Dev.finish d ((({ d with dram := { d.dram with cool := tabSet 0 d.dram.cool p 0 } }).setO (0x2C10 + p) 2 f).setO (0x2C10 + p) 3 1)⟩) ∧
  (∀ (q : List Instr) (d : Dev) (p : Nat),
      d.live → p < 16 → d.awake → ((d.count (0x2C10 + p) 5).count 0x2C00 0x12).rankState p = 1 →
      exec (.commandPathCheck p true true) ⟨q, d⟩ = .next ⟨q, Dev.finish d ((((d.count (0x2C10 + p) 5).count 0x2C00 0x12).setRank p 5).log 0x60 3 0xFF p [p])⟩) ∧
  (∀ (q : List Instr) (d : Dev) (who : Init) (p v : Nat),
      d.live → d.serving → p < 16 → d.checkWrite who (0x2C10 + p) 6 (numData (0x2C10 + p) 6 v) = none →
      d.rankState p = 0 → d.dram.carry = none →
      exec (.takeOutOfService who p v) ⟨q, d⟩ = .next ⟨q, Dev.finish d ((d.startCarry p).accept)⟩) ∧
  (∀ (q : List Instr) (d : Dev) (who : Init) (p v : Nat) (x : Carry),
      d.live → d.serving → p < 16 → d.checkWrite who (0x2C10 + p) 6 (numData (0x2C10 + p) 6 v) = none →
      d.rankState p = 0 → d.dram.carry = some x →
      exec (.takeOutOfService who p v) ⟨q, d⟩ = .next ⟨q, Dev.finish d ((({ d with dram := { d.dram with waiting := d.dram.waiting ++ [p] } }).setRank p 2).accept)⟩) ∧
  (∀ (q : List Instr) (d : Dev) (who : Init) (p v : Nat),
      d.live → d.serving → p < 16 → d.checkWrite who (0x2C10 + p) 6 (numData (0x2C10 + p) 6 v) = none →
      d.rankState p ≠ 0 → d.rankState p ≠ 4 →
      exec (.takeOutOfService who p v) ⟨q, d⟩ = .next ⟨q, Dev.finish d (d.accept)⟩) ∧
  (∀ (q : List Instr) (d : Dev) (x : Carry),
      d.live → d.awake → d.dram.carry = some x → x.draining = false →
      exec (.carryCopyComplete) ⟨q, d⟩ = .next ⟨q, Dev.finish d (let bad := (d.unitsIn x.source).filter (fun u => d.rankOf (d.regBase 0 u.1 + u.2.2) == x.source && d.decodeUnit u.1 u.2.1 u.2.2 == .uncorrectable)
        let d := bad.foldl (fun d u => d.writePoison u.1 u.2.1 u.2.2 (d.bytesAt (d.regBase 0 u.1 + u.2.2) (unitSize u.2.1))) d
        ({ d with dram := { d.dram with carry := some { x with draining := true } } }).setO 0x2C00 0x0F (((List.range 128).filter (fun e => let b := d.remapEntry e; 128 ≤ b && bits b 3 4 == x.source)).length * 2 ^ 28))⟩) ∧
  (∀ (q : List Instr) (d : Dev) (x : Carry),
      d.live → d.awake → d.dram.carry = some x → x.draining = true →
      exec (.carryDrainComplete) ⟨q, d⟩ = .next ⟨q, Dev.finish d (let dram (k : Nat) : Bool := 2 ^ 40 ≤ k && k < 2 ^ 41
        let t := d.remapTable.map (fun b => if 128 ≤ b.toNat ∧ bits b.toNat 3 4 = x.source then BitVec.ofNat 8 (setBits b.toNat 3 4 x.target) else b)
        let d := d.rekeyAll (fun k => if dram k && keyRank k == x.target then none else if dram k && keyRank k == x.source then some (setBits k 31 4 x.target) else some k)
        let d := ((((d.setB 0x2C00 0x0D t).setRank x.target 0).setRank x.source 5).log 0x60 3 0xFF x.source [x.source, x.target]).count 0x2C00 0x10
        ({ d with dram := { d.dram with carry := none } }).nextCarry)⟩) ∧
  (∀ (q : List Instr) (d : Dev) (who : Init) (r v : Nat),
      d.live → d.serving → r < 32 → d.checkWrite who (0x2C20 + r) 2 (numData (0x2C20 + r) 2 v) = none →
      d.remapRefused r v = false → d.dram.remaps = [] → d.dram.carry = none →
      exec (.remap who r v) ⟨q, d⟩ = .next ⟨q, Dev.finish d ((({ d with dram := { d.dram with remaps := [{ region := r, order := v }] } }).runRemap { region := r, order := v }).accept)⟩) ∧
  (∀ (q : List Instr) (d : Dev) (who : Init) (r v : Nat),
      d.live → d.serving → r < 32 → d.checkWrite who (0x2C20 + r) 2 (numData (0x2C20 + r) 2 v) = none →
      d.remapRefused r v = false → (d.dram.remaps ≠ [] ∨ d.dram.carry ≠ none) →
      exec (.remap who r v) ⟨q, d⟩ = .next ⟨q, Dev.finish d ((({ d with dram := { d.dram with remaps := d.dram.remaps ++ [{ region := r, order := v }] } } : Dev).setO (0x2C20 + r) 3 1).accept)⟩) ∧
  (∀ (q : List Instr) (d : Dev) (x : Remap) (l : List Remap),
      d.live → d.awake → d.dram.remaps = x :: l → d.getO (0x2C20 + x.region) 3 = 2 →
      (d.regLimit 0 x.region - d.regBase 0 x.region) / waySize ≤ d.getO (0x2C20 + x.region) 4 →
      exec (.remapBlockDone) ⟨q, d⟩ = .next ⟨q, Dev.finish d (let k := d.setO 0x2C00 0x0F (d.getO (0x2C20 + x.region) 4 * waySize)
        let a := setBits (k.regAttr 0 x.region) 27 2 x.order
        let k := ((k.setO (regionIndex 0 x.region) 3 a).setO (0x2C20 + x.region) 3 0).setO 0x2C40 4 0xFF
        (({ k with dram := { k.dram with remaps := l } }).log 0x60 6 (attrOwner a) x.region [x.region, x.order]).nextCarry)⟩) ∧
  (∀ (q : List Instr) (d : Dev) (x : Remap) (l : List Remap),
      d.live → d.awake → d.dram.remaps = x :: l → d.getO (0x2C20 + x.region) 3 = 2 →
      exec (.remapBlockDone) ⟨q, d⟩ = .next ⟨q, Dev.finish d (d.remapBlock)⟩) ∧
  (∀ (q : List Instr) (d : Dev) (who : Init) (k v : Nat),
      d.live → d.serving → k < 16 → d.checkWrite who (wayIndex k) 3 (numData (wayIndex k) 3 v) = none →
      d.getO (wayIndex k) 1 ≠ 1 →
      exec (.wayMaskWrite who k v) ⟨q, d⟩ = .next ⟨q, Dev.finish d ((d.applyMask k v).accept)⟩) ∧
  (∀ (q : List Instr) (d : Dev) (who : Init) (k v : Nat),
      d.live → d.serving → k < 16 → d.checkWrite who (wayIndex k) 3 (numData (wayIndex k) 3 v) = none →
      d.getO (wayIndex k) 1 = 1 → d.waysTaken k v = false →
      d.getO (wayIndex k) 3 - (d.getO (wayIndex k) 3 &&& v) ≠ 0 →
      exec (.wayMaskWrite who k v) ⟨q, d⟩ = .next ⟨q, Dev.finish d (({ d with dram := { d.dram with leaving := tabSet 0 d.dram.leaving k (65536 + v) } }).accept)⟩) ∧
  (∀ (q : List Instr) (d : Dev) (k : Nat),
      d.live → k < 16 → tabGet 0 d.dram.leaving k ≠ 0 →
      exec (.wayWritebackComplete k) ⟨q, d⟩ = .next ⟨q, Dev.finish d (let m := tabGet 0 d.dram.leaving k % 65536
        let l := d.getO (wayIndex k) 3
        let d := if d.getO (wayIndex k) 4 = 1 then d.dropWays (l - (l &&& m)) else d
        ({ d with dram := { d.dram with leaving := tabSet 0 d.dram.leaving k 0 } }).setO (wayIndex k) 3 m)⟩) ∧
  (∀ (q : List Instr) (d : Dev) (who : Init) (k v : Nat),
      d.live → d.serving → k < 16 → d.checkWrite who (wayIndex k) 4 (numData (wayIndex k) 4 v) = none →
      v ≠ d.getO (wayIndex k) 4 →
      exec (.lockWrite who k v) ⟨q, d⟩ = .next ⟨q, Dev.finish d (((d.dropWays (d.getO (wayIndex k) 3)).setO (wayIndex k) 4 v).accept)⟩)

/-- A protected read answers its bytes and a partial write is merged; the scrubber takes its next burst; a lap that passes its limit is
reported once; a correctable error in an SRAM is counted, and one that is not has the effect of Table 17-4; the retired list is
cleared for the next boot. -/
def Obligations.protection_completes : Prop :=
  (∀ (q : List Instr) (d : Dev) (o a : Nat) (b : List Byte) (d' : Dev),
      d.live → d.memRead o (a / 64 * 64) 64 = (.ok b, d') →
      exec (.dramReadComplete o a none) ⟨q, d⟩ = .next ⟨q, Dev.finish d (d'.reply b)⟩) ∧
  (∀ (q : List Instr) (d : Dev) (o a : Nat) (b : List Byte),
      d.live →
      exec (.dramReadComplete o a (some b)) ⟨q, d⟩ = .next ⟨q, Dev.finish d ((d.memWrite o a b).2)⟩) ∧
  (∀ (q : List Instr) (d : Dev),
      d.live → d.awake → d.dram.trained → d.getO 0x2D00 1 ≠ 0 → d.prot.nextAt ≤ d.clock.ns → d.prot.running →
      d.scrubbed d.prot.region → d.prot.offset + 64 < d.regData d.prot.region →
      d.scrubSkips d.prot.region d.prot.offset →
      exec (.scrubBurst) ⟨q, d⟩ = .next ⟨q, Dev.finish d (if Config.slotHoldsRequest d.free then d.nextFree.2 else d.nextFree.2.setProt { d.prot with nextAt := d.clock.ns + ceilDiv 64000 (max 1 (d.getO 0x2D00 2)), offset := d.prot.offset + 64 })⟩) ∧
  (∀ (q : List Instr) (d : Dev),
      d.live → d.awake → d.dram.trained →
      exec (.scrubBurst) ⟨q, d⟩ = .next ⟨q, Dev.finish d (if Config.slotHoldsRequest d.free then d.nextFree.2 else d.nextFree.2.scrubBurst)⟩) ∧
  (∀ (q : List Instr) (d : Dev),
      d.live → d.prot.running = true → d.prot.alerted = false →
      exec (.lapLimitExpiry) ⟨q, d⟩ = .next ⟨q, Dev.finish d ((((d.setProt { d.prot with alerted := true }).log 0x6A 1 0xFF 0xFF [d.prot.region]).count 0x2D00 7).postNamed 0x2D00 8)⟩) ∧
  (∀ (q : List Instr) (d : Dev) (x : SramWord),
      d.live → 2 ≤ x.array → x.array ≤ 11 → x.array ≠ 5 → x.uncorrectable = false →
      exec (.sramError x) ⟨q, d⟩ = .next ⟨q, Dev.finish d ((d.count 0x2D00 0x0C).count 0x2D31 x.array)⟩) ∧
  (∀ (q : List Instr) (d : Dev) (x : SramWord),
      d.live → x.array = 8 → x.uncorrectable = true →
      exec (.sramError x) ⟨q, d⟩ = .next ⟨q, Dev.finish d ((d.count 0x2D00 0x0D).switchNeeded 2)⟩) ∧
  (∀ (q : List Instr) (d : Dev) (who : Init) (v : Nat),
      d.live → d.serving → d.checkWrite who 0x2D40 4 (numData 0x2D40 4 v) = none →
      exec (.clearRetiredList who v) ⟨q, d⟩ = .next ⟨q, Dev.finish d ((d.replaceBlock retiredBase 0x8000 []).accept)⟩)

/-- A catalogue code replaces the settings but TAG and CMP; the self-check runs the nine digits; a stream opens, takes data and feeds,
closes with its result and post, or is aborted; a feed ends or halts at its first failing burst; an engine is enabled and disabled. -/
def Obligations.nines_complete : Prop :=
  (∀ (q : List Instr) (d : Dev) (who : Init) (n k w poly init out : Nat) (ref : Bool),
      d.live → d.serving → n < 8 → d.checkWrite who (ninesIndex n) 7 (numData (ninesIndex n) 7 k) = none →
      k ≠ 0 → catalogue[k - 1]? = some (w, poly, init, ref, out) → d.engStill n →
      exec (.catalogueLoad who n k) ⟨q, d⟩ = .next ⟨q, Dev.finish d (((((d.setO (ninesIndex n) 3 (w + (if ref then 0x300 else 0) + 1024 * cfgTag (d.getO (ninesIndex n) 3) + (if cfgCmp (d.getO (ninesIndex n) 3) then 32768 else 0))).setO (ninesIndex n) 4 poly).setO (ninesIndex n) 5 init).setO (ninesIndex n) 6 out).accept)⟩) ∧
  (∀ (q : List Instr) (d : Dev) (who : Init) (n v : Nat),
      d.live → d.serving → n < 8 → d.checkWrite who (ninesIndex n) 8 (numData (ninesIndex n) 8 v) = none →
      d.engStill n →
      exec (.selfCheck who n v) ⟨q, d⟩ = .next ⟨q, Dev.finish d ((d.setO (ninesIndex n) 9 (d.engResult n (d.engTake n (d.getO (ninesIndex n) 5) nineDigits))).accept)⟩) ∧
  (∀ (q : List Instr) (d : Dev) (who : Init) (n : Nat),
      d.live → d.serving → n < 8 → d.checkWrite who (ninesIndex n) 11 [1#8] = none → d.engState n = 1 →
      exec (.streamOpen who n) ⟨q, d⟩ = .next ⟨q, Dev.finish d ((let i := ninesIndex n; let x := if 2 ≤ cfgTag (d.getO i 3) then d.engTake n (d.getO i 5) (leBytes 8 (d.getO i 0x0A)) else d.getO i 5; (((((d.setEngine n { d.engine n with reg := x, fed := false, feed := none, before := [] }).setO i 0x10 0).setO i 0x11 0).setO i 0x12 0).setEngState n 2)).accept)⟩) ∧
  (∀ (q : List Instr) (d : Dev) (who : Init) (n : Nat),
      d.live → d.serving → n < 8 → d.checkWrite who (ninesIndex n) 11 [2#8] = none → d.engState n = 2 →
      cfgCmp (d.getO (ninesIndex n) 3) = false → cfgTag (d.getO (ninesIndex n) 3) ≠ 3 →
      exec (.streamClose who n) ⟨q, d⟩ = .next ⟨q, Dev.finish d (((((((d.setO (ninesIndex n) 0x10 (d.engResult n (d.engine n).reg)).setO (ninesIndex n) 0x11 1).count 0x2E00 2).count (ninesIndex n) 0x15).setEngState n 1).post (129 + n)).accept)⟩) ∧
  (∀ (q : List Instr) (d : Dev) (who : Init) (n : Nat),
      d.live → d.serving → n < 8 → d.checkWrite who (ninesIndex n) 11 [2#8] = none → d.engState n = 2 →
      exec (.streamClose who n) ⟨q, d⟩ = .next ⟨q, Dev.finish d ((d.engClose n).accept)⟩) ∧
  (∀ (q : List Instr) (d : Dev) (who : Init) (n : Nat),
      d.live → d.serving → n < 8 → d.checkWrite who (ninesIndex n) 11 [3#8] = none → d.engState n = 2 →
      exec (.streamAbort who n) ⟨q, d⟩ = .next ⟨q, Dev.finish d (((d.setO (ninesIndex n) 0x11 4).setEngState n 1).accept)⟩) ∧
  (∀ (q : List Instr) (d : Dev) (who : Init) (n v : Nat),
      d.live → d.serving → n < 8 → d.checkWrite who (ninesIndex n) 13 (numData (ninesIndex n) 13 v) = none →
      bits v 28 3 = 0 → v % 2 ^ 28 ≠ 0 → d.engState n = 2 → cfgTag (d.getO (ninesIndex n) 3) ≠ 1 →
      exec (.feedWord who n v) ⟨q, d⟩ = .next ⟨q, Dev.finish d (((d.setEngine n { d.engine n with reg := (d.engine n).reg, fed := true, feed := some (d.getO (ninesIndex n) 0x0C, v % 2 ^ 28, v.testBit 31), before := d.mem }).setEngState n 3).accept)⟩) ∧
  (∀ (q : List Instr) (d : Dev) (n a len : Nat) (last : Bool),
      d.live → n < 8 → (d.engine n).feed = some (a, len, last) → d.engState n = 3 →
      (d.feedNow n a len).halt = none →
      exec (.feedEnd n) ⟨q, d⟩ = .next ⟨q, Dev.finish d (let f := d.feedNow n a len
        let k := ((f.dev.countBy (ninesIndex n) 0x12 f.took).setEngine n { (f.dev.countBy (ninesIndex n) 0x12 f.took).engine n with reg := f.reg, feed := none, before := [] }).setEngState n 2
        if last then k.engClose n else k)⟩) ∧
  (∀ (q : List Instr) (d : Dev) (n a len : Nat) (last : Bool) (x : Nat × Nat),
      d.live → n < 8 → (d.engine n).feed = some (a, len, last) → d.engState n = 3 →
      (d.feedNow n a len).halt = some x →
      exec (.feedHalt n) ⟨q, d⟩ = .next ⟨q, Dev.finish d (let f := d.feedNow n a len
        let k := (f.dev.countBy (ninesIndex n) 0x12 f.took).setEngine n { d.engine n with reg := f.reg, feed := none, before := [] }
        let k := ((k.setO (ninesIndex n) 0x13 x.1).setO (ninesIndex n) 0x11 x.2).setEngState n 4
        ((k.count 0x2E00 3).count (ninesIndex n) 0x16).post (129 + n))⟩) ∧
  (∀ (q : List Instr) (d : Dev) (who : Init) (n : Nat) (b : List Byte),
      d.live → d.serving → n < 8 → d.checkWrite who (ninesIndex n) 14 b = none → b.isEmpty = false →
      d.engState n = 2 → cfgTag (d.getO (ninesIndex n) 3) ≠ 1 →
      exec (.directData who n b) ⟨q, d⟩ = .next ⟨q, Dev.finish d (((d.setEngine n { d.engine n with reg := d.engTake n (d.engine n).reg b, fed := true }).countBy (ninesIndex n) 0x12 b.length).accept)⟩) ∧
  (∀ (q : List Instr) (d : Dev) (who : Init) (n : Nat),
      d.live → d.serving → n < 8 → d.checkWrite who (ninesIndex n) 2 (numData (ninesIndex n) 2 0) = none →
      exec (.ninesEnableWrite who n 0) ⟨q, d⟩ = .next ⟨q, Dev.finish d (((d.setO (ninesIndex n) 2 0).disableEngine n).accept)⟩) ∧
  (∀ (q : List Instr) (d : Dev) (n : Nat),
      d.live → n < 8 → d.engState n = 6 → d.getO (ninesIndex n) 0x14 = 255 → (d.engine n).feed = none →
      exec (.ninesDisableComplete n) ⟨q, d⟩ = .next ⟨q, Dev.finish d (let k := if (d.engine n).opened then d.setO (ninesIndex n) 0x11 5 else d
        let k := (k.setO (ninesIndex n) 0x17 ((k.clock.ns - (d.engine n).disableAt) / 1000)).setEngine n {}
        k.setEngState n (if k.getO (ninesIndex n) 2 = 0 || !k.running then 0 else 1))⟩) ∧
  (∀ (q : List Instr) (d : Dev) (n : Nat),
      d.live → n < 8 → d.engState n = 6 → d.getO (ninesIndex n) 0x14 = 255 →
      exec (.ninesDisableComplete n) ⟨q, d⟩ = .next ⟨q, Dev.finish d (d.engDisabled n)⟩)

/-- A commit writes the record in hand to its slot and counts it; a clear starts the log anew with record 7800h; a software event goes
through intake whatever its outcome; a bucket gains one token. -/
def Obligations.recorder_completes : Prop :=
  (∀ (q : List Instr) (d : Dev) (x : Event),
      d.live → d.recorder.hand = some x →
      exec (.recordCommit) ⟨q, d⟩ = .next ⟨q, Dev.finish d (let k := d.putBytes (logWindow + 32 * d.committed) (recordOf d.commitSeq x)
        let k := (k.setO 0x2F00 3 (k.baseSeq * 2 ^ 32 + (d.commitSeq + 1) % 2 ^ 32)).count 0x2F00 5
        let k := { k with recorder := { k.recorder with hand := k.recorder.queue.head?, queue := k.recorder.queue.tail } }
        if k.committed = 32768 ∧ k.getO 0x2F00 1 = 0 then (k.setO 0x2F00 1 1).postNamed 0x2F00 0x0A else k)⟩) ∧
  (∀ (q : List Instr) (d : Dev) (who : Init) (v : Nat),
      d.live → d.serving → d.checkWrite who 0x2F00 4 (numData 0x2F00 4 v) = none → v = 0x636C6561 →
      d.getO 0x2F00 1 ≠ 2 → d.recorder.hand = none →
      exec (.logClear who v) ⟨q, d⟩ = .next ⟨q, Dev.finish d ((let b := (d.setO 0x2F00 3 (d.commitSeq * 2 ^ 32 + d.commitSeq)).setO 0x2F00 1 0; { b with recorder := { b.recorder with hand := some { time := b.clock.ns, code := 0x7800, origin := 0xFFFF, payload := padTo 12 (leBytes 8 (d.getO 0x2F00 3)) } } }).accept)⟩) ∧
  (∀ (q : List Instr) (d : Dev) (who : Init) (b : List Byte),
      d.live → d.serving → d.checkWrite who 0x2F01 1 b = none → b.length = 14 → 0xF0 ≤ field b 0 2 / 256 →
      field b 0 2 / 256 ≤ 0xFE →
      exec (.postEvent who b) ⟨q, d⟩ = .next ⟨q, Dev.finish d (((d.intake { time := d.clock.ns, code := field b 0 2, origin := 256 * initCode who + 0xFF, payload := b.drop 2 }).2).accept)⟩) ∧
  (∀ (q : List Instr) (d : Dev) (k : Nat),
      d.live → k < 256 → d.bucket k / 65536 ≠ 0 → 1 < tabGet 0 d.recorder.spent k →
      exec (.bucketRefill k) ⟨q, d⟩ = .next ⟨q, Dev.finish d ({ d with recorder := { d.recorder with spent := tabSet 0 d.recorder.spent k (tabGet 0 d.recorder.spent k - 1), throttled := d.recorder.throttled } })⟩)

/-- A pipe fault holds the output's commits; a mismatch or a watchdog of the running pair switches to a Standby pair; a switch on
request does so too; a restart and a self-test end; an owner's watchdog is kicked, and its expiry acts as its policy says. -/
def Obligations.island_completes : Prop :=
  (∀ (q : List Instr) (d : Dev) (n : Nat),
      d.live → n < 8 → d.outState n ≠ 0 →
      exec (.pixelPipeFault n) ⟨q, d⟩ = .next ⟨q, Dev.finish d (let k := d.transientFault 0x8102 n
        let k := (k.comp.commits.filter (fun c => c.output == n)).foldl (fun d c => (d.regHold c.item.entry).2) k
        let k := { k with comp := { k.comp with commits := k.comp.commits.map (fun (c : Commit) => if c.output = n then { c with held := true } else c) } }
        k.setOutput n { k.output n with pipeFault := true })⟩) ∧
  (∀ (q : List Instr) (d : Dev),
      d.live → d.island.halted = false → d.island.restarting = false → d.standby →
      d.pairSlot (d.getO 0x3100 1) = d.pairSlot (1 - d.getO 0x3100 1) →
      exec (.lockstepMismatch) ⟨q, d⟩ = .next ⟨q, Dev.finish d ((let a := d.getO 0x3100 1; let k := ((((d.setPairState a 3).setPairState (1 - a) 1).setO 0x3100 1 (1 - a)).setO 0x3100 5 1).count 0x3100 4; ((k.transientFault 0x8103 (1 - a)).emergency 0xFF08 0x89 0x8901 0x00 (1 - a) [1, 1 - a]).reissueWrites))⟩) ∧
  (∀ (q : List Instr) (d : Dev),
      d.live → d.island.halted = false → d.island.restarting = false → d.standby →
      exec (.lockstepMismatch) ⟨q, d⟩ = .next ⟨q, Dev.finish d (d.switchPair 1)⟩) ∧
  (∀ (q : List Instr) (d : Dev),
      d.live → d.island.halted = false → d.island.restarting = false → d.standby →
      d.pairSlot (d.getO 0x3100 1) = d.pairSlot (1 - d.getO 0x3100 1) →
      exec (.islandWatchdogExpiry) ⟨q, d⟩ = .next ⟨q, Dev.finish d ((let a := d.getO 0x3100 1; let k := ((((d.setPairState a 3).setPairState (1 - a) 1).setO 0x3100 1 (1 - a)).setO 0x3100 5 3).count 0x3100 4; ((k.transientFault 0x8103 (1 - a)).emergency 0xFF08 0x89 0x8901 0x00 (1 - a) [3, 1 - a]).reissueWrites))⟩) ∧
  (∀ (q : List Instr) (d : Dev),
      d.live → d.island.halted = false → d.island.restarting = false → d.standby →
      exec (.islandWatchdogExpiry) ⟨q, d⟩ = .next ⟨q, Dev.finish d (d.switchPair 3)⟩) ∧
  (∀ (q : List Instr) (d : Dev) (who : Init) (v : Nat),
      d.live → d.serving → d.checkWrite who 0x3100 6 (numData 0x3100 6 v) = none → d.standby →
      d.pairSlot (d.getO 0x3100 1) = d.pairSlot (1 - d.getO 0x3100 1) →
      exec (.islandSwitch who v) ⟨q, d⟩ = .next ⟨q, Dev.finish d ((let a := d.getO 0x3100 1; let k := ((((d.setPairState a 3).setPairState (1 - a) 1).setO 0x3100 1 (1 - a)).setO 0x3100 5 4).count 0x3100 4; ((k.transientFault 0x8103 (1 - a)).emergency 0xFF08 0x89 0x8901 0x00 (1 - a) [4, 1 - a]).reissueWrites).accept)⟩) ∧
  (∀ (q : List Instr) (d : Dev) (who : Init) (v : Nat),
      d.live → d.serving → d.checkWrite who 0x3100 6 (numData 0x3100 6 v) = none → d.standby →
      exec (.islandSwitch who v) ⟨q, d⟩ = .next ⟨q, Dev.finish d ((d.switchPair 4).accept)⟩) ∧
  (∀ (q : List Instr) (d : Dev),
      d.live → d.island.restarting = true →
      exec (.islandRestartComplete) ⟨q, d⟩ = .next ⟨q, Dev.finish d ({ d with island := { d.island with restarting := false } })⟩) ∧
  (∀ (q : List Instr) (d : Dev) (p : Nat) (b : Bool),
      d.live → p < 2 → d.pairState p = 3 →
      exec (.pairSelfTestComplete p b) ⟨q, d⟩ = .next ⟨q, Dev.finish d (d.setO 0x3100 (2 + p) (if b then 2 else 4))⟩) ∧
  (∀ (q : List Instr) (d : Dev) (who : Init) (n v : Nat),
      d.live → d.serving → n < 16 → d.checkWrite who (dogIndex n) 3 (numData (dogIndex n) 3 v) = none →
      initCode who = d.getO (dogIndex n) 1 →
      exec (.watchdogKick who n v) ⟨q, d⟩ = .next ⟨q, Dev.finish d (((d.setO (dogIndex n) 5 1).setO (dogIndex n) 7 d.clock.ns).accept)⟩) ∧
  (∀ (q : List Instr) (d : Dev) (n : Nat),
      d.live → n < 16 → d.awake → d.serving → d.getO (dogIndex n) 5 = 1 →
      exec (.ownerWatchdogExpiry n) ⟨q, d⟩ = .next ⟨q, Dev.finish d (let k := ((d.setO (dogIndex n) 5 2).count (dogIndex n) 6).emergency 0xFF03 0x89 0x8902 (d.getO (dogIndex n) 1) n [n, d.getO (dogIndex n) 1]
        let k := k.postNamed 0x3100 0x0B
        let k := if 1 ≤ k.getO (dogIndex n) 4 then k.disableLayersOf (d.getO (dogIndex n) 1) else k
        if k.getO (dogIndex n) 4 = 2 then k.takeBlocksOf (d.getO (dogIndex n) 1) else k)⟩)

/-- The heartbeat timer sends and tests the witness; a valid frame of each type counts, advances the sequence and is used; a frame whose
check fails is discarded and counted; mirrors and probes are sent; block lock and silence move the link; a takeover and a return
change the witness. -/
def Obligations.pairing_completes : Prop :=
  (∀ (q : List Instr) (d : Dev),
      d.live → d.linkState ≠ 0 →
      exec (.courierHeartbeatTimer) ⟨q, d⟩ = .next ⟨q, Dev.finish d ((d.sendFrame 1 d.heartbeatPayload).witnessTest)⟩) ∧
  (∀ (q : List Instr) (d : Dev) (f : List Byte) (n : Nat),
      d.live → d.linkState ≠ 0 → d.courier.locked → frameOk f → frameType f = 1 → d.courier.last = some n →
      frameSeq f = (n + 1) % 2 ^ 32 →
      exec (.heartbeatFrame f) ⟨q, d⟩ = .next ⟨q, Dev.finish d (useHeartbeat (framePayload f) ((d.count 0x3200 0x11).setCourier { (d.count 0x3200 0x11).courier with last := some (frameSeq f) }))⟩) ∧
  (∀ (q : List Instr) (d : Dev) (f : List Byte) (n : Nat),
      d.live → d.linkState ≠ 0 → d.courier.locked → frameOk f → frameType f = 3 → d.courier.last = some n →
      frameSeq f = (n + 1) % 2 ^ 32 →
      exec (.mirrorFrame f) ⟨q, d⟩ = .next ⟨q, Dev.finish d (useMirror (framePayload f) ((d.count 0x3200 0x11).setCourier { (d.count 0x3200 0x11).courier with last := some (frameSeq f) }))⟩) ∧
  (∀ (q : List Instr) (d : Dev) (f : List Byte) (n : Nat),
      d.live → d.linkState ≠ 0 → d.courier.locked → frameOk f → frameType f = 4 → d.courier.last = some n →
      frameSeq f = (n + 1) % 2 ^ 32 →
      exec (.rodMarkFrame f) ⟨q, d⟩ = .next ⟨q, Dev.finish d (useMark (framePayload f) ((d.count 0x3200 0x11).setCourier { (d.count 0x3200 0x11).courier with last := some (frameSeq f) }))⟩) ∧
  (∀ (q : List Instr) (d : Dev) (f : List Byte) (t n : Nat),
      d.live → d.linkState ≠ 0 → d.courier.locked → frameOk f → frameType f = 5 → d.courier.last = some n →
      frameSeq f = (n + 1) % 2 ^ 32 →
      exec (.probeFrame f t) ⟨q, d⟩ = .next ⟨q, Dev.finish d (((d.count 0x3200 0x11).setCourier { (d.count 0x3200 0x11).courier with last := some (frameSeq f) }).sendFrame 6 ((framePayload f).take 4 ++ leBytes 4 t))⟩) ∧
  (∀ (q : List Instr) (d : Dev) (f : List Byte) (t n : Nat),
      d.live → d.linkState ≠ 0 → d.courier.locked → frameOk f → frameType f = 6 → d.courier.last = some n →
      frameSeq f = (n + 1) % 2 ^ 32 →
      exec (.echoFrame f t) ⟨q, d⟩ = .next ⟨q, Dev.finish d (useEcho t (framePayload f) ((d.count 0x3200 0x11).setCourier { (d.count 0x3200 0x11).courier with last := some (frameSeq f) }))⟩) ∧
  (∀ (q : List Instr) (d : Dev) (f : List Byte),
      d.live → d.linkState ≠ 0 → d.courier.locked → frameOk f = false →
      exec (.heartbeatFrame f) ⟨q, d⟩ = .next ⟨q, Dev.finish d ((d.setCourier { d.courier with beats := 0 }).count 0x3200 0x12)⟩) ∧
  (∀ (q : List Instr) (d : Dev) (f : List Byte),
      d.live → d.linkState ≠ 0 → d.courier.locked → frameOk f = false →
      exec (.mirrorFrame f) ⟨q, d⟩ = .next ⟨q, Dev.finish d (d.count 0x3200 0x12)⟩) ∧
  (∀ (q : List Instr) (d : Dev) (f : List Byte),
      d.live → d.linkState ≠ 0 → d.courier.locked → frameOk f = false →
      exec (.rodMarkFrame f) ⟨q, d⟩ = .next ⟨q, Dev.finish d (d.count 0x3200 0x12)⟩) ∧
  (∀ (q : List Instr) (d : Dev),
      d.live → d.secondary = false →
      exec (.mirrorTimer) ⟨q, d⟩ = .next ⟨q, Dev.finish d (d.sendFrame 3 d.mirrorPayload)⟩) ∧
  (∀ (q : List Instr) (d : Dev),
      d.live → d.linkState = 2 →
      exec (.probeTimer) ⟨q, d⟩ = .next ⟨q, Dev.finish d ((d.setCourier { d.courier with probe := (d.courier.probe + 1) % 2 ^ 32 }).sendFrame 5 (leBytes 4 ((d.courier.probe + 1) % 2 ^ 32) ++ zeroBytes 4))⟩) ∧
  (∀ (q : List Instr) (d : Dev),
      d.live → d.linkState ≠ 0 →
      exec (.courierBlockLock) ⟨q, d⟩ = .next ⟨q, Dev.finish d (d.setCourier { d.courier with locked := true })⟩) ∧
  (∀ (q : List Instr) (d : Dev),
      d.live → d.linkState ≠ 0 →
      exec (.courierSilenceTimeout) ⟨q, d⟩ = .next ⟨q, Dev.finish d (((d.setO 0x3200 9 1).setCourier { d.courier with beats := 0 }).marksAbsent.returningDrives.showAlarms)⟩) ∧
  (∀ (q : List Instr) (d : Dev) (n : Nat),
      d.live → n < 8 → d.takesPart n → d.witness n = 1 → d.witnessL → d.witnessC →
      exec (.takeoverExpiry n) ⟨q, d⟩ = .next ⟨q, Dev.finish d (let k := ((d.setWitness n 2).count 0x3200 0x14).emergency 0xFF06 0x90 0x9101 (d.owner (blockId 1 n)) n [n]
        if (k.output n).disable.isSome then k else k.followRequest n)⟩) ∧
  (∀ (q : List Instr) (d : Dev) (n : Nat),
      d.live → n < 8 → d.witness n = 3 →
      exec (.returnDelayExpiry n) ⟨q, d⟩ = .next ⟨q, Dev.finish d (let k := d.setWitness n 0
        if (k.output n).disable.isNone && 2 ≤ k.outState n && k.wantState n == 1 then (if k.frameRuns n then k.setOutput n { k.output n with disable := some 1 } else k.disableOutput n 1) else k)⟩)

/-- Power-on, RESET_N, a brown-out and a software reset take the chip to the phase that the rule names; the release boots it from its
straps; training ends; an update is verified, activated, abandoned, loaded and committed, and its trial time commits it. -/
def Obligations.boot_and_update_complete : Prop :=
  (∀ (q : List Instr) (d : Dev),
      exec .powerOn ⟨q, d⟩ = .next ⟨q, if d.powerUp.live then Dev.finish d d.powerUp else d.powerUp⟩) ∧
  (∀ (q : List Instr) (d : Dev),
      d.power.phase ≠ .sleep →
      exec .resetNLow ⟨q, d⟩ = .next ⟨q, if (d.reset 2 d.power.pgood).live then Dev.finish d (d.reset 2 d.power.pgood) else d.reset 2 d.power.pgood⟩) ∧
  (∀ (q : List Instr) (d : Dev),
      exec .brownOut ⟨q, d⟩ = .next ⟨q, if (d.reset 5 false).live then Dev.finish d (d.reset 5 false) else d.reset 5 false⟩) ∧
  (∀ (q : List Instr) (d : Dev) (n p b : Nat),
      d.power.phase = .held →
      exec (.internalResetRelease n p b) ⟨q, d⟩ = .next ⟨q, if (d.released (n % 128) (p % 2) (b % 2)).live then Dev.finish d (d.released (n % 128) (p % 2) (b % 2)) else d.released (n % 128) (p % 2) (b % 2)⟩) ∧
  (∀ (q : List Instr) (d : Dev) (who : Init) (v : Nat),
      d.live → d.serving → d.checkWrite who 0x3300 2 (numData 0x3300 2 v) = none → d.running →
      exec (.softwareReset who v) ⟨q, d⟩ = .next ⟨q, Dev.finish d (d.reset 3 true).accept⟩) ∧
  (∀ (q : List Instr) (d : Dev) (t : Nat),
      d.live →
      exec (.dramTrainingComplete t) ⟨q, d⟩ = .next ⟨q, Dev.finish d (d.trainingEnds t)⟩) ∧
  (∀ (q : List Instr) (d : Dev) (t : Nat),
      d.live → d.dram.trained = false → d.power.recovery = false →
      exec (.dramTrainingComplete t) ⟨q, d⟩ = .next ⟨q, Dev.finish d (let k := ({ d with dram := { d.dram with trained := true } } : Dev).setO 0x3300 0x0E t
        (k.setBootControl { k.bootControl with training := true }).loadSection 4 0x02000000 (fun d => ((d.monitorRegion 1 (dramBase + 0x1000000) (dramBase + 0x2000000) 0x00).monitorRegion 2 (dramBase + 0x2000000) (dramBase + 0x3000000) 0x20 |>.loadSection 5 (dramBase + 0x1000000) (fun d => d)).loadSection 6 (dramBase + 0x2000000) (fun d => [2, 3, 4, 5, 6, 7].foldl (fun d c => d.setCore c { d.core c with pc := dramBase + 0x2000000 }) d)))⟩) ∧
  (∀ (q : List Instr) (d : Dev) (x : Nat),
      d.live → d.updateState = 2 → d.imageFails d.power.bankNew = some x →
      exec (.verifyingComplete) ⟨q, d⟩ = .next ⟨q, Dev.finish d ((d.setO 0x3300 8 0).setO 0x3300 9 x)⟩) ∧
  (∀ (q : List Instr) (d : Dev) (who : Init),
      d.live → d.serving → d.checkWrite who 0x3300 7 (numData 0x3300 7 1) = none → d.updateState = 3 →
      d.standby →
      exec (.updateActivate who) ⟨q, d⟩ = .next ⟨q, Dev.finish d (((d.setPairState (1 - d.getO 0x3100 1) 5).setO 0x3300 8 4).accept)⟩) ∧
  (∀ (q : List Instr) (d : Dev) (who : Init),
      d.live → d.serving → d.checkWrite who 0x3300 7 (numData 0x3300 7 2) = none → d.updateState = 3 →
      exec (.updateAbandon who) ⟨q, d⟩ = .next ⟨q, Dev.finish d (((d.setSlot d.power.bankNew 0).setO 0x3300 8 0).accept)⟩) ∧
  (∀ (q : List Instr) (d : Dev) (who : Init),
      d.live → d.serving → d.checkWrite who 0x3300 7 (numData 0x3300 7 3) = none → d.updateState = 5 →
      exec (.updateCommit who) ⟨q, d⟩ = .next ⟨q, Dev.finish d ((let k := (d.setKept { d.kept with fusedSec := if d.getO 0x3300 0x0B = 1 then max d.kept.fusedSec (field (d.slotHeader d.power.bankNew) 12 1) else d.kept.fusedSec }).setBootControl { d.bootControl with preferred := d.power.bankNew }; let k := if k.pairState (1 - d.getO 0x3100 1) = 2 then k.setPairState (1 - d.getO 0x3100 1) 5 else k; k.setUpdate 0).accept)⟩) ∧
  (∀ (q : List Instr) (d : Dev),
      d.live → d.pairState (1 - d.getO 0x3100 1) = 5 → d.updateState ≠ 4 →
      exec (.loadingComplete) ⟨q, d⟩ = .next ⟨q, Dev.finish d (((d.setPairSlot (1 - d.getO 0x3100 1) d.bootControl.preferred).setPairBank (1 - d.getO 0x3100 1) (d.pairBank (1 - (1 - d.getO 0x3100 1)))).setPairState (1 - d.getO 0x3100 1) 2)⟩) ∧
  (∀ (q : List Instr) (d : Dev),
      d.live → d.updateState = 5 →
      exec (.trialTimeExpiry) ⟨q, d⟩ = .next ⟨q, Dev.finish d ((let k := (d.setKept { d.kept with fusedSec := if d.getO 0x3300 0x0B = 1 then max d.kept.fusedSec (field (d.slotHeader d.power.bankNew) 12 1) else d.kept.fusedSec }).setBootControl { d.bootControl with preferred := d.power.bankNew }; let k := if k.pairState (1 - d.getO 0x3100 1) = 2 then k.setPairState (1 - d.getO 0x3100 1) 5 else k; k.setUpdate 0))⟩)

/-- A profile is taken; Keep-alive and Sleep are entered, the entry ends, and a cause ends them; a chosen edge sets its latch; a hot
junction steps down, and time steps back; shutdown resets; VIN crosses a threshold; PERST# starts Detect. -/
def Obligations.power_completes : Prop :=
  (∀ (q : List Instr) (d : Dev) (who : Init) (v : Nat),
      d.live → d.serving → d.checkWrite who 0x2002 1 (numData 0x2002 1 v) = none → d.power.phase = .running →
      v ≤ 2 → d.coolTooFast v = false →
      exec (.profileRequest who v) ⟨q, d⟩ = .next ⟨q, Dev.finish d ((d.setO 0x2002 1 v).followProfile.accept)⟩) ∧
  (∀ (q : List Instr) (d : Dev) (who : Init),
      d.live → d.serving → d.checkWrite who 0x2002 1 (numData 0x2002 1 3) = none → d.power.phase = .running →
      d.keepAliveRefused = false →
      exec (.keepAliveRequest who) ⟨q, d⟩ = .next ⟨q, Dev.finish d ((let k := d.setPower { d.power with phase := .entering, enteredAt := d.clock.ns, toSleep := false, later := none, wakeEdge := false, last := d.wantedProfile }; let k := k.setO 0x2002 1 3; let k := (List.range 64).foldl (fun d i => if d.instancePresent i then d.startQuiesce i else d) k; k.enginesStop.audioStops.hapticsOff).accept)⟩) ∧
  (∀ (q : List Instr) (d : Dev) (who : Init),
      d.live → d.serving → d.checkWrite who 0x2002 1 (numData 0x2002 1 4) = none → d.power.phase = .running →
      d.keepAliveRefused = false →
      exec (.sleepRequest who) ⟨q, d⟩ = .next ⟨q, Dev.finish d ((let k := d.setPower { d.power with phase := .entering, enteredAt := d.clock.ns, toSleep := true, later := none, wakeEdge := false, last := d.wantedProfile }; let k := k.setO 0x2002 1 4; let k := (List.range 64).foldl (fun d i => if d.instancePresent i then d.startQuiesce i else d) k; k.enginesStop.audioStops.hapticsOff).accept)⟩) ∧
  (∀ (q : List Instr) (d : Dev),
      d.live → d.power.phase = .entering → d.power.later = none → d.power.toSleep = false →
      d.beginKeepAlive.power.later = none → d.beginKeepAlive.power.toSleep = false →
      d.beginKeepAlive.power.wakeEdge = false →
      exec (.keepAliveEntryComplete) ⟨q, d⟩ = .next ⟨q, Dev.finish d (d.beginKeepAlive)⟩) ∧
  (∀ (q : List Instr) (d : Dev) (p : Nat),
      d.live → p < 8 → d.power.phase = .keepAlive → d.panelOn p → (d.getO 0x3300 0x0F).testBit p →
      (d.panel p).approach →
      exec (.keepAliveExit (.approach p)) ⟨q, d⟩ = .next ⟨q, Dev.finish d (d.leaveKeepAlive d.power.last)⟩) ∧
  (∀ (q : List Instr) (d : Dev) (p : Nat),
      p < 2 → d.power.phase = .sleep → d.power.canWake →
      exec (.canWakePattern p) ⟨q, d⟩ = .next ⟨q, if (d.reset 6 false).live then Dev.finish d (d.reset 6 false) else d.reset 6 false⟩) ∧
  (∀ (q : List Instr) (d : Dev) (n : Nat),
      d.live = false → n < 17 → (d.latchWord n).testBit 0 → (d.latchWord n).testBit 2 = false →
      exec (.edgeLatchSet n true) ⟨q, d⟩ = .next ⟨q, d.setKept { d.kept with latched := tabSet false d.kept.latched n true }⟩) ∧
  (∀ (q : List Instr) (d : Dev) (a b : Int) (x : Bool),
      d.live →
      exec (.thermalStepDown a b x) ⟨q, d⟩ = .next ⟨q, Dev.finish d (d.heats a b x)⟩) ∧
  (∀ (q : List Instr) (d : Dev),
      d.live → d.thermalStep ≠ 0 →
      exec (.thermalReturnExpiry) ⟨q, d⟩ = .next ⟨q, Dev.finish d ((d.putStep (d.thermalStep - 1)).log 0xA0 0xA002 0xFF 0xFF [d.thermalStep - 1])⟩) ∧
  (∀ (q : List Instr) (d : Dev),
      d.live →
      exec .thermalShutdown ⟨q, d⟩ = .next ⟨q, Dev.finish d ((d.reset 4 d.power.pgood).setKept { (d.reset 4 d.power.pgood).kept with shutdowns := ((d.reset 4 d.power.pgood).kept.shutdowns + 1) % 2 ^ 32 })⟩) ∧
  (∀ (q : List Instr) (d : Dev) (v : Nat),
      d.live →
      exec (.vinThresholdEvent v) ⟨q, d⟩ = .next ⟨q, Dev.finish d (d.vinCrosses v)⟩) ∧
  (∀ (q : List Instr) (d : Dev) (p : Nat),
      d.live → d.awake → p < 2 → d.portExists p → tabGet false d.host.linked p = false →
      exec (.perstDeassertion p) ⟨q, d⟩ = .next ⟨q, Dev.finish d (({ d with host := { d.host with perst := tabSet false d.host.perst p true } }).setO (portIndex p) 1 1)⟩) ∧
  (∀ (q : List Instr) (d : Dev) (p : Nat),
      d.live = false → p < 2 →
      exec (.perstDeassertion p) ⟨q, d⟩ = .next ⟨q, { d with host := { d.host with perst := tabSet false d.host.perst p true } }⟩)

/-- An accepted write of a plain object stores its value and answers without data; a write of 0 clears the error history; a save takes
its snapshot, and its end names the new slot or reports the failure; a restore takes its range out of the store. -/
def Obligations.store_completes : Prop :=
  (∀ (q : List Instr) (d : Dev) (who : Init) (i j : Nat) (b : List Byte) (t : Dev),
      d.live → d.serving → answersItself i j = false → d.checkWrite who i j b = none →
      objectVerdict who i j b d = .ok t →
      exec (.objectWrite who (.object i) j b) ⟨q, d⟩ = .next ⟨q, Dev.finish d (t.accept)⟩) ∧
  (∀ (q : List Instr) (d : Dev) (who : Init) (j : Nat) (b : List Byte),
      d.live → d.serving → d.checkWrite who 0x5000 j b = none →
      exec (.objectWrite who (.object 0x5000) j b) ⟨q, d⟩ = .next ⟨q, Dev.finish d ((d.setO 0x5000 j (leNat b)).accept)⟩) ∧
  (∀ (q : List Instr) (d : Dev) (who : Init) (a i j : Nat) (b : List Byte) (t : Dev),
      d.live → d.serving → onChip who → windowAt a = none → d.mappedFits a b.length → objectAt a = (i, j, 0) →
      answersItself i j = false → d.checkWrite who i j b = none → objectVerdict who i j b d = .ok t →
      exec (.objectWrite who .address a b) ⟨q, d⟩ = .next ⟨q, Dev.finish d (t.accept)⟩) ∧
  (∀ (q : List Instr) (d : Dev) (who : Init) (n : Nat) (b : List Byte),
      d.live → d.serving → b.length = 8 → n < 8 →
      exec (.objectWrite who (.object (0x2301 + n)) 6 b) ⟨q, d⟩ = exec (.commitSubmit who n (leNat b)) ⟨q, d⟩) ∧
  (∀ (q : List Instr) (d : Dev) (who : Init) (n : Nat) (b : List Byte),
      d.live → d.serving → b.length = 8 → n < 32 →
      exec (.objectWrite who (.object (0x2401 + n)) 3 b) ⟨q, d⟩ = exec (.copyJobSubmit who n (leNat b)) ⟨q, d⟩) ∧
  (∀ (q : List Instr) (d : Dev) (who : Init) (b : List Byte),
      b.length = 8 →
      exec (.objectWrite who (.object 0x25C0) 2 b) ⟨q, d⟩ = exec (.pipelineCreateSubmit who (leNat b)) ⟨q, d⟩) ∧
  (∀ (q : List Instr) (d : Dev) (who : Init) (b : List Byte),
      b.length = 1 →
      exec (.objectWrite who (.object 0x2002) 1 b) ⟨q, d⟩ = exec (.profileRequest who (leNat b)) ⟨q, d⟩) ∧
  (∀ (q : List Instr) (d : Dev) (who : Init) (i k : Nat) (b : List Byte),
      d.live → d.serving → b.length = 8 → 0x2511 ≤ i → i < 0x2571 → k < 4 →
      exec (.objectWrite who (.object i) (0x12 + 8 * k) b) ⟨q, d⟩ = exec (.gpuJobSubmit who (partitionOwner i) k (leNat b)) ⟨q, d⟩) ∧
  (∀ (q : List Instr) (d : Dev) (who : Init),
      d.live → d.serving → d.checkWrite who 0x1003 0 (numData 0x1003 0 0) = none →
      exec (.errorHistoryClear who 0) ⟨q, d⟩ = .next ⟨q, Dev.finish d ((d.clearIndex 0x1003 []).accept)⟩) ∧
  (∀ (q : List Instr) (d : Dev) (who : Init) (r v : Nat),
      d.live → d.serving → d.checkWrite who 0x1010 r (numData 0x1010 r v) = none → d.power.saving = none →
      exec (.storeParameters who r v) ⟨q, d⟩ = .next ⟨q, Dev.finish d ((let n := match d.newestImage with | some (s, _) => 1 - s | none => 0; let x := d.snapshot r (match d.newestImage with | some (_, x) => x | none => {}); (((d.beginBlock (storeBase n) storeSize x.generation x.body).setPower { d.power with saving := some { range := r, slot := n, generation := x.generation, dropComm := d.kept.noComm, dropApp := d.kept.noApp } }).setO 0x2000 9 1)).accept)⟩) ∧
  (∀ (q : List Instr) (d : Dev) (x : Saving),
      d.live → d.power.saving = some x →
      exec (.storeSaveComplete true) ⟨q, d⟩ = .next ⟨q, Dev.finish d (let k := (d.setPower { d.power with saving := none }).sealBlock (storeBase x.slot) x.generation
        let k := k.setKept { k.kept with noComm := k.kept.noComm && !x.dropComm, noApp := k.kept.noApp && !x.dropApp }
        let k := ((k.setO 0x2000 7 x.slot).setO 0x2000 8 x.generation).setO 0x2000 9 0
        ({ k with can := { k.can with saveFailed := false } }).saveAnswer x 0)⟩) ∧
  (∀ (q : List Instr) (d : Dev) (x : Saving),
      d.live → d.power.saving = some x →
      exec (.storeSaveComplete false) ⟨q, d⟩ = .next ⟨q, Dev.finish d (let k := (d.setPower { d.power with saving := none }).setO 0x2000 9 2
        (({ k with can := { k.can with saveFailed := true } }).emergency 0xFF07 0x99 0x9801 0xFF 0xFF [x.range, x.slot]).saveAnswer x abortSave)⟩) ∧
  (∀ (q : List Instr) (d : Dev) (who : Init) (r v : Nat),
      d.live → d.serving → d.checkWrite who 0x1011 r (numData 0x1011 r v) = none → d.power.saving = none →
      exec (.restoreDefaults who r v) ⟨q, d⟩ = .next ⟨q, Dev.finish d ((d.setKept { d.kept with noComm := d.kept.noComm || (r == 1 || r == 2), noApp := d.kept.noApp || (r == 1 || r == 3) }).accept)⟩)

/-- A request that reaches an idle window sets BUSY and is made of the server: read, write, describe and the four steps of a DOMAIN
transfer; its end shows the result and posts; a register write is stored. -/
def Obligations.windows_complete : Prop :=
  (∀ (q : List Instr) (d : Dev) (who : Init) (n i j : Nat),
      d.live → d.serving → d.reaches who n → d.takesCommand who → (d.window n).busy = false →
      d.checkRead who i j false = none →
      exec (.windowRead who n i j) ⟨q, d⟩ = .next ⟨q, Dev.finish d (({ d.opened n with answer := { abort := 0, data := (d.opened n).valueOf i j } } : Dev).setWindow n { (d.opened n).window n with result := some { data := some ((d.opened n).valueOf i j) } })⟩) ∧
  (∀ (q : List Instr) (d : Dev) (who : Init) (n i j a : Nat),
      d.live → d.serving → d.reaches who n → d.takesCommand who → (d.window n).busy = false →
      d.checkRead who i j false = some a →
      exec (.windowRead who n i j) ⟨q, d⟩ = .next ⟨q, Dev.finish d (({ d.opened n with answer := { abort := a, data := [] } } : Dev).setWindow n { (d.opened n).window n with result := some { abort := a } })⟩) ∧
  (∀ (q : List Instr) (d : Dev) (who : Init) (n i j : Nat) (r : ObjRow) (k t : Dev),
      d.live → d.serving → d.reaches who n → d.takesCommand who → (d.window n).busy = false →
      objRow i j = some r →
      ((d.opened n).journal (writeEntry who n i j ((d.opened n).window n).payload)).2.regIssue ((d.opened n).journal (writeEntry who n i j ((d.opened n).window n).payload)).1 = k →
      answersItself i j = false → k.checkWrite who i j ((d.opened n).window n).payload = none →
      objectVerdict who i j ((d.opened n).window n).payload k = .ok t → (t.window n).busy = true → i ≠ 0x1010 →
      exec (.windowWrite who n i j) ⟨q, d⟩ = .next ⟨q, Dev.finish d (t.accept.setWindow n { t.window n with writes := true, wo := r.acc == .wo, entry := ((d.opened n).journal (writeEntry who n i j ((d.opened n).window n).payload)).1, result := some {} })⟩) ∧
  (∀ (q : List Instr) (d : Dev) (who : Init) (n i j : Nat),
      d.live → d.serving → d.reaches who n → d.takesCommand who → (d.window n).busy = false →
      exec (.windowWrite who n i j) ⟨q, d⟩ = .next ⟨q, Dev.finish d ((d.opened n).windowWrites who n i j)⟩) ∧
  (∀ (q : List Instr) (d : Dev) (who : Init) (n i j : Nat) (r : ObjRow),
      d.live → d.serving → d.reaches who n → d.takesCommand who → (d.window n).busy = false →
      objRow i j = some r → d.hasIndex i →
      exec (.windowDescribe who n i j) ⟨q, d⟩ = .next ⟨q, Dev.finish d (({ d.opened n with answer := { abort := 0, data := (defaultOf i j).take 2048 } } : Dev).setWindow n { (d.opened n).window n with result := some { data := some ((defaultOf i j).take 2048), desc := some r.desc } })⟩) ∧
  (∀ (q : List Instr) (d : Dev) (who : Init) (n i j : Nat),
      d.live → d.serving → d.reaches who n → d.takesCommand who → (d.window n).busy = false →
      d.transfer i j = none → d.checkRead who i j true = none →
      (d.window n).offset ≤ ((d.opened n).valueOf i j).length →
      exec (.domainReadSegment who n i j) ⟨q, d⟩ = .next ⟨q, Dev.finish d (let b := (d.opened n).valueOf i j
        let part := (b.drop (d.window n).offset).take 2048
        let k := (d.opened n).setTransfer i j (if b.length ≤ (d.window n).offset + part.length then none else some { path := .window n, who := who, writing := false, data := b, base := d.baseSeq })
        ({ k with answer := { abort := 0, data := part } } : Dev).setWindow n { (d.opened n).window n with result := some { data := some part, dlen := some b.length } })⟩) ∧
  (∀ (q : List Instr) (d : Dev) (who : Init) (n i j : Nat) (t : Transfer),
      d.live → d.serving → d.reaches who n → d.takesCommand who → (d.window n).busy = false →
      d.transfer i j = some t → t.path = .window n → t.writing = false → (i ≠ 0x2F03 ∨ t.base = d.baseSeq) →
      (d.window n).offset ≤ t.data.length →
      exec (.domainReadSegment who n i j) ⟨q, d⟩ = .next ⟨q, Dev.finish d (let part := (t.data.drop (d.window n).offset).take 2048
        let k := (d.opened n).setTransfer i j (if t.data.length ≤ (d.window n).offset + part.length then none else some t)
        ({ k with answer := { abort := 0, data := part } } : Dev).setWindow n { (d.opened n).window n with result := some { data := some part, dlen := some t.data.length } })⟩) ∧
  (∀ (q : List Instr) (d : Dev) (who : Init) (n i j : Nat),
      d.live → d.serving → d.reaches who n → d.takesCommand who → (d.window n).busy = false →
      d.transfer i j = none → d.checkDomain who i j = none → 1 ≤ (d.window n).len → (d.window n).len ≤ 2048 →
      d.domainFree i j → (d.window n).offset = 0 →
      exec (.domainWriteSegment who n i j) ⟨q, d⟩ = .next ⟨q, Dev.finish d ((let k := (d.opened n).openWrite (.window n) who i j ((d.opened n).window n).payload; k.windowAnswers n {}))⟩) ∧
  (∀ (q : List Instr) (d : Dev) (who : Init) (n i j : Nat) (t : Transfer),
      d.live → d.serving → d.reaches who n → d.takesCommand who → (d.window n).busy = false →
      d.transfer i j = some t → t.path = .window n → t.writing = true → 1 ≤ (d.window n).len →
      (d.window n).len ≤ 2048 → (d.window n).offset = t.data.length → t.data.length % 4 = 0 →
      exec (.domainWriteSegment who n i j) ⟨q, d⟩ = .next ⟨q, Dev.finish d ((let b := ((d.opened n).window n).payload; let k := if isImage i j then (d.opened n).programImage t.data.length b else d.opened n; (k.setTransfer i j (some { t with data := t.data ++ b })).windowAnswers n {}))⟩) ∧
  (∀ (q : List Instr) (d : Dev) (who : Init) (n i j : Nat) (t : Transfer),
      d.live → d.serving → d.reaches who n → d.takesCommand who → (d.window n).busy = false →
      d.checkType i j = none → d.transfer i j = some t → t.path = .window n → t.writing = true →
      d.contentAbort i j (d.window n).dlen (d.window n).dcrc t.data = none →
      exec (.domainEnd who n i j) ⟨q, d⟩ = .next ⟨q, Dev.finish d (((((d.opened n).setTransfer i j none).domainTakes i j t.data).windowAnswers n {}))⟩) ∧
  (∀ (q : List Instr) (d : Dev) (who : Init) (n i j : Nat) (t : Transfer),
      d.live → d.serving → d.reaches who n → d.takesCommand who → (d.window n).busy = false →
      d.checkType i j = none → d.transfer i j = some t → t.path = .window n → t.writing = false →
      exec (.domainEnd who n i j) ⟨q, d⟩ = .next ⟨q, Dev.finish d (((d.opened n).setTransfer i j none).windowAnswers n {})⟩) ∧
  (∀ (q : List Instr) (d : Dev) (who : Init) (n i j : Nat) (t : Transfer),
      d.live → d.serving → d.reaches who n → d.takesCommand who → (d.window n).busy = false →
      d.checkType i j = none → d.transfer i j = some t → t.path = .window n →
      exec (.domainAbort who n i j) ⟨q, d⟩ = .next ⟨q, Dev.finish d (((d.opened n).discard i j).windowAnswers n {})⟩) ∧
  (∀ (q : List Instr) (d : Dev) (who : Init) (n x : Nat) (b : List Byte),
      d.live → d.reaches who n → oddAccess who x b.length = false → (x ≠ 0 ∨ b.length ≠ 4) →
      (x ≠ 12 ∨ b.length ≠ 4) → (d.window n).busy = false →
      exec (.windowRegisterWrite who n x b) ⟨q, d⟩ = .next ⟨q, Dev.finish d (d.setWindow n ((d.window n).store x b))⟩) ∧
  (∀ (q : List Instr) (d : Dev) (who : Init) (n : Nat) (b : List Byte),
      d.live → d.reaches who n → oddAccess who 12 b.length = false → b.length = 4 →
      exec (.windowRegisterWrite who n 12 b) ⟨q, d⟩ = .next ⟨q, Dev.finish d (d.setWindow n ((d.window n).status (leNat b)))⟩) ∧
  (∀ (q : List Instr) (d : Dev) (who : Init) (n : Nat) (b : List Byte),
      d.live → d.serving → d.reaches who n → oddAccess who 0 b.length = false → b.length = 4 →
      bits (leNat b) 24 8 = 1 →
      exec (.windowRegisterWrite who n 0 b) ⟨q, d⟩ = exec (.windowRead who n (leNat b % 65536) (bits (leNat b) 16 8)) ⟨q, d⟩) ∧
  (∀ (q : List Instr) (d : Dev) (who : Init) (n : Nat) (b : List Byte),
      d.live → d.serving → d.reaches who n → oddAccess who 0 b.length = false → b.length = 4 →
      bits (leNat b) 24 8 = 2 →
      exec (.windowRegisterWrite who n 0 b) ⟨q, d⟩ = exec (.windowWrite who n (leNat b % 65536) (bits (leNat b) 16 8)) ⟨q, d⟩) ∧
  (∀ (q : List Instr) (d : Dev) (who : Init) (n : Nat) (b : List Byte),
      d.live → d.serving → d.reaches who n → oddAccess who 0 b.length = false → b.length = 4 →
      bits (leNat b) 24 8 = 3 →
      exec (.windowRegisterWrite who n 0 b) ⟨q, d⟩ = exec (.windowDescribe who n (leNat b % 65536) (bits (leNat b) 16 8)) ⟨q, d⟩) ∧
  (∀ (q : List Instr) (d : Dev) (who : Init) (n : Nat) (b : List Byte),
      d.live → d.serving → d.reaches who n → oddAccess who 0 b.length = false → b.length = 4 →
      bits (leNat b) 24 8 = 4 →
      exec (.windowRegisterWrite who n 0 b) ⟨q, d⟩ = exec (.domainReadSegment who n (leNat b % 65536) (bits (leNat b) 16 8)) ⟨q, d⟩) ∧
  (∀ (q : List Instr) (d : Dev) (who : Init) (n : Nat) (b : List Byte),
      d.live → d.serving → d.reaches who n → oddAccess who 0 b.length = false → b.length = 4 →
      bits (leNat b) 24 8 = 5 →
      exec (.windowRegisterWrite who n 0 b) ⟨q, d⟩ = exec (.domainWriteSegment who n (leNat b % 65536) (bits (leNat b) 16 8)) ⟨q, d⟩) ∧
  (∀ (q : List Instr) (d : Dev) (who : Init) (n : Nat) (b : List Byte),
      d.live → d.serving → d.reaches who n → oddAccess who 0 b.length = false → b.length = 4 →
      bits (leNat b) 24 8 = 6 →
      exec (.windowRegisterWrite who n 0 b) ⟨q, d⟩ = exec (.domainEnd who n (leNat b % 65536) (bits (leNat b) 16 8)) ⟨q, d⟩) ∧
  (∀ (q : List Instr) (d : Dev) (who : Init) (n : Nat) (b : List Byte),
      d.live → d.serving → d.reaches who n → oddAccess who 0 b.length = false → b.length = 4 →
      bits (leNat b) 24 8 = 7 →
      exec (.windowRegisterWrite who n 0 b) ⟨q, d⟩ = exec (.domainAbort who n (leNat b % 65536) (bits (leNat b) 16 8)) ⟨q, d⟩) ∧
  (∀ (q : List Instr) (d : Dev) (n : Nat) (x : WinResult),
      d.live → d.serving → (d.window n).busy = true → (d.window n).result = some x → (d.window n).entry = none →
      (d.window n).irqEn = false →
      exec (.windowRequestEnd n) ⟨q, d⟩ = .next ⟨q, Dev.finish d (d.setWindow n { d.window n with buffer := (match x.data with | some b => putBuffer (d.window n).buffer 0 b | none => (d.window n).buffer), len := (match x.data with | some b => b.length | none => (d.window n).len), desc := x.desc.getD (d.window n).desc, dlen := x.dlen.getD (d.window n).dlen, abort := x.abort, seq := ((d.window n).seq + 1) % 65536, done := true, busy := false, result := none, writes := false, wo := false, entry := none })⟩)

/-- NMT commands addressed to the node set its state or reset its communication; USDO requests are answered on their port; process data
are written, timed out, sent and synchronised; heartbeats are produced, heard and missed; EMCY messages leave after the inhibit time;
port events are reported. -/
def Obligations.canopen_completes : Prop :=
  (∀ (q : List Instr) (d : Dev) (p i j : Nat) (b : List Byte) (r : ObjRow) (k t : Dev),
      d.live → d.serving → p < 2 → d.usdoTaken p → objRow i j = some r → r.ty ≠ .domain →
      (d.journal (writeEntry (.can p) (0x80 + p) i j b)).2.regIssue (d.journal (writeEntry (.can p) (0x80 + p) i j b)).1 = k →
      answersItself i j = false → k.checkWrite (.can p) i j b = none → objectVerdict (.can p) i j b k = .ok t →
      i ≠ 0x1010 →
      exec (.usdoDownload p i j b) ⟨q, d⟩ = .next ⟨q, Dev.finish d ((t.accept.regEnded (d.journal (writeEntry (.can p) (0x80 + p) i j b)).1).usdoAnswer p i j 0 [])⟩) ∧
  (∀ (q : List Instr) (d : Dev) (p i j : Nat) (b : List Byte) (r : ObjRow),
      d.live → d.serving → p < 2 → d.usdoTaken p → objRow i j = some r → r.ty = .domain →
      d.checkDomain (.can p) i j = none → d.domainFree i j →
      (d.openWrite (.can p) (.can p) i j b).contentAbort i j b.length (crc32c (256 * i + j) b) b = none →
      exec (.usdoDownload p i j b) ⟨q, d⟩ = .next ⟨q, Dev.finish d ((((d.openWrite (.can p) (.can p) i j b).setTransfer i j none).domainTakes i j b).usdoAnswer p i j 0 [])⟩) ∧
  (∀ (q : List Instr) (d : Dev) (p i j : Nat) (b : List Byte),
      d.live → d.serving → p < 2 → d.usdoTaken p → objRow i j = none →
      exec (.usdoDownload p i j b) ⟨q, d⟩ = .next ⟨q, Dev.finish d (d.usdoWrite p i j b)⟩) ∧
  (∀ (q : List Instr) (d : Dev) (p i j : Nat) (r : ObjRow),
      d.live → d.serving → p < 2 → d.usdoTaken p → objRow i j = some r →
      (r.ty ≠ .domain ∨ d.transfer i j = none) → d.checkRead (.can p) i j (r.ty == .domain) = none →
      exec (.usdoUpload p i j) ⟨q, d⟩ = .next ⟨q, Dev.finish d (d.usdoAnswer p i j 0 (d.valueOf i j))⟩) ∧
  (∀ (q : List Instr) (d : Dev) (p i j a : Nat) (r : ObjRow),
      d.live → d.serving → p < 2 → d.usdoTaken p → objRow i j = some r →
      d.checkRead (.can p) i j (r.ty == .domain) = some a →
      exec (.usdoUpload p i j) ⟨q, d⟩ = .next ⟨q, Dev.finish d (d.usdoAnswer p i j a [])⟩) ∧
  (∀ (q : List Instr) (d : Dev) (p k : Nat) (b : List Byte),
      d.live → d.serving → p < 2 → k < 16 → d.portOpen p → d.can.nmt = .operational → d.pdoValid (0x1400 + k) →
      d.rpdoLength k ≤ b.length → 0xF0 < d.getO (0x1400 + k) 2 →
      exec (.rpdoReceived p k b) ⟨q, d⟩ = .next ⟨q, Dev.finish d (({ d with can := { d.can with rpdoLate := tabSet false d.can.rpdoLate k false } }).rpdoWrites p k b)⟩) ∧
  (∀ (q : List Instr) (d : Dev) (k : Nat),
      d.live → d.serving → k < 16 → d.pdoValid (0x1400 + k) → d.getO (0x1400 + k) 5 ≠ 0 →
      tabGet false d.can.rpdoLate k = false →
      exec (.rpdoTimeout k) ⟨q, d⟩ = .next ⟨q, Dev.finish d (d.rpdoExpires k)⟩) ∧
  (∀ (q : List Instr) (d : Dev) (k : Nat),
      d.live → d.serving → k < 16 → d.can.nmt = .operational → d.tpdoValid k → 0xFE ≤ d.getO (0x1800 + k) 2 →
      d.getO (0x1800 + k) 5 ≠ 0 → tabGet false d.can.tpdoInhibit k = false →
      exec (.tpdoEventTimerExpiry k) ⟨q, d⟩ = .next ⟨q, Dev.finish d (d.refreshMirrors.sendTpdo k)⟩) ∧
  (∀ (q : List Instr) (d : Dev) (k : Nat),
      d.live → d.serving → k < 16 → tabGet false d.can.tpdoWaits k = false →
      exec (.tpdoInhibitExpiry k) ⟨q, d⟩ = .next ⟨q, Dev.finish d ({ d with can := { d.can with tpdoInhibit := tabSet false d.can.tpdoInhibit k false } })⟩) ∧
  (∀ (q : List Instr) (d : Dev) (p : Nat),
      d.live → d.serving → p < 2 → d.portOpen p → d.can.nmt = .operational →
      exec (.syncReceived p) ⟨q, d⟩ = .next ⟨q, Dev.finish d (d.syncTakes p)⟩) ∧
  (∀ (q : List Instr) (d : Dev),
      d.live → d.serving → d.getO 0x1017 0 ≠ 0 → d.can.nmt ≠ .initialisation →
      exec (.heartbeatProducerTimer) ⟨q, d⟩ = .next ⟨q, Dev.finish d (d.sendHeartbeat d.can.nmt.code)⟩) ∧
  (∀ (q : List Instr) (d : Dev) (p n : Nat),
      d.live → d.serving → p < 2 → d.portOpen p →
      exec (.heartbeatReceived p n) ⟨q, d⟩ = .next ⟨q, Dev.finish d (((List.range 8).filter (fun k => d.consumerUsed (k + 1) && d.consumerNode (k + 1) == n)).foldl (fun d k => d.entryHeard (k + 1) p) d)⟩) ∧
  (∀ (q : List Instr) (d : Dev) (k : Nat),
      d.live → d.serving → 1 ≤ k → k ≤ 8 → d.consumerUsed k → tabGet false d.can.lost k = false →
      exec (.heartbeatConsumerTimeout k) ⟨q, d⟩ = .next ⟨q, Dev.finish d (d.entryLost k)⟩) ∧
  (∀ (q : List Instr) (d : Dev) (x : Emcy) (l : List Emcy),
      d.live → d.serving → d.can.waiting = x :: l →
      exec (.emcyInhibitExpiry) ⟨q, d⟩ = .next ⟨q, Dev.finish d (({ d with can := { d.can with inhibited := false, waiting := l } }).sendEmcy x)⟩) ∧
  (∀ (q : List Instr) (d : Dev) (p : Nat),
      d.live → d.serving → p < 2 → d.portOpen p →
      exec (.canReceiveOverrun p) ⟨q, d⟩ = .next ⟨q, Dev.finish d (d.emergency 0x8110 0x01 0x0100 0xFF p [p])⟩) ∧
  (∀ (q : List Instr) (d : Dev) (p : Nat),
      d.live → d.serving → p < 2 → d.portEnabled p → tabGet 0 d.can.portState p = 2 →
      exec (.canBusOffRecovery p) ⟨q, d⟩ = .next ⟨q, Dev.finish d ((d.setPortState p 0).emergency 0x8140 0x00 0x0103 0xFF p [p])⟩) ∧
  (∀ (q : List Instr) (d : Dev) (p : Nat),
      d.live → p < 2 → d.portEnabled p → tabGet 0 d.can.portState p ≠ 1 →
      exec (.canPortStateChange p 1) ⟨q, d⟩ = .next ⟨q, Dev.finish d ((d.setPortState p 1).emergency 0x8120 0x01 0x0101 0xFF p [p])⟩) ∧
  (∀ (q : List Instr) (d : Dev) (p n : Nat),
      d.live → d.serving → p < 2 → d.portOpen p → (n = 0 ∨ n = d.nodeId) →
      exec (.nmtStartRemoteNode p n) ⟨q, d⟩ = .next ⟨q, Dev.finish d ({ d with can := { d.can with nmt := .operational } })⟩) ∧
  (∀ (q : List Instr) (d : Dev) (p n : Nat),
      d.live → d.serving → p < 2 → d.portOpen p → (n = 0 ∨ n = d.nodeId) →
      exec (.nmtStopRemoteNode p n) ⟨q, d⟩ = .next ⟨q, Dev.finish d ({ d with can := { d.can with nmt := .stopped } })⟩) ∧
  (∀ (q : List Instr) (d : Dev) (p n : Nat),
      d.live → d.serving → p < 2 → d.portOpen p → (n = 0 ∨ n = d.nodeId) →
      exec (.nmtEnterPreOperational p n) ⟨q, d⟩ = .next ⟨q, Dev.finish d ({ d with can := { d.can with nmt := .preOperational } })⟩) ∧
  (∀ (q : List Instr) (d : Dev) (p n : Nat),
      d.live → d.serving → p < 2 → d.portOpen p → (n = 0 ∨ n = d.nodeId) →
      exec (.nmtResetNode p n) ⟨q, d⟩ = .next ⟨q, Dev.finish d (d.resetComm.clearProcess)⟩) ∧
  (∀ (q : List Instr) (d : Dev) (p n : Nat),
      d.live → d.serving → p < 2 → d.portOpen p → (n = 0 ∨ n = d.nodeId) →
      exec (.nmtResetCommunication p n) ⟨q, d⟩ = .next ⟨q, Dev.finish d (d.resetComm)⟩)

/-- For each engine that is Idle or Disabled and each writer that passes the checks: code k of Table 18-2 loads width, polynomial, initial
value, reflections and final XOR of its row and keeps TAG and CMP; the self-check writes to /09h the result of the bytes 31h to 39h
through the current setting, without a tag; under each row's setting that result is the row's check value; and a code that the table
does not list is refused with abort 0609_0030h and changes nothing. -/
def Obligations.catalogue_settings_load_and_check : Prop :=
  let rows : List (Nat × Nat × Nat × Nat × Bool × Nat × Nat) :=
      [(1, 8, 0x07, 0, false, 0, 0xF4), (2, 16, 0x1021, 0xFFFF, false, 0, 0x29B1), (3, 16, 0x1021, 0, true, 0, 0x2189),
       (4, 16, 0x8005, 0, true, 0, 0xBB3D), (5, 24, 0x864CFB, 0xB704CE, false, 0, 0x21CF02),
       (6, 32, 0x04C11DB7, 0xFFFFFFFF, true, 0xFFFFFFFF, 0xCBF43926),
       (7, 32, 0x1EDC6F41, 0xFFFFFFFF, true, 0xFFFFFFFF, 0xE3069283),
       (8, 32, 0x04C11DB7, 0xFFFFFFFF, false, 0, 0x0376E6E7), (9, 64, 0x42F0E1EBA9EA3693, 0, false, 0, 0x6C40DF5F0B497347),
       (10, 64, 0x42F0E1EBA9EA3693, 0xFFFFFFFFFFFFFFFF, true, 0xFFFFFFFFFFFFFFFF, 0x995DC9BBDF1939FA)]
    let digits : List Byte := [0x31, 0x32, 0x33, 0x34, 0x35, 0x36, 0x37, 0x38, 0x39]
    ∀ (q : List Instr) (d : Dev) (who : Init) (n : Nat), d.live → d.serving → n < 8 → d.engStill n →
    (∀ k w poly init ref out check, (k, w, poly, init, ref, out, check) ∈ rows →
      (d.checkWrite who (ninesIndex n) 7 (numData (ninesIndex n) 7 k) = none →
        ∃ t, exec (.catalogueLoad who n k) ⟨q, d⟩ = .next t ∧
          cfgWidth (t.dev.getO (ninesIndex n) 3) = w ∧ cfgRefIn (t.dev.getO (ninesIndex n) 3) = ref ∧
          cfgRefOut (t.dev.getO (ninesIndex n) 3) = ref ∧ t.dev.getO (ninesIndex n) 4 = poly ∧
          t.dev.getO (ninesIndex n) 5 = init ∧ t.dev.getO (ninesIndex n) 6 = out ∧
          cfgTag (t.dev.getO (ninesIndex n) 3) = cfgTag (d.getO (ninesIndex n) 3) ∧
          cfgCmp (t.dev.getO (ninesIndex n) 3) = cfgCmp (d.getO (ninesIndex n) 3)) ∧
      (d.checkWrite who (ninesIndex n) 8 (numData (ninesIndex n) 8 1) = none →
        cfgWidth (d.getO (ninesIndex n) 3) = w → cfgRefIn (d.getO (ninesIndex n) 3) = ref →
        cfgRefOut (d.getO (ninesIndex n) 3) = ref → d.getO (ninesIndex n) 4 = poly → d.getO (ninesIndex n) 5 = init →
        d.getO (ninesIndex n) 6 = out →
        ∃ t, exec (.selfCheck who n 1) ⟨q, d⟩ = .next t ∧ t.dev.getO (ninesIndex n) 9 = check)) ∧
    (d.checkWrite who (ninesIndex n) 8 (numData (ninesIndex n) 8 1) = none →
      ∃ t, exec (.selfCheck who n 1) ⟨q, d⟩ = .next t ∧ t.dev.getO (ninesIndex n) 9 =
        d.engResult n (d.engTake n (d.getO (ninesIndex n) 5) digits) % 2 ^ 64) ∧
    (∀ k, (k = 0 ∨ 10 < k) → k < 256 → d.checkWrite who (ninesIndex n) 7 (numData (ninesIndex n) 7 7) = none →
      exec (.catalogueLoad who n k) ⟨q, d⟩ = .next ⟨q, Dev.finish d { d with answer := { abort := 0x06090030 } }⟩)

/-- When the record in hand commits and the log has room, the 32 bytes of its slot hold, little-endian, the sequence number, the device
time, the code, the origin and the payload of the event, and in the last four bytes the CRC-32C (row 7 of Table 18-2) of bytes 0 to 27
with the sequence number as the 64-bit tag. Every byte outside the slot reads as before, the commit sequence is one more, and a record
taken with another sequence number has another check. -/
def Obligations.a_record_lies_in_its_slot_as_table_19_1_lays_it_out : Prop :=
  (∀ (q : List Instr) (d : Dev) (e : Event), d.live → d.recorder.hand = some e → d.committed < 32768 → d.getO 0x2F00 1 ≠ 2 →
      ∃ t, exec .recordCommit ⟨q, d⟩ = .next t ∧
        (let at_ := 0x4000000 + 32 * d.committed
         let r := t.dev.bytesAt at_ 32
         field r 0 4 = d.commitSeq ∧ field r 4 8 = e.time % 2 ^ 64 ∧ field r 12 2 = e.code % 2 ^ 16 ∧
         field r 14 2 = e.origin % 2 ^ 16 ∧ (e.payload.length ≤ 12 → (r.drop 16).take 12 = padTo 12 e.payload) ∧
         field r 28 4 = crc 32 0x1EDC6F41 0xFFFFFFFF 0xFFFFFFFF true true (leBytes 8 d.commitSeq ++ r.take 28) ∧
         (∀ a, a < at_ ∨ at_ + 32 ≤ a → t.dev.byte a = d.byte a)) ∧
        t.dev.commitSeq = (d.commitSeq + 1) % 2 ^ 32) ∧
    (∀ (m n : Nat) (b : List Byte), m < 2 ^ 32 → n < 2 ^ 32 → m ≠ n → crc32c m b ≠ crc32c n b)

/-- The event of an occurrence of Table 3-8 leaves the recorder as intake of that event leaves it. The EMCY that is sent on an open port, or
that waits while the inhibit time runs, carries the event's code and the sequence number that intake gave it; that number is
FFFF_FFFFh when the recorder refuses every event, or when the class has a bucket and no token is left. -/
def Obligations.an_emcy_carries_the_fate_of_its_event : Prop :=
  ∀ (d : Dev) (code cls what owner unit : Nat) (facts : List Nat), cls < 256 →
    let t := d.emergency code cls what owner unit facts
    let got := d.logSeq cls what owner unit facts
    t.recorder = got.2.recorder ∧
    (∃ e : Emcy, e.code = code ∧ e.event = eventCode cls what ∧ e.seq = got.1 ∧
      (d.can.inhibited = true → t.can.waiting = d.can.waiting ++ [e]) ∧
      (d.can.inhibited = false → ∀ p, p < 2 → d.portOpen p → Sent.emcy p e ∈ t.sent)) ∧
    (d.intakeRefusal.isSome = true ∨ (bucketExempt cls = false ∧ d.tokens cls = 0) → got.1 = 0xFFFFFFFF)

/-- For every tile of 64 pixels of 4 bytes (formats 1 and 2) or of 1 byte (format 8), the decoder, given the header byte and the slot bytes
that the encoder wrote, returns the tile; the slot bytes are as many as Table 6-2 says a reader fetches; and the encoder writes no SIZE
above 16. The raw form of A8 tiles of width 5 is erratum B0-02. -/
def Obligations.packed_tiles_decode_to_what_was_encoded : Prop :=
  ∀ (format clear : Nat) (tile : List Pixel), format = 1 ∨ format = 2 ∨ format = 8 → tile.length = 64 →
    (∀ p ∈ tile, p.length = ptsBpp format) →
    decodeTile format (encodeTile format tile).1 clear (encodeTile format tile).2 = tile ∧
    (encodeTile format tile).2.length = tileBytes format (encodeTile format tile).1 ∧ (encodeTile format tile).1 ≤ 16

/-- For every line of 64 bytes: with its own check word it reads good; with any one of its 512 data bits flipped the decoder gives the line
back; with any one of bits 10:0 or of the marker of the check word flipped it is corrected to the line; and a line whose marker is
11111b reads poisoned. -/
def Obligations.code_l_corrects_any_single_bit : Prop :=
  ∀ data : List Byte, data.length = 64 →
    lineDecode data (lineCheck data 0) = .good ∧
    (∀ i, i < 512 → lineDecode (flipLineBit data i) (lineCheck data 0) = .corrected data) ∧
    (∀ k, k < 16 → lineDecode data (leBytes 2 (leNat (lineCheck data 0) ^^^ 2 ^ k)) = .corrected data) ∧
    lineDecode data (lineCheck data 31) = .poisoned

/-- For every sector of 32 bytes: with its own check bytes it reads good; with any one data byte replaced by another value the decoder gives
the sector back; with any one check byte replaced it is corrected to the sector; and with check bytes that carry the poison pattern it
reads poisoned. -/
def Obligations.code_s_corrects_any_one_byte : Prop :=
  ∀ data : List Byte, data.length = 32 →
    rsDecode data (rsCheck data) = .good ∧
    (∀ k e, k < 32 → 0 < e → e < 256 → rsDecode (flipByte data k e) (rsCheck data) = .corrected data) ∧
    (∀ k e, k < 4 → 0 < e → e < 256 → rsDecode data (flipByte (rsCheck data) k e) = .corrected data) ∧
    rsDecode data (xorBytes (rsCheck data) poisonS) = .poisoned

/-- On a page that a core serves, a claim answers 8000_0000h when no deliverable source of the owner admits the core at its threshold, and
otherwise the number of such a source that no other one beats; that source becomes active and is no longer deliverable. On any other
page the read answers 0. A core that does not run claims nothing. -/
def Obligations.a_claim_returns_the_best_source : Prop :=
  ∀ (q : List Instr) (d : Dev) (core page : Nat), d.live →
    (d.coreRuns core = false → exec (.claim core page) ⟨q, d⟩ = .next ⟨q, Dev.finish d d⟩) ∧ (d.coreRuns core →
    (d.serves core page = false → ∃ t, exec (.claim core page) ⟨q, d⟩ = .next t ∧ t.dev.answer.data = [0, 0, 0, 0]) ∧
    (d.serves core page → d.takeable page core = [] →
      ∃ t, exec (.claim core page) ⟨q, d⟩ = .next t ∧ t.dev.answer.data = [0, 0, 0, 0x80]) ∧
    (d.serves core page → d.takeable page core ≠ [] →
      ∃ t s, exec (.claim core page) ⟨q, d⟩ = .next t ∧ t.dev.answer.data = leBytes 4 s ∧ s ∈ d.takeable page core ∧
        (∀ r ∈ d.takeable page core, entryPrio (d.entry r) < entryPrio (d.entry s) ∨
          (entryPrio (d.entry r) = entryPrio (d.entry s) ∧ s ≤ r)) ∧
        t.dev.entry s % 2 ^ 64 = setBits (d.entry s) 60 2 2 % 2 ^ 64 ∧ t.dev.deliverable s = false))

/-- While a hand-over has a block in Resetting or Retargeting its owner reads FFh, whatever its owner byte; no initiator passes the owner
check for an object of a Nines engine or a copy channel that passes in this way, the enable apart (which the island may write); and a
new hand-over request for the block answers an abort and changes nothing but the answer. -/
def Obligations.a_passing_block_has_no_owner : Prop :=
  ∀ d : Dev,
    (∀ id, 2 ≤ (d.hand id).state → d.owner id = 0xFF) ∧
    (∀ (who : Init) (n j : Nat), n < 8 → j ≠ 2 → initOk who → 2 ≤ (d.hand (blockId 8 n)).state →
      d.ownerPasses who (ninesIndex n) j = false) ∧
    (∀ (who : Init) (c j : Nat), c < 32 → j ≠ 2 → initOk who → 2 ≤ (d.hand (blockId 7 c)).state →
      d.ownerPasses who (copyIndex c) j = false) ∧
    (∀ (q : List Instr) (who : Init) (w : Nat), d.live → d.serving → w < 2 ^ 32 → 2 ≤ (d.hand (w / 65536)).state →
      ∃ a, a ≠ 0 ∧ exec (.handoverRequest who w) ⟨q, d⟩ = .next ⟨q, Dev.finish d { d with answer := { abort := a } }⟩)

/-- What a lock's reference, its absence, a holdover's end, a lock source, a free rod's timing, a bead or action word, a rate trim or the end
of a slew leaves: memory, host memory and every other unit as they were, the time in ns as it was, no queued command touched; among
the objects only 2100h to 212Fh and the recorder's may change. -/
def Obligations.frame_of_the_time_commands : Prop :=
  ∀ (who : Init) (r k v : Nat) (x y : Int) (c : Instr),
    c ∈ [.lockReferenceEvent r x y, .lockReferenceAbsent r, .holdoverExpiry r, .lockSourceWrite who r v, .freeRodTimingWrite who r k v,
      .beadWordWrite who r v, .actionWordWrite who r v, .rateTrimWrite who x, .offsetSlewSpent] →
    ∀ s t : State, exec c s = .next t →
      t.pending = s.pending ∧ t.dev.clock.ns = s.dev.clock.ns ∧
      Dev.objectsOnly (fun i => 0x2100 ≤ i && i ≤ 0x212F) { s.dev with abacus := t.dev.abacus, clock := t.dev.clock } t.dev

/-- After an AUX request or its end or timeout, the end of an EDID read, a training that passes or fails, or an underrun of an output, memory, host
memory, every other output and every other unit are as they were; among the objects, DOMAINs and strings only the output's own, 2200h +
10h x n to 220Fh + 10h x n, and the recorder's may change. -/
def Obligations.frame_of_the_output_events : Prop :=
  ∀ (who : Init) (o v u : Nat) (b : List Byte) (c : Instr),
    c ∈ [.auxRequest who o b, .auxTransactionEnd o b, .auxTimeout o, .edidReadComplete o b, .trainingPass o v, .trainingFail o v,
      .trainingTimeout o, .pixelUnderrun ⟨o, v, u⟩] →
    ∀ s t : State, exec c s = .next t →
      t.pending = s.pending ∧ (∀ n, n ≠ o → t.dev.output n = s.dev.output n) ∧
      (∀ i j, j < 256 → (i < 0x2200 + 16 * o ∨ 0x2210 + 16 * o ≤ i) → t.dev.getB i j = s.dev.getB i j) ∧
      Dev.objectsOnly (fun i => 0x2200 + 16 * o ≤ i && i < 0x2210 + 16 * o)
        { s.dev with blobs := t.dev.blobs, comp := { s.dev.comp with outputs := t.dev.comp.outputs } } t.dev

/-- After a trigger, its taking, a loop period, an end of Brake, clear-fault, a model state, an enable, the end of a disable or an
identification's start on channel c: memory, host memory, every other channel and every other unit are as they were; among the
objects only 2700h, 2701h + c and 2710h + c may change, beside the recorder's. -/
def Obligations.frame_of_the_haptic_channels : Prop :=
  ∀ (who : Init) (n v : Nat) (x y z : Int) (c : Instr),
    c ∈ [.hapticTrigger who n v, .triggerTaken n, .hapticLoopPeriod n x y z, .brakeEnd n, .brakeTimeout n, .clearFault who n v,
      .modelStateWrite who n v, .hapticEnableWrite who n v, .hapticDisableComplete n, .identify who n] →
    ∀ s t : State, exec c s = .next t →
      t.pending = s.pending ∧ (∀ m, m ≠ n → t.dev.haptic m = s.dev.haptic m) ∧
      Dev.objectsOnly (fun i => i == 0x2700 || i == 0x2701 + n || i == 0x2710 + n)
        { s.dev with haptics := t.dev.haptics, free := t.dev.free } t.dev

/-- After a doorbell, a claim, a completion, a threshold, a source entry, a moderation timer or a core's WFI: memory, host memory and every other
unit are as they were; among the objects only the tallies 2B00h and the source entries 2B10h to 2B1Fh may change, beside the
recorder's. -/
def Obligations.frame_of_the_letterbox : Prop :=
  ∀ (who : Init) (k p v : Nat) (c : Instr),
    c ∈ [.doorbell who p v, .claim k p, .complete k p v, .thresholdWrite k p v, .sourceEntryWrite who k v, .moderationTimerExpiry p k,
      .coreWfi k] →
    ∀ s t : State, exec c s = .next t →
      t.pending = s.pending ∧ Dev.objectsOnly letterIndex { s.dev with letter := t.dev.letter } t.dev

/-- After a catalogue load, a self-check, an open, direct data, a feed word, a close or an abort on engine n: memory, host memory, every other engine
and every other unit but the Letterbox are as they were; among the objects only the engine's record, 2E00h, the Letterbox's tallies and
entries and the recorder's may change. -/
def Obligations.frame_of_the_check_engines : Prop :=
  ∀ (who : Init) (n v : Nat) (b : List Byte) (c : Instr),
    c ∈ [.catalogueLoad who n v, .selfCheck who n v, .streamOpen who n, .directData who n b, .feedWord who n v, .streamClose who n,
      .streamAbort who n] →
    ∀ s t : State, exec c s = .next t →
      t.pending = s.pending ∧ (∀ m, m ≠ n → t.dev.engine m = s.dev.engine m) ∧
      Dev.objectsOnly (fun i => i == 0x2E00 || i == ninesIndex n || letterIndex i)
        { s.dev with engines := t.dev.engines, letter := t.dev.letter } t.dev
end

