-- ==== Sys2Proof/Laws/State.lean ====
section
/-! SUPPORT. One lemma for each field and each basic update of the block: what the update leaves alone, and what it writes. No
later proof unfolds a record update. -/

namespace Sys2Proof.Machine

variable (d : Dev)

@[simp] theorem setO_blobs (i j v : Nat) : (d.setO i j v).blobs = d.blobs := rfl
@[simp] theorem setO_frozen (i j v : Nat) : (d.setO i j v).frozen = d.frozen := rfl
@[simp] theorem setO_mem (i j v : Nat) : (d.setO i j v).mem = d.mem := rfl
@[simp] theorem setO_hostMem (i j v : Nat) : (d.setO i j v).hostMem = d.hostMem := rfl
@[simp] theorem setO_clock (i j v : Nat) : (d.setO i j v).clock = d.clock := rfl
@[simp] theorem setO_abacus (i j v : Nat) : (d.setO i j v).abacus = d.abacus := rfl
@[simp] theorem setO_comp (i j v : Nat) : (d.setO i j v).comp = d.comp := rfl
@[simp] theorem setO_bands (i j v : Nat) : (d.setO i j v).bands = d.bands := rfl
@[simp] theorem setO_copy (i j v : Nat) : (d.setO i j v).copy = d.copy := rfl
@[simp] theorem setO_gpu (i j v : Nat) : (d.setO i j v).gpu = d.gpu := rfl
@[simp] theorem setO_panels (i j v : Nat) : (d.setO i j v).panels = d.panels := rfl
@[simp] theorem setO_haptics (i j v : Nat) : (d.setO i j v).haptics = d.haptics := rfl
@[simp] theorem setO_audio (i j v : Nat) : (d.setO i j v).audio = d.audio := rfl
@[simp] theorem setO_engines (i j v : Nat) : (d.setO i j v).engines = d.engines := rfl
@[simp] theorem setO_island (i j v : Nat) : (d.setO i j v).island = d.island := rfl
@[simp] theorem setO_host (i j v : Nat) : (d.setO i j v).host = d.host := rfl
@[simp] theorem setO_windows (i j v : Nat) : (d.setO i j v).windows = d.windows := rfl
@[simp] theorem setO_transfers (i j v : Nat) : (d.setO i j v).transfers = d.transfers := rfl
@[simp] theorem setO_can (i j v : Nat) : (d.setO i j v).can = d.can := rfl
@[simp] theorem setO_answer (i j v : Nat) : (d.setO i j v).answer = d.answer := rfl
@[simp] theorem setO_sent (i j v : Nat) : (d.setO i j v).sent = d.sent := rfl
@[simp] theorem setO_iso (i j v : Nat) : (d.setO i j v).iso = d.iso := rfl
@[simp] theorem setO_letter (i j v : Nat) : (d.setO i j v).letter = d.letter := rfl
@[simp] theorem setO_dram (i j v : Nat) : (d.setO i j v).dram = d.dram := rfl
@[simp] theorem setO_prot (i j v : Nat) : (d.setO i j v).prot = d.prot := rfl
@[simp] theorem setO_recorder (i j v : Nat) : (d.setO i j v).recorder = d.recorder := rfl
@[simp] theorem setO_courier (i j v : Nat) : (d.setO i j v).courier = d.courier := rfl
@[simp] theorem setO_registry (i j v : Nat) : (d.setO i j v).registry = d.registry := rfl
@[simp] theorem setO_kept (i j v : Nat) : (d.setO i j v).kept = d.kept := rfl
@[simp] theorem setO_power (i j v : Nat) : (d.setO i j v).power = d.power := rfl
@[simp] theorem setO_free (i j v : Nat) : (d.setO i j v).free = d.free := rfl

@[simp] theorem setB_objs (i j : Nat) (v : List Byte) : (d.setB i j v).objs = d.objs := rfl
@[simp] theorem setB_frozen (i j : Nat) (v : List Byte) : (d.setB i j v).frozen = d.frozen := rfl
@[simp] theorem setB_mem (i j : Nat) (v : List Byte) : (d.setB i j v).mem = d.mem := rfl
@[simp] theorem setB_hostMem (i j : Nat) (v : List Byte) : (d.setB i j v).hostMem = d.hostMem := rfl
@[simp] theorem setB_clock (i j : Nat) (v : List Byte) : (d.setB i j v).clock = d.clock := rfl
@[simp] theorem setB_abacus (i j : Nat) (v : List Byte) : (d.setB i j v).abacus = d.abacus := rfl
@[simp] theorem setB_comp (i j : Nat) (v : List Byte) : (d.setB i j v).comp = d.comp := rfl
@[simp] theorem setB_bands (i j : Nat) (v : List Byte) : (d.setB i j v).bands = d.bands := rfl
@[simp] theorem setB_copy (i j : Nat) (v : List Byte) : (d.setB i j v).copy = d.copy := rfl
@[simp] theorem setB_gpu (i j : Nat) (v : List Byte) : (d.setB i j v).gpu = d.gpu := rfl
@[simp] theorem setB_panels (i j : Nat) (v : List Byte) : (d.setB i j v).panels = d.panels := rfl
@[simp] theorem setB_haptics (i j : Nat) (v : List Byte) : (d.setB i j v).haptics = d.haptics := rfl
@[simp] theorem setB_audio (i j : Nat) (v : List Byte) : (d.setB i j v).audio = d.audio := rfl
@[simp] theorem setB_engines (i j : Nat) (v : List Byte) : (d.setB i j v).engines = d.engines := rfl
@[simp] theorem setB_island (i j : Nat) (v : List Byte) : (d.setB i j v).island = d.island := rfl
@[simp] theorem setB_host (i j : Nat) (v : List Byte) : (d.setB i j v).host = d.host := rfl
@[simp] theorem setB_windows (i j : Nat) (v : List Byte) : (d.setB i j v).windows = d.windows := rfl
@[simp] theorem setB_transfers (i j : Nat) (v : List Byte) : (d.setB i j v).transfers = d.transfers := rfl
@[simp] theorem setB_can (i j : Nat) (v : List Byte) : (d.setB i j v).can = d.can := rfl
@[simp] theorem setB_answer (i j : Nat) (v : List Byte) : (d.setB i j v).answer = d.answer := rfl
@[simp] theorem setB_sent (i j : Nat) (v : List Byte) : (d.setB i j v).sent = d.sent := rfl
@[simp] theorem setB_iso (i j : Nat) (v : List Byte) : (d.setB i j v).iso = d.iso := rfl
@[simp] theorem setB_letter (i j : Nat) (v : List Byte) : (d.setB i j v).letter = d.letter := rfl
@[simp] theorem setB_dram (i j : Nat) (v : List Byte) : (d.setB i j v).dram = d.dram := rfl
@[simp] theorem setB_prot (i j : Nat) (v : List Byte) : (d.setB i j v).prot = d.prot := rfl
@[simp] theorem setB_recorder (i j : Nat) (v : List Byte) : (d.setB i j v).recorder = d.recorder := rfl
@[simp] theorem setB_courier (i j : Nat) (v : List Byte) : (d.setB i j v).courier = d.courier := rfl
@[simp] theorem setB_registry (i j : Nat) (v : List Byte) : (d.setB i j v).registry = d.registry := rfl
@[simp] theorem setB_kept (i j : Nat) (v : List Byte) : (d.setB i j v).kept = d.kept := rfl
@[simp] theorem setB_power (i j : Nat) (v : List Byte) : (d.setB i j v).power = d.power := rfl
@[simp] theorem setB_free (i j : Nat) (v : List Byte) : (d.setB i j v).free = d.free := rfl

@[simp] theorem count_blobs (i j : Nat) : (d.count i j).blobs = d.blobs := rfl
@[simp] theorem count_frozen (i j : Nat) : (d.count i j).frozen = d.frozen := rfl
@[simp] theorem count_mem (i j : Nat) : (d.count i j).mem = d.mem := rfl
@[simp] theorem count_hostMem (i j : Nat) : (d.count i j).hostMem = d.hostMem := rfl
@[simp] theorem count_clock (i j : Nat) : (d.count i j).clock = d.clock := rfl
@[simp] theorem count_abacus (i j : Nat) : (d.count i j).abacus = d.abacus := rfl
@[simp] theorem count_comp (i j : Nat) : (d.count i j).comp = d.comp := rfl
@[simp] theorem count_bands (i j : Nat) : (d.count i j).bands = d.bands := rfl
@[simp] theorem count_copy (i j : Nat) : (d.count i j).copy = d.copy := rfl
@[simp] theorem count_gpu (i j : Nat) : (d.count i j).gpu = d.gpu := rfl
@[simp] theorem count_panels (i j : Nat) : (d.count i j).panels = d.panels := rfl
@[simp] theorem count_haptics (i j : Nat) : (d.count i j).haptics = d.haptics := rfl
@[simp] theorem count_audio (i j : Nat) : (d.count i j).audio = d.audio := rfl
@[simp] theorem count_engines (i j : Nat) : (d.count i j).engines = d.engines := rfl
@[simp] theorem count_island (i j : Nat) : (d.count i j).island = d.island := rfl
@[simp] theorem count_host (i j : Nat) : (d.count i j).host = d.host := rfl
@[simp] theorem count_windows (i j : Nat) : (d.count i j).windows = d.windows := rfl
@[simp] theorem count_transfers (i j : Nat) : (d.count i j).transfers = d.transfers := rfl
@[simp] theorem count_can (i j : Nat) : (d.count i j).can = d.can := rfl
@[simp] theorem count_answer (i j : Nat) : (d.count i j).answer = d.answer := rfl
@[simp] theorem count_sent (i j : Nat) : (d.count i j).sent = d.sent := rfl
@[simp] theorem count_iso (i j : Nat) : (d.count i j).iso = d.iso := rfl
@[simp] theorem count_letter (i j : Nat) : (d.count i j).letter = d.letter := rfl
@[simp] theorem count_dram (i j : Nat) : (d.count i j).dram = d.dram := rfl
@[simp] theorem count_prot (i j : Nat) : (d.count i j).prot = d.prot := rfl
@[simp] theorem count_recorder (i j : Nat) : (d.count i j).recorder = d.recorder := rfl
@[simp] theorem count_courier (i j : Nat) : (d.count i j).courier = d.courier := rfl
@[simp] theorem count_registry (i j : Nat) : (d.count i j).registry = d.registry := rfl
@[simp] theorem count_kept (i j : Nat) : (d.count i j).kept = d.kept := rfl
@[simp] theorem count_power (i j : Nat) : (d.count i j).power = d.power := rfl
@[simp] theorem count_free (i j : Nat) : (d.count i j).free = d.free := rfl

@[simp] theorem clearO_blobs (i j : Nat) : (d.clearO i j).blobs = d.blobs := rfl
@[simp] theorem clearO_frozen (i j : Nat) : (d.clearO i j).frozen = d.frozen := rfl
@[simp] theorem clearO_mem (i j : Nat) : (d.clearO i j).mem = d.mem := rfl
@[simp] theorem clearO_hostMem (i j : Nat) : (d.clearO i j).hostMem = d.hostMem := rfl
@[simp] theorem clearO_clock (i j : Nat) : (d.clearO i j).clock = d.clock := rfl
@[simp] theorem clearO_abacus (i j : Nat) : (d.clearO i j).abacus = d.abacus := rfl
@[simp] theorem clearO_comp (i j : Nat) : (d.clearO i j).comp = d.comp := rfl
@[simp] theorem clearO_bands (i j : Nat) : (d.clearO i j).bands = d.bands := rfl
@[simp] theorem clearO_copy (i j : Nat) : (d.clearO i j).copy = d.copy := rfl
@[simp] theorem clearO_gpu (i j : Nat) : (d.clearO i j).gpu = d.gpu := rfl
@[simp] theorem clearO_panels (i j : Nat) : (d.clearO i j).panels = d.panels := rfl
@[simp] theorem clearO_haptics (i j : Nat) : (d.clearO i j).haptics = d.haptics := rfl
@[simp] theorem clearO_audio (i j : Nat) : (d.clearO i j).audio = d.audio := rfl
@[simp] theorem clearO_engines (i j : Nat) : (d.clearO i j).engines = d.engines := rfl
@[simp] theorem clearO_island (i j : Nat) : (d.clearO i j).island = d.island := rfl
@[simp] theorem clearO_host (i j : Nat) : (d.clearO i j).host = d.host := rfl
@[simp] theorem clearO_windows (i j : Nat) : (d.clearO i j).windows = d.windows := rfl
@[simp] theorem clearO_transfers (i j : Nat) : (d.clearO i j).transfers = d.transfers := rfl
@[simp] theorem clearO_can (i j : Nat) : (d.clearO i j).can = d.can := rfl
@[simp] theorem clearO_answer (i j : Nat) : (d.clearO i j).answer = d.answer := rfl
@[simp] theorem clearO_sent (i j : Nat) : (d.clearO i j).sent = d.sent := rfl
@[simp] theorem clearO_iso (i j : Nat) : (d.clearO i j).iso = d.iso := rfl
@[simp] theorem clearO_letter (i j : Nat) : (d.clearO i j).letter = d.letter := rfl
@[simp] theorem clearO_dram (i j : Nat) : (d.clearO i j).dram = d.dram := rfl
@[simp] theorem clearO_prot (i j : Nat) : (d.clearO i j).prot = d.prot := rfl
@[simp] theorem clearO_recorder (i j : Nat) : (d.clearO i j).recorder = d.recorder := rfl
@[simp] theorem clearO_courier (i j : Nat) : (d.clearO i j).courier = d.courier := rfl
@[simp] theorem clearO_registry (i j : Nat) : (d.clearO i j).registry = d.registry := rfl
@[simp] theorem clearO_kept (i j : Nat) : (d.clearO i j).kept = d.kept := rfl
@[simp] theorem clearO_power (i j : Nat) : (d.clearO i j).power = d.power := rfl
@[simp] theorem clearO_free (i j : Nat) : (d.clearO i j).free = d.free := rfl

@[simp] theorem setOwner_objs (id o : Nat) : (d.setOwner id o).objs = d.objs := rfl
@[simp] theorem setOwner_blobs (id o : Nat) : (d.setOwner id o).blobs = d.blobs := rfl
@[simp] theorem setOwner_frozen (id o : Nat) : (d.setOwner id o).frozen = d.frozen := rfl
@[simp] theorem setOwner_mem (id o : Nat) : (d.setOwner id o).mem = d.mem := rfl
@[simp] theorem setOwner_hostMem (id o : Nat) : (d.setOwner id o).hostMem = d.hostMem := rfl
@[simp] theorem setOwner_clock (id o : Nat) : (d.setOwner id o).clock = d.clock := rfl
@[simp] theorem setOwner_abacus (id o : Nat) : (d.setOwner id o).abacus = d.abacus := rfl
@[simp] theorem setOwner_comp (id o : Nat) : (d.setOwner id o).comp = d.comp := rfl
@[simp] theorem setOwner_bands (id o : Nat) : (d.setOwner id o).bands = d.bands := rfl
@[simp] theorem setOwner_copy (id o : Nat) : (d.setOwner id o).copy = d.copy := rfl
@[simp] theorem setOwner_gpu (id o : Nat) : (d.setOwner id o).gpu = d.gpu := rfl
@[simp] theorem setOwner_panels (id o : Nat) : (d.setOwner id o).panels = d.panels := rfl
@[simp] theorem setOwner_haptics (id o : Nat) : (d.setOwner id o).haptics = d.haptics := rfl
@[simp] theorem setOwner_audio (id o : Nat) : (d.setOwner id o).audio = d.audio := rfl
@[simp] theorem setOwner_engines (id o : Nat) : (d.setOwner id o).engines = d.engines := rfl
@[simp] theorem setOwner_island (id o : Nat) : (d.setOwner id o).island = d.island := rfl
@[simp] theorem setOwner_host (id o : Nat) : (d.setOwner id o).host = d.host := rfl
@[simp] theorem setOwner_windows (id o : Nat) : (d.setOwner id o).windows = d.windows := rfl
@[simp] theorem setOwner_transfers (id o : Nat) : (d.setOwner id o).transfers = d.transfers := rfl
@[simp] theorem setOwner_can (id o : Nat) : (d.setOwner id o).can = d.can := rfl
@[simp] theorem setOwner_answer (id o : Nat) : (d.setOwner id o).answer = d.answer := rfl
@[simp] theorem setOwner_sent (id o : Nat) : (d.setOwner id o).sent = d.sent := rfl
@[simp] theorem setOwner_letter (id o : Nat) : (d.setOwner id o).letter = d.letter := rfl
@[simp] theorem setOwner_dram (id o : Nat) : (d.setOwner id o).dram = d.dram := rfl
@[simp] theorem setOwner_prot (id o : Nat) : (d.setOwner id o).prot = d.prot := rfl
@[simp] theorem setOwner_recorder (id o : Nat) : (d.setOwner id o).recorder = d.recorder := rfl
@[simp] theorem setOwner_courier (id o : Nat) : (d.setOwner id o).courier = d.courier := rfl
@[simp] theorem setOwner_registry (id o : Nat) : (d.setOwner id o).registry = d.registry := rfl
@[simp] theorem setOwner_kept (id o : Nat) : (d.setOwner id o).kept = d.kept := rfl
@[simp] theorem setOwner_power (id o : Nat) : (d.setOwner id o).power = d.power := rfl
@[simp] theorem setOwner_free (id o : Nat) : (d.setOwner id o).free = d.free := rfl

@[simp] theorem setRod_objs (r : Nat) (x : Rod) : (d.setRod r x).objs = d.objs := rfl
@[simp] theorem setRod_blobs (r : Nat) (x : Rod) : (d.setRod r x).blobs = d.blobs := rfl
@[simp] theorem setRod_frozen (r : Nat) (x : Rod) : (d.setRod r x).frozen = d.frozen := rfl
@[simp] theorem setRod_mem (r : Nat) (x : Rod) : (d.setRod r x).mem = d.mem := rfl
@[simp] theorem setRod_hostMem (r : Nat) (x : Rod) : (d.setRod r x).hostMem = d.hostMem := rfl
@[simp] theorem setRod_clock (r : Nat) (x : Rod) : (d.setRod r x).clock = d.clock := rfl
@[simp] theorem setRod_comp (r : Nat) (x : Rod) : (d.setRod r x).comp = d.comp := rfl
@[simp] theorem setRod_bands (r : Nat) (x : Rod) : (d.setRod r x).bands = d.bands := rfl
@[simp] theorem setRod_copy (r : Nat) (x : Rod) : (d.setRod r x).copy = d.copy := rfl
@[simp] theorem setRod_gpu (r : Nat) (x : Rod) : (d.setRod r x).gpu = d.gpu := rfl
@[simp] theorem setRod_panels (r : Nat) (x : Rod) : (d.setRod r x).panels = d.panels := rfl
@[simp] theorem setRod_haptics (r : Nat) (x : Rod) : (d.setRod r x).haptics = d.haptics := rfl
@[simp] theorem setRod_audio (r : Nat) (x : Rod) : (d.setRod r x).audio = d.audio := rfl
@[simp] theorem setRod_engines (r : Nat) (x : Rod) : (d.setRod r x).engines = d.engines := rfl
@[simp] theorem setRod_island (r : Nat) (x : Rod) : (d.setRod r x).island = d.island := rfl
@[simp] theorem setRod_host (r : Nat) (x : Rod) : (d.setRod r x).host = d.host := rfl
@[simp] theorem setRod_windows (r : Nat) (x : Rod) : (d.setRod r x).windows = d.windows := rfl
@[simp] theorem setRod_transfers (r : Nat) (x : Rod) : (d.setRod r x).transfers = d.transfers := rfl
@[simp] theorem setRod_can (r : Nat) (x : Rod) : (d.setRod r x).can = d.can := rfl
@[simp] theorem setRod_answer (r : Nat) (x : Rod) : (d.setRod r x).answer = d.answer := rfl
@[simp] theorem setRod_sent (r : Nat) (x : Rod) : (d.setRod r x).sent = d.sent := rfl
@[simp] theorem setRod_iso (r : Nat) (x : Rod) : (d.setRod r x).iso = d.iso := rfl
@[simp] theorem setRod_letter (r : Nat) (x : Rod) : (d.setRod r x).letter = d.letter := rfl
@[simp] theorem setRod_dram (r : Nat) (x : Rod) : (d.setRod r x).dram = d.dram := rfl
@[simp] theorem setRod_prot (r : Nat) (x : Rod) : (d.setRod r x).prot = d.prot := rfl
@[simp] theorem setRod_recorder (r : Nat) (x : Rod) : (d.setRod r x).recorder = d.recorder := rfl
@[simp] theorem setRod_courier (r : Nat) (x : Rod) : (d.setRod r x).courier = d.courier := rfl
@[simp] theorem setRod_registry (r : Nat) (x : Rod) : (d.setRod r x).registry = d.registry := rfl
@[simp] theorem setRod_kept (r : Nat) (x : Rod) : (d.setRod r x).kept = d.kept := rfl
@[simp] theorem setRod_power (r : Nat) (x : Rod) : (d.setRod r x).power = d.power := rfl
@[simp] theorem setRod_free (r : Nat) (x : Rod) : (d.setRod r x).free = d.free := rfl

@[simp] theorem setBead_objs (k : Nat) (x : Bead) : (d.setBead k x).objs = d.objs := rfl
@[simp] theorem setBead_blobs (k : Nat) (x : Bead) : (d.setBead k x).blobs = d.blobs := rfl
@[simp] theorem setBead_frozen (k : Nat) (x : Bead) : (d.setBead k x).frozen = d.frozen := rfl
@[simp] theorem setBead_mem (k : Nat) (x : Bead) : (d.setBead k x).mem = d.mem := rfl
@[simp] theorem setBead_hostMem (k : Nat) (x : Bead) : (d.setBead k x).hostMem = d.hostMem := rfl
@[simp] theorem setBead_clock (k : Nat) (x : Bead) : (d.setBead k x).clock = d.clock := rfl
@[simp] theorem setBead_comp (k : Nat) (x : Bead) : (d.setBead k x).comp = d.comp := rfl
@[simp] theorem setBead_bands (k : Nat) (x : Bead) : (d.setBead k x).bands = d.bands := rfl
@[simp] theorem setBead_copy (k : Nat) (x : Bead) : (d.setBead k x).copy = d.copy := rfl
@[simp] theorem setBead_gpu (k : Nat) (x : Bead) : (d.setBead k x).gpu = d.gpu := rfl
@[simp] theorem setBead_panels (k : Nat) (x : Bead) : (d.setBead k x).panels = d.panels := rfl
@[simp] theorem setBead_haptics (k : Nat) (x : Bead) : (d.setBead k x).haptics = d.haptics := rfl
@[simp] theorem setBead_audio (k : Nat) (x : Bead) : (d.setBead k x).audio = d.audio := rfl
@[simp] theorem setBead_engines (k : Nat) (x : Bead) : (d.setBead k x).engines = d.engines := rfl
@[simp] theorem setBead_island (k : Nat) (x : Bead) : (d.setBead k x).island = d.island := rfl
@[simp] theorem setBead_host (k : Nat) (x : Bead) : (d.setBead k x).host = d.host := rfl
@[simp] theorem setBead_windows (k : Nat) (x : Bead) : (d.setBead k x).windows = d.windows := rfl
@[simp] theorem setBead_transfers (k : Nat) (x : Bead) : (d.setBead k x).transfers = d.transfers := rfl
@[simp] theorem setBead_can (k : Nat) (x : Bead) : (d.setBead k x).can = d.can := rfl
@[simp] theorem setBead_answer (k : Nat) (x : Bead) : (d.setBead k x).answer = d.answer := rfl
@[simp] theorem setBead_sent (k : Nat) (x : Bead) : (d.setBead k x).sent = d.sent := rfl
@[simp] theorem setBead_iso (k : Nat) (x : Bead) : (d.setBead k x).iso = d.iso := rfl
@[simp] theorem setBead_letter (k : Nat) (x : Bead) : (d.setBead k x).letter = d.letter := rfl
@[simp] theorem setBead_dram (k : Nat) (x : Bead) : (d.setBead k x).dram = d.dram := rfl
@[simp] theorem setBead_prot (k : Nat) (x : Bead) : (d.setBead k x).prot = d.prot := rfl
@[simp] theorem setBead_recorder (k : Nat) (x : Bead) : (d.setBead k x).recorder = d.recorder := rfl
@[simp] theorem setBead_courier (k : Nat) (x : Bead) : (d.setBead k x).courier = d.courier := rfl
@[simp] theorem setBead_registry (k : Nat) (x : Bead) : (d.setBead k x).registry = d.registry := rfl
@[simp] theorem setBead_kept (k : Nat) (x : Bead) : (d.setBead k x).kept = d.kept := rfl
@[simp] theorem setBead_power (k : Nat) (x : Bead) : (d.setBead k x).power = d.power := rfl
@[simp] theorem setBead_free (k : Nat) (x : Bead) : (d.setBead k x).free = d.free := rfl

@[simp] theorem setWindow_objs (w : Nat) (x : Window) : (d.setWindow w x).objs = d.objs := rfl
@[simp] theorem setWindow_blobs (w : Nat) (x : Window) : (d.setWindow w x).blobs = d.blobs := rfl
@[simp] theorem setWindow_frozen (w : Nat) (x : Window) : (d.setWindow w x).frozen = d.frozen := rfl
@[simp] theorem setWindow_mem (w : Nat) (x : Window) : (d.setWindow w x).mem = d.mem := rfl
@[simp] theorem setWindow_hostMem (w : Nat) (x : Window) : (d.setWindow w x).hostMem = d.hostMem := rfl
@[simp] theorem setWindow_clock (w : Nat) (x : Window) : (d.setWindow w x).clock = d.clock := rfl
@[simp] theorem setWindow_abacus (w : Nat) (x : Window) : (d.setWindow w x).abacus = d.abacus := rfl
@[simp] theorem setWindow_comp (w : Nat) (x : Window) : (d.setWindow w x).comp = d.comp := rfl
@[simp] theorem setWindow_bands (w : Nat) (x : Window) : (d.setWindow w x).bands = d.bands := rfl
@[simp] theorem setWindow_copy (w : Nat) (x : Window) : (d.setWindow w x).copy = d.copy := rfl
@[simp] theorem setWindow_gpu (w : Nat) (x : Window) : (d.setWindow w x).gpu = d.gpu := rfl
@[simp] theorem setWindow_panels (w : Nat) (x : Window) : (d.setWindow w x).panels = d.panels := rfl
@[simp] theorem setWindow_haptics (w : Nat) (x : Window) : (d.setWindow w x).haptics = d.haptics := rfl
@[simp] theorem setWindow_audio (w : Nat) (x : Window) : (d.setWindow w x).audio = d.audio := rfl
@[simp] theorem setWindow_engines (w : Nat) (x : Window) : (d.setWindow w x).engines = d.engines := rfl
@[simp] theorem setWindow_island (w : Nat) (x : Window) : (d.setWindow w x).island = d.island := rfl
@[simp] theorem setWindow_host (w : Nat) (x : Window) : (d.setWindow w x).host = d.host := rfl
@[simp] theorem setWindow_transfers (w : Nat) (x : Window) : (d.setWindow w x).transfers = d.transfers := rfl
@[simp] theorem setWindow_can (w : Nat) (x : Window) : (d.setWindow w x).can = d.can := rfl
@[simp] theorem setWindow_answer (w : Nat) (x : Window) : (d.setWindow w x).answer = d.answer := rfl
@[simp] theorem setWindow_sent (w : Nat) (x : Window) : (d.setWindow w x).sent = d.sent := rfl
@[simp] theorem setWindow_iso (w : Nat) (x : Window) : (d.setWindow w x).iso = d.iso := rfl
@[simp] theorem setWindow_letter (w : Nat) (x : Window) : (d.setWindow w x).letter = d.letter := rfl
@[simp] theorem setWindow_dram (w : Nat) (x : Window) : (d.setWindow w x).dram = d.dram := rfl
@[simp] theorem setWindow_prot (w : Nat) (x : Window) : (d.setWindow w x).prot = d.prot := rfl
@[simp] theorem setWindow_recorder (w : Nat) (x : Window) : (d.setWindow w x).recorder = d.recorder := rfl
@[simp] theorem setWindow_courier (w : Nat) (x : Window) : (d.setWindow w x).courier = d.courier := rfl
@[simp] theorem setWindow_registry (w : Nat) (x : Window) : (d.setWindow w x).registry = d.registry := rfl
@[simp] theorem setWindow_kept (w : Nat) (x : Window) : (d.setWindow w x).kept = d.kept := rfl
@[simp] theorem setWindow_power (w : Nat) (x : Window) : (d.setWindow w x).power = d.power := rfl
@[simp] theorem setWindow_free (w : Nat) (x : Window) : (d.setWindow w x).free = d.free := rfl

@[simp] theorem setCore_objs (c : Nat) (x : Core) : (d.setCore c x).objs = d.objs := rfl
@[simp] theorem setCore_blobs (c : Nat) (x : Core) : (d.setCore c x).blobs = d.blobs := rfl
@[simp] theorem setCore_frozen (c : Nat) (x : Core) : (d.setCore c x).frozen = d.frozen := rfl
@[simp] theorem setCore_mem (c : Nat) (x : Core) : (d.setCore c x).mem = d.mem := rfl
@[simp] theorem setCore_hostMem (c : Nat) (x : Core) : (d.setCore c x).hostMem = d.hostMem := rfl
@[simp] theorem setCore_clock (c : Nat) (x : Core) : (d.setCore c x).clock = d.clock := rfl
@[simp] theorem setCore_abacus (c : Nat) (x : Core) : (d.setCore c x).abacus = d.abacus := rfl
@[simp] theorem setCore_comp (c : Nat) (x : Core) : (d.setCore c x).comp = d.comp := rfl
@[simp] theorem setCore_bands (c : Nat) (x : Core) : (d.setCore c x).bands = d.bands := rfl
@[simp] theorem setCore_copy (c : Nat) (x : Core) : (d.setCore c x).copy = d.copy := rfl
@[simp] theorem setCore_gpu (c : Nat) (x : Core) : (d.setCore c x).gpu = d.gpu := rfl
@[simp] theorem setCore_panels (c : Nat) (x : Core) : (d.setCore c x).panels = d.panels := rfl
@[simp] theorem setCore_haptics (c : Nat) (x : Core) : (d.setCore c x).haptics = d.haptics := rfl
@[simp] theorem setCore_audio (c : Nat) (x : Core) : (d.setCore c x).audio = d.audio := rfl
@[simp] theorem setCore_engines (c : Nat) (x : Core) : (d.setCore c x).engines = d.engines := rfl
@[simp] theorem setCore_island (c : Nat) (x : Core) : (d.setCore c x).island = d.island := rfl
@[simp] theorem setCore_host (c : Nat) (x : Core) : (d.setCore c x).host = d.host := rfl
@[simp] theorem setCore_windows (c : Nat) (x : Core) : (d.setCore c x).windows = d.windows := rfl
@[simp] theorem setCore_transfers (c : Nat) (x : Core) : (d.setCore c x).transfers = d.transfers := rfl
@[simp] theorem setCore_can (c : Nat) (x : Core) : (d.setCore c x).can = d.can := rfl
@[simp] theorem setCore_answer (c : Nat) (x : Core) : (d.setCore c x).answer = d.answer := rfl
@[simp] theorem setCore_sent (c : Nat) (x : Core) : (d.setCore c x).sent = d.sent := rfl
@[simp] theorem setCore_letter (c : Nat) (x : Core) : (d.setCore c x).letter = d.letter := rfl
@[simp] theorem setCore_dram (c : Nat) (x : Core) : (d.setCore c x).dram = d.dram := rfl
@[simp] theorem setCore_prot (c : Nat) (x : Core) : (d.setCore c x).prot = d.prot := rfl
@[simp] theorem setCore_recorder (c : Nat) (x : Core) : (d.setCore c x).recorder = d.recorder := rfl
@[simp] theorem setCore_courier (c : Nat) (x : Core) : (d.setCore c x).courier = d.courier := rfl
@[simp] theorem setCore_registry (c : Nat) (x : Core) : (d.setCore c x).registry = d.registry := rfl
@[simp] theorem setCore_kept (c : Nat) (x : Core) : (d.setCore c x).kept = d.kept := rfl
@[simp] theorem setCore_power (c : Nat) (x : Core) : (d.setCore c x).power = d.power := rfl
@[simp] theorem setCore_free (c : Nat) (x : Core) : (d.setCore c x).free = d.free := rfl

@[simp] theorem setThread_objs (e t : Nat) (x : Thread) : (d.setThread e t x).objs = d.objs := rfl
@[simp] theorem setThread_blobs (e t : Nat) (x : Thread) : (d.setThread e t x).blobs = d.blobs := rfl
@[simp] theorem setThread_frozen (e t : Nat) (x : Thread) : (d.setThread e t x).frozen = d.frozen := rfl
@[simp] theorem setThread_mem (e t : Nat) (x : Thread) : (d.setThread e t x).mem = d.mem := rfl
@[simp] theorem setThread_hostMem (e t : Nat) (x : Thread) : (d.setThread e t x).hostMem = d.hostMem := rfl
@[simp] theorem setThread_clock (e t : Nat) (x : Thread) : (d.setThread e t x).clock = d.clock := rfl
@[simp] theorem setThread_abacus (e t : Nat) (x : Thread) : (d.setThread e t x).abacus = d.abacus := rfl
@[simp] theorem setThread_comp (e t : Nat) (x : Thread) : (d.setThread e t x).comp = d.comp := rfl
@[simp] theorem setThread_bands (e t : Nat) (x : Thread) : (d.setThread e t x).bands = d.bands := rfl
@[simp] theorem setThread_copy (e t : Nat) (x : Thread) : (d.setThread e t x).copy = d.copy := rfl
@[simp] theorem setThread_gpu (e t : Nat) (x : Thread) : (d.setThread e t x).gpu = d.gpu := rfl
@[simp] theorem setThread_panels (e t : Nat) (x : Thread) : (d.setThread e t x).panels = d.panels := rfl
@[simp] theorem setThread_haptics (e t : Nat) (x : Thread) : (d.setThread e t x).haptics = d.haptics := rfl
@[simp] theorem setThread_audio (e t : Nat) (x : Thread) : (d.setThread e t x).audio = d.audio := rfl
@[simp] theorem setThread_engines (e t : Nat) (x : Thread) : (d.setThread e t x).engines = d.engines := rfl
@[simp] theorem setThread_island (e t : Nat) (x : Thread) : (d.setThread e t x).island = d.island := rfl
@[simp] theorem setThread_host (e t : Nat) (x : Thread) : (d.setThread e t x).host = d.host := rfl
@[simp] theorem setThread_windows (e t : Nat) (x : Thread) : (d.setThread e t x).windows = d.windows := rfl
@[simp] theorem setThread_transfers (e t : Nat) (x : Thread) : (d.setThread e t x).transfers = d.transfers := rfl
@[simp] theorem setThread_can (e t : Nat) (x : Thread) : (d.setThread e t x).can = d.can := rfl
@[simp] theorem setThread_answer (e t : Nat) (x : Thread) : (d.setThread e t x).answer = d.answer := rfl
@[simp] theorem setThread_sent (e t : Nat) (x : Thread) : (d.setThread e t x).sent = d.sent := rfl
@[simp] theorem setThread_letter (e t : Nat) (x : Thread) : (d.setThread e t x).letter = d.letter := rfl
@[simp] theorem setThread_dram (e t : Nat) (x : Thread) : (d.setThread e t x).dram = d.dram := rfl
@[simp] theorem setThread_prot (e t : Nat) (x : Thread) : (d.setThread e t x).prot = d.prot := rfl
@[simp] theorem setThread_recorder (e t : Nat) (x : Thread) : (d.setThread e t x).recorder = d.recorder := rfl
@[simp] theorem setThread_courier (e t : Nat) (x : Thread) : (d.setThread e t x).courier = d.courier := rfl
@[simp] theorem setThread_registry (e t : Nat) (x : Thread) : (d.setThread e t x).registry = d.registry := rfl
@[simp] theorem setThread_kept (e t : Nat) (x : Thread) : (d.setThread e t x).kept = d.kept := rfl
@[simp] theorem setThread_power (e t : Nat) (x : Thread) : (d.setThread e t x).power = d.power := rfl
@[simp] theorem setThread_free (e t : Nat) (x : Thread) : (d.setThread e t x).free = d.free := rfl

@[simp] theorem setReg_objs (e : Nat) (x : RegEntry) : (d.setReg e x).objs = d.objs := rfl
@[simp] theorem setReg_blobs (e : Nat) (x : RegEntry) : (d.setReg e x).blobs = d.blobs := rfl
@[simp] theorem setReg_frozen (e : Nat) (x : RegEntry) : (d.setReg e x).frozen = d.frozen := rfl
@[simp] theorem setReg_mem (e : Nat) (x : RegEntry) : (d.setReg e x).mem = d.mem := rfl
@[simp] theorem setReg_hostMem (e : Nat) (x : RegEntry) : (d.setReg e x).hostMem = d.hostMem := rfl
@[simp] theorem setReg_clock (e : Nat) (x : RegEntry) : (d.setReg e x).clock = d.clock := rfl
@[simp] theorem setReg_abacus (e : Nat) (x : RegEntry) : (d.setReg e x).abacus = d.abacus := rfl
@[simp] theorem setReg_comp (e : Nat) (x : RegEntry) : (d.setReg e x).comp = d.comp := rfl
@[simp] theorem setReg_bands (e : Nat) (x : RegEntry) : (d.setReg e x).bands = d.bands := rfl
@[simp] theorem setReg_copy (e : Nat) (x : RegEntry) : (d.setReg e x).copy = d.copy := rfl
@[simp] theorem setReg_gpu (e : Nat) (x : RegEntry) : (d.setReg e x).gpu = d.gpu := rfl
@[simp] theorem setReg_panels (e : Nat) (x : RegEntry) : (d.setReg e x).panels = d.panels := rfl
@[simp] theorem setReg_haptics (e : Nat) (x : RegEntry) : (d.setReg e x).haptics = d.haptics := rfl
@[simp] theorem setReg_audio (e : Nat) (x : RegEntry) : (d.setReg e x).audio = d.audio := rfl
@[simp] theorem setReg_engines (e : Nat) (x : RegEntry) : (d.setReg e x).engines = d.engines := rfl
@[simp] theorem setReg_island (e : Nat) (x : RegEntry) : (d.setReg e x).island = d.island := rfl
@[simp] theorem setReg_host (e : Nat) (x : RegEntry) : (d.setReg e x).host = d.host := rfl
@[simp] theorem setReg_windows (e : Nat) (x : RegEntry) : (d.setReg e x).windows = d.windows := rfl
@[simp] theorem setReg_transfers (e : Nat) (x : RegEntry) : (d.setReg e x).transfers = d.transfers := rfl
@[simp] theorem setReg_can (e : Nat) (x : RegEntry) : (d.setReg e x).can = d.can := rfl
@[simp] theorem setReg_answer (e : Nat) (x : RegEntry) : (d.setReg e x).answer = d.answer := rfl
@[simp] theorem setReg_sent (e : Nat) (x : RegEntry) : (d.setReg e x).sent = d.sent := rfl
@[simp] theorem setReg_iso (e : Nat) (x : RegEntry) : (d.setReg e x).iso = d.iso := rfl
@[simp] theorem setReg_letter (e : Nat) (x : RegEntry) : (d.setReg e x).letter = d.letter := rfl
@[simp] theorem setReg_dram (e : Nat) (x : RegEntry) : (d.setReg e x).dram = d.dram := rfl
@[simp] theorem setReg_prot (e : Nat) (x : RegEntry) : (d.setReg e x).prot = d.prot := rfl
@[simp] theorem setReg_recorder (e : Nat) (x : RegEntry) : (d.setReg e x).recorder = d.recorder := rfl
@[simp] theorem setReg_courier (e : Nat) (x : RegEntry) : (d.setReg e x).courier = d.courier := rfl
@[simp] theorem setReg_kept (e : Nat) (x : RegEntry) : (d.setReg e x).kept = d.kept := rfl
@[simp] theorem setReg_power (e : Nat) (x : RegEntry) : (d.setReg e x).power = d.power := rfl
@[simp] theorem setReg_free (e : Nat) (x : RegEntry) : (d.setReg e x).free = d.free := rfl

@[simp] theorem accept_objs : (d.accept).objs = d.objs := rfl
@[simp] theorem accept_blobs : (d.accept).blobs = d.blobs := rfl
@[simp] theorem accept_frozen : (d.accept).frozen = d.frozen := rfl
@[simp] theorem accept_mem : (d.accept).mem = d.mem := rfl
@[simp] theorem accept_hostMem : (d.accept).hostMem = d.hostMem := rfl
@[simp] theorem accept_clock : (d.accept).clock = d.clock := rfl
@[simp] theorem accept_abacus : (d.accept).abacus = d.abacus := rfl
@[simp] theorem accept_comp : (d.accept).comp = d.comp := rfl
@[simp] theorem accept_bands : (d.accept).bands = d.bands := rfl
@[simp] theorem accept_copy : (d.accept).copy = d.copy := rfl
@[simp] theorem accept_gpu : (d.accept).gpu = d.gpu := rfl
@[simp] theorem accept_panels : (d.accept).panels = d.panels := rfl
@[simp] theorem accept_haptics : (d.accept).haptics = d.haptics := rfl
@[simp] theorem accept_audio : (d.accept).audio = d.audio := rfl
@[simp] theorem accept_engines : (d.accept).engines = d.engines := rfl
@[simp] theorem accept_island : (d.accept).island = d.island := rfl
@[simp] theorem accept_host : (d.accept).host = d.host := rfl
@[simp] theorem accept_windows : (d.accept).windows = d.windows := rfl
@[simp] theorem accept_transfers : (d.accept).transfers = d.transfers := rfl
@[simp] theorem accept_can : (d.accept).can = d.can := rfl
@[simp] theorem accept_sent : (d.accept).sent = d.sent := rfl
@[simp] theorem accept_iso : (d.accept).iso = d.iso := rfl
@[simp] theorem accept_letter : (d.accept).letter = d.letter := rfl
@[simp] theorem accept_dram : (d.accept).dram = d.dram := rfl
@[simp] theorem accept_prot : (d.accept).prot = d.prot := rfl
@[simp] theorem accept_recorder : (d.accept).recorder = d.recorder := rfl
@[simp] theorem accept_courier : (d.accept).courier = d.courier := rfl
@[simp] theorem accept_registry : (d.accept).registry = d.registry := rfl
@[simp] theorem accept_kept : (d.accept).kept = d.kept := rfl
@[simp] theorem accept_power : (d.accept).power = d.power := rfl
@[simp] theorem accept_free : (d.accept).free = d.free := rfl
@[simp] theorem accept_answer : (d.accept).answer = {} := rfl

@[simp] theorem refuse_objs (a : Nat) : (d.refuse a).objs = d.objs := rfl
@[simp] theorem refuse_blobs (a : Nat) : (d.refuse a).blobs = d.blobs := rfl
@[simp] theorem refuse_frozen (a : Nat) : (d.refuse a).frozen = d.frozen := rfl
@[simp] theorem refuse_mem (a : Nat) : (d.refuse a).mem = d.mem := rfl
@[simp] theorem refuse_hostMem (a : Nat) : (d.refuse a).hostMem = d.hostMem := rfl
@[simp] theorem refuse_clock (a : Nat) : (d.refuse a).clock = d.clock := rfl
@[simp] theorem refuse_abacus (a : Nat) : (d.refuse a).abacus = d.abacus := rfl
@[simp] theorem refuse_comp (a : Nat) : (d.refuse a).comp = d.comp := rfl
@[simp] theorem refuse_bands (a : Nat) : (d.refuse a).bands = d.bands := rfl
@[simp] theorem refuse_copy (a : Nat) : (d.refuse a).copy = d.copy := rfl
@[simp] theorem refuse_gpu (a : Nat) : (d.refuse a).gpu = d.gpu := rfl
@[simp] theorem refuse_panels (a : Nat) : (d.refuse a).panels = d.panels := rfl
@[simp] theorem refuse_haptics (a : Nat) : (d.refuse a).haptics = d.haptics := rfl
@[simp] theorem refuse_audio (a : Nat) : (d.refuse a).audio = d.audio := rfl
@[simp] theorem refuse_engines (a : Nat) : (d.refuse a).engines = d.engines := rfl
@[simp] theorem refuse_island (a : Nat) : (d.refuse a).island = d.island := rfl
@[simp] theorem refuse_host (a : Nat) : (d.refuse a).host = d.host := rfl
@[simp] theorem refuse_windows (a : Nat) : (d.refuse a).windows = d.windows := rfl
@[simp] theorem refuse_transfers (a : Nat) : (d.refuse a).transfers = d.transfers := rfl
@[simp] theorem refuse_can (a : Nat) : (d.refuse a).can = d.can := rfl
@[simp] theorem refuse_sent (a : Nat) : (d.refuse a).sent = d.sent := rfl
@[simp] theorem refuse_iso (a : Nat) : (d.refuse a).iso = d.iso := rfl
@[simp] theorem refuse_letter (a : Nat) : (d.refuse a).letter = d.letter := rfl
@[simp] theorem refuse_dram (a : Nat) : (d.refuse a).dram = d.dram := rfl
@[simp] theorem refuse_prot (a : Nat) : (d.refuse a).prot = d.prot := rfl
@[simp] theorem refuse_recorder (a : Nat) : (d.refuse a).recorder = d.recorder := rfl
@[simp] theorem refuse_courier (a : Nat) : (d.refuse a).courier = d.courier := rfl
@[simp] theorem refuse_registry (a : Nat) : (d.refuse a).registry = d.registry := rfl
@[simp] theorem refuse_kept (a : Nat) : (d.refuse a).kept = d.kept := rfl
@[simp] theorem refuse_power (a : Nat) : (d.refuse a).power = d.power := rfl
@[simp] theorem refuse_free (a : Nat) : (d.refuse a).free = d.free := rfl
@[simp] theorem refuse_answer (a : Nat) : (d.refuse a).answer = { abort := a } := rfl

@[simp] theorem reply_objs (b : List Byte) : (d.reply b).objs = d.objs := rfl
@[simp] theorem reply_blobs (b : List Byte) : (d.reply b).blobs = d.blobs := rfl
@[simp] theorem reply_frozen (b : List Byte) : (d.reply b).frozen = d.frozen := rfl
@[simp] theorem reply_mem (b : List Byte) : (d.reply b).mem = d.mem := rfl
@[simp] theorem reply_hostMem (b : List Byte) : (d.reply b).hostMem = d.hostMem := rfl
@[simp] theorem reply_clock (b : List Byte) : (d.reply b).clock = d.clock := rfl
@[simp] theorem reply_abacus (b : List Byte) : (d.reply b).abacus = d.abacus := rfl
@[simp] theorem reply_comp (b : List Byte) : (d.reply b).comp = d.comp := rfl
@[simp] theorem reply_bands (b : List Byte) : (d.reply b).bands = d.bands := rfl
@[simp] theorem reply_copy (b : List Byte) : (d.reply b).copy = d.copy := rfl
@[simp] theorem reply_gpu (b : List Byte) : (d.reply b).gpu = d.gpu := rfl
@[simp] theorem reply_panels (b : List Byte) : (d.reply b).panels = d.panels := rfl
@[simp] theorem reply_haptics (b : List Byte) : (d.reply b).haptics = d.haptics := rfl
@[simp] theorem reply_audio (b : List Byte) : (d.reply b).audio = d.audio := rfl
@[simp] theorem reply_engines (b : List Byte) : (d.reply b).engines = d.engines := rfl
@[simp] theorem reply_island (b : List Byte) : (d.reply b).island = d.island := rfl
@[simp] theorem reply_host (b : List Byte) : (d.reply b).host = d.host := rfl
@[simp] theorem reply_windows (b : List Byte) : (d.reply b).windows = d.windows := rfl
@[simp] theorem reply_transfers (b : List Byte) : (d.reply b).transfers = d.transfers := rfl
@[simp] theorem reply_can (b : List Byte) : (d.reply b).can = d.can := rfl
@[simp] theorem reply_sent (b : List Byte) : (d.reply b).sent = d.sent := rfl
@[simp] theorem reply_iso (b : List Byte) : (d.reply b).iso = d.iso := rfl
@[simp] theorem reply_letter (b : List Byte) : (d.reply b).letter = d.letter := rfl
@[simp] theorem reply_dram (b : List Byte) : (d.reply b).dram = d.dram := rfl
@[simp] theorem reply_prot (b : List Byte) : (d.reply b).prot = d.prot := rfl
@[simp] theorem reply_recorder (b : List Byte) : (d.reply b).recorder = d.recorder := rfl
@[simp] theorem reply_courier (b : List Byte) : (d.reply b).courier = d.courier := rfl
@[simp] theorem reply_registry (b : List Byte) : (d.reply b).registry = d.registry := rfl
@[simp] theorem reply_kept (b : List Byte) : (d.reply b).kept = d.kept := rfl
@[simp] theorem reply_power (b : List Byte) : (d.reply b).power = d.power := rfl
@[simp] theorem reply_free (b : List Byte) : (d.reply b).free = d.free := rfl
@[simp] theorem reply_answer (b : List Byte) : (d.reply b).answer = { data := b } := rfl

@[simp] theorem setPower_objs (x : Power) : (d.setPower x).objs = d.objs := rfl
@[simp] theorem setPower_blobs (x : Power) : (d.setPower x).blobs = d.blobs := rfl
@[simp] theorem setPower_frozen (x : Power) : (d.setPower x).frozen = d.frozen := rfl
@[simp] theorem setPower_mem (x : Power) : (d.setPower x).mem = d.mem := rfl
@[simp] theorem setPower_hostMem (x : Power) : (d.setPower x).hostMem = d.hostMem := rfl
@[simp] theorem setPower_clock (x : Power) : (d.setPower x).clock = d.clock := rfl
@[simp] theorem setPower_abacus (x : Power) : (d.setPower x).abacus = d.abacus := rfl
@[simp] theorem setPower_comp (x : Power) : (d.setPower x).comp = d.comp := rfl
@[simp] theorem setPower_bands (x : Power) : (d.setPower x).bands = d.bands := rfl
@[simp] theorem setPower_copy (x : Power) : (d.setPower x).copy = d.copy := rfl
@[simp] theorem setPower_gpu (x : Power) : (d.setPower x).gpu = d.gpu := rfl
@[simp] theorem setPower_panels (x : Power) : (d.setPower x).panels = d.panels := rfl
@[simp] theorem setPower_haptics (x : Power) : (d.setPower x).haptics = d.haptics := rfl
@[simp] theorem setPower_audio (x : Power) : (d.setPower x).audio = d.audio := rfl
@[simp] theorem setPower_engines (x : Power) : (d.setPower x).engines = d.engines := rfl
@[simp] theorem setPower_island (x : Power) : (d.setPower x).island = d.island := rfl
@[simp] theorem setPower_host (x : Power) : (d.setPower x).host = d.host := rfl
@[simp] theorem setPower_windows (x : Power) : (d.setPower x).windows = d.windows := rfl
@[simp] theorem setPower_transfers (x : Power) : (d.setPower x).transfers = d.transfers := rfl
@[simp] theorem setPower_can (x : Power) : (d.setPower x).can = d.can := rfl
@[simp] theorem setPower_answer (x : Power) : (d.setPower x).answer = d.answer := rfl
@[simp] theorem setPower_sent (x : Power) : (d.setPower x).sent = d.sent := rfl
@[simp] theorem setPower_iso (x : Power) : (d.setPower x).iso = d.iso := rfl
@[simp] theorem setPower_letter (x : Power) : (d.setPower x).letter = d.letter := rfl
@[simp] theorem setPower_dram (x : Power) : (d.setPower x).dram = d.dram := rfl
@[simp] theorem setPower_prot (x : Power) : (d.setPower x).prot = d.prot := rfl
@[simp] theorem setPower_recorder (x : Power) : (d.setPower x).recorder = d.recorder := rfl
@[simp] theorem setPower_courier (x : Power) : (d.setPower x).courier = d.courier := rfl
@[simp] theorem setPower_registry (x : Power) : (d.setPower x).registry = d.registry := rfl
@[simp] theorem setPower_kept (x : Power) : (d.setPower x).kept = d.kept := rfl
@[simp] theorem setPower_free (x : Power) : (d.setPower x).free = d.free := rfl
@[simp] theorem setPower_power (x : Power) : (d.setPower x).power = x := rfl

@[simp] theorem setKept_objs (x : Kept) : (d.setKept x).objs = d.objs := rfl
@[simp] theorem setKept_blobs (x : Kept) : (d.setKept x).blobs = d.blobs := rfl
@[simp] theorem setKept_frozen (x : Kept) : (d.setKept x).frozen = d.frozen := rfl
@[simp] theorem setKept_mem (x : Kept) : (d.setKept x).mem = d.mem := rfl
@[simp] theorem setKept_hostMem (x : Kept) : (d.setKept x).hostMem = d.hostMem := rfl
@[simp] theorem setKept_clock (x : Kept) : (d.setKept x).clock = d.clock := rfl
@[simp] theorem setKept_abacus (x : Kept) : (d.setKept x).abacus = d.abacus := rfl
@[simp] theorem setKept_comp (x : Kept) : (d.setKept x).comp = d.comp := rfl
@[simp] theorem setKept_bands (x : Kept) : (d.setKept x).bands = d.bands := rfl
@[simp] theorem setKept_copy (x : Kept) : (d.setKept x).copy = d.copy := rfl
@[simp] theorem setKept_gpu (x : Kept) : (d.setKept x).gpu = d.gpu := rfl
@[simp] theorem setKept_panels (x : Kept) : (d.setKept x).panels = d.panels := rfl
@[simp] theorem setKept_haptics (x : Kept) : (d.setKept x).haptics = d.haptics := rfl
@[simp] theorem setKept_audio (x : Kept) : (d.setKept x).audio = d.audio := rfl
@[simp] theorem setKept_engines (x : Kept) : (d.setKept x).engines = d.engines := rfl
@[simp] theorem setKept_island (x : Kept) : (d.setKept x).island = d.island := rfl
@[simp] theorem setKept_host (x : Kept) : (d.setKept x).host = d.host := rfl
@[simp] theorem setKept_windows (x : Kept) : (d.setKept x).windows = d.windows := rfl
@[simp] theorem setKept_transfers (x : Kept) : (d.setKept x).transfers = d.transfers := rfl
@[simp] theorem setKept_can (x : Kept) : (d.setKept x).can = d.can := rfl
@[simp] theorem setKept_answer (x : Kept) : (d.setKept x).answer = d.answer := rfl
@[simp] theorem setKept_sent (x : Kept) : (d.setKept x).sent = d.sent := rfl
@[simp] theorem setKept_iso (x : Kept) : (d.setKept x).iso = d.iso := rfl
@[simp] theorem setKept_letter (x : Kept) : (d.setKept x).letter = d.letter := rfl
@[simp] theorem setKept_dram (x : Kept) : (d.setKept x).dram = d.dram := rfl
@[simp] theorem setKept_prot (x : Kept) : (d.setKept x).prot = d.prot := rfl
@[simp] theorem setKept_recorder (x : Kept) : (d.setKept x).recorder = d.recorder := rfl
@[simp] theorem setKept_courier (x : Kept) : (d.setKept x).courier = d.courier := rfl
@[simp] theorem setKept_registry (x : Kept) : (d.setKept x).registry = d.registry := rfl
@[simp] theorem setKept_power (x : Kept) : (d.setKept x).power = d.power := rfl
@[simp] theorem setKept_free (x : Kept) : (d.setKept x).free = d.free := rfl
@[simp] theorem setKept_kept (x : Kept) : (d.setKept x).kept = x := rfl

@[simp] theorem send_objs (m : Sent) : (d.send m).objs = d.objs := rfl
@[simp] theorem send_blobs (m : Sent) : (d.send m).blobs = d.blobs := rfl
@[simp] theorem send_frozen (m : Sent) : (d.send m).frozen = d.frozen := rfl
@[simp] theorem send_mem (m : Sent) : (d.send m).mem = d.mem := rfl
@[simp] theorem send_hostMem (m : Sent) : (d.send m).hostMem = d.hostMem := rfl
@[simp] theorem send_clock (m : Sent) : (d.send m).clock = d.clock := rfl
@[simp] theorem send_abacus (m : Sent) : (d.send m).abacus = d.abacus := rfl
@[simp] theorem send_comp (m : Sent) : (d.send m).comp = d.comp := rfl
@[simp] theorem send_bands (m : Sent) : (d.send m).bands = d.bands := rfl
@[simp] theorem send_copy (m : Sent) : (d.send m).copy = d.copy := rfl
@[simp] theorem send_gpu (m : Sent) : (d.send m).gpu = d.gpu := rfl
@[simp] theorem send_panels (m : Sent) : (d.send m).panels = d.panels := rfl
@[simp] theorem send_haptics (m : Sent) : (d.send m).haptics = d.haptics := rfl
@[simp] theorem send_audio (m : Sent) : (d.send m).audio = d.audio := rfl
@[simp] theorem send_engines (m : Sent) : (d.send m).engines = d.engines := rfl
@[simp] theorem send_island (m : Sent) : (d.send m).island = d.island := rfl
@[simp] theorem send_host (m : Sent) : (d.send m).host = d.host := rfl
@[simp] theorem send_windows (m : Sent) : (d.send m).windows = d.windows := rfl
@[simp] theorem send_transfers (m : Sent) : (d.send m).transfers = d.transfers := rfl
@[simp] theorem send_can (m : Sent) : (d.send m).can = d.can := rfl
@[simp] theorem send_answer (m : Sent) : (d.send m).answer = d.answer := rfl
@[simp] theorem send_iso (m : Sent) : (d.send m).iso = d.iso := rfl
@[simp] theorem send_letter (m : Sent) : (d.send m).letter = d.letter := rfl
@[simp] theorem send_dram (m : Sent) : (d.send m).dram = d.dram := rfl
@[simp] theorem send_prot (m : Sent) : (d.send m).prot = d.prot := rfl
@[simp] theorem send_recorder (m : Sent) : (d.send m).recorder = d.recorder := rfl
@[simp] theorem send_courier (m : Sent) : (d.send m).courier = d.courier := rfl
@[simp] theorem send_registry (m : Sent) : (d.send m).registry = d.registry := rfl
@[simp] theorem send_kept (m : Sent) : (d.send m).kept = d.kept := rfl
@[simp] theorem send_power (m : Sent) : (d.send m).power = d.power := rfl
@[simp] theorem send_free (m : Sent) : (d.send m).free = d.free := rfl
@[simp] theorem send_sent (m : Sent) : (d.send m).sent = m :: d.sent := rfl

@[simp] theorem rawSet_objs (k : Nat) (b : Byte) : (d.rawSet k b).objs = d.objs := rfl
@[simp] theorem rawSet_blobs (k : Nat) (b : Byte) : (d.rawSet k b).blobs = d.blobs := rfl
@[simp] theorem rawSet_frozen (k : Nat) (b : Byte) : (d.rawSet k b).frozen = d.frozen := rfl
@[simp] theorem rawSet_hostMem (k : Nat) (b : Byte) : (d.rawSet k b).hostMem = d.hostMem := rfl
@[simp] theorem rawSet_clock (k : Nat) (b : Byte) : (d.rawSet k b).clock = d.clock := rfl
@[simp] theorem rawSet_abacus (k : Nat) (b : Byte) : (d.rawSet k b).abacus = d.abacus := rfl
@[simp] theorem rawSet_comp (k : Nat) (b : Byte) : (d.rawSet k b).comp = d.comp := rfl
@[simp] theorem rawSet_bands (k : Nat) (b : Byte) : (d.rawSet k b).bands = d.bands := rfl
@[simp] theorem rawSet_copy (k : Nat) (b : Byte) : (d.rawSet k b).copy = d.copy := rfl
@[simp] theorem rawSet_gpu (k : Nat) (b : Byte) : (d.rawSet k b).gpu = d.gpu := rfl
@[simp] theorem rawSet_panels (k : Nat) (b : Byte) : (d.rawSet k b).panels = d.panels := rfl
@[simp] theorem rawSet_haptics (k : Nat) (b : Byte) : (d.rawSet k b).haptics = d.haptics := rfl
@[simp] theorem rawSet_audio (k : Nat) (b : Byte) : (d.rawSet k b).audio = d.audio := rfl
@[simp] theorem rawSet_engines (k : Nat) (b : Byte) : (d.rawSet k b).engines = d.engines := rfl
@[simp] theorem rawSet_island (k : Nat) (b : Byte) : (d.rawSet k b).island = d.island := rfl
@[simp] theorem rawSet_host (k : Nat) (b : Byte) : (d.rawSet k b).host = d.host := rfl
@[simp] theorem rawSet_windows (k : Nat) (b : Byte) : (d.rawSet k b).windows = d.windows := rfl
@[simp] theorem rawSet_transfers (k : Nat) (b : Byte) : (d.rawSet k b).transfers = d.transfers := rfl
@[simp] theorem rawSet_can (k : Nat) (b : Byte) : (d.rawSet k b).can = d.can := rfl
@[simp] theorem rawSet_answer (k : Nat) (b : Byte) : (d.rawSet k b).answer = d.answer := rfl
@[simp] theorem rawSet_sent (k : Nat) (b : Byte) : (d.rawSet k b).sent = d.sent := rfl
@[simp] theorem rawSet_iso (k : Nat) (b : Byte) : (d.rawSet k b).iso = d.iso := rfl
@[simp] theorem rawSet_letter (k : Nat) (b : Byte) : (d.rawSet k b).letter = d.letter := rfl
@[simp] theorem rawSet_dram (k : Nat) (b : Byte) : (d.rawSet k b).dram = d.dram := rfl
@[simp] theorem rawSet_prot (k : Nat) (b : Byte) : (d.rawSet k b).prot = d.prot := rfl
@[simp] theorem rawSet_recorder (k : Nat) (b : Byte) : (d.rawSet k b).recorder = d.recorder := rfl
@[simp] theorem rawSet_courier (k : Nat) (b : Byte) : (d.rawSet k b).courier = d.courier := rfl
@[simp] theorem rawSet_registry (k : Nat) (b : Byte) : (d.rawSet k b).registry = d.registry := rfl
@[simp] theorem rawSet_kept (k : Nat) (b : Byte) : (d.rawSet k b).kept = d.kept := rfl
@[simp] theorem rawSet_power (k : Nat) (b : Byte) : (d.rawSet k b).power = d.power := rfl
@[simp] theorem rawSet_free (k : Nat) (b : Byte) : (d.rawSet k b).free = d.free := rfl

end Sys2Proof.Machine
end

