-- ==== Sys2Proof/Laws/Tables.lean ====
section
/-! SUPPORT. The laws of a bank: what a read gives after a write, and that every operation keeps the canonical form. -/

namespace Sys2Proof.Machine

variable {α : Type}

theorem tabGet_drop_same (d : α) (k : Nat) (t : Tab α) : tabGet d (tabDrop k t) k = d := by
  induction t with
  | nil => rfl
  | cons p t ih =>
    obtain ⟨k', v⟩ := p
    by_cases h : k' = k <;> simp [tabDrop, h, tabGet, ih]

theorem tabGet_drop_other (d : α) {k j : Nat} (h : j ≠ k) (t : Tab α) : tabGet d (tabDrop k t) j = tabGet d t j := by
  induction t with
  | nil => rfl
  | cons p t ih =>
    obtain ⟨k', v⟩ := p
    by_cases h1 : k' = k
    · subst h1; simp [tabDrop, tabGet, ih, Ne.symm h]
    · by_cases h2 : k' = j
      · subst h2; simp [tabDrop, h1, tabGet]
      · simp [tabDrop, h1, tabGet, ih, h2]

theorem tabGet_insert_same (d : α) (k : Nat) (v : α) (t : Tab α) : tabGet d (tabInsert k v (tabDrop k t)) k = v := by
  induction t with
  | nil => simp [tabDrop, tabInsert, tabGet]
  | cons p t ih =>
    obtain ⟨k', w⟩ := p
    by_cases h1 : k' = k
    · simpa [tabDrop, h1] using ih
    · by_cases h2 : k < k' <;> simp [tabDrop, h1, tabInsert, h2, tabGet, ih]

theorem tabGet_insert_other (d : α) {k j : Nat} (h : j ≠ k) (v : α) (t : Tab α) :
    tabGet d (tabInsert k v t) j = tabGet d t j := by
  induction t with
  | nil => simp [tabInsert, tabGet, Ne.symm h]
  | cons p t ih =>
    obtain ⟨k', w⟩ := p
    by_cases h2 : k < k'
    · simp [tabInsert, h2, tabGet, Ne.symm h]
    · simp only [tabInsert, if_neg h2, tabGet, ih]


/-- A read after a write to the same place gives the value written. -/
@[simp] theorem tabGet_set_same [DecidableEq α] (d : α) (t : Tab α) (k : Nat) (v : α) : tabGet d (tabSet d t k v) k = v := by
  by_cases h : v = d
  · subst h; simp [tabSet, tabGet_drop_same]
  · simp [tabSet, h, tabGet_insert_same]

/-- A write leaves every other place alone. -/
theorem tabGet_set_other [DecidableEq α] (e d : α) (t : Tab α) {k j : Nat} (h : j ≠ k) (v : α) : tabGet e (tabSet d t k v) j = tabGet e t j := by
  by_cases hv : v = d
  · simp [tabSet, hv, tabGet_drop_other e h]
  · simp [tabSet, hv, tabGet_insert_other e h, tabGet_drop_other e h]

/-! ### The canonical form -/

/-- Every number of a bank is above `k`. -/
def above (k : Nat) (t : Tab α) : Prop := ∀ p ∈ t, k < p.1

theorem tabRising_cons (k : Nat) (v : α) (t : Tab α) : tabRising ((k, v) :: t) = true ↔ above k t ∧ tabRising t = true := by
  induction t generalizing k v with
  | nil => simp [tabRising, above]
  | cons p t ih =>
    obtain ⟨k', v'⟩ := p
    simp only [tabRising, Bool.and_eq_true, decide_eq_true_eq, ih, above, List.mem_cons]
    constructor
    · rintro ⟨h, h1, h2⟩
      refine ⟨?_, h1, h2⟩
      rintro p (rfl | hp)
      · exact h
      · exact lt_trans h (h1 p hp)
    · rintro ⟨h, h1, h2⟩
      exact ⟨h _ (Or.inl rfl), h1, h2⟩

theorem tabRising_filter (f : Nat × α → Bool) (t : Tab α) (h : tabRising t = true) : tabRising (t.filter f) = true := by
  induction t with
  | nil => rfl
  | cons p t ih =>
    obtain ⟨k, v⟩ := p
    obtain ⟨h1, h2⟩ := (tabRising_cons k v t).1 h
    by_cases hf : f (k, v) = true
    · rw [List.filter_cons_of_pos hf, tabRising_cons]
      exact ⟨fun q hq => h1 q (List.mem_of_mem_filter hq), ih h2⟩
    · rw [List.filter_cons_of_neg hf]; exact ih h2

/-- Taking entries out keeps the form. -/
theorem tabWf_filter [DecidableEq α] (d : α) (f : Nat × α → Bool) (t : Tab α) (h : tabWf d t = true) : tabWf d (t.filter f) = true := by
  simp only [tabWf, Bool.and_eq_true, List.all_eq_true] at *
  exact ⟨tabRising_filter f t h.1, fun p hp => h.2 p (List.mem_of_mem_filter hp)⟩

theorem tabDrop_eq_filter (k : Nat) (t : Tab α) : tabDrop k t = t.filter (fun p => p.1 ≠ k) := by
  induction t with
  | nil => rfl
  | cons p t ih =>
    obtain ⟨k', v⟩ := p
    by_cases h : k' = k <;> simp [tabDrop, h, ih]

theorem tabInsert_mem {k : Nat} {v : α} {t : Tab α} {p : Nat × α} (h : p ∈ tabInsert k v t) : p = (k, v) ∨ p ∈ t := by
  induction t with
  | nil => simpa [tabInsert] using h
  | cons q t ih =>
    obtain ⟨k', v'⟩ := q
    by_cases hk : k < k'
    · simpa [tabInsert, hk] using h
    · simp only [tabInsert, hk, if_false, List.mem_cons] at h ⊢
      rcases h with h | h
      · exact Or.inr (Or.inl h)
      · exact (ih h).imp id Or.inr

theorem tabInsert_rising {k : Nat} {v : α} {t : Tab α} (h : tabRising t = true) (hk : ∀ p ∈ t, p.1 ≠ k) :
    tabRising (tabInsert k v t) = true := by
  induction t with
  | nil => rfl
  | cons p t ih =>
    obtain ⟨k', v'⟩ := p
    obtain ⟨h1, h2⟩ := (tabRising_cons k' v' t).1 h
    by_cases hlt : k < k'
    · simp only [tabInsert, hlt, if_true]
      rw [tabRising_cons]
      refine ⟨?_, h⟩
      intro p hp
      rcases List.mem_cons.1 hp with rfl | hp
      · exact hlt
      · exact lt_trans hlt (h1 p hp)
    · simp only [tabInsert, hlt, if_false]
      rw [tabRising_cons]
      refine ⟨?_, ih h2 (fun p hp => hk p (List.mem_cons_of_mem _ hp))⟩
      intro p hp
      rcases tabInsert_mem hp with rfl | hp
      · have := hk (k', v') List.mem_cons_self; dsimp at this ⊢; omega
      · exact h1 p hp

/-- A write keeps the form. -/
theorem tabWf_set [DecidableEq α] (d : α) (t : Tab α) (k : Nat) (v : α) (h : tabWf d t = true) : tabWf d (tabSet d t k v) = true := by
  have hd : tabWf d (tabDrop k t) = true := by rw [tabDrop_eq_filter]; exact tabWf_filter d _ t h
  by_cases hv : v = d
  · simpa [tabSet, hv] using hd
  · simp only [tabSet, hv, if_false]
    simp only [tabWf, Bool.and_eq_true, List.all_eq_true] at hd ⊢
    refine ⟨tabInsert_rising hd.1 ?_, ?_⟩
    · intro p hp
      rw [tabDrop_eq_filter] at hp
      simpa using (List.mem_filter.1 hp).2
    · intro p hp
      rcases tabInsert_mem hp with rfl | hp
      · simp [hv]
      · exact hd.2 p hp

end Sys2Proof.Machine
end

