-- ==== Sys2Proof/Laws/Objects.lean ====
section
/-! SUPPORT. What a read of an object gives after a write of one, a count, or a change of anything else; and what a record in
the log and a post leave alone. -/

namespace Sys2Proof.Machine

variable (d : Dev)

/-- The object that was written holds the value, in the width of its type. -/
@[simp] theorem getO_setO_same (i j v : Nat) : (d.setO i j v).getO i j = v % objModulus i j := by
  simp [Dev.getO, Dev.setO]

/-- Every other object holds what it held. -/
theorem getO_setO_other {i j i' j' : Nat} (h : objKey i' j' ≠ objKey i j) (v : Nat) :
    (d.setO i j v).getO i' j' = d.getO i' j' := by
  simp only [Dev.getO, Dev.setO]
  exact tabGet_set_other _ _ _ h _

/-- Keys of objects differ where the index or the subindex does. -/
theorem objKey_ne {i j i' j' : Nat} (hj : j < 256) (hj' : j' < 256) (h : i' ≠ i ∨ j' ≠ j) : objKey i' j' ≠ objKey i j := by
  unfold objKey; omega

/-- Only the objects decide what an object reads as. -/
theorem getO_of_objs {a b : Dev} (h : a.objs = b.objs) (i j : Nat) : a.getO i j = b.getO i j := by simp [Dev.getO, h]

theorem getB_of_blobs {a b : Dev} (h : a.blobs = b.blobs) (i j : Nat) : a.getB i j = b.getB i j := by simp [Dev.getB, h]

/-- A tally counts one in its width. -/
theorem getO_count (i j : Nat) : (d.count i j).getO i j = (d.getO i j + 1) % objModulus i j := by simp [Dev.count]

theorem getO_count_other {i j i' j' : Nat} (h : objKey i' j' ≠ objKey i j) : (d.count i j).getO i' j' = d.getO i' j' :=
  getO_setO_other d h _

/-- Two blocks differ in their objects and the recorder alone. -/
def LogOnly (a b : Dev) : Prop := ∃ objs recorder, b = { a with objs := objs, recorder := recorder }

theorem LogOnly.refl (a : Dev) : LogOnly a a := ⟨a.objs, a.recorder, rfl⟩

theorem LogOnly.trans {a b c : Dev} (h : LogOnly a b) (g : LogOnly b c) : LogOnly a c := by
  obtain ⟨x, y, rfl⟩ := h
  obtain ⟨z, w, rfl⟩ := g
  exact ⟨z, w, rfl⟩

theorem notRecorded_only (code reason : Nat) : LogOnly d (d.notRecorded code reason) := ⟨_, d.recorder, rfl⟩

theorem intakeCounted_only (code reason : Nat) : LogOnly d (d.intakeCounted code reason) := by
  unfold Dev.intakeCounted
  dsimp only
  split
  · exact (notRecorded_only d code reason).trans ⟨_, _, rfl⟩
  · exact notRecorded_only d code reason

theorem enqueue_only (e : Event) : LogOnly d (d.enqueue e) := by
  unfold Dev.enqueue
  split
  · exact ⟨d.objs, _, rfl⟩
  · dsimp only
    split
    · exact ⟨_, _, rfl⟩
    · exact ⟨d.objs, _, rfl⟩

theorem throttleRecord_only (cls : Nat) : LogOnly d (d.throttleRecord cls) := by
  unfold Dev.throttleRecord
  split
  · exact intakeCounted_only d _ _
  · exact enqueue_only d _

theorem intake_only (e : Event) : LogOnly d (d.intake e).2 := by
  unfold Dev.intake
  dsimp only
  split
  · exact intakeCounted_only d _ _
  · split
    · exact enqueue_only d _
    · split
      · split
        · exact notRecorded_only d _ _
        · exact ((notRecorded_only d _ _).trans ⟨_, _, rfl⟩).trans (throttleRecord_only _ _)
      · exact LogOnly.trans ⟨d.objs, _, rfl⟩ (enqueue_only _ _)

/-- A record in the log touches the recorder and its own objects alone. -/
theorem log_only (cls what owner unit : Nat) (facts : List Nat) : LogOnly d (d.log cls what owner unit facts) := intake_only d _

@[simp] theorem log_blobs (cls what owner unit : Nat) (facts : List Nat) : (d.log cls what owner unit facts).blobs = d.blobs := by
  obtain ⟨_, _, h⟩ := log_only d cls what owner unit facts; rw [h]
@[simp] theorem log_frozen (cls what owner unit : Nat) (facts : List Nat) : (d.log cls what owner unit facts).frozen = d.frozen := by
  obtain ⟨_, _, h⟩ := log_only d cls what owner unit facts; rw [h]
@[simp] theorem log_mem (cls what owner unit : Nat) (facts : List Nat) : (d.log cls what owner unit facts).mem = d.mem := by
  obtain ⟨_, _, h⟩ := log_only d cls what owner unit facts; rw [h]
@[simp] theorem log_hostMem (cls what owner unit : Nat) (facts : List Nat) : (d.log cls what owner unit facts).hostMem = d.hostMem := by
  obtain ⟨_, _, h⟩ := log_only d cls what owner unit facts; rw [h]
@[simp] theorem log_clock (cls what owner unit : Nat) (facts : List Nat) : (d.log cls what owner unit facts).clock = d.clock := by
  obtain ⟨_, _, h⟩ := log_only d cls what owner unit facts; rw [h]
@[simp] theorem log_abacus (cls what owner unit : Nat) (facts : List Nat) : (d.log cls what owner unit facts).abacus = d.abacus := by
  obtain ⟨_, _, h⟩ := log_only d cls what owner unit facts; rw [h]
@[simp] theorem log_comp (cls what owner unit : Nat) (facts : List Nat) : (d.log cls what owner unit facts).comp = d.comp := by
  obtain ⟨_, _, h⟩ := log_only d cls what owner unit facts; rw [h]
@[simp] theorem log_bands (cls what owner unit : Nat) (facts : List Nat) : (d.log cls what owner unit facts).bands = d.bands := by
  obtain ⟨_, _, h⟩ := log_only d cls what owner unit facts; rw [h]
@[simp] theorem log_copy (cls what owner unit : Nat) (facts : List Nat) : (d.log cls what owner unit facts).copy = d.copy := by
  obtain ⟨_, _, h⟩ := log_only d cls what owner unit facts; rw [h]
@[simp] theorem log_gpu (cls what owner unit : Nat) (facts : List Nat) : (d.log cls what owner unit facts).gpu = d.gpu := by
  obtain ⟨_, _, h⟩ := log_only d cls what owner unit facts; rw [h]
@[simp] theorem log_panels (cls what owner unit : Nat) (facts : List Nat) : (d.log cls what owner unit facts).panels = d.panels := by
  obtain ⟨_, _, h⟩ := log_only d cls what owner unit facts; rw [h]
@[simp] theorem log_haptics (cls what owner unit : Nat) (facts : List Nat) : (d.log cls what owner unit facts).haptics = d.haptics := by
  obtain ⟨_, _, h⟩ := log_only d cls what owner unit facts; rw [h]
@[simp] theorem log_audio (cls what owner unit : Nat) (facts : List Nat) : (d.log cls what owner unit facts).audio = d.audio := by
  obtain ⟨_, _, h⟩ := log_only d cls what owner unit facts; rw [h]
@[simp] theorem log_engines (cls what owner unit : Nat) (facts : List Nat) : (d.log cls what owner unit facts).engines = d.engines := by
  obtain ⟨_, _, h⟩ := log_only d cls what owner unit facts; rw [h]
@[simp] theorem log_island (cls what owner unit : Nat) (facts : List Nat) : (d.log cls what owner unit facts).island = d.island := by
  obtain ⟨_, _, h⟩ := log_only d cls what owner unit facts; rw [h]
@[simp] theorem log_host (cls what owner unit : Nat) (facts : List Nat) : (d.log cls what owner unit facts).host = d.host := by
  obtain ⟨_, _, h⟩ := log_only d cls what owner unit facts; rw [h]
@[simp] theorem log_windows (cls what owner unit : Nat) (facts : List Nat) : (d.log cls what owner unit facts).windows = d.windows := by
  obtain ⟨_, _, h⟩ := log_only d cls what owner unit facts; rw [h]
@[simp] theorem log_transfers (cls what owner unit : Nat) (facts : List Nat) : (d.log cls what owner unit facts).transfers = d.transfers := by
  obtain ⟨_, _, h⟩ := log_only d cls what owner unit facts; rw [h]
@[simp] theorem log_can (cls what owner unit : Nat) (facts : List Nat) : (d.log cls what owner unit facts).can = d.can := by
  obtain ⟨_, _, h⟩ := log_only d cls what owner unit facts; rw [h]
@[simp] theorem log_answer (cls what owner unit : Nat) (facts : List Nat) : (d.log cls what owner unit facts).answer = d.answer := by
  obtain ⟨_, _, h⟩ := log_only d cls what owner unit facts; rw [h]
@[simp] theorem log_sent (cls what owner unit : Nat) (facts : List Nat) : (d.log cls what owner unit facts).sent = d.sent := by
  obtain ⟨_, _, h⟩ := log_only d cls what owner unit facts; rw [h]
@[simp] theorem log_iso (cls what owner unit : Nat) (facts : List Nat) : (d.log cls what owner unit facts).iso = d.iso := by
  obtain ⟨_, _, h⟩ := log_only d cls what owner unit facts; rw [h]
@[simp] theorem log_letter (cls what owner unit : Nat) (facts : List Nat) : (d.log cls what owner unit facts).letter = d.letter := by
  obtain ⟨_, _, h⟩ := log_only d cls what owner unit facts; rw [h]
@[simp] theorem log_dram (cls what owner unit : Nat) (facts : List Nat) : (d.log cls what owner unit facts).dram = d.dram := by
  obtain ⟨_, _, h⟩ := log_only d cls what owner unit facts; rw [h]
@[simp] theorem log_prot (cls what owner unit : Nat) (facts : List Nat) : (d.log cls what owner unit facts).prot = d.prot := by
  obtain ⟨_, _, h⟩ := log_only d cls what owner unit facts; rw [h]
@[simp] theorem log_courier (cls what owner unit : Nat) (facts : List Nat) : (d.log cls what owner unit facts).courier = d.courier := by
  obtain ⟨_, _, h⟩ := log_only d cls what owner unit facts; rw [h]
@[simp] theorem log_registry (cls what owner unit : Nat) (facts : List Nat) : (d.log cls what owner unit facts).registry = d.registry := by
  obtain ⟨_, _, h⟩ := log_only d cls what owner unit facts; rw [h]
@[simp] theorem log_kept (cls what owner unit : Nat) (facts : List Nat) : (d.log cls what owner unit facts).kept = d.kept := by
  obtain ⟨_, _, h⟩ := log_only d cls what owner unit facts; rw [h]
@[simp] theorem log_power (cls what owner unit : Nat) (facts : List Nat) : (d.log cls what owner unit facts).power = d.power := by
  obtain ⟨_, _, h⟩ := log_only d cls what owner unit facts; rw [h]
@[simp] theorem log_free (cls what owner unit : Nat) (facts : List Nat) : (d.log cls what owner unit facts).free = d.free := by
  obtain ⟨_, _, h⟩ := log_only d cls what owner unit facts; rw [h]

/-- A transient fault is counted and logged, and nothing else. -/
theorem transientFault_only (what unit : Nat) : LogOnly d (d.transientFault what unit) :=
  LogOnly.trans ⟨_, d.recorder, rfl⟩ (log_only (d.count 0x3000 0x0C) 0x81 what 0xFF unit [unit])

theorem transientFault_gpu (what unit : Nat) : (d.transientFault what unit).gpu = d.gpu := by
  obtain ⟨_, _, h⟩ := transientFault_only d what unit; rw [h]

/-- An entry that ends leaves the answer of the command. -/
@[simp] theorem regEnded_answer (d : Dev) (e : Option Nat) : (d.regEnded e).answer = d.answer := by
  cases e with
  | none => rfl
  | some e =>
    show (d.regFree e).answer = d.answer
    unfold Dev.regFree Dev.regCounted
    dsimp only
    split <;> rfl

end Sys2Proof.Machine
end

