-- ==== Sys2Proof/Laws/Dictionary.lean ====
section
/-! SUPPORT. What a write of an object comes to once the checks of Table 3-2 and its chapter accept it; and a window between the
request that it takes and the answer that it then holds. -/

namespace Sys2Proof.Machine

/-- A write of an object that does not answer for itself is checked, and then its chapter says what it does. -/
theorem writeAny_request (d : Dev) (who : Init) (i j : Nat) (data : List Byte) (h : answersItself i j = false) :
    d.writeAny who i j data = d.request who i j data (objectVerdict who i j data) := by
  unfold Dev.writeAny
  simp only [h, Bool.not_false, Bool.or_true, if_true]

/-- A write that passes every check leaves what its chapter says and the answer 0. -/
theorem writeAny_accepts {d t : Dev} {who : Init} {i j : Nat} {data : List Byte} (h : answersItself i j = false)
    (hc : d.checkWrite who i j data = none) (hv : objectVerdict who i j data d = .ok t) :
    d.writeAny who i j data = t.accept := by
  rw [writeAny_request d who i j data h]
  simp only [Dev.request, Dev.tryWrite, hc, hv]

/-- A write that a check refuses changes nothing but the answer and the tally of refusals. -/
theorem writeAny_refused {d : Dev} {who : Init} {i j : Nat} {data : List Byte} {a : Nat} (h : answersItself i j = false)
    (hc : d.checkWrite who i j data = some a) : d.writeAny who i j data = (d.noteRefusal i j a).refuse a := by
  rw [writeAny_request d who i j data h]
  simp only [Dev.request, Dev.tryWrite, hc]

@[simp] theorem opened_window (d : Dev) (w : Nat) :
    (d.opened w).window w = { d.window w with busy := true, result := none, writes := false, wo := false, entry := none } := by
  unfold Dev.opened Dev.window Dev.setWindow
  simp only [tabGet_set_same]

/-- While the window is BUSY, the answer waits in it for the end of the request. -/
theorem windowAnswers_busy {d : Dev} {w : Nat} (r : WinResult) (h : (d.window w).busy) :
    d.windowAnswers w r =
      ({ d with answer := { abort := r.abort, data := r.data.getD [] } }).setWindow w { d.window w with result := some r } := by
  unfold Dev.windowAnswers
  exact if_pos (show (({ d with answer := { abort := r.abort, data := r.data.getD [] } } : Dev).window w).busy = true from h)

end Sys2Proof.Machine
end

