-- ==== Sys2Proof/Laws/Dispatch.lean ====
section
/-! SUPPORT. One equation for each command: the meaning that runs it; and the form of every meaning: it acts while the logic
runs, or it belongs to the always-on domain. -/

namespace Sys2Proof.Machine

@[simp] theorem exec_rodAdvanceLine (rod late : Nat) (s : State) : exec (.rodAdvanceLine rod late) s = execRodAdvanceLine rod late s := rfl
@[simp] theorem exec_syncOutRelease (ball : Nat) (s : State) : exec (.syncOutRelease ball) s = execSyncOutRelease ball s := rfl
@[simp] theorem exec_freeRunWrite (who : Init) (rod value : Nat) (s : State) : exec (.freeRunWrite who rod value) s = execFreeRunWrite who rod value s := rfl
@[simp] theorem exec_freeRodTimingWrite (who : Init) (rod sub value : Nat) (s : State) : exec (.freeRodTimingWrite who rod sub value) s = execFreeRodTimingWrite who rod sub value s := rfl
@[simp] theorem exec_lockSourceWrite (who : Init) (rod value : Nat) (s : State) : exec (.lockSourceWrite who rod value) s = execLockSourceWrite who rod value s := rfl
@[simp] theorem exec_lockReferenceEvent (rod : Nat) (phaseNs trimNeeded : Int) (s : State) : exec (.lockReferenceEvent rod phaseNs trimNeeded) s = execLockReferenceEvent rod phaseNs trimNeeded s := rfl
@[simp] theorem exec_lockReferenceAbsent (rod : Nat) (s : State) : exec (.lockReferenceAbsent rod) s = execLockReferenceAbsent rod s := rfl
@[simp] theorem exec_holdoverExpiry (rod : Nat) (s : State) : exec (.holdoverExpiry rod) s = execHoldoverExpiry rod s := rfl
@[simp] theorem exec_beadWordWrite (who : Init) (slot value : Nat) (s : State) : exec (.beadWordWrite who slot value) s = execBeadWordWrite who slot value s := rfl
@[simp] theorem exec_actionWordWrite (who : Init) (slot value : Nat) (s : State) : exec (.actionWordWrite who slot value) s = execActionWordWrite who slot value s := rfl
@[simp] theorem exec_pixelPllLocked (output reachedHz : Nat) (s : State) : exec (.pixelPllLocked output reachedHz) s = execPixelPllLocked output reachedHz s := rfl
@[simp] theorem exec_clockOffsetWrite (who : Init) (value : Int) (s : State) : exec (.clockOffsetWrite who value) s = execClockOffsetWrite who value s := rfl
@[simp] theorem exec_rateTrimWrite (who : Init) (value : Int) (s : State) : exec (.rateTrimWrite who value) s = execRateTrimWrite who value s := rfl
@[simp] theorem exec_offsetSlewSpent (s : State) : exec (.offsetSlewSpent) s = execOffsetSlewSpent s := rfl
@[simp] theorem exec_timeReceived (port days ms : Nat) (s : State) : exec (.timeReceived port days ms) s = execTimeReceived port days ms s := rfl
@[simp] theorem exec_objectWrite (who : Init) (target : ObjTarget) (place : Nat) (data : List Byte) (s : State) : exec (.objectWrite who target place data) s = execObjectWrite who target place data s := rfl
@[simp] theorem exec_windowRead (who : Init) (win index sub : Nat) (s : State) : exec (.windowRead who win index sub) s = execWindowRead who win index sub s := rfl
@[simp] theorem exec_windowWrite (who : Init) (win index sub : Nat) (s : State) : exec (.windowWrite who win index sub) s = execWindowWrite who win index sub s := rfl
@[simp] theorem exec_windowDescribe (who : Init) (win index sub : Nat) (s : State) : exec (.windowDescribe who win index sub) s = execWindowDescribe who win index sub s := rfl
@[simp] theorem exec_domainReadSegment (who : Init) (win index sub : Nat) (s : State) : exec (.domainReadSegment who win index sub) s = execDomainReadSegment who win index sub s := rfl
@[simp] theorem exec_domainWriteSegment (who : Init) (win index sub : Nat) (s : State) : exec (.domainWriteSegment who win index sub) s = execDomainWriteSegment who win index sub s := rfl
@[simp] theorem exec_domainEnd (who : Init) (win index sub : Nat) (s : State) : exec (.domainEnd who win index sub) s = execDomainEnd who win index sub s := rfl
@[simp] theorem exec_domainAbort (who : Init) (win index sub : Nat) (s : State) : exec (.domainAbort who win index sub) s = execDomainAbort who win index sub s := rfl
@[simp] theorem exec_windowRegisterWrite (who : Init) (win offset : Nat) (data : List Byte) (s : State) : exec (.windowRegisterWrite who win offset data) s = execWindowRegisterWrite who win offset data s := rfl
@[simp] theorem exec_windowRequestEnd (win : Nat) (s : State) : exec (.windowRequestEnd win) s = execWindowRequestEnd win s := rfl
@[simp] theorem exec_usdoDownload (port index sub : Nat) (data : List Byte) (s : State) : exec (.usdoDownload port index sub data) s = execUsdoDownload port index sub data s := rfl
@[simp] theorem exec_usdoUpload (port index sub : Nat) (s : State) : exec (.usdoUpload port index sub) s = execUsdoUpload port index sub s := rfl
@[simp] theorem exec_rpdoReceived (port pdo : Nat) (data : List Byte) (s : State) : exec (.rpdoReceived port pdo data) s = execRpdoReceived port pdo data s := rfl
@[simp] theorem exec_rpdoTimeout (pdo : Nat) (s : State) : exec (.rpdoTimeout pdo) s = execRpdoTimeout pdo s := rfl
@[simp] theorem exec_tpdoEventTimerExpiry (pdo : Nat) (s : State) : exec (.tpdoEventTimerExpiry pdo) s = execTpdoEventTimerExpiry pdo s := rfl
@[simp] theorem exec_syncReceived (port : Nat) (s : State) : exec (.syncReceived port) s = execSyncReceived port s := rfl
@[simp] theorem exec_heartbeatProducerTimer (s : State) : exec (.heartbeatProducerTimer) s = execHeartbeatProducerTimer s := rfl
@[simp] theorem exec_heartbeatReceived (port node : Nat) (s : State) : exec (.heartbeatReceived port node) s = execHeartbeatReceived port node s := rfl
@[simp] theorem exec_heartbeatConsumerTimeout (entry : Nat) (s : State) : exec (.heartbeatConsumerTimeout entry) s = execHeartbeatConsumerTimeout entry s := rfl
@[simp] theorem exec_emcyInhibitExpiry (s : State) : exec (.emcyInhibitExpiry) s = execEmcyInhibitExpiry s := rfl
@[simp] theorem exec_canReceiveOverrun (port : Nat) (s : State) : exec (.canReceiveOverrun port) s = execCanReceiveOverrun port s := rfl
@[simp] theorem exec_canBusOffRecovery (port : Nat) (s : State) : exec (.canBusOffRecovery port) s = execCanBusOffRecovery port s := rfl
@[simp] theorem exec_nmtStartRemoteNode (port node : Nat) (s : State) : exec (.nmtStartRemoteNode port node) s = execNmtStartRemoteNode port node s := rfl
@[simp] theorem exec_nmtStopRemoteNode (port node : Nat) (s : State) : exec (.nmtStopRemoteNode port node) s = execNmtStopRemoteNode port node s := rfl
@[simp] theorem exec_nmtEnterPreOperational (port node : Nat) (s : State) : exec (.nmtEnterPreOperational port node) s = execNmtEnterPreOperational port node s := rfl
@[simp] theorem exec_nmtResetNode (port node : Nat) (s : State) : exec (.nmtResetNode port node) s = execNmtResetNode port node s := rfl
@[simp] theorem exec_nmtResetCommunication (port node : Nat) (s : State) : exec (.nmtResetCommunication port node) s = execNmtResetCommunication port node s := rfl
@[simp] theorem exec_errorHistoryClear (who : Init) (value : Nat) (s : State) : exec (.errorHistoryClear who value) s = execErrorHistoryClear who value s := rfl
@[simp] theorem exec_storeParameters (who : Init) (sub value : Nat) (s : State) : exec (.storeParameters who sub value) s = execStoreParameters who sub value s := rfl
@[simp] theorem exec_storeSaveComplete (confirmed : Bool) (s : State) : exec (.storeSaveComplete confirmed) s = execStoreSaveComplete confirmed s := rfl
@[simp] theorem exec_restoreDefaults (who : Init) (sub value : Nat) (s : State) : exec (.restoreDefaults who sub value) s = execRestoreDefaults who sub value s := rfl
@[simp] theorem exec_profileRequest (who : Init) (value : Nat) (s : State) : exec (.profileRequest who value) s = execProfileRequest who value s := rfl
@[simp] theorem exec_keepAliveRequest (who : Init) (s : State) : exec (.keepAliveRequest who) s = execKeepAliveRequest who s := rfl
@[simp] theorem exec_keepAliveEntryComplete (s : State) : exec (.keepAliveEntryComplete) s = execKeepAliveEntryComplete s := rfl
@[simp] theorem exec_keepAliveExit (cause : WakeCause) (s : State) : exec (.keepAliveExit cause) s = execKeepAliveExit cause s := rfl
@[simp] theorem exec_sleepRequest (who : Init) (s : State) : exec (.sleepRequest who) s = execSleepRequest who s := rfl
@[simp] theorem exec_canWakePattern (port : Nat) (s : State) : exec (.canWakePattern port) s = execCanWakePattern port s := rfl
@[simp] theorem exec_outputRequestedStateWrite (who : Init) (output value : Nat) (s : State) : exec (.outputRequestedStateWrite who output value) s = execOutputRequestedStateWrite who output value s := rfl
@[simp] theorem exec_outputDisableComplete (output : Nat) (s : State) : exec (.outputDisableComplete output) s = execOutputDisableComplete output s := rfl
@[simp] theorem exec_timingApply (who : Init) (output value : Nat) (s : State) : exec (.timingApply who output value) s = execTimingApply who output value s := rfl
@[simp] theorem exec_hpdDebouncedRise (output : Nat) (s : State) : exec (.hpdDebouncedRise output) s = execHpdDebouncedRise output s := rfl
@[simp] theorem exec_hpdDebouncedFall (output : Nat) (s : State) : exec (.hpdDebouncedFall output) s = execHpdDebouncedFall output s := rfl
@[simp] theorem exec_hpdIrq (output : Nat) (laneLost : Bool) (s : State) : exec (.hpdIrq output laneLost) s = execHpdIrq output laneLost s := rfl
@[simp] theorem exec_trainingPass (output dpcdRevision : Nat) (s : State) : exec (.trainingPass output dpcdRevision) s = execTrainingPass output dpcdRevision s := rfl
@[simp] theorem exec_trainingFail (output cause : Nat) (s : State) : exec (.trainingFail output cause) s = execTrainingFail output cause s := rfl
@[simp] theorem exec_trainingTimeout (output : Nat) (s : State) : exec (.trainingTimeout output) s = execTrainingTimeout output s := rfl
@[simp] theorem exec_retryIntervalExpiry (output : Nat) (s : State) : exec (.retryIntervalExpiry output) s = execRetryIntervalExpiry output s := rfl
@[simp] theorem exec_edidReadComplete (output : Nat) (edid : List Byte) (s : State) : exec (.edidReadComplete output edid) s = execEdidReadComplete output edid s := rfl
@[simp] theorem exec_auxRequest (who : Init) (output : Nat) (request : List Byte) (s : State) : exec (.auxRequest who output request) s = execAuxRequest who output request s := rfl
@[simp] theorem exec_auxTransactionEnd (output : Nat) (reply : List Byte) (s : State) : exec (.auxTransactionEnd output reply) s = execAuxTransactionEnd output reply s := rfl
@[simp] theorem exec_auxTimeout (output : Nat) (s : State) : exec (.auxTimeout output) s = execAuxTimeout output s := rfl
@[simp] theorem exec_pixelUnderrun (late : LatePixels) (s : State) : exec (.pixelUnderrun late) s = execPixelUnderrun late s := rfl
@[simp] theorem exec_commitSubmit (who : Init) (output address : Nat) (s : State) : exec (.commitSubmit who output address) s = execCommitSubmit who output address s := rfl
@[simp] theorem exec_reservationWrite (who : Init) (output value : Nat) (s : State) : exec (.reservationWrite who output value) s = execReservationWrite who output value s := rfl
@[simp] theorem exec_layerEnableWrite (who : Init) (layer value : Nat) (s : State) : exec (.layerEnableWrite who layer value) s = execLayerEnableWrite who layer value s := rfl
@[simp] theorem exec_layerFetchHalt (layer address : Nat) (uncorrectable : Bool) (s : State) : exec (.layerFetchHalt layer address uncorrectable) s = execLayerFetchHalt layer address uncorrectable s := rfl
@[simp] theorem exec_checkedLineMismatch (layer line : Nat) (s : State) : exec (.checkedLineMismatch layer line) s = execCheckedLineMismatch layer line s := rfl
@[simp] theorem exec_copyJobSubmit (who : Init) (channel address : Nat) (s : State) : exec (.copyJobSubmit who channel address) s = execCopyJobSubmit who channel address s := rfl
@[simp] theorem exec_copyJobCopy (channel : Nat) (s : State) : exec (.copyJobCopy channel) s = execCopyJobCopy channel s := rfl
@[simp] theorem exec_encode (channel : Nat) (s : State) : exec (.encode channel) s = execEncode channel s := rfl
@[simp] theorem exec_decode (channel : Nat) (s : State) : exec (.decode channel) s = execDecode channel s := rfl
@[simp] theorem exec_fill (channel : Nat) (s : State) : exec (.fill channel) s = execFill channel s := rfl
@[simp] theorem exec_clear (channel : Nat) (s : State) : exec (.clear channel) s = execClear channel s := rfl
@[simp] theorem exec_copyJobComplete (channel : Nat) (s : State) : exec (.copyJobComplete channel) s = execCopyJobComplete channel s := rfl
@[simp] theorem exec_copyJobHalt (channel : Nat) (s : State) : exec (.copyJobHalt channel) s = execCopyJobHalt channel s := rfl
@[simp] theorem exec_copyChannelEnableWrite (who : Init) (channel value : Nat) (s : State) : exec (.copyChannelEnableWrite who channel value) s = execCopyChannelEnableWrite who channel value s := rfl
@[simp] theorem exec_copyChannelDisableComplete (channel : Nat) (s : State) : exec (.copyChannelDisableComplete channel) s = execCopyChannelDisableComplete channel s := rfl
@[simp] theorem exec_gpuJobSubmit (who : Init) (partition queue address : Nat) (s : State) : exec (.gpuJobSubmit who partition queue address) s = execGpuJobSubmit who partition queue address s := rfl
@[simp] theorem exec_gpuJobStart (partition queue : Nat) (s : State) : exec (.gpuJobStart partition queue) s = execGpuJobStart partition queue s := rfl
@[simp] theorem exec_gpuJobComplete (partition queue : Nat) (s : State) : exec (.gpuJobComplete partition queue) s = execGpuJobComplete partition queue s := rfl
@[simp] theorem exec_gpuJobHalt (partition queue : Nat) (s : State) : exec (.gpuJobHalt partition queue) s = execGpuJobHalt partition queue s := rfl
@[simp] theorem exec_budgetOverrun (partition : Nat) (s : State) : exec (.budgetOverrun partition) s = execBudgetOverrun partition s := rfl
@[simp] theorem exec_nop (partition queue : Nat) (s : State) : exec (.nop partition queue) s = execNop partition queue s := rfl
@[simp] theorem exec_setPipeline (partition queue : Nat) (s : State) : exec (.setPipeline partition queue) s = execSetPipeline partition queue s := rfl
@[simp] theorem exec_setState (partition queue : Nat) (s : State) : exec (.setState partition queue) s = execSetState partition queue s := rfl
@[simp] theorem exec_call (partition queue : Nat) (s : State) : exec (.call partition queue) s = execCall partition queue s := rfl
@[simp] theorem exec_draw (partition queue : Nat) (s : State) : exec (.draw partition queue) s = execDraw partition queue s := rfl
@[simp] theorem exec_drawIndexed (partition queue : Nat) (s : State) : exec (.drawIndexed partition queue) s = execDrawIndexed partition queue s := rfl
@[simp] theorem exec_drawIndirect (partition queue : Nat) (s : State) : exec (.drawIndirect partition queue) s = execDrawIndirect partition queue s := rfl
@[simp] theorem exec_dispatch (partition queue : Nat) (s : State) : exec (.dispatch partition queue) s = execDispatch partition queue s := rfl
@[simp] theorem exec_dispatchIndirect (partition queue : Nat) (s : State) : exec (.dispatchIndirect partition queue) s = execDispatchIndirect partition queue s := rfl
@[simp] theorem exec_bandBegin (partition queue : Nat) (s : State) : exec (.bandBegin partition queue) s = execBandBegin partition queue s := rfl
@[simp] theorem exec_bandEnd (partition queue : Nat) (s : State) : exec (.bandEnd partition queue) s = execBandEnd partition queue s := rfl
@[simp] theorem exec_bandWritebackDone (partition queue : Nat) (s : State) : exec (.bandWritebackDone partition queue) s = execBandWritebackDone partition queue s := rfl
@[simp] theorem exec_copy (partition queue : Nat) (s : State) : exec (.copy partition queue) s = execCopy partition queue s := rfl
@[simp] theorem exec_fenceWrite (partition queue : Nat) (s : State) : exec (.fenceWrite partition queue) s = execFenceWrite partition queue s := rfl
@[simp] theorem exec_fenceWait (partition queue : Nat) (s : State) : exec (.fenceWait partition queue) s = execFenceWait partition queue s := rfl
@[simp] theorem exec_fenceWaitSatisfied (partition queue : Nat) (s : State) : exec (.fenceWaitSatisfied partition queue) s = execFenceWaitSatisfied partition queue s := rfl
@[simp] theorem exec_fenceWaitTimeout (partition queue : Nat) (s : State) : exec (.fenceWaitTimeout partition queue) s = execFenceWaitTimeout partition queue s := rfl
@[simp] theorem exec_beadArm (partition queue : Nat) (s : State) : exec (.beadArm partition queue) s = execBeadArm partition queue s := rfl
@[simp] theorem exec_rodWait (partition queue : Nat) (s : State) : exec (.rodWait partition queue) s = execRodWait partition queue s := rfl
@[simp] theorem exec_rodWaitSatisfied (partition queue : Nat) (s : State) : exec (.rodWaitSatisfied partition queue) s = execRodWaitSatisfied partition queue s := rfl
@[simp] theorem exec_rodWaitTimeout (partition queue : Nat) (s : State) : exec (.rodWaitTimeout partition queue) s = execRodWaitTimeout partition queue s := rfl
@[simp] theorem exec_timestamp (partition queue : Nat) (s : State) : exec (.timestamp partition queue) s = execTimestamp partition queue s := rfl
@[simp] theorem exec_gpuCoreFault (failed : FailedCore) (s : State) : exec (.gpuCoreFault failed) s = execGpuCoreFault failed s := rfl
@[simp] theorem exec_gpuCoreResetDone (core : Nat) (s : State) : exec (.gpuCoreResetDone core) s = execGpuCoreResetDone core s := rfl
@[simp] theorem exec_coreLeavingDrained (core : Nat) (s : State) : exec (.coreLeavingDrained core) s = execCoreLeavingDrained core s := rfl
@[simp] theorem exec_reshapePoint (partition : Nat) (s : State) : exec (.reshapePoint partition) s = execReshapePoint partition s := rfl
@[simp] theorem exec_gpuQueueEnableWrite (who : Init) (partition queue value : Nat) (s : State) : exec (.gpuQueueEnableWrite who partition queue value) s = execGpuQueueEnableWrite who partition queue value s := rfl
@[simp] theorem exec_disableGraceExpiry (partition queue : Nat) (s : State) : exec (.disableGraceExpiry partition queue) s = execDisableGraceExpiry partition queue s := rfl
@[simp] theorem exec_gpuQueueDisableComplete (partition queue : Nat) (s : State) : exec (.gpuQueueDisableComplete partition queue) s = execGpuQueueDisableComplete partition queue s := rfl
@[simp] theorem exec_preemptionComplete (partition : Nat) (s : State) : exec (.preemptionComplete partition) s = execPreemptionComplete partition s := rfl
@[simp] theorem exec_preemptionHoldEnd (partition : Nat) (s : State) : exec (.preemptionHoldEnd partition) s = execPreemptionHoldEnd partition s := rfl
@[simp] theorem exec_pipelineCreateSubmit (who : Init) (address : Nat) (s : State) : exec (.pipelineCreateSubmit who address) s = execPipelineCreateSubmit who address s := rfl
@[simp] theorem exec_compilationStart (serviceCore : Nat) (s : State) : exec (.compilationStart serviceCore) s = execCompilationStart serviceCore s := rfl
@[simp] theorem exec_compilationComplete (serviceCore firstBytes secondBytes : Nat) (s : State) : exec (.compilationComplete serviceCore firstBytes secondBytes) s = execCompilationComplete serviceCore firstBytes secondBytes s := rfl
@[simp] theorem exec_pipelineDestroy (who : Init) (handle : Nat) (s : State) : exec (.pipelineDestroy who handle) s = execPipelineDestroy who handle s := rfl
@[simp] theorem exec_serviceCoreFault (serviceCore : Nat) (s : State) : exec (.serviceCoreFault serviceCore) s = execServiceCoreFault serviceCore s := rfl
@[simp] theorem exec_scanComplete (panel : Nat) (found : Scanned) (s : State) : exec (.scanComplete panel found) s = execScanComplete panel found s := rfl
@[simp] theorem exec_longRestExpiry (panel identity : Nat) (s : State) : exec (.longRestExpiry panel identity) s = execLongRestExpiry panel identity s := rfl
@[simp] theorem exec_touchIdleExpiry (panel : Nat) (s : State) : exec (.touchIdleExpiry panel) s = execTouchIdleExpiry panel s := rfl
@[simp] theorem exec_rebaseline (who : Init) (panel : Nat) (s : State) : exec (.rebaseline who panel) s = execRebaseline who panel s := rfl
@[simp] theorem exec_recalibrate (who : Init) (panel : Nat) (s : State) : exec (.recalibrate who panel) s = execRecalibrate who panel s := rfl
@[simp] theorem exec_saveReference (who : Init) (panel value : Nat) (s : State) : exec (.saveReference who panel value) s = execSaveReference who panel value s := rfl
@[simp] theorem exec_panelEnableWrite (who : Init) (panel value : Nat) (s : State) : exec (.panelEnableWrite who panel value) s = execPanelEnableWrite who panel value s := rfl
@[simp] theorem exec_panelDisableComplete (panel : Nat) (s : State) : exec (.panelDisableComplete panel) s = execPanelDisableComplete panel s := rfl
@[simp] theorem exec_temperatureBandChange (degrees : Int) (s : State) : exec (.temperatureBandChange degrees) s = execTemperatureBandChange degrees s := rfl
@[simp] theorem exec_nodeMemoryFault (panel : Nat) (s : State) : exec (.nodeMemoryFault panel) s = execNodeMemoryFault panel s := rfl
@[simp] theorem exec_hapticTrigger (who : Init) (channel argument : Nat) (s : State) : exec (.hapticTrigger who channel argument) s = execHapticTrigger who channel argument s := rfl
@[simp] theorem exec_triggerTaken (channel : Nat) (s : State) : exec (.triggerTaken channel) s = execTriggerTaken channel s := rfl
@[simp] theorem exec_hapticLoopPeriod (channel : Nat) (currentMa voltageMv diDt : Int) (s : State) : exec (.hapticLoopPeriod channel currentMa voltageMv diDt) s = execHapticLoopPeriod channel currentMa voltageMv diDt s := rfl
@[simp] theorem exec_checkPhaseEnd (channel resistance forceFactor : Nat) (s : State) : exec (.checkPhaseEnd channel resistance forceFactor) s = execCheckPhaseEnd channel resistance forceFactor s := rfl
@[simp] theorem exec_driveEnd (channel resistance forceFactor : Nat) (s : State) : exec (.driveEnd channel resistance forceFactor) s = execDriveEnd channel resistance forceFactor s := rfl
@[simp] theorem exec_inDriveCheck (channel resistance forceFactor : Nat) (s : State) : exec (.inDriveCheck channel resistance forceFactor) s = execInDriveCheck channel resistance forceFactor s := rfl
@[simp] theorem exec_brakeEnd (channel : Nat) (s : State) : exec (.brakeEnd channel) s = execBrakeEnd channel s := rfl
@[simp] theorem exec_brakeTimeout (channel : Nat) (s : State) : exec (.brakeTimeout channel) s = execBrakeTimeout channel s := rfl
@[simp] theorem exec_bridgeTrip (channel : Nat) (overTemperature : Bool) (s : State) : exec (.bridgeTrip channel overTemperature) s = execBridgeTrip channel overTemperature s := rfl
@[simp] theorem exec_identify (who : Init) (channel : Nat) (s : State) : exec (.identify who channel) s = execIdentify who channel s := rfl
@[simp] theorem exec_identificationEnd (channel : Nat) (fit : Fit) (s : State) : exec (.identificationEnd channel fit) s = execIdentificationEnd channel fit s := rfl
@[simp] theorem exec_clearFault (who : Init) (channel value : Nat) (s : State) : exec (.clearFault who channel value) s = execClearFault who channel value s := rfl
@[simp] theorem exec_modelStateWrite (who : Init) (channel value : Nat) (s : State) : exec (.modelStateWrite who channel value) s = execModelStateWrite who channel value s := rfl
@[simp] theorem exec_hapticEnableWrite (who : Init) (channel value : Nat) (s : State) : exec (.hapticEnableWrite who channel value) s = execHapticEnableWrite who channel value s := rfl
@[simp] theorem exec_hapticDisableComplete (channel : Nat) (s : State) : exec (.hapticDisableComplete channel) s = execHapticDisableComplete channel s := rfl
@[simp] theorem exec_audioBlock (s : State) : exec (.audioBlock) s = execAudioBlock s := rfl
@[simp] theorem exec_lowLatencyBlock (s : State) : exec (.lowLatencyBlock) s = execLowLatencyBlock s := rfl
@[simp] theorem exec_inputRunWrite (who : Init) (input value : Nat) (s : State) : exec (.inputRunWrite who input value) s = execInputRunWrite who input value s := rfl
@[simp] theorem exec_writePositionWrite (who : Init) (input value : Nat) (s : State) : exec (.writePositionWrite who input value) s = execWritePositionWrite who input value s := rfl
@[simp] theorem exec_readPositionWrite (who : Init) (sink value : Nat) (s : State) : exec (.readPositionWrite who sink value) s = execReadPositionWrite who sink value s := rfl
@[simp] theorem exec_gainWrite (who : Init) (index sub : Nat) (data : List Byte) (s : State) : exec (.gainWrite who index sub data) s = execGainWrite who index sub data s := rfl
@[simp] theorem exec_gainStepTimeout (index sub : Nat) (s : State) : exec (.gainStepTimeout index sub) s = execGainStepTimeout index sub s := rfl
@[simp] theorem exec_stageSilenceHoldExpiry (sink : Nat) (s : State) : exec (.stageSilenceHoldExpiry sink) s = execStageSilenceHoldExpiry sink s := rfl
@[simp] theorem exec_speakerStageFault (sink : Nat) (s : State) : exec (.speakerStageFault sink) s = execSpeakerStageFault sink s := rfl
@[simp] theorem exec_stageRetryExpiry (sink : Nat) (s : State) : exec (.stageRetryExpiry sink) s = execStageRetryExpiry sink s := rfl
@[simp] theorem exec_headsetDetEdge (port : Nat) (present : Bool) (s : State) : exec (.headsetDetEdge port present) s = execHeadsetDetEdge port present s := rfl
@[simp] theorem exec_headsetDebounceExpiry (port : Nat) (s : State) : exec (.headsetDebounceExpiry port) s = execHeadsetDebounceExpiry port s := rfl
@[simp] theorem exec_headsetMeasurementComplete (port za zb : Nat) (s : State) : exec (.headsetMeasurementComplete port za zb) s = execHeadsetMeasurementComplete port za zb s := rfl
@[simp] theorem exec_headsetRemeasureExpiry (port : Nat) (s : State) : exec (.headsetRemeasureExpiry port) s = execHeadsetRemeasureExpiry port s := rfl
@[simp] theorem exec_headsetWatchTick (port za : Nat) (s : State) : exec (.headsetWatchTick port za) s = execHeadsetWatchTick port za s := rfl
@[simp] theorem exec_headsetPlugAbsentExpiry (port : Nat) (s : State) : exec (.headsetPlugAbsentExpiry port) s = execHeadsetPlugAbsentExpiry port s := rfl
@[simp] theorem exec_headsetButtonDebounce (port resistance : Nat) (s : State) : exec (.headsetButtonDebounce port resistance) s = execHeadsetButtonDebounce port resistance s := rfl
@[simp] theorem exec_audioUnitEnableWrite (who : Init) (index value : Nat) (s : State) : exec (.audioUnitEnableWrite who index value) s = execAudioUnitEnableWrite who index value s := rfl
@[simp] theorem exec_audioDisableComplete (index : Nat) (s : State) : exec (.audioDisableComplete index) s = execAudioDisableComplete index s := rfl
@[simp] theorem exec_sqTail (inst ring value : Nat) (s : State) : exec (.sqTail inst ring value) s = execSqTail inst ring value s := rfl
@[simp] theorem exec_cqHead (inst ring value : Nat) (s : State) : exec (.cqHead inst ring value) s = execCqHead inst ring value s := rfl
@[simp] theorem exec_ringNop (inst ring : Nat) (s : State) : exec (.ringNop inst ring) s = execRingNop inst ring s := rfl
@[simp] theorem exec_ringCompositionCommit (inst ring : Nat) (s : State) : exec (.ringCompositionCommit inst ring) s = execRingCompositionCommit inst ring s := rfl
@[simp] theorem exec_ringCopyJob (inst ring : Nat) (s : State) : exec (.ringCopyJob inst ring) s = execRingCopyJob inst ring s := rfl
@[simp] theorem exec_ringGpuJob (inst ring : Nat) (s : State) : exec (.ringGpuJob inst ring) s = execRingGpuJob inst ring s := rfl
@[simp] theorem exec_ringPipelineCreate (inst ring : Nat) (s : State) : exec (.ringPipelineCreate inst ring) s = execRingPipelineCreate inst ring s := rfl
@[simp] theorem exec_ringPipelineDestroy (inst ring : Nat) (s : State) : exec (.ringPipelineDestroy inst ring) s = execRingPipelineDestroy inst ring s := rfl
@[simp] theorem exec_ringBlockReadComplete (inst ring : Nat) (good : Bool) (s : State) : exec (.ringBlockReadComplete inst ring good) s = execRingBlockReadComplete inst ring good s := rfl
@[simp] theorem exec_ringHalt (inst ring : Nat) (s : State) : exec (.ringHalt inst ring) s = execRingHalt inst ring s := rfl
@[simp] theorem exec_ringEnableWrite (who : Init) (inst ring value : Nat) (s : State) : exec (.ringEnableWrite who inst ring value) s = execRingEnableWrite who inst ring value s := rfl
@[simp] theorem exec_ringDisableComplete (inst ring : Nat) (s : State) : exec (.ringDisableComplete inst ring) s = execRingDisableComplete inst ring s := rfl
@[simp] theorem exec_idleHint (inst value : Nat) (s : State) : exec (.idleHint inst value) s = execIdleHint inst value s := rfl
@[simp] theorem exec_timeLo (inst : Nat) (s : State) : exec (.timeLo inst) s = execTimeLo inst s := rfl
@[simp] theorem exec_ptmRequest (port turnaroundNs : Nat) (s : State) : exec (.ptmRequest port turnaroundNs) s = execPtmRequest port turnaroundNs s := rfl
@[simp] theorem exec_quiesce (who : Init) (inst : Nat) (s : State) : exec (.quiesce who inst) s = execQuiesce who inst s := rfl
@[simp] theorem exec_quiesceComplete (inst : Nat) (s : State) : exec (.quiesceComplete inst) s = execQuiesceComplete inst s := rfl
@[simp] theorem exec_resume (who : Init) (inst : Nat) (s : State) : exec (.resume who inst) s = execResume who inst s := rfl
@[simp] theorem exec_startDirtyLog (port function : Nat) (settings : DirtySettings) (s : State) : exec (.startDirtyLog port function settings) s = execStartDirtyLog port function settings s := rfl
@[simp] theorem exec_stopDirtyLog (port function : Nat) (s : State) : exec (.stopDirtyLog port function) s = execStopDirtyLog port function s := rfl
@[simp] theorem exec_harvest (port function : Nat) (s : State) : exec (.harvest port function) s = execHarvest port function s := rfl
@[simp] theorem exec_functionLevelReset (inst : Nat) (s : State) : exec (.functionLevelReset inst) s = execFunctionLevelReset inst s := rfl
@[simp] theorem exec_d3hotTransition (inst : Nat) (s : State) : exec (.d3hotTransition inst) s = execD3hotTransition inst s := rfl
@[simp] theorem exec_vfRemoval (port numVfs : Nat) (s : State) : exec (.vfRemoval port numVfs) s = execVfRemoval port numVfs s := rfl
@[simp] theorem exec_vfEnableSet (port numVfs : Nat) (s : State) : exec (.vfEnableSet port numVfs) s = execVfEnableSet port numVfs s := rfl
@[simp] theorem exec_linkUp (port speed width : Nat) (s : State) : exec (.linkUp port speed width) s = execLinkUp port speed width s := rfl
@[simp] theorem exec_linkDown (port : Nat) (s : State) : exec (.linkDown port) s = execLinkDown port s := rfl
@[simp] theorem exec_detachComplete (inst : Nat) (s : State) : exec (.detachComplete inst) s = execDetachComplete inst s := rfl
@[simp] theorem exec_instanceResetComplete (inst : Nat) (s : State) : exec (.instanceResetComplete inst) s = execInstanceResetComplete inst s := rfl
@[simp] theorem exec_linkRetrain (port : Nat) (s : State) : exec (.linkRetrain port) s = execLinkRetrain port s := rfl
@[simp] theorem exec_l1Entry (rest : LinkRest) (s : State) : exec (.l1Entry rest) s = execL1Entry rest s := rfl
@[simp] theorem exec_barReservedAccess (access : BarAccess) (s : State) : exec (.barReservedAccess access) s = execBarReservedAccess access s := rfl
@[simp] theorem exec_regionRecordWrite (who : Init) (index sub value : Nat) (s : State) : exec (.regionRecordWrite who index sub value) s = execRegionRecordWrite who index sub value s := rfl
@[simp] theorem exec_enclaveBuild (who : Init) (enclave : Nat) (s : State) : exec (.enclaveBuild who enclave) s = execEnclaveBuild who enclave s := rfl
@[simp] theorem exec_enclaveSeal (who : Init) (enclave : Nat) (s : State) : exec (.enclaveSeal who enclave) s = execEnclaveSeal who enclave s := rfl
@[simp] theorem exec_sealingComplete (enclave : Nat) (s : State) : exec (.sealingComplete enclave) s = execSealingComplete enclave s := rfl
@[simp] theorem exec_enclaveDestroy (who : Init) (enclave : Nat) (s : State) : exec (.enclaveDestroy who enclave) s = execEnclaveDestroy who enclave s := rfl
@[simp] theorem exec_destroyComplete (enclave : Nat) (s : State) : exec (.destroyComplete enclave) s = execDestroyComplete enclave s := rfl
@[simp] theorem exec_enclaveEnter (core enclave thread : Nat) (s : State) : exec (.enclaveEnter core enclave thread) s = execEnclaveEnter core enclave thread s := rfl
@[simp] theorem exec_enclaveExit (core : Nat) (made : ExitCall) (s : State) : exec (.enclaveExit core made) s = execEnclaveExit core made s := rfl
@[simp] theorem exec_enclaveResume (core enclave thread : Nat) (s : State) : exec (.enclaveResume core enclave thread) s = execEnclaveResume core enclave thread s := rfl
@[simp] theorem exec_enclaveInterrupt (core : Nat) (cause : EnclaveCause) (saved : List Nat) (s : State) : exec (.enclaveInterrupt core cause saved) s = execEnclaveInterrupt core cause saved s := rfl
@[simp] theorem exec_handoverRequest (who : Init) (word : Nat) (s : State) : exec (.handoverRequest who word) s = execHandoverRequest who word s := rfl
@[simp] theorem exec_handoverRelease (who : Init) (block : Nat) (s : State) : exec (.handoverRelease who block) s = execHandoverRelease who block s := rfl
@[simp] theorem exec_releaseTimeout (block : Nat) (s : State) : exec (.releaseTimeout block) s = execReleaseTimeout block s := rfl
@[simp] theorem exec_blockResetDone (block : Nat) (s : State) : exec (.blockResetDone block) s = execBlockResetDone block s := rfl
@[simp] theorem exec_forcedBlockReset (block : Nat) (s : State) : exec (.forcedBlockReset block) s = execForcedBlockReset block s := rfl
@[simp] theorem exec_run (who : Init) (block : Nat) (s : State) : exec (.run who block) s = execRun who block s := rfl
@[simp] theorem exec_stopClock (who : Init) (block : Nat) (s : State) : exec (.stopClock who block) s = execStopClock who block s := rfl
@[simp] theorem exec_powerOff (who : Init) (block : Nat) (s : State) : exec (.powerOff who block) s = execPowerOff who block s := rfl
@[simp] theorem exec_programKeySlot (who : Init) (data : List Byte) (s : State) : exec (.programKeySlot who data) s = execProgramKeySlot who data s := rfl
@[simp] theorem exec_revokeKeySlot (who : Init) (slot : Nat) (s : State) : exec (.revokeKeySlot who slot) s = execRevokeKeySlot who slot s := rfl
@[simp] theorem exec_retire (who : Init) (value : Nat) (s : State) : exec (.retire who value) s = execRetire who value s := rfl
@[simp] theorem exec_drawNonce (who : Init) (value : Nat) (s : State) : exec (.drawNonce who value) s = execDrawNonce who value s := rfl
@[simp] theorem exec_certificate (data : List Byte) (s : State) : exec (.certificate data) s = execCertificate data s := rfl
@[simp] theorem exec_certificateCheckComplete (s : State) : exec (.certificateCheckComplete) s = execCertificateCheckComplete s := rfl
@[simp] theorem exec_idcode (s : State) : exec (.idcode) s = execIdcode s := rfl
@[simp] theorem exec_uid (s : State) : exec (.uid) s = execUid s := rfl
@[simp] theorem exec_nonce (s : State) : exec (.nonce) s = execNonce s := rfl
@[simp] theorem exec_cert (data : List Byte) (s : State) : exec (.cert data) s = execCert data s := rfl
@[simp] theorem exec_status (s : State) : exec (.status) s = execStatus s := rfl
@[simp] theorem exec_bypass (s : State) : exec (.bypass) s = execBypass s := rfl
@[simp] theorem exec_extest (s : State) : exec (.extest) s = execExtest s := rfl
@[simp] theorem exec_samplePreload (s : State) : exec (.samplePreload) s = execSamplePreload s := rfl
@[simp] theorem exec_dmi (domain : Nat) (s : State) : exec (.dmi domain) s = execDmi domain s := rfl
@[simp] theorem exec_debugReq (s : State) : exec (.debugReq) s = execDebugReq s := rfl
@[simp] theorem exec_doorbell (who : Init) (page word : Nat) (s : State) : exec (.doorbell who page word) s = execDoorbell who page word s := rfl
@[simp] theorem exec_claim (core page : Nat) (s : State) : exec (.claim core page) s = execClaim core page s := rfl
@[simp] theorem exec_complete (core page source : Nat) (s : State) : exec (.complete core page source) s = execComplete core page source s := rfl
@[simp] theorem exec_thresholdWrite (core page value : Nat) (s : State) : exec (.thresholdWrite core page value) s = execThresholdWrite core page value s := rfl
@[simp] theorem exec_sourceEntryWrite (who : Init) (source value : Nat) (s : State) : exec (.sourceEntryWrite who source value) s = execSourceEntryWrite who source value s := rfl
@[simp] theorem exec_moderationTimerExpiry (owner cls : Nat) (s : State) : exec (.moderationTimerExpiry owner cls) s = execModerationTimerExpiry owner cls s := rfl
@[simp] theorem exec_coreWfi (core : Nat) (s : State) : exec (.coreWfi core) s = execCoreWfi core s := rfl
@[simp] theorem exec_msixWriteIssue (inst vector : Nat) (s : State) : exec (.msixWriteIssue inst vector) s = execMsixWriteIssue inst vector s := rfl
@[simp] theorem exec_msixMaskWrite (inst : Nat) (sel : MaskSel) (masked : Bool) (s : State) : exec (.msixMaskWrite inst sel masked) s = execMsixMaskWrite inst sel masked s := rfl
@[simp] theorem exec_edgeLatchSet (pin : Nat) (rising : Bool) (s : State) : exec (.edgeLatchSet pin rising) s = execEdgeLatchSet pin rising s := rfl
@[simp] theorem exec_edgeLatchPost (pin : Nat) (s : State) : exec (.edgeLatchPost pin) s = execEdgeLatchPost pin s := rfl
@[simp] theorem exec_requestPromotion (request : WaitingRequest) (s : State) : exec (.requestPromotion request) s = execRequestPromotion request s := rfl
@[simp] theorem exec_bankSkewWindow (channel transfers busiestBank busiestCount region : Nat) (s : State) : exec (.bankSkewWindow channel transfers busiestBank busiestCount region) s = execBankSkewWindow channel transfers busiestBank busiestCount region s := rfl
@[simp] theorem exec_modeRegister4Read (rank field : Nat) (limitExceeded : Bool) (s : State) : exec (.modeRegister4Read rank field limitExceeded) s = execModeRegister4Read rank field limitExceeded s := rfl
@[simp] theorem exec_commandPathCheck (rank : Nat) (mismatch again : Bool) (s : State) : exec (.commandPathCheck rank mismatch again) s = execCommandPathCheck rank mismatch again s := rfl
@[simp] theorem exec_takeOutOfService (who : Init) (rank value : Nat) (s : State) : exec (.takeOutOfService who rank value) s = execTakeOutOfService who rank value s := rfl
@[simp] theorem exec_carryCopyComplete (s : State) : exec (.carryCopyComplete) s = execCarryCopyComplete s := rfl
@[simp] theorem exec_carryDrainComplete (s : State) : exec (.carryDrainComplete) s = execCarryDrainComplete s := rfl
@[simp] theorem exec_remap (who : Init) (region value : Nat) (s : State) : exec (.remap who region value) s = execRemap who region value s := rfl
@[simp] theorem exec_remapBlockDone (s : State) : exec (.remapBlockDone) s = execRemapBlockDone s := rfl
@[simp] theorem exec_wayMaskWrite (who : Init) (partition value : Nat) (s : State) : exec (.wayMaskWrite who partition value) s = execWayMaskWrite who partition value s := rfl
@[simp] theorem exec_wayWritebackComplete (partition : Nat) (s : State) : exec (.wayWritebackComplete partition) s = execWayWritebackComplete partition s := rfl
@[simp] theorem exec_lockWrite (who : Init) (partition value : Nat) (s : State) : exec (.lockWrite who partition value) s = execLockWrite who partition value s := rfl
@[simp] theorem exec_dramReadComplete (owner address : Nat) (merge : Option (List Byte)) (s : State) : exec (.dramReadComplete owner address merge) s = execDramReadComplete owner address merge s := rfl
@[simp] theorem exec_scrubBurst (s : State) : exec (.scrubBurst) s = execScrubBurst s := rfl
@[simp] theorem exec_lapLimitExpiry (s : State) : exec (.lapLimitExpiry) s = execLapLimitExpiry s := rfl
@[simp] theorem exec_sramError (word : SramWord) (s : State) : exec (.sramError word) s = execSramError word s := rfl
@[simp] theorem exec_clearRetiredList (who : Init) (value : Nat) (s : State) : exec (.clearRetiredList who value) s = execClearRetiredList who value s := rfl
@[simp] theorem exec_catalogueLoad (who : Init) (engine code : Nat) (s : State) : exec (.catalogueLoad who engine code) s = execCatalogueLoad who engine code s := rfl
@[simp] theorem exec_selfCheck (who : Init) (engine value : Nat) (s : State) : exec (.selfCheck who engine value) s = execSelfCheck who engine value s := rfl
@[simp] theorem exec_streamOpen (who : Init) (engine : Nat) (s : State) : exec (.streamOpen who engine) s = execStreamOpen who engine s := rfl
@[simp] theorem exec_streamClose (who : Init) (engine : Nat) (s : State) : exec (.streamClose who engine) s = execStreamClose who engine s := rfl
@[simp] theorem exec_streamAbort (who : Init) (engine : Nat) (s : State) : exec (.streamAbort who engine) s = execStreamAbort who engine s := rfl
@[simp] theorem exec_feedWord (who : Init) (engine value : Nat) (s : State) : exec (.feedWord who engine value) s = execFeedWord who engine value s := rfl
@[simp] theorem exec_feedEnd (engine : Nat) (s : State) : exec (.feedEnd engine) s = execFeedEnd engine s := rfl
@[simp] theorem exec_feedHalt (engine : Nat) (s : State) : exec (.feedHalt engine) s = execFeedHalt engine s := rfl
@[simp] theorem exec_directData (who : Init) (engine : Nat) (data : List Byte) (s : State) : exec (.directData who engine data) s = execDirectData who engine data s := rfl
@[simp] theorem exec_ninesEnableWrite (who : Init) (engine value : Nat) (s : State) : exec (.ninesEnableWrite who engine value) s = execNinesEnableWrite who engine value s := rfl
@[simp] theorem exec_ninesDisableComplete (engine : Nat) (s : State) : exec (.ninesDisableComplete engine) s = execNinesDisableComplete engine s := rfl
@[simp] theorem exec_recordCommit (s : State) : exec (.recordCommit) s = execRecordCommit s := rfl
@[simp] theorem exec_logClear (who : Init) (value : Nat) (s : State) : exec (.logClear who value) s = execLogClear who value s := rfl
@[simp] theorem exec_postEvent (who : Init) (data : List Byte) (s : State) : exec (.postEvent who data) s = execPostEvent who data s := rfl
@[simp] theorem exec_bucketRefill (cls : Nat) (s : State) : exec (.bucketRefill cls) s = execBucketRefill cls s := rfl
@[simp] theorem exec_pixelPipeFault (output : Nat) (s : State) : exec (.pixelPipeFault output) s = execPixelPipeFault output s := rfl
@[simp] theorem exec_lockstepMismatch (s : State) : exec (.lockstepMismatch) s = execLockstepMismatch s := rfl
@[simp] theorem exec_islandWatchdogExpiry (s : State) : exec (.islandWatchdogExpiry) s = execIslandWatchdogExpiry s := rfl
@[simp] theorem exec_islandSwitch (who : Init) (value : Nat) (s : State) : exec (.islandSwitch who value) s = execIslandSwitch who value s := rfl
@[simp] theorem exec_islandRestartComplete (s : State) : exec (.islandRestartComplete) s = execIslandRestartComplete s := rfl
@[simp] theorem exec_pairSelfTestComplete (pair : Nat) (passed : Bool) (s : State) : exec (.pairSelfTestComplete pair passed) s = execPairSelfTestComplete pair passed s := rfl
@[simp] theorem exec_watchdogKick (who : Init) (watchdog value : Nat) (s : State) : exec (.watchdogKick who watchdog value) s = execWatchdogKick who watchdog value s := rfl
@[simp] theorem exec_ownerWatchdogExpiry (watchdog : Nat) (s : State) : exec (.ownerWatchdogExpiry watchdog) s = execOwnerWatchdogExpiry watchdog s := rfl
@[simp] theorem exec_courierHeartbeatTimer (s : State) : exec (.courierHeartbeatTimer) s = execCourierHeartbeatTimer s := rfl
@[simp] theorem exec_heartbeatFrame (frame : List Byte) (s : State) : exec (.heartbeatFrame frame) s = execHeartbeatFrame frame s := rfl
@[simp] theorem exec_mirrorFrame (frame : List Byte) (s : State) : exec (.mirrorFrame frame) s = execMirrorFrame frame s := rfl
@[simp] theorem exec_mirrorTimer (s : State) : exec (.mirrorTimer) s = execMirrorTimer s := rfl
@[simp] theorem exec_rodMarkFrame (frame : List Byte) (s : State) : exec (.rodMarkFrame frame) s = execRodMarkFrame frame s := rfl
@[simp] theorem exec_probeTimer (s : State) : exec (.probeTimer) s = execProbeTimer s := rfl
@[simp] theorem exec_probeFrame (frame : List Byte) (turnaround : Nat) (s : State) : exec (.probeFrame frame turnaround) s = execProbeFrame frame turnaround s := rfl
@[simp] theorem exec_echoFrame (frame : List Byte) (roundTripNs : Nat) (s : State) : exec (.echoFrame frame roundTripNs) s = execEchoFrame frame roundTripNs s := rfl
@[simp] theorem exec_courierBlockLock (s : State) : exec (.courierBlockLock) s = execCourierBlockLock s := rfl
@[simp] theorem exec_courierSilenceTimeout (s : State) : exec (.courierSilenceTimeout) s = execCourierSilenceTimeout s := rfl
@[simp] theorem exec_takeoverExpiry (output : Nat) (s : State) : exec (.takeoverExpiry output) s = execTakeoverExpiry output s := rfl
@[simp] theorem exec_returnDelayExpiry (output : Nat) (s : State) : exec (.returnDelayExpiry output) s = execReturnDelayExpiry output s := rfl
@[simp] theorem exec_powerOn (s : State) : exec (.powerOn) s = execPowerOn s := rfl
@[simp] theorem exec_resetNLow (s : State) : exec (.resetNLow) s = execResetNLow s := rfl
@[simp] theorem exec_internalResetRelease (nodeStraps pairRole bootSel : Nat) (s : State) : exec (.internalResetRelease nodeStraps pairRole bootSel) s = execInternalResetRelease nodeStraps pairRole bootSel s := rfl
@[simp] theorem exec_softwareReset (who : Init) (value : Nat) (s : State) : exec (.softwareReset who value) s = execSoftwareReset who value s := rfl
@[simp] theorem exec_brownOut (s : State) : exec (.brownOut) s = execBrownOut s := rfl
@[simp] theorem exec_dramTrainingComplete (timeMs : Nat) (s : State) : exec (.dramTrainingComplete timeMs) s = execDramTrainingComplete timeMs s := rfl
@[simp] theorem exec_verifyingComplete (s : State) : exec (.verifyingComplete) s = execVerifyingComplete s := rfl
@[simp] theorem exec_updateActivate (who : Init) (s : State) : exec (.updateActivate who) s = execUpdateActivate who s := rfl
@[simp] theorem exec_updateAbandon (who : Init) (s : State) : exec (.updateAbandon who) s = execUpdateAbandon who s := rfl
@[simp] theorem exec_updateCommit (who : Init) (s : State) : exec (.updateCommit who) s = execUpdateCommit who s := rfl
@[simp] theorem exec_loadingComplete (s : State) : exec (.loadingComplete) s = execLoadingComplete s := rfl
@[simp] theorem exec_trialTimeExpiry (s : State) : exec (.trialTimeExpiry) s = execTrialTimeExpiry s := rfl
@[simp] theorem exec_thermalStepDown (logicTenths analogTenths : Int) (dramHot : Bool) (s : State) : exec (.thermalStepDown logicTenths analogTenths dramHot) s = execThermalStepDown logicTenths analogTenths dramHot s := rfl
@[simp] theorem exec_thermalReturnExpiry (s : State) : exec (.thermalReturnExpiry) s = execThermalReturnExpiry s := rfl
@[simp] theorem exec_thermalShutdown (s : State) : exec (.thermalShutdown) s = execThermalShutdown s := rfl
@[simp] theorem exec_vinThresholdEvent (millivolts : Nat) (s : State) : exec (.vinThresholdEvent millivolts) s = execVinThresholdEvent millivolts s := rfl
@[simp] theorem exec_canPortStateChange (port value : Nat) (s : State) : exec (.canPortStateChange port value) s = execCanPortStateChange port value s := rfl
@[simp] theorem exec_tpdoInhibitExpiry (pdo : Nat) (s : State) : exec (.tpdoInhibitExpiry pdo) s = execTpdoInhibitExpiry pdo s := rfl
@[simp] theorem exec_perstDeassertion (port : Nat) (s : State) : exec (.perstDeassertion port) s = execPerstDeassertion port s := rfl
@[simp] theorem exec_d0Transition (inst : Nat) (s : State) : exec (.d0Transition inst) s = execD0Transition inst s := rfl

/-- A request that nobody serves changes nothing. -/
theorem actServed_eq (f : Dev → Dev) (s : State) : actServed f s = act (fun d => if d.serving then f d else d) s := rfl
theorem actAwake_eq (f : Dev → Dev) (s : State) : actAwake f s = act (fun d => if d.awake then f d else d) s := rfl

/-- A meaning acts while the logic runs. -/
def Acts (i : Instr) : Prop := i.alwaysOn = false ∧ ∃ f : Dev → Dev, ∀ s, exec i s = act f s

/-- A meaning belongs to the always-on domain. -/
def ActsAlways (i : Instr) : Prop := i.alwaysOn = true ∧ ∃ f : Dev → Dev, ∀ s, exec i s = actAlways f s

theorem acts_of {i : Instr} {f : Dev → Dev} {g : State → Host.Outcome State Fault Refusal} (h : i.alwaysOn = false)
    (he : ∀ s, exec i s = g s) (hg : ∀ s, g s = act f s) : Acts i ∨ ActsAlways i :=
  .inl ⟨h, f, fun s => (he s).trans (hg s)⟩

theorem acts_served {i : Instr} {f : Dev → Dev} {g : State → Host.Outcome State Fault Refusal} (h : i.alwaysOn = false)
    (he : ∀ s, exec i s = g s) (hg : ∀ s, g s = actServed f s) : Acts i ∨ ActsAlways i :=
  .inl ⟨h, _, fun s => (he s).trans ((hg s).trans (actServed_eq f s))⟩

theorem acts_always {i : Instr} {f : Dev → Dev} {g : State → Host.Outcome State Fault Refusal} (h : i.alwaysOn = true)
    (he : ∀ s, exec i s = g s) (hg : ∀ s, g s = actAlways f s) : Acts i ∨ ActsAlways i :=
  .inr ⟨h, f, fun s => (he s).trans (hg s)⟩

theorem onAudio_eq (f : Dev → Dev) (s : State) : onAudio f s = act (fun d => if d.awake && d.domainRuns 15 then f d else d) s := rfl

theorem acts_audio {i : Instr} {f : Dev → Dev} {g : State → Host.Outcome State Fault Refusal} (h : i.alwaysOn = false)
    (he : ∀ s, exec i s = g s) (hg : ∀ s, g s = onAudio f s) : Acts i ∨ ActsAlways i :=
  .inl ⟨h, _, fun s => (he s).trans ((hg s).trans (onAudio_eq f s))⟩

theorem acts_awake {i : Instr} {f : Dev → Dev} {g : State → Host.Outcome State Fault Refusal} (h : i.alwaysOn = false)
    (he : ∀ s, exec i s = g s) (hg : ∀ s, g s = actAwake f s) : Acts i ∨ ActsAlways i :=
  .inl ⟨h, _, fun s => (he s).trans ((hg s).trans (actAwake_eq f s))⟩

theorem onEngine_eq (who : Init) (n j : Nat) (data : List Byte) (f : Dev → Verdict) (s : State) :
    onEngine who n j data f s = actServed (onUnit n 8 (fun d => d.request who (ninesIndex n) j data f)) s := rfl
theorem enclaveCommand_eq (who : Init) (e v : Nat) (s : State) : enclaveCommand who e v s = actServed (fun d =>
    if 1 ≤ e && e ≤ 31 then d.request who (enclaveIndex e) 2 [BitVec.ofNat 8 v] (enclaveVerdict e v) else d) s := rfl

theorem form_rodAdvanceLine (rod late : Nat) : Acts (.rodAdvanceLine rod late) ∨ ActsAlways (.rodAdvanceLine rod late) :=
  acts_of rfl (exec_rodAdvanceLine rod late) (fun _ => rfl)
theorem form_syncOutRelease (ball : Nat) : Acts (.syncOutRelease ball) ∨ ActsAlways (.syncOutRelease ball) :=
  acts_of rfl (exec_syncOutRelease ball) (fun _ => rfl)
theorem form_freeRunWrite (who : Init) (rod value : Nat) : Acts (.freeRunWrite who rod value) ∨ ActsAlways (.freeRunWrite who rod value) :=
  acts_served rfl (exec_freeRunWrite who rod value) (fun _ => rfl)
theorem form_freeRodTimingWrite (who : Init) (rod sub value : Nat) : Acts (.freeRodTimingWrite who rod sub value) ∨ ActsAlways (.freeRodTimingWrite who rod sub value) :=
  acts_served rfl (exec_freeRodTimingWrite who rod sub value) (fun _ => rfl)
theorem form_lockSourceWrite (who : Init) (rod value : Nat) : Acts (.lockSourceWrite who rod value) ∨ ActsAlways (.lockSourceWrite who rod value) :=
  acts_served rfl (exec_lockSourceWrite who rod value) (fun _ => rfl)
theorem form_lockReferenceEvent (rod : Nat) (phaseNs trimNeeded : Int) : Acts (.lockReferenceEvent rod phaseNs trimNeeded) ∨ ActsAlways (.lockReferenceEvent rod phaseNs trimNeeded) :=
  acts_of rfl (exec_lockReferenceEvent rod phaseNs trimNeeded) (fun _ => rfl)
theorem form_lockReferenceAbsent (rod : Nat) : Acts (.lockReferenceAbsent rod) ∨ ActsAlways (.lockReferenceAbsent rod) :=
  acts_of rfl (exec_lockReferenceAbsent rod) (fun _ => rfl)
theorem form_holdoverExpiry (rod : Nat) : Acts (.holdoverExpiry rod) ∨ ActsAlways (.holdoverExpiry rod) :=
  acts_of rfl (exec_holdoverExpiry rod) (fun _ => rfl)
theorem form_beadWordWrite (who : Init) (slot value : Nat) : Acts (.beadWordWrite who slot value) ∨ ActsAlways (.beadWordWrite who slot value) :=
  acts_served rfl (exec_beadWordWrite who slot value) (fun _ => rfl)
theorem form_actionWordWrite (who : Init) (slot value : Nat) : Acts (.actionWordWrite who slot value) ∨ ActsAlways (.actionWordWrite who slot value) :=
  acts_served rfl (exec_actionWordWrite who slot value) (fun _ => rfl)
theorem form_pixelPllLocked (output reachedHz : Nat) : Acts (.pixelPllLocked output reachedHz) ∨ ActsAlways (.pixelPllLocked output reachedHz) :=
  acts_of rfl (exec_pixelPllLocked output reachedHz) (fun _ => rfl)
theorem form_clockOffsetWrite (who : Init) (value : Int) : Acts (.clockOffsetWrite who value) ∨ ActsAlways (.clockOffsetWrite who value) :=
  acts_served rfl (exec_clockOffsetWrite who value) (fun _ => rfl)
theorem form_rateTrimWrite (who : Init) (value : Int) : Acts (.rateTrimWrite who value) ∨ ActsAlways (.rateTrimWrite who value) :=
  acts_served rfl (exec_rateTrimWrite who value) (fun _ => rfl)
theorem form_offsetSlewSpent : Acts (.offsetSlewSpent) ∨ ActsAlways (.offsetSlewSpent) :=
  acts_of rfl (exec_offsetSlewSpent) (fun _ => rfl)
theorem form_timeReceived (port days ms : Nat) : Acts (.timeReceived port days ms) ∨ ActsAlways (.timeReceived port days ms) :=
  acts_served rfl (exec_timeReceived port days ms) (fun _ => rfl)
theorem form_objectWrite (who : Init) (target : ObjTarget) (place : Nat) (data : List Byte) : Acts (.objectWrite who target place data) ∨ ActsAlways (.objectWrite who target place data) :=
  acts_served rfl (exec_objectWrite who target place data) (fun _ => rfl)
theorem form_windowRead (who : Init) (win index sub : Nat) : Acts (.windowRead who win index sub) ∨ ActsAlways (.windowRead who win index sub) :=
  acts_served rfl (exec_windowRead who win index sub) (fun _ => rfl)
theorem form_windowWrite (who : Init) (win index sub : Nat) : Acts (.windowWrite who win index sub) ∨ ActsAlways (.windowWrite who win index sub) :=
  acts_served rfl (exec_windowWrite who win index sub) (fun _ => rfl)
theorem form_windowDescribe (who : Init) (win index sub : Nat) : Acts (.windowDescribe who win index sub) ∨ ActsAlways (.windowDescribe who win index sub) :=
  acts_served rfl (exec_windowDescribe who win index sub) (fun _ => rfl)
theorem form_domainReadSegment (who : Init) (win index sub : Nat) : Acts (.domainReadSegment who win index sub) ∨ ActsAlways (.domainReadSegment who win index sub) :=
  acts_served rfl (exec_domainReadSegment who win index sub) (fun _ => rfl)
theorem form_domainWriteSegment (who : Init) (win index sub : Nat) : Acts (.domainWriteSegment who win index sub) ∨ ActsAlways (.domainWriteSegment who win index sub) :=
  acts_served rfl (exec_domainWriteSegment who win index sub) (fun _ => rfl)
theorem form_domainEnd (who : Init) (win index sub : Nat) : Acts (.domainEnd who win index sub) ∨ ActsAlways (.domainEnd who win index sub) :=
  acts_served rfl (exec_domainEnd who win index sub) (fun _ => rfl)
theorem form_domainAbort (who : Init) (win index sub : Nat) : Acts (.domainAbort who win index sub) ∨ ActsAlways (.domainAbort who win index sub) :=
  acts_served rfl (exec_domainAbort who win index sub) (fun _ => rfl)
theorem form_windowRegisterWrite (who : Init) (win offset : Nat) (data : List Byte) : Acts (.windowRegisterWrite who win offset data) ∨ ActsAlways (.windowRegisterWrite who win offset data) :=
  acts_of rfl (exec_windowRegisterWrite who win offset data) (fun _ => rfl)
theorem form_windowRequestEnd (win : Nat) : Acts (.windowRequestEnd win) ∨ ActsAlways (.windowRequestEnd win) :=
  acts_served rfl (exec_windowRequestEnd win) (fun _ => rfl)
theorem form_usdoDownload (port index sub : Nat) (data : List Byte) : Acts (.usdoDownload port index sub data) ∨ ActsAlways (.usdoDownload port index sub data) :=
  acts_served rfl (exec_usdoDownload port index sub data) (fun _ => rfl)
theorem form_usdoUpload (port index sub : Nat) : Acts (.usdoUpload port index sub) ∨ ActsAlways (.usdoUpload port index sub) :=
  acts_served rfl (exec_usdoUpload port index sub) (fun _ => rfl)
theorem form_rpdoReceived (port pdo : Nat) (data : List Byte) : Acts (.rpdoReceived port pdo data) ∨ ActsAlways (.rpdoReceived port pdo data) :=
  acts_served rfl (exec_rpdoReceived port pdo data) (fun _ => rfl)
theorem form_rpdoTimeout (pdo : Nat) : Acts (.rpdoTimeout pdo) ∨ ActsAlways (.rpdoTimeout pdo) :=
  acts_served rfl (exec_rpdoTimeout pdo) (fun _ => rfl)
theorem form_tpdoEventTimerExpiry (pdo : Nat) : Acts (.tpdoEventTimerExpiry pdo) ∨ ActsAlways (.tpdoEventTimerExpiry pdo) :=
  acts_served rfl (exec_tpdoEventTimerExpiry pdo) (fun _ => rfl)
theorem form_syncReceived (port : Nat) : Acts (.syncReceived port) ∨ ActsAlways (.syncReceived port) :=
  acts_served rfl (exec_syncReceived port) (fun _ => rfl)
theorem form_heartbeatProducerTimer : Acts (.heartbeatProducerTimer) ∨ ActsAlways (.heartbeatProducerTimer) :=
  acts_served rfl (exec_heartbeatProducerTimer) (fun _ => rfl)
theorem form_heartbeatReceived (port node : Nat) : Acts (.heartbeatReceived port node) ∨ ActsAlways (.heartbeatReceived port node) :=
  acts_served rfl (exec_heartbeatReceived port node) (fun _ => rfl)
theorem form_heartbeatConsumerTimeout (entry : Nat) : Acts (.heartbeatConsumerTimeout entry) ∨ ActsAlways (.heartbeatConsumerTimeout entry) :=
  acts_served rfl (exec_heartbeatConsumerTimeout entry) (fun _ => rfl)
theorem form_emcyInhibitExpiry : Acts (.emcyInhibitExpiry) ∨ ActsAlways (.emcyInhibitExpiry) :=
  acts_served rfl (exec_emcyInhibitExpiry) (fun _ => rfl)
theorem form_canReceiveOverrun (port : Nat) : Acts (.canReceiveOverrun port) ∨ ActsAlways (.canReceiveOverrun port) :=
  acts_served rfl (exec_canReceiveOverrun port) (fun _ => rfl)
theorem form_canBusOffRecovery (port : Nat) : Acts (.canBusOffRecovery port) ∨ ActsAlways (.canBusOffRecovery port) :=
  acts_served rfl (exec_canBusOffRecovery port) (fun _ => rfl)
theorem form_nmtStartRemoteNode (port node : Nat) : Acts (.nmtStartRemoteNode port node) ∨ ActsAlways (.nmtStartRemoteNode port node) :=
  acts_served rfl (exec_nmtStartRemoteNode port node) (fun _ => rfl)
theorem form_nmtStopRemoteNode (port node : Nat) : Acts (.nmtStopRemoteNode port node) ∨ ActsAlways (.nmtStopRemoteNode port node) :=
  acts_served rfl (exec_nmtStopRemoteNode port node) (fun _ => rfl)
theorem form_nmtEnterPreOperational (port node : Nat) : Acts (.nmtEnterPreOperational port node) ∨ ActsAlways (.nmtEnterPreOperational port node) :=
  acts_served rfl (exec_nmtEnterPreOperational port node) (fun _ => rfl)
theorem form_nmtResetNode (port node : Nat) : Acts (.nmtResetNode port node) ∨ ActsAlways (.nmtResetNode port node) :=
  acts_served rfl (exec_nmtResetNode port node) (fun _ => rfl)
theorem form_nmtResetCommunication (port node : Nat) : Acts (.nmtResetCommunication port node) ∨ ActsAlways (.nmtResetCommunication port node) :=
  acts_served rfl (exec_nmtResetCommunication port node) (fun _ => rfl)
theorem form_errorHistoryClear (who : Init) (value : Nat) : Acts (.errorHistoryClear who value) ∨ ActsAlways (.errorHistoryClear who value) :=
  acts_served rfl (exec_errorHistoryClear who value) (fun _ => rfl)
theorem form_storeParameters (who : Init) (sub value : Nat) : Acts (.storeParameters who sub value) ∨ ActsAlways (.storeParameters who sub value) :=
  acts_served rfl (exec_storeParameters who sub value) (fun _ => rfl)
theorem form_storeSaveComplete (confirmed : Bool) : Acts (.storeSaveComplete confirmed) ∨ ActsAlways (.storeSaveComplete confirmed) :=
  acts_of rfl (exec_storeSaveComplete confirmed) (fun _ => rfl)
theorem form_restoreDefaults (who : Init) (sub value : Nat) : Acts (.restoreDefaults who sub value) ∨ ActsAlways (.restoreDefaults who sub value) :=
  acts_served rfl (exec_restoreDefaults who sub value) (fun _ => rfl)
theorem form_profileRequest (who : Init) (value : Nat) : Acts (.profileRequest who value) ∨ ActsAlways (.profileRequest who value) :=
  acts_served rfl (exec_profileRequest who value) (fun _ => rfl)
theorem form_keepAliveRequest (who : Init) : Acts (.keepAliveRequest who) ∨ ActsAlways (.keepAliveRequest who) :=
  acts_served rfl (exec_keepAliveRequest who) (fun _ => rfl)
theorem form_keepAliveEntryComplete : Acts (.keepAliveEntryComplete) ∨ ActsAlways (.keepAliveEntryComplete) :=
  acts_of rfl (exec_keepAliveEntryComplete) (fun _ => rfl)
theorem form_keepAliveExit (cause : WakeCause) : Acts (.keepAliveExit cause) ∨ ActsAlways (.keepAliveExit cause) := by
  cases cause
  · exact acts_served rfl (exec_keepAliveExit _) (fun _ => rfl)
  · exact acts_of rfl (exec_keepAliveExit _) (f := fun d => if d.wakeLatched then d.wake else d) (fun _ => rfl)
  · rename_i panel
    exact acts_of rfl (exec_keepAliveExit _) (f := onUnit panel 8 (fun d =>
      if d.power.phase = .keepAlive ∧ d.panelOn panel ∧ (d.getO 0x3300 0x0F).testBit panel ∧ (d.panel panel).approach then
        d.leaveKeepAlive d.power.last
      else d)) (fun _ => rfl)
theorem form_sleepRequest (who : Init) : Acts (.sleepRequest who) ∨ ActsAlways (.sleepRequest who) :=
  acts_served rfl (exec_sleepRequest who) (fun _ => rfl)
theorem form_canWakePattern (port : Nat) : Acts (.canWakePattern port) ∨ ActsAlways (.canWakePattern port) :=
  acts_always rfl (exec_canWakePattern port) (fun _ => rfl)
theorem form_outputRequestedStateWrite (who : Init) (output value : Nat) : Acts (.outputRequestedStateWrite who output value) ∨ ActsAlways (.outputRequestedStateWrite who output value) :=
  acts_served rfl (exec_outputRequestedStateWrite who output value) (fun _ => rfl)
theorem form_outputDisableComplete (output : Nat) : Acts (.outputDisableComplete output) ∨ ActsAlways (.outputDisableComplete output) :=
  acts_of rfl (exec_outputDisableComplete output) (fun _ => rfl)
theorem form_timingApply (who : Init) (output value : Nat) : Acts (.timingApply who output value) ∨ ActsAlways (.timingApply who output value) :=
  acts_served rfl (exec_timingApply who output value) (fun _ => rfl)
theorem form_hpdDebouncedRise (output : Nat) : Acts (.hpdDebouncedRise output) ∨ ActsAlways (.hpdDebouncedRise output) :=
  acts_of rfl (exec_hpdDebouncedRise output) (fun _ => rfl)
theorem form_hpdDebouncedFall (output : Nat) : Acts (.hpdDebouncedFall output) ∨ ActsAlways (.hpdDebouncedFall output) :=
  acts_of rfl (exec_hpdDebouncedFall output) (fun _ => rfl)
theorem form_hpdIrq (output : Nat) (laneLost : Bool) : Acts (.hpdIrq output laneLost) ∨ ActsAlways (.hpdIrq output laneLost) :=
  acts_of rfl (exec_hpdIrq output laneLost) (fun _ => rfl)
theorem form_trainingPass (output dpcdRevision : Nat) : Acts (.trainingPass output dpcdRevision) ∨ ActsAlways (.trainingPass output dpcdRevision) :=
  acts_of rfl (exec_trainingPass output dpcdRevision) (fun _ => rfl)
theorem form_trainingFail (output cause : Nat) : Acts (.trainingFail output cause) ∨ ActsAlways (.trainingFail output cause) :=
  acts_of rfl (exec_trainingFail output cause) (fun _ => rfl)
theorem form_trainingTimeout (output : Nat) : Acts (.trainingTimeout output) ∨ ActsAlways (.trainingTimeout output) :=
  acts_of rfl (exec_trainingTimeout output) (fun _ => rfl)
theorem form_retryIntervalExpiry (output : Nat) : Acts (.retryIntervalExpiry output) ∨ ActsAlways (.retryIntervalExpiry output) :=
  acts_of rfl (exec_retryIntervalExpiry output) (fun _ => rfl)
theorem form_edidReadComplete (output : Nat) (edid : List Byte) : Acts (.edidReadComplete output edid) ∨ ActsAlways (.edidReadComplete output edid) :=
  acts_of rfl (exec_edidReadComplete output edid) (fun _ => rfl)
theorem form_auxRequest (who : Init) (output : Nat) (request : List Byte) : Acts (.auxRequest who output request) ∨ ActsAlways (.auxRequest who output request) :=
  acts_served rfl (exec_auxRequest who output request) (fun _ => rfl)
theorem form_auxTransactionEnd (output : Nat) (reply : List Byte) : Acts (.auxTransactionEnd output reply) ∨ ActsAlways (.auxTransactionEnd output reply) :=
  acts_of rfl (exec_auxTransactionEnd output reply) (fun _ => rfl)
theorem form_auxTimeout (output : Nat) : Acts (.auxTimeout output) ∨ ActsAlways (.auxTimeout output) :=
  acts_of rfl (exec_auxTimeout output) (fun _ => rfl)
theorem form_pixelUnderrun (late : LatePixels) : Acts (.pixelUnderrun late) ∨ ActsAlways (.pixelUnderrun late) :=
  acts_of rfl (exec_pixelUnderrun late) (fun _ => rfl)
theorem form_commitSubmit (who : Init) (output address : Nat) : Acts (.commitSubmit who output address) ∨ ActsAlways (.commitSubmit who output address) :=
  acts_served rfl (exec_commitSubmit who output address) (fun _ => rfl)
theorem form_reservationWrite (who : Init) (output value : Nat) : Acts (.reservationWrite who output value) ∨ ActsAlways (.reservationWrite who output value) :=
  acts_served rfl (exec_reservationWrite who output value) (fun _ => rfl)
theorem form_layerEnableWrite (who : Init) (layer value : Nat) : Acts (.layerEnableWrite who layer value) ∨ ActsAlways (.layerEnableWrite who layer value) :=
  acts_served rfl (exec_layerEnableWrite who layer value) (fun _ => rfl)
theorem form_layerFetchHalt (layer address : Nat) (uncorrectable : Bool) : Acts (.layerFetchHalt layer address uncorrectable) ∨ ActsAlways (.layerFetchHalt layer address uncorrectable) :=
  acts_of rfl (exec_layerFetchHalt layer address uncorrectable) (fun _ => rfl)
theorem form_checkedLineMismatch (layer line : Nat) : Acts (.checkedLineMismatch layer line) ∨ ActsAlways (.checkedLineMismatch layer line) :=
  acts_of rfl (exec_checkedLineMismatch layer line) (fun _ => rfl)
theorem form_copyJobSubmit (who : Init) (channel address : Nat) : Acts (.copyJobSubmit who channel address) ∨ ActsAlways (.copyJobSubmit who channel address) :=
  acts_served rfl (exec_copyJobSubmit who channel address) (fun _ => rfl)
theorem form_copyJobCopy (channel : Nat) : Acts (.copyJobCopy channel) ∨ ActsAlways (.copyJobCopy channel) :=
  acts_of rfl (exec_copyJobCopy channel) (fun _ => rfl)
theorem form_encode (channel : Nat) : Acts (.encode channel) ∨ ActsAlways (.encode channel) :=
  acts_of rfl (exec_encode channel) (fun _ => rfl)
theorem form_decode (channel : Nat) : Acts (.decode channel) ∨ ActsAlways (.decode channel) :=
  acts_of rfl (exec_decode channel) (fun _ => rfl)
theorem form_fill (channel : Nat) : Acts (.fill channel) ∨ ActsAlways (.fill channel) :=
  acts_of rfl (exec_fill channel) (fun _ => rfl)
theorem form_clear (channel : Nat) : Acts (.clear channel) ∨ ActsAlways (.clear channel) :=
  acts_of rfl (exec_clear channel) (fun _ => rfl)
theorem form_copyJobComplete (channel : Nat) : Acts (.copyJobComplete channel) ∨ ActsAlways (.copyJobComplete channel) :=
  acts_of rfl (exec_copyJobComplete channel) (fun _ => rfl)
theorem form_copyJobHalt (channel : Nat) : Acts (.copyJobHalt channel) ∨ ActsAlways (.copyJobHalt channel) :=
  acts_of rfl (exec_copyJobHalt channel) (fun _ => rfl)
theorem form_copyChannelEnableWrite (who : Init) (channel value : Nat) : Acts (.copyChannelEnableWrite who channel value) ∨ ActsAlways (.copyChannelEnableWrite who channel value) :=
  acts_served rfl (exec_copyChannelEnableWrite who channel value) (fun _ => rfl)
theorem form_copyChannelDisableComplete (channel : Nat) : Acts (.copyChannelDisableComplete channel) ∨ ActsAlways (.copyChannelDisableComplete channel) :=
  acts_of rfl (exec_copyChannelDisableComplete channel) (fun _ => rfl)
theorem form_gpuJobSubmit (who : Init) (partition queue address : Nat) : Acts (.gpuJobSubmit who partition queue address) ∨ ActsAlways (.gpuJobSubmit who partition queue address) :=
  acts_served rfl (exec_gpuJobSubmit who partition queue address) (fun _ => rfl)
theorem form_gpuJobStart (partition queue : Nat) : Acts (.gpuJobStart partition queue) ∨ ActsAlways (.gpuJobStart partition queue) :=
  acts_of rfl (exec_gpuJobStart partition queue) (fun _ => rfl)
theorem form_gpuJobComplete (partition queue : Nat) : Acts (.gpuJobComplete partition queue) ∨ ActsAlways (.gpuJobComplete partition queue) :=
  acts_of rfl (exec_gpuJobComplete partition queue) (fun _ => rfl)
theorem form_gpuJobHalt (partition queue : Nat) : Acts (.gpuJobHalt partition queue) ∨ ActsAlways (.gpuJobHalt partition queue) :=
  acts_of rfl (exec_gpuJobHalt partition queue) (fun _ => rfl)
theorem form_budgetOverrun (partition : Nat) : Acts (.budgetOverrun partition) ∨ ActsAlways (.budgetOverrun partition) :=
  acts_of rfl (exec_budgetOverrun partition) (fun _ => rfl)
theorem form_nop (partition queue : Nat) : Acts (.nop partition queue) ∨ ActsAlways (.nop partition queue) :=
  acts_of rfl (exec_nop partition queue) (fun _ => rfl)
theorem form_setPipeline (partition queue : Nat) : Acts (.setPipeline partition queue) ∨ ActsAlways (.setPipeline partition queue) :=
  acts_of rfl (exec_setPipeline partition queue) (fun _ => rfl)
theorem form_setState (partition queue : Nat) : Acts (.setState partition queue) ∨ ActsAlways (.setState partition queue) :=
  acts_of rfl (exec_setState partition queue) (fun _ => rfl)
theorem form_call (partition queue : Nat) : Acts (.call partition queue) ∨ ActsAlways (.call partition queue) :=
  acts_of rfl (exec_call partition queue) (fun _ => rfl)
theorem form_draw (partition queue : Nat) : Acts (.draw partition queue) ∨ ActsAlways (.draw partition queue) :=
  acts_of rfl (exec_draw partition queue) (fun _ => rfl)
theorem form_drawIndexed (partition queue : Nat) : Acts (.drawIndexed partition queue) ∨ ActsAlways (.drawIndexed partition queue) :=
  acts_of rfl (exec_drawIndexed partition queue) (fun _ => rfl)
theorem form_drawIndirect (partition queue : Nat) : Acts (.drawIndirect partition queue) ∨ ActsAlways (.drawIndirect partition queue) :=
  acts_of rfl (exec_drawIndirect partition queue) (fun _ => rfl)
theorem form_dispatch (partition queue : Nat) : Acts (.dispatch partition queue) ∨ ActsAlways (.dispatch partition queue) :=
  acts_of rfl (exec_dispatch partition queue) (fun _ => rfl)
theorem form_dispatchIndirect (partition queue : Nat) : Acts (.dispatchIndirect partition queue) ∨ ActsAlways (.dispatchIndirect partition queue) :=
  acts_of rfl (exec_dispatchIndirect partition queue) (fun _ => rfl)
theorem form_bandBegin (partition queue : Nat) : Acts (.bandBegin partition queue) ∨ ActsAlways (.bandBegin partition queue) :=
  acts_of rfl (exec_bandBegin partition queue) (fun _ => rfl)
theorem form_bandEnd (partition queue : Nat) : Acts (.bandEnd partition queue) ∨ ActsAlways (.bandEnd partition queue) :=
  acts_of rfl (exec_bandEnd partition queue) (fun _ => rfl)
theorem form_bandWritebackDone (partition queue : Nat) : Acts (.bandWritebackDone partition queue) ∨ ActsAlways (.bandWritebackDone partition queue) :=
  acts_of rfl (exec_bandWritebackDone partition queue) (fun _ => rfl)
theorem form_copy (partition queue : Nat) : Acts (.copy partition queue) ∨ ActsAlways (.copy partition queue) :=
  acts_of rfl (exec_copy partition queue) (fun _ => rfl)
theorem form_fenceWrite (partition queue : Nat) : Acts (.fenceWrite partition queue) ∨ ActsAlways (.fenceWrite partition queue) :=
  acts_of rfl (exec_fenceWrite partition queue) (fun _ => rfl)
theorem form_fenceWait (partition queue : Nat) : Acts (.fenceWait partition queue) ∨ ActsAlways (.fenceWait partition queue) :=
  acts_of rfl (exec_fenceWait partition queue) (fun _ => rfl)
theorem form_fenceWaitSatisfied (partition queue : Nat) : Acts (.fenceWaitSatisfied partition queue) ∨ ActsAlways (.fenceWaitSatisfied partition queue) :=
  acts_of rfl (exec_fenceWaitSatisfied partition queue) (fun _ => rfl)
theorem form_fenceWaitTimeout (partition queue : Nat) : Acts (.fenceWaitTimeout partition queue) ∨ ActsAlways (.fenceWaitTimeout partition queue) :=
  acts_of rfl (exec_fenceWaitTimeout partition queue) (fun _ => rfl)
theorem form_beadArm (partition queue : Nat) : Acts (.beadArm partition queue) ∨ ActsAlways (.beadArm partition queue) :=
  acts_of rfl (exec_beadArm partition queue) (fun _ => rfl)
theorem form_rodWait (partition queue : Nat) : Acts (.rodWait partition queue) ∨ ActsAlways (.rodWait partition queue) :=
  acts_of rfl (exec_rodWait partition queue) (fun _ => rfl)
theorem form_rodWaitSatisfied (partition queue : Nat) : Acts (.rodWaitSatisfied partition queue) ∨ ActsAlways (.rodWaitSatisfied partition queue) :=
  acts_of rfl (exec_rodWaitSatisfied partition queue) (fun _ => rfl)
theorem form_rodWaitTimeout (partition queue : Nat) : Acts (.rodWaitTimeout partition queue) ∨ ActsAlways (.rodWaitTimeout partition queue) :=
  acts_of rfl (exec_rodWaitTimeout partition queue) (fun _ => rfl)
theorem form_timestamp (partition queue : Nat) : Acts (.timestamp partition queue) ∨ ActsAlways (.timestamp partition queue) :=
  acts_of rfl (exec_timestamp partition queue) (fun _ => rfl)
theorem form_gpuCoreFault (failed : FailedCore) : Acts (.gpuCoreFault failed) ∨ ActsAlways (.gpuCoreFault failed) :=
  acts_awake rfl (exec_gpuCoreFault failed) (fun _ => rfl)
theorem form_gpuCoreResetDone (core : Nat) : Acts (.gpuCoreResetDone core) ∨ ActsAlways (.gpuCoreResetDone core) :=
  acts_awake rfl (exec_gpuCoreResetDone core) (fun _ => rfl)
theorem form_coreLeavingDrained (core : Nat) : Acts (.coreLeavingDrained core) ∨ ActsAlways (.coreLeavingDrained core) :=
  acts_of rfl (exec_coreLeavingDrained core) (fun _ => rfl)
theorem form_reshapePoint (partition : Nat) : Acts (.reshapePoint partition) ∨ ActsAlways (.reshapePoint partition) :=
  acts_of rfl (exec_reshapePoint partition) (fun _ => rfl)
theorem form_gpuQueueEnableWrite (who : Init) (partition queue value : Nat) : Acts (.gpuQueueEnableWrite who partition queue value) ∨ ActsAlways (.gpuQueueEnableWrite who partition queue value) :=
  acts_served rfl (exec_gpuQueueEnableWrite who partition queue value) (fun _ => rfl)
theorem form_disableGraceExpiry (partition queue : Nat) : Acts (.disableGraceExpiry partition queue) ∨ ActsAlways (.disableGraceExpiry partition queue) :=
  acts_of rfl (exec_disableGraceExpiry partition queue) (fun _ => rfl)
theorem form_gpuQueueDisableComplete (partition queue : Nat) : Acts (.gpuQueueDisableComplete partition queue) ∨ ActsAlways (.gpuQueueDisableComplete partition queue) :=
  acts_of rfl (exec_gpuQueueDisableComplete partition queue) (fun _ => rfl)
theorem form_preemptionComplete (partition : Nat) : Acts (.preemptionComplete partition) ∨ ActsAlways (.preemptionComplete partition) :=
  acts_of rfl (exec_preemptionComplete partition) (fun _ => rfl)
theorem form_preemptionHoldEnd (partition : Nat) : Acts (.preemptionHoldEnd partition) ∨ ActsAlways (.preemptionHoldEnd partition) :=
  acts_of rfl (exec_preemptionHoldEnd partition) (fun _ => rfl)
theorem form_pipelineCreateSubmit (who : Init) (address : Nat) : Acts (.pipelineCreateSubmit who address) ∨ ActsAlways (.pipelineCreateSubmit who address) :=
  acts_served rfl (exec_pipelineCreateSubmit who address) (fun _ => rfl)
theorem form_compilationStart (serviceCore : Nat) : Acts (.compilationStart serviceCore) ∨ ActsAlways (.compilationStart serviceCore) :=
  acts_awake rfl (exec_compilationStart serviceCore) (fun _ => rfl)
theorem form_compilationComplete (serviceCore firstBytes secondBytes : Nat) : Acts (.compilationComplete serviceCore firstBytes secondBytes) ∨ ActsAlways (.compilationComplete serviceCore firstBytes secondBytes) :=
  acts_awake rfl (exec_compilationComplete serviceCore firstBytes secondBytes) (fun _ => rfl)
theorem form_pipelineDestroy (who : Init) (handle : Nat) : Acts (.pipelineDestroy who handle) ∨ ActsAlways (.pipelineDestroy who handle) :=
  acts_served rfl (exec_pipelineDestroy who handle) (fun _ => rfl)
theorem form_serviceCoreFault (serviceCore : Nat) : Acts (.serviceCoreFault serviceCore) ∨ ActsAlways (.serviceCoreFault serviceCore) :=
  acts_awake rfl (exec_serviceCoreFault serviceCore) (fun _ => rfl)
theorem form_scanComplete (panel : Nat) (found : Scanned) : Acts (.scanComplete panel found) ∨ ActsAlways (.scanComplete panel found) :=
  acts_of rfl (exec_scanComplete panel found) (fun _ => rfl)
theorem form_longRestExpiry (panel identity : Nat) : Acts (.longRestExpiry panel identity) ∨ ActsAlways (.longRestExpiry panel identity) :=
  acts_of rfl (exec_longRestExpiry panel identity) (fun _ => rfl)
theorem form_touchIdleExpiry (panel : Nat) : Acts (.touchIdleExpiry panel) ∨ ActsAlways (.touchIdleExpiry panel) :=
  acts_of rfl (exec_touchIdleExpiry panel) (fun _ => rfl)
theorem form_rebaseline (who : Init) (panel : Nat) : Acts (.rebaseline who panel) ∨ ActsAlways (.rebaseline who panel) :=
  acts_served rfl (exec_rebaseline who panel) (fun _ => rfl)
theorem form_recalibrate (who : Init) (panel : Nat) : Acts (.recalibrate who panel) ∨ ActsAlways (.recalibrate who panel) :=
  acts_served rfl (exec_recalibrate who panel) (fun _ => rfl)
theorem form_saveReference (who : Init) (panel value : Nat) : Acts (.saveReference who panel value) ∨ ActsAlways (.saveReference who panel value) :=
  acts_served rfl (exec_saveReference who panel value) (fun _ => rfl)
theorem form_panelEnableWrite (who : Init) (panel value : Nat) : Acts (.panelEnableWrite who panel value) ∨ ActsAlways (.panelEnableWrite who panel value) :=
  acts_served rfl (exec_panelEnableWrite who panel value) (fun _ => rfl)
theorem form_panelDisableComplete (panel : Nat) : Acts (.panelDisableComplete panel) ∨ ActsAlways (.panelDisableComplete panel) :=
  acts_of rfl (exec_panelDisableComplete panel) (fun _ => rfl)
theorem form_temperatureBandChange (degrees : Int) : Acts (.temperatureBandChange degrees) ∨ ActsAlways (.temperatureBandChange degrees) :=
  acts_of rfl (exec_temperatureBandChange degrees) (fun _ => rfl)
theorem form_nodeMemoryFault (panel : Nat) : Acts (.nodeMemoryFault panel) ∨ ActsAlways (.nodeMemoryFault panel) :=
  acts_of rfl (exec_nodeMemoryFault panel) (fun _ => rfl)
theorem form_hapticTrigger (who : Init) (channel argument : Nat) : Acts (.hapticTrigger who channel argument) ∨ ActsAlways (.hapticTrigger who channel argument) :=
  acts_served rfl (exec_hapticTrigger who channel argument) (fun _ => rfl)
theorem form_triggerTaken (channel : Nat) : Acts (.triggerTaken channel) ∨ ActsAlways (.triggerTaken channel) :=
  acts_of rfl (exec_triggerTaken channel) (fun _ => rfl)
theorem form_hapticLoopPeriod (channel : Nat) (currentMa voltageMv diDt : Int) : Acts (.hapticLoopPeriod channel currentMa voltageMv diDt) ∨ ActsAlways (.hapticLoopPeriod channel currentMa voltageMv diDt) :=
  acts_of rfl (exec_hapticLoopPeriod channel currentMa voltageMv diDt) (fun _ => rfl)
theorem form_checkPhaseEnd (channel resistance forceFactor : Nat) : Acts (.checkPhaseEnd channel resistance forceFactor) ∨ ActsAlways (.checkPhaseEnd channel resistance forceFactor) :=
  acts_of rfl (exec_checkPhaseEnd channel resistance forceFactor) (fun _ => rfl)
theorem form_driveEnd (channel resistance forceFactor : Nat) : Acts (.driveEnd channel resistance forceFactor) ∨ ActsAlways (.driveEnd channel resistance forceFactor) :=
  acts_of rfl (exec_driveEnd channel resistance forceFactor) (fun _ => rfl)
theorem form_inDriveCheck (channel resistance forceFactor : Nat) : Acts (.inDriveCheck channel resistance forceFactor) ∨ ActsAlways (.inDriveCheck channel resistance forceFactor) :=
  acts_of rfl (exec_inDriveCheck channel resistance forceFactor) (fun _ => rfl)
theorem form_brakeEnd (channel : Nat) : Acts (.brakeEnd channel) ∨ ActsAlways (.brakeEnd channel) :=
  acts_of rfl (exec_brakeEnd channel) (fun _ => rfl)
theorem form_brakeTimeout (channel : Nat) : Acts (.brakeTimeout channel) ∨ ActsAlways (.brakeTimeout channel) :=
  acts_of rfl (exec_brakeTimeout channel) (fun _ => rfl)
theorem form_bridgeTrip (channel : Nat) (overTemperature : Bool) : Acts (.bridgeTrip channel overTemperature) ∨ ActsAlways (.bridgeTrip channel overTemperature) :=
  acts_of rfl (exec_bridgeTrip channel overTemperature) (fun _ => rfl)
theorem form_identify (who : Init) (channel : Nat) : Acts (.identify who channel) ∨ ActsAlways (.identify who channel) :=
  acts_served rfl (exec_identify who channel) (fun _ => rfl)
theorem form_identificationEnd (channel : Nat) (fit : Fit) : Acts (.identificationEnd channel fit) ∨ ActsAlways (.identificationEnd channel fit) :=
  acts_of rfl (exec_identificationEnd channel fit) (fun _ => rfl)
theorem form_clearFault (who : Init) (channel value : Nat) : Acts (.clearFault who channel value) ∨ ActsAlways (.clearFault who channel value) :=
  acts_served rfl (exec_clearFault who channel value) (fun _ => rfl)
theorem form_modelStateWrite (who : Init) (channel value : Nat) : Acts (.modelStateWrite who channel value) ∨ ActsAlways (.modelStateWrite who channel value) :=
  acts_served rfl (exec_modelStateWrite who channel value) (fun _ => rfl)
theorem form_hapticEnableWrite (who : Init) (channel value : Nat) : Acts (.hapticEnableWrite who channel value) ∨ ActsAlways (.hapticEnableWrite who channel value) :=
  acts_served rfl (exec_hapticEnableWrite who channel value) (fun _ => rfl)
theorem form_hapticDisableComplete (channel : Nat) : Acts (.hapticDisableComplete channel) ∨ ActsAlways (.hapticDisableComplete channel) :=
  acts_of rfl (exec_hapticDisableComplete channel) (fun _ => rfl)
theorem form_audioBlock : Acts (.audioBlock) ∨ ActsAlways (.audioBlock) :=
  acts_audio rfl (exec_audioBlock) (fun _ => rfl)
theorem form_lowLatencyBlock : Acts (.lowLatencyBlock) ∨ ActsAlways (.lowLatencyBlock) :=
  acts_audio rfl (exec_lowLatencyBlock) (fun _ => rfl)
theorem form_inputRunWrite (who : Init) (input value : Nat) : Acts (.inputRunWrite who input value) ∨ ActsAlways (.inputRunWrite who input value) :=
  acts_served rfl (exec_inputRunWrite who input value) (fun _ => rfl)
theorem form_writePositionWrite (who : Init) (input value : Nat) : Acts (.writePositionWrite who input value) ∨ ActsAlways (.writePositionWrite who input value) :=
  acts_served rfl (exec_writePositionWrite who input value) (fun _ => rfl)
theorem form_readPositionWrite (who : Init) (sink value : Nat) : Acts (.readPositionWrite who sink value) ∨ ActsAlways (.readPositionWrite who sink value) :=
  acts_served rfl (exec_readPositionWrite who sink value) (fun _ => rfl)
theorem form_gainWrite (who : Init) (index sub : Nat) (data : List Byte) : Acts (.gainWrite who index sub data) ∨ ActsAlways (.gainWrite who index sub data) :=
  acts_served rfl (exec_gainWrite who index sub data) (fun _ => rfl)
theorem form_gainStepTimeout (index sub : Nat) : Acts (.gainStepTimeout index sub) ∨ ActsAlways (.gainStepTimeout index sub) :=
  acts_audio rfl (exec_gainStepTimeout index sub) (fun _ => rfl)
theorem form_stageSilenceHoldExpiry (sink : Nat) : Acts (.stageSilenceHoldExpiry sink) ∨ ActsAlways (.stageSilenceHoldExpiry sink) :=
  acts_audio rfl (exec_stageSilenceHoldExpiry sink) (fun _ => rfl)
theorem form_speakerStageFault (sink : Nat) : Acts (.speakerStageFault sink) ∨ ActsAlways (.speakerStageFault sink) :=
  acts_audio rfl (exec_speakerStageFault sink) (fun _ => rfl)
theorem form_stageRetryExpiry (sink : Nat) : Acts (.stageRetryExpiry sink) ∨ ActsAlways (.stageRetryExpiry sink) :=
  acts_audio rfl (exec_stageRetryExpiry sink) (fun _ => rfl)
theorem form_headsetDetEdge (port : Nat) (present : Bool) : Acts (.headsetDetEdge port present) ∨ ActsAlways (.headsetDetEdge port present) :=
  acts_of rfl (exec_headsetDetEdge port present) (fun _ => rfl)
theorem form_headsetDebounceExpiry (port : Nat) : Acts (.headsetDebounceExpiry port) ∨ ActsAlways (.headsetDebounceExpiry port) :=
  acts_audio rfl (exec_headsetDebounceExpiry port) (fun _ => rfl)
theorem form_headsetMeasurementComplete (port za zb : Nat) : Acts (.headsetMeasurementComplete port za zb) ∨ ActsAlways (.headsetMeasurementComplete port za zb) :=
  acts_audio rfl (exec_headsetMeasurementComplete port za zb) (fun _ => rfl)
theorem form_headsetRemeasureExpiry (port : Nat) : Acts (.headsetRemeasureExpiry port) ∨ ActsAlways (.headsetRemeasureExpiry port) :=
  acts_audio rfl (exec_headsetRemeasureExpiry port) (fun _ => rfl)
theorem form_headsetWatchTick (port za : Nat) : Acts (.headsetWatchTick port za) ∨ ActsAlways (.headsetWatchTick port za) :=
  acts_audio rfl (exec_headsetWatchTick port za) (fun _ => rfl)
theorem form_headsetPlugAbsentExpiry (port : Nat) : Acts (.headsetPlugAbsentExpiry port) ∨ ActsAlways (.headsetPlugAbsentExpiry port) :=
  acts_audio rfl (exec_headsetPlugAbsentExpiry port) (fun _ => rfl)
theorem form_headsetButtonDebounce (port resistance : Nat) : Acts (.headsetButtonDebounce port resistance) ∨ ActsAlways (.headsetButtonDebounce port resistance) :=
  acts_audio rfl (exec_headsetButtonDebounce port resistance) (fun _ => rfl)
theorem form_audioUnitEnableWrite (who : Init) (index value : Nat) : Acts (.audioUnitEnableWrite who index value) ∨ ActsAlways (.audioUnitEnableWrite who index value) :=
  acts_served rfl (exec_audioUnitEnableWrite who index value) (fun _ => rfl)
theorem form_audioDisableComplete (index : Nat) : Acts (.audioDisableComplete index) ∨ ActsAlways (.audioDisableComplete index) :=
  acts_audio rfl (exec_audioDisableComplete index) (fun _ => rfl)
theorem form_sqTail (inst ring value : Nat) : Acts (.sqTail inst ring value) ∨ ActsAlways (.sqTail inst ring value) :=
  acts_of rfl (exec_sqTail inst ring value) (fun _ => rfl)
theorem form_cqHead (inst ring value : Nat) : Acts (.cqHead inst ring value) ∨ ActsAlways (.cqHead inst ring value) :=
  acts_of rfl (exec_cqHead inst ring value) (fun _ => rfl)
theorem form_ringNop (inst ring : Nat) : Acts (.ringNop inst ring) ∨ ActsAlways (.ringNop inst ring) :=
  acts_of rfl (exec_ringNop inst ring) (fun _ => rfl)
theorem form_ringCompositionCommit (inst ring : Nat) : Acts (.ringCompositionCommit inst ring) ∨ ActsAlways (.ringCompositionCommit inst ring) :=
  acts_of rfl (exec_ringCompositionCommit inst ring) (fun _ => rfl)
theorem form_ringCopyJob (inst ring : Nat) : Acts (.ringCopyJob inst ring) ∨ ActsAlways (.ringCopyJob inst ring) :=
  acts_of rfl (exec_ringCopyJob inst ring) (fun _ => rfl)
theorem form_ringGpuJob (inst ring : Nat) : Acts (.ringGpuJob inst ring) ∨ ActsAlways (.ringGpuJob inst ring) :=
  acts_of rfl (exec_ringGpuJob inst ring) (fun _ => rfl)
theorem form_ringPipelineCreate (inst ring : Nat) : Acts (.ringPipelineCreate inst ring) ∨ ActsAlways (.ringPipelineCreate inst ring) :=
  acts_of rfl (exec_ringPipelineCreate inst ring) (fun _ => rfl)
theorem form_ringPipelineDestroy (inst ring : Nat) : Acts (.ringPipelineDestroy inst ring) ∨ ActsAlways (.ringPipelineDestroy inst ring) :=
  acts_of rfl (exec_ringPipelineDestroy inst ring) (fun _ => rfl)
theorem form_ringBlockReadComplete (inst ring : Nat) (good : Bool) : Acts (.ringBlockReadComplete inst ring good) ∨ ActsAlways (.ringBlockReadComplete inst ring good) :=
  acts_of rfl (exec_ringBlockReadComplete inst ring good) (fun _ => rfl)
theorem form_ringHalt (inst ring : Nat) : Acts (.ringHalt inst ring) ∨ ActsAlways (.ringHalt inst ring) :=
  acts_of rfl (exec_ringHalt inst ring) (fun _ => rfl)
theorem form_ringEnableWrite (who : Init) (inst ring value : Nat) : Acts (.ringEnableWrite who inst ring value) ∨ ActsAlways (.ringEnableWrite who inst ring value) :=
  acts_served rfl (exec_ringEnableWrite who inst ring value) (fun _ => rfl)
theorem form_ringDisableComplete (inst ring : Nat) : Acts (.ringDisableComplete inst ring) ∨ ActsAlways (.ringDisableComplete inst ring) :=
  acts_of rfl (exec_ringDisableComplete inst ring) (fun _ => rfl)
theorem form_idleHint (inst value : Nat) : Acts (.idleHint inst value) ∨ ActsAlways (.idleHint inst value) :=
  acts_of rfl (exec_idleHint inst value) (fun _ => rfl)
theorem form_timeLo (inst : Nat) : Acts (.timeLo inst) ∨ ActsAlways (.timeLo inst) :=
  acts_of rfl (exec_timeLo inst) (fun _ => rfl)
theorem form_ptmRequest (port turnaroundNs : Nat) : Acts (.ptmRequest port turnaroundNs) ∨ ActsAlways (.ptmRequest port turnaroundNs) :=
  acts_of rfl (exec_ptmRequest port turnaroundNs) (fun _ => rfl)
theorem form_quiesce (who : Init) (inst : Nat) : Acts (.quiesce who inst) ∨ ActsAlways (.quiesce who inst) :=
  acts_served rfl (exec_quiesce who inst) (fun _ => rfl)
theorem form_quiesceComplete (inst : Nat) : Acts (.quiesceComplete inst) ∨ ActsAlways (.quiesceComplete inst) :=
  acts_of rfl (exec_quiesceComplete inst) (fun _ => rfl)
theorem form_resume (who : Init) (inst : Nat) : Acts (.resume who inst) ∨ ActsAlways (.resume who inst) :=
  acts_served rfl (exec_resume who inst) (fun _ => rfl)
theorem form_startDirtyLog (port function : Nat) (settings : DirtySettings) : Acts (.startDirtyLog port function settings) ∨ ActsAlways (.startDirtyLog port function settings) :=
  acts_of rfl (exec_startDirtyLog port function settings) (fun _ => rfl)
theorem form_stopDirtyLog (port function : Nat) : Acts (.stopDirtyLog port function) ∨ ActsAlways (.stopDirtyLog port function) :=
  acts_of rfl (exec_stopDirtyLog port function) (fun _ => rfl)
theorem form_harvest (port function : Nat) : Acts (.harvest port function) ∨ ActsAlways (.harvest port function) :=
  acts_of rfl (exec_harvest port function) (fun _ => rfl)
theorem form_functionLevelReset (inst : Nat) : Acts (.functionLevelReset inst) ∨ ActsAlways (.functionLevelReset inst) :=
  acts_of rfl (exec_functionLevelReset inst) (fun _ => rfl)
theorem form_d3hotTransition (inst : Nat) : Acts (.d3hotTransition inst) ∨ ActsAlways (.d3hotTransition inst) :=
  acts_of rfl (exec_d3hotTransition inst) (fun _ => rfl)
theorem form_vfRemoval (port numVfs : Nat) : Acts (.vfRemoval port numVfs) ∨ ActsAlways (.vfRemoval port numVfs) :=
  acts_of rfl (exec_vfRemoval port numVfs) (fun _ => rfl)
theorem form_vfEnableSet (port numVfs : Nat) : Acts (.vfEnableSet port numVfs) ∨ ActsAlways (.vfEnableSet port numVfs) :=
  acts_of rfl (exec_vfEnableSet port numVfs) (fun _ => rfl)
theorem form_linkUp (port speed width : Nat) : Acts (.linkUp port speed width) ∨ ActsAlways (.linkUp port speed width) :=
  acts_of rfl (exec_linkUp port speed width) (fun _ => rfl)
theorem form_linkDown (port : Nat) : Acts (.linkDown port) ∨ ActsAlways (.linkDown port) :=
  acts_of rfl (exec_linkDown port) (fun _ => rfl)
theorem form_detachComplete (inst : Nat) : Acts (.detachComplete inst) ∨ ActsAlways (.detachComplete inst) :=
  acts_of rfl (exec_detachComplete inst) (fun _ => rfl)
theorem form_instanceResetComplete (inst : Nat) : Acts (.instanceResetComplete inst) ∨ ActsAlways (.instanceResetComplete inst) :=
  acts_of rfl (exec_instanceResetComplete inst) (fun _ => rfl)
theorem form_linkRetrain (port : Nat) : Acts (.linkRetrain port) ∨ ActsAlways (.linkRetrain port) :=
  acts_of rfl (exec_linkRetrain port) (fun _ => rfl)
theorem form_l1Entry (rest : LinkRest) : Acts (.l1Entry rest) ∨ ActsAlways (.l1Entry rest) :=
  acts_of rfl (exec_l1Entry rest) (fun _ => rfl)
theorem form_barReservedAccess (access : BarAccess) : Acts (.barReservedAccess access) ∨ ActsAlways (.barReservedAccess access) :=
  acts_of rfl (exec_barReservedAccess access) (fun _ => rfl)
theorem form_regionRecordWrite (who : Init) (index sub value : Nat) : Acts (.regionRecordWrite who index sub value) ∨ ActsAlways (.regionRecordWrite who index sub value) :=
  acts_served rfl (exec_regionRecordWrite who index sub value) (fun _ => rfl)
theorem form_enclaveBuild (who : Init) (enclave : Nat) : Acts (.enclaveBuild who enclave) ∨ ActsAlways (.enclaveBuild who enclave) :=
  acts_served rfl (exec_enclaveBuild who enclave) (fun s => enclaveCommand_eq _ _ _ s)
theorem form_enclaveSeal (who : Init) (enclave : Nat) : Acts (.enclaveSeal who enclave) ∨ ActsAlways (.enclaveSeal who enclave) :=
  acts_served rfl (exec_enclaveSeal who enclave) (fun s => enclaveCommand_eq _ _ _ s)
theorem form_sealingComplete (enclave : Nat) : Acts (.sealingComplete enclave) ∨ ActsAlways (.sealingComplete enclave) :=
  acts_of rfl (exec_sealingComplete enclave) (fun _ => rfl)
theorem form_enclaveDestroy (who : Init) (enclave : Nat) : Acts (.enclaveDestroy who enclave) ∨ ActsAlways (.enclaveDestroy who enclave) :=
  acts_served rfl (exec_enclaveDestroy who enclave) (fun s => enclaveCommand_eq _ _ _ s)
theorem form_destroyComplete (enclave : Nat) : Acts (.destroyComplete enclave) ∨ ActsAlways (.destroyComplete enclave) :=
  acts_of rfl (exec_destroyComplete enclave) (fun _ => rfl)
theorem form_enclaveEnter (core enclave thread : Nat) : Acts (.enclaveEnter core enclave thread) ∨ ActsAlways (.enclaveEnter core enclave thread) :=
  acts_awake rfl (exec_enclaveEnter core enclave thread) (fun _ => rfl)
theorem form_enclaveExit (core : Nat) (made : ExitCall) : Acts (.enclaveExit core made) ∨ ActsAlways (.enclaveExit core made) :=
  acts_awake rfl (exec_enclaveExit core made) (fun _ => rfl)
theorem form_enclaveResume (core enclave thread : Nat) : Acts (.enclaveResume core enclave thread) ∨ ActsAlways (.enclaveResume core enclave thread) :=
  acts_awake rfl (exec_enclaveResume core enclave thread) (fun _ => rfl)
theorem form_enclaveInterrupt (core : Nat) (cause : EnclaveCause) (saved : List Nat) : Acts (.enclaveInterrupt core cause saved) ∨ ActsAlways (.enclaveInterrupt core cause saved) :=
  acts_awake rfl (exec_enclaveInterrupt core cause saved) (fun _ => rfl)
theorem form_handoverRequest (who : Init) (word : Nat) : Acts (.handoverRequest who word) ∨ ActsAlways (.handoverRequest who word) :=
  acts_served rfl (exec_handoverRequest who word) (fun _ => rfl)
theorem form_handoverRelease (who : Init) (block : Nat) : Acts (.handoverRelease who block) ∨ ActsAlways (.handoverRelease who block) :=
  acts_served rfl (exec_handoverRelease who block) (fun _ => rfl)
theorem form_releaseTimeout (block : Nat) : Acts (.releaseTimeout block) ∨ ActsAlways (.releaseTimeout block) :=
  acts_of rfl (exec_releaseTimeout block) (fun _ => rfl)
theorem form_blockResetDone (block : Nat) : Acts (.blockResetDone block) ∨ ActsAlways (.blockResetDone block) :=
  acts_of rfl (exec_blockResetDone block) (fun _ => rfl)
theorem form_forcedBlockReset (block : Nat) : Acts (.forcedBlockReset block) ∨ ActsAlways (.forcedBlockReset block) :=
  acts_of rfl (exec_forcedBlockReset block) (fun _ => rfl)
theorem form_run (who : Init) (block : Nat) : Acts (.run who block) ∨ ActsAlways (.run who block) :=
  acts_served rfl (exec_run who block) (fun _ => rfl)
theorem form_stopClock (who : Init) (block : Nat) : Acts (.stopClock who block) ∨ ActsAlways (.stopClock who block) :=
  acts_served rfl (exec_stopClock who block) (fun _ => rfl)
theorem form_powerOff (who : Init) (block : Nat) : Acts (.powerOff who block) ∨ ActsAlways (.powerOff who block) :=
  acts_served rfl (exec_powerOff who block) (fun _ => rfl)
theorem form_programKeySlot (who : Init) (data : List Byte) : Acts (.programKeySlot who data) ∨ ActsAlways (.programKeySlot who data) :=
  acts_served rfl (exec_programKeySlot who data) (fun _ => rfl)
theorem form_revokeKeySlot (who : Init) (slot : Nat) : Acts (.revokeKeySlot who slot) ∨ ActsAlways (.revokeKeySlot who slot) :=
  acts_served rfl (exec_revokeKeySlot who slot) (fun _ => rfl)
theorem form_retire (who : Init) (value : Nat) : Acts (.retire who value) ∨ ActsAlways (.retire who value) :=
  acts_served rfl (exec_retire who value) (fun _ => rfl)
theorem form_drawNonce (who : Init) (value : Nat) : Acts (.drawNonce who value) ∨ ActsAlways (.drawNonce who value) :=
  acts_served rfl (exec_drawNonce who value) (fun _ => rfl)
theorem form_certificate (data : List Byte) : Acts (.certificate data) ∨ ActsAlways (.certificate data) :=
  acts_of rfl (exec_certificate data) (fun _ => rfl)
theorem form_certificateCheckComplete : Acts (.certificateCheckComplete) ∨ ActsAlways (.certificateCheckComplete) :=
  acts_of rfl (exec_certificateCheckComplete) (fun _ => rfl)
theorem form_idcode : Acts (.idcode) ∨ ActsAlways (.idcode) :=
  acts_of rfl (exec_idcode) (fun _ => rfl)
theorem form_uid : Acts (.uid) ∨ ActsAlways (.uid) :=
  acts_of rfl (exec_uid) (fun _ => rfl)
theorem form_nonce : Acts (.nonce) ∨ ActsAlways (.nonce) :=
  acts_of rfl (exec_nonce) (fun _ => rfl)
theorem form_cert (data : List Byte) : Acts (.cert data) ∨ ActsAlways (.cert data) :=
  acts_of rfl (exec_cert data) (fun _ => rfl)
theorem form_status : Acts (.status) ∨ ActsAlways (.status) :=
  acts_of rfl (exec_status) (fun _ => rfl)
theorem form_bypass : Acts (.bypass) ∨ ActsAlways (.bypass) :=
  acts_of rfl (exec_bypass) (fun _ => rfl)
theorem form_extest : Acts (.extest) ∨ ActsAlways (.extest) :=
  acts_of rfl (exec_extest) (fun _ => rfl)
theorem form_samplePreload : Acts (.samplePreload) ∨ ActsAlways (.samplePreload) :=
  acts_of rfl (exec_samplePreload) (fun _ => rfl)
theorem form_dmi (domain : Nat) : Acts (.dmi domain) ∨ ActsAlways (.dmi domain) :=
  acts_of rfl (exec_dmi domain) (fun _ => rfl)
theorem form_debugReq : Acts (.debugReq) ∨ ActsAlways (.debugReq) :=
  acts_of rfl (exec_debugReq) (fun _ => rfl)
theorem form_doorbell (who : Init) (page word : Nat) : Acts (.doorbell who page word) ∨ ActsAlways (.doorbell who page word) :=
  acts_of rfl (exec_doorbell who page word) (fun _ => rfl)
theorem form_claim (core page : Nat) : Acts (.claim core page) ∨ ActsAlways (.claim core page) :=
  acts_of rfl (exec_claim core page) (fun _ => rfl)
theorem form_complete (core page source : Nat) : Acts (.complete core page source) ∨ ActsAlways (.complete core page source) :=
  acts_of rfl (exec_complete core page source) (fun _ => rfl)
theorem form_thresholdWrite (core page value : Nat) : Acts (.thresholdWrite core page value) ∨ ActsAlways (.thresholdWrite core page value) :=
  acts_of rfl (exec_thresholdWrite core page value) (fun _ => rfl)
theorem form_sourceEntryWrite (who : Init) (source value : Nat) : Acts (.sourceEntryWrite who source value) ∨ ActsAlways (.sourceEntryWrite who source value) :=
  acts_served rfl (exec_sourceEntryWrite who source value) (fun _ => rfl)
theorem form_moderationTimerExpiry (owner cls : Nat) : Acts (.moderationTimerExpiry owner cls) ∨ ActsAlways (.moderationTimerExpiry owner cls) :=
  acts_of rfl (exec_moderationTimerExpiry owner cls) (fun _ => rfl)
theorem form_coreWfi (core : Nat) : Acts (.coreWfi core) ∨ ActsAlways (.coreWfi core) :=
  acts_of rfl (exec_coreWfi core) (fun _ => rfl)
theorem form_msixWriteIssue (inst vector : Nat) : Acts (.msixWriteIssue inst vector) ∨ ActsAlways (.msixWriteIssue inst vector) :=
  acts_of rfl (exec_msixWriteIssue inst vector) (fun _ => rfl)
theorem form_msixMaskWrite (inst : Nat) (sel : MaskSel) (masked : Bool) : Acts (.msixMaskWrite inst sel masked) ∨ ActsAlways (.msixMaskWrite inst sel masked) :=
  acts_of rfl (exec_msixMaskWrite inst sel masked) (fun _ => rfl)
theorem form_edgeLatchSet (pin : Nat) (rising : Bool) : Acts (.edgeLatchSet pin rising) ∨ ActsAlways (.edgeLatchSet pin rising) :=
  acts_always rfl (exec_edgeLatchSet pin rising) (fun _ => rfl)
theorem form_edgeLatchPost (pin : Nat) : Acts (.edgeLatchPost pin) ∨ ActsAlways (.edgeLatchPost pin) :=
  acts_of rfl (exec_edgeLatchPost pin) (fun _ => rfl)
theorem form_requestPromotion (request : WaitingRequest) : Acts (.requestPromotion request) ∨ ActsAlways (.requestPromotion request) :=
  acts_awake rfl (exec_requestPromotion request) (fun _ => rfl)
theorem form_bankSkewWindow (channel transfers busiestBank busiestCount region : Nat) : Acts (.bankSkewWindow channel transfers busiestBank busiestCount region) ∨ ActsAlways (.bankSkewWindow channel transfers busiestBank busiestCount region) :=
  acts_awake rfl (exec_bankSkewWindow channel transfers busiestBank busiestCount region) (fun _ => rfl)
theorem form_modeRegister4Read (rank field : Nat) (limitExceeded : Bool) : Acts (.modeRegister4Read rank field limitExceeded) ∨ ActsAlways (.modeRegister4Read rank field limitExceeded) :=
  acts_of rfl (exec_modeRegister4Read rank field limitExceeded) (fun _ => rfl)
theorem form_commandPathCheck (rank : Nat) (mismatch again : Bool) : Acts (.commandPathCheck rank mismatch again) ∨ ActsAlways (.commandPathCheck rank mismatch again) :=
  acts_of rfl (exec_commandPathCheck rank mismatch again) (fun _ => rfl)
theorem form_takeOutOfService (who : Init) (rank value : Nat) : Acts (.takeOutOfService who rank value) ∨ ActsAlways (.takeOutOfService who rank value) :=
  acts_served rfl (exec_takeOutOfService who rank value) (fun _ => rfl)
theorem form_carryCopyComplete : Acts (.carryCopyComplete) ∨ ActsAlways (.carryCopyComplete) :=
  acts_awake rfl (exec_carryCopyComplete) (fun _ => rfl)
theorem form_carryDrainComplete : Acts (.carryDrainComplete) ∨ ActsAlways (.carryDrainComplete) :=
  acts_awake rfl (exec_carryDrainComplete) (fun _ => rfl)
theorem form_remap (who : Init) (region value : Nat) : Acts (.remap who region value) ∨ ActsAlways (.remap who region value) :=
  acts_served rfl (exec_remap who region value) (fun _ => rfl)
theorem form_remapBlockDone : Acts (.remapBlockDone) ∨ ActsAlways (.remapBlockDone) :=
  acts_awake rfl (exec_remapBlockDone) (fun _ => rfl)
theorem form_wayMaskWrite (who : Init) (partition value : Nat) : Acts (.wayMaskWrite who partition value) ∨ ActsAlways (.wayMaskWrite who partition value) :=
  acts_served rfl (exec_wayMaskWrite who partition value) (fun _ => rfl)
theorem form_wayWritebackComplete (partition : Nat) : Acts (.wayWritebackComplete partition) ∨ ActsAlways (.wayWritebackComplete partition) :=
  acts_of rfl (exec_wayWritebackComplete partition) (fun _ => rfl)
theorem form_lockWrite (who : Init) (partition value : Nat) : Acts (.lockWrite who partition value) ∨ ActsAlways (.lockWrite who partition value) :=
  acts_served rfl (exec_lockWrite who partition value) (fun _ => rfl)
theorem form_dramReadComplete (owner address : Nat) (merge : Option (List Byte)) : Acts (.dramReadComplete owner address merge) ∨ ActsAlways (.dramReadComplete owner address merge) :=
  acts_of rfl (exec_dramReadComplete owner address merge) (fun _ => rfl)
theorem form_scrubBurst : Acts (.scrubBurst) ∨ ActsAlways (.scrubBurst) :=
  acts_of rfl (exec_scrubBurst) (fun _ => rfl)
theorem form_lapLimitExpiry : Acts (.lapLimitExpiry) ∨ ActsAlways (.lapLimitExpiry) :=
  acts_of rfl (exec_lapLimitExpiry) (fun _ => rfl)
theorem form_sramError (word : SramWord) : Acts (.sramError word) ∨ ActsAlways (.sramError word) :=
  acts_of rfl (exec_sramError word) (fun _ => rfl)
theorem form_clearRetiredList (who : Init) (value : Nat) : Acts (.clearRetiredList who value) ∨ ActsAlways (.clearRetiredList who value) :=
  acts_served rfl (exec_clearRetiredList who value) (fun _ => rfl)
theorem form_catalogueLoad (who : Init) (engine code : Nat) : Acts (.catalogueLoad who engine code) ∨ ActsAlways (.catalogueLoad who engine code) :=
  acts_served rfl (exec_catalogueLoad who engine code) (fun s => onEngine_eq _ _ _ _ _ s)
theorem form_selfCheck (who : Init) (engine value : Nat) : Acts (.selfCheck who engine value) ∨ ActsAlways (.selfCheck who engine value) :=
  acts_served rfl (exec_selfCheck who engine value) (fun s => onEngine_eq _ _ _ _ _ s)
theorem form_streamOpen (who : Init) (engine : Nat) : Acts (.streamOpen who engine) ∨ ActsAlways (.streamOpen who engine) :=
  acts_served rfl (exec_streamOpen who engine) (fun s => onEngine_eq _ _ _ _ _ s)
theorem form_streamClose (who : Init) (engine : Nat) : Acts (.streamClose who engine) ∨ ActsAlways (.streamClose who engine) :=
  acts_served rfl (exec_streamClose who engine) (fun s => onEngine_eq _ _ _ _ _ s)
theorem form_streamAbort (who : Init) (engine : Nat) : Acts (.streamAbort who engine) ∨ ActsAlways (.streamAbort who engine) :=
  acts_served rfl (exec_streamAbort who engine) (fun s => onEngine_eq _ _ _ _ _ s)
theorem form_feedWord (who : Init) (engine value : Nat) : Acts (.feedWord who engine value) ∨ ActsAlways (.feedWord who engine value) :=
  acts_served rfl (exec_feedWord who engine value) (fun s => onEngine_eq _ _ _ _ _ s)
theorem form_feedEnd (engine : Nat) : Acts (.feedEnd engine) ∨ ActsAlways (.feedEnd engine) :=
  acts_of rfl (exec_feedEnd engine) (fun _ => rfl)
theorem form_feedHalt (engine : Nat) : Acts (.feedHalt engine) ∨ ActsAlways (.feedHalt engine) :=
  acts_of rfl (exec_feedHalt engine) (fun _ => rfl)
theorem form_directData (who : Init) (engine : Nat) (data : List Byte) : Acts (.directData who engine data) ∨ ActsAlways (.directData who engine data) :=
  acts_served rfl (exec_directData who engine data) (fun s => onEngine_eq _ _ _ _ _ s)
theorem form_ninesEnableWrite (who : Init) (engine value : Nat) : Acts (.ninesEnableWrite who engine value) ∨ ActsAlways (.ninesEnableWrite who engine value) :=
  acts_served rfl (exec_ninesEnableWrite who engine value) (fun s => onEngine_eq _ _ _ _ _ s)
theorem form_ninesDisableComplete (engine : Nat) : Acts (.ninesDisableComplete engine) ∨ ActsAlways (.ninesDisableComplete engine) :=
  acts_of rfl (exec_ninesDisableComplete engine) (fun _ => rfl)
theorem form_recordCommit : Acts (.recordCommit) ∨ ActsAlways (.recordCommit) :=
  acts_of rfl (exec_recordCommit) (fun _ => rfl)
theorem form_logClear (who : Init) (value : Nat) : Acts (.logClear who value) ∨ ActsAlways (.logClear who value) :=
  acts_served rfl (exec_logClear who value) (fun _ => rfl)
theorem form_postEvent (who : Init) (data : List Byte) : Acts (.postEvent who data) ∨ ActsAlways (.postEvent who data) :=
  acts_served rfl (exec_postEvent who data) (fun _ => rfl)
theorem form_bucketRefill (cls : Nat) : Acts (.bucketRefill cls) ∨ ActsAlways (.bucketRefill cls) :=
  acts_of rfl (exec_bucketRefill cls) (fun _ => rfl)
theorem form_pixelPipeFault (output : Nat) : Acts (.pixelPipeFault output) ∨ ActsAlways (.pixelPipeFault output) :=
  acts_of rfl (exec_pixelPipeFault output) (fun _ => rfl)
theorem form_lockstepMismatch : Acts (.lockstepMismatch) ∨ ActsAlways (.lockstepMismatch) :=
  acts_of rfl (exec_lockstepMismatch) (fun _ => rfl)
theorem form_islandWatchdogExpiry : Acts (.islandWatchdogExpiry) ∨ ActsAlways (.islandWatchdogExpiry) :=
  acts_of rfl (exec_islandWatchdogExpiry) (fun _ => rfl)
theorem form_islandSwitch (who : Init) (value : Nat) : Acts (.islandSwitch who value) ∨ ActsAlways (.islandSwitch who value) :=
  acts_served rfl (exec_islandSwitch who value) (fun _ => rfl)
theorem form_islandRestartComplete : Acts (.islandRestartComplete) ∨ ActsAlways (.islandRestartComplete) :=
  acts_of rfl (exec_islandRestartComplete) (fun _ => rfl)
theorem form_pairSelfTestComplete (pair : Nat) (passed : Bool) : Acts (.pairSelfTestComplete pair passed) ∨ ActsAlways (.pairSelfTestComplete pair passed) :=
  acts_of rfl (exec_pairSelfTestComplete pair passed) (fun _ => rfl)
theorem form_watchdogKick (who : Init) (watchdog value : Nat) : Acts (.watchdogKick who watchdog value) ∨ ActsAlways (.watchdogKick who watchdog value) :=
  acts_served rfl (exec_watchdogKick who watchdog value) (fun _ => rfl)
theorem form_ownerWatchdogExpiry (watchdog : Nat) : Acts (.ownerWatchdogExpiry watchdog) ∨ ActsAlways (.ownerWatchdogExpiry watchdog) :=
  acts_of rfl (exec_ownerWatchdogExpiry watchdog) (fun _ => rfl)
theorem form_courierHeartbeatTimer : Acts (.courierHeartbeatTimer) ∨ ActsAlways (.courierHeartbeatTimer) :=
  acts_of rfl (exec_courierHeartbeatTimer) (fun _ => rfl)
theorem form_heartbeatFrame (frame : List Byte) : Acts (.heartbeatFrame frame) ∨ ActsAlways (.heartbeatFrame frame) :=
  acts_of rfl (exec_heartbeatFrame frame) (fun _ => rfl)
theorem form_mirrorFrame (frame : List Byte) : Acts (.mirrorFrame frame) ∨ ActsAlways (.mirrorFrame frame) :=
  acts_of rfl (exec_mirrorFrame frame) (fun _ => rfl)
theorem form_mirrorTimer : Acts (.mirrorTimer) ∨ ActsAlways (.mirrorTimer) :=
  acts_of rfl (exec_mirrorTimer) (fun _ => rfl)
theorem form_rodMarkFrame (frame : List Byte) : Acts (.rodMarkFrame frame) ∨ ActsAlways (.rodMarkFrame frame) :=
  acts_of rfl (exec_rodMarkFrame frame) (fun _ => rfl)
theorem form_probeTimer : Acts (.probeTimer) ∨ ActsAlways (.probeTimer) :=
  acts_of rfl (exec_probeTimer) (fun _ => rfl)
theorem form_probeFrame (frame : List Byte) (turnaround : Nat) : Acts (.probeFrame frame turnaround) ∨ ActsAlways (.probeFrame frame turnaround) :=
  acts_of rfl (exec_probeFrame frame turnaround) (fun _ => rfl)
theorem form_echoFrame (frame : List Byte) (roundTripNs : Nat) : Acts (.echoFrame frame roundTripNs) ∨ ActsAlways (.echoFrame frame roundTripNs) :=
  acts_of rfl (exec_echoFrame frame roundTripNs) (fun _ => rfl)
theorem form_courierBlockLock : Acts (.courierBlockLock) ∨ ActsAlways (.courierBlockLock) :=
  acts_of rfl (exec_courierBlockLock) (fun _ => rfl)
theorem form_courierSilenceTimeout : Acts (.courierSilenceTimeout) ∨ ActsAlways (.courierSilenceTimeout) :=
  acts_of rfl (exec_courierSilenceTimeout) (fun _ => rfl)
theorem form_takeoverExpiry (output : Nat) : Acts (.takeoverExpiry output) ∨ ActsAlways (.takeoverExpiry output) :=
  acts_of rfl (exec_takeoverExpiry output) (fun _ => rfl)
theorem form_returnDelayExpiry (output : Nat) : Acts (.returnDelayExpiry output) ∨ ActsAlways (.returnDelayExpiry output) :=
  acts_of rfl (exec_returnDelayExpiry output) (fun _ => rfl)
theorem form_powerOn : Acts (.powerOn) ∨ ActsAlways (.powerOn) :=
  acts_always rfl (exec_powerOn) (fun _ => rfl)
theorem form_resetNLow : Acts (.resetNLow) ∨ ActsAlways (.resetNLow) :=
  acts_always rfl (exec_resetNLow) (fun _ => rfl)
theorem form_internalResetRelease (nodeStraps pairRole bootSel : Nat) : Acts (.internalResetRelease nodeStraps pairRole bootSel) ∨ ActsAlways (.internalResetRelease nodeStraps pairRole bootSel) :=
  acts_always rfl (exec_internalResetRelease nodeStraps pairRole bootSel) (fun _ => rfl)
theorem form_softwareReset (who : Init) (value : Nat) : Acts (.softwareReset who value) ∨ ActsAlways (.softwareReset who value) :=
  acts_served rfl (exec_softwareReset who value) (fun _ => rfl)
theorem form_brownOut : Acts (.brownOut) ∨ ActsAlways (.brownOut) :=
  acts_always rfl (exec_brownOut) (fun _ => rfl)
theorem form_dramTrainingComplete (timeMs : Nat) : Acts (.dramTrainingComplete timeMs) ∨ ActsAlways (.dramTrainingComplete timeMs) :=
  acts_of rfl (exec_dramTrainingComplete timeMs) (fun _ => rfl)
theorem form_verifyingComplete : Acts (.verifyingComplete) ∨ ActsAlways (.verifyingComplete) :=
  acts_of rfl (exec_verifyingComplete) (fun _ => rfl)
theorem form_updateActivate (who : Init) : Acts (.updateActivate who) ∨ ActsAlways (.updateActivate who) :=
  acts_served rfl (exec_updateActivate who) (fun _ => rfl)
theorem form_updateAbandon (who : Init) : Acts (.updateAbandon who) ∨ ActsAlways (.updateAbandon who) :=
  acts_served rfl (exec_updateAbandon who) (fun _ => rfl)
theorem form_updateCommit (who : Init) : Acts (.updateCommit who) ∨ ActsAlways (.updateCommit who) :=
  acts_served rfl (exec_updateCommit who) (fun _ => rfl)
theorem form_loadingComplete : Acts (.loadingComplete) ∨ ActsAlways (.loadingComplete) :=
  acts_of rfl (exec_loadingComplete) (fun _ => rfl)
theorem form_trialTimeExpiry : Acts (.trialTimeExpiry) ∨ ActsAlways (.trialTimeExpiry) :=
  acts_of rfl (exec_trialTimeExpiry) (fun _ => rfl)
theorem form_thermalStepDown (logicTenths analogTenths : Int) (dramHot : Bool) : Acts (.thermalStepDown logicTenths analogTenths dramHot) ∨ ActsAlways (.thermalStepDown logicTenths analogTenths dramHot) :=
  acts_of rfl (exec_thermalStepDown logicTenths analogTenths dramHot) (fun _ => rfl)
theorem form_thermalReturnExpiry : Acts (.thermalReturnExpiry) ∨ ActsAlways (.thermalReturnExpiry) :=
  acts_of rfl (exec_thermalReturnExpiry) (fun _ => rfl)
theorem form_thermalShutdown : Acts (.thermalShutdown) ∨ ActsAlways (.thermalShutdown) :=
  acts_of rfl (exec_thermalShutdown) (fun _ => rfl)
theorem form_vinThresholdEvent (millivolts : Nat) : Acts (.vinThresholdEvent millivolts) ∨ ActsAlways (.vinThresholdEvent millivolts) :=
  acts_of rfl (exec_vinThresholdEvent millivolts) (fun _ => rfl)
theorem form_canPortStateChange (port value : Nat) : Acts (.canPortStateChange port value) ∨ ActsAlways (.canPortStateChange port value) :=
  acts_of rfl (exec_canPortStateChange port value) (fun _ => rfl)
theorem form_tpdoInhibitExpiry (pdo : Nat) : Acts (.tpdoInhibitExpiry pdo) ∨ ActsAlways (.tpdoInhibitExpiry pdo) :=
  acts_served rfl (exec_tpdoInhibitExpiry pdo) (fun _ => rfl)
theorem form_perstDeassertion (port : Nat) : Acts (.perstDeassertion port) ∨ ActsAlways (.perstDeassertion port) :=
  acts_always rfl (exec_perstDeassertion port) (fun _ => rfl)
theorem form_d0Transition (inst : Nat) : Acts (.d0Transition inst) ∨ ActsAlways (.d0Transition inst) :=
  acts_of rfl (exec_d0Transition inst) (fun _ => rfl)

/-- The form of every command's meaning. -/
theorem exec_form (i : Instr) : Acts i ∨ ActsAlways i := by
  cases i with
  | rodAdvanceLine rod late => exact form_rodAdvanceLine rod late
  | syncOutRelease ball => exact form_syncOutRelease ball
  | freeRunWrite who rod value => exact form_freeRunWrite who rod value
  | freeRodTimingWrite who rod sub value => exact form_freeRodTimingWrite who rod sub value
  | lockSourceWrite who rod value => exact form_lockSourceWrite who rod value
  | lockReferenceEvent rod phaseNs trimNeeded => exact form_lockReferenceEvent rod phaseNs trimNeeded
  | lockReferenceAbsent rod => exact form_lockReferenceAbsent rod
  | holdoverExpiry rod => exact form_holdoverExpiry rod
  | beadWordWrite who slot value => exact form_beadWordWrite who slot value
  | actionWordWrite who slot value => exact form_actionWordWrite who slot value
  | pixelPllLocked output reachedHz => exact form_pixelPllLocked output reachedHz
  | clockOffsetWrite who value => exact form_clockOffsetWrite who value
  | rateTrimWrite who value => exact form_rateTrimWrite who value
  | offsetSlewSpent => exact form_offsetSlewSpent
  | timeReceived port days ms => exact form_timeReceived port days ms
  | objectWrite who target place data => exact form_objectWrite who target place data
  | windowRead who win index sub => exact form_windowRead who win index sub
  | windowWrite who win index sub => exact form_windowWrite who win index sub
  | windowDescribe who win index sub => exact form_windowDescribe who win index sub
  | domainReadSegment who win index sub => exact form_domainReadSegment who win index sub
  | domainWriteSegment who win index sub => exact form_domainWriteSegment who win index sub
  | domainEnd who win index sub => exact form_domainEnd who win index sub
  | domainAbort who win index sub => exact form_domainAbort who win index sub
  | windowRegisterWrite who win offset data => exact form_windowRegisterWrite who win offset data
  | windowRequestEnd win => exact form_windowRequestEnd win
  | usdoDownload port index sub data => exact form_usdoDownload port index sub data
  | usdoUpload port index sub => exact form_usdoUpload port index sub
  | rpdoReceived port pdo data => exact form_rpdoReceived port pdo data
  | rpdoTimeout pdo => exact form_rpdoTimeout pdo
  | tpdoEventTimerExpiry pdo => exact form_tpdoEventTimerExpiry pdo
  | syncReceived port => exact form_syncReceived port
  | heartbeatProducerTimer => exact form_heartbeatProducerTimer
  | heartbeatReceived port node => exact form_heartbeatReceived port node
  | heartbeatConsumerTimeout entry => exact form_heartbeatConsumerTimeout entry
  | emcyInhibitExpiry => exact form_emcyInhibitExpiry
  | canReceiveOverrun port => exact form_canReceiveOverrun port
  | canBusOffRecovery port => exact form_canBusOffRecovery port
  | nmtStartRemoteNode port node => exact form_nmtStartRemoteNode port node
  | nmtStopRemoteNode port node => exact form_nmtStopRemoteNode port node
  | nmtEnterPreOperational port node => exact form_nmtEnterPreOperational port node
  | nmtResetNode port node => exact form_nmtResetNode port node
  | nmtResetCommunication port node => exact form_nmtResetCommunication port node
  | errorHistoryClear who value => exact form_errorHistoryClear who value
  | storeParameters who sub value => exact form_storeParameters who sub value
  | storeSaveComplete confirmed => exact form_storeSaveComplete confirmed
  | restoreDefaults who sub value => exact form_restoreDefaults who sub value
  | profileRequest who value => exact form_profileRequest who value
  | keepAliveRequest who => exact form_keepAliveRequest who
  | keepAliveEntryComplete => exact form_keepAliveEntryComplete
  | keepAliveExit cause => exact form_keepAliveExit cause
  | sleepRequest who => exact form_sleepRequest who
  | canWakePattern port => exact form_canWakePattern port
  | outputRequestedStateWrite who output value => exact form_outputRequestedStateWrite who output value
  | outputDisableComplete output => exact form_outputDisableComplete output
  | timingApply who output value => exact form_timingApply who output value
  | hpdDebouncedRise output => exact form_hpdDebouncedRise output
  | hpdDebouncedFall output => exact form_hpdDebouncedFall output
  | hpdIrq output laneLost => exact form_hpdIrq output laneLost
  | trainingPass output dpcdRevision => exact form_trainingPass output dpcdRevision
  | trainingFail output cause => exact form_trainingFail output cause
  | trainingTimeout output => exact form_trainingTimeout output
  | retryIntervalExpiry output => exact form_retryIntervalExpiry output
  | edidReadComplete output edid => exact form_edidReadComplete output edid
  | auxRequest who output request => exact form_auxRequest who output request
  | auxTransactionEnd output reply => exact form_auxTransactionEnd output reply
  | auxTimeout output => exact form_auxTimeout output
  | pixelUnderrun late => exact form_pixelUnderrun late
  | commitSubmit who output address => exact form_commitSubmit who output address
  | reservationWrite who output value => exact form_reservationWrite who output value
  | layerEnableWrite who layer value => exact form_layerEnableWrite who layer value
  | layerFetchHalt layer address uncorrectable => exact form_layerFetchHalt layer address uncorrectable
  | checkedLineMismatch layer line => exact form_checkedLineMismatch layer line
  | copyJobSubmit who channel address => exact form_copyJobSubmit who channel address
  | copyJobCopy channel => exact form_copyJobCopy channel
  | encode channel => exact form_encode channel
  | decode channel => exact form_decode channel
  | fill channel => exact form_fill channel
  | clear channel => exact form_clear channel
  | copyJobComplete channel => exact form_copyJobComplete channel
  | copyJobHalt channel => exact form_copyJobHalt channel
  | copyChannelEnableWrite who channel value => exact form_copyChannelEnableWrite who channel value
  | copyChannelDisableComplete channel => exact form_copyChannelDisableComplete channel
  | gpuJobSubmit who partition queue address => exact form_gpuJobSubmit who partition queue address
  | gpuJobStart partition queue => exact form_gpuJobStart partition queue
  | gpuJobComplete partition queue => exact form_gpuJobComplete partition queue
  | gpuJobHalt partition queue => exact form_gpuJobHalt partition queue
  | budgetOverrun partition => exact form_budgetOverrun partition
  | nop partition queue => exact form_nop partition queue
  | setPipeline partition queue => exact form_setPipeline partition queue
  | setState partition queue => exact form_setState partition queue
  | call partition queue => exact form_call partition queue
  | draw partition queue => exact form_draw partition queue
  | drawIndexed partition queue => exact form_drawIndexed partition queue
  | drawIndirect partition queue => exact form_drawIndirect partition queue
  | dispatch partition queue => exact form_dispatch partition queue
  | dispatchIndirect partition queue => exact form_dispatchIndirect partition queue
  | bandBegin partition queue => exact form_bandBegin partition queue
  | bandEnd partition queue => exact form_bandEnd partition queue
  | bandWritebackDone partition queue => exact form_bandWritebackDone partition queue
  | copy partition queue => exact form_copy partition queue
  | fenceWrite partition queue => exact form_fenceWrite partition queue
  | fenceWait partition queue => exact form_fenceWait partition queue
  | fenceWaitSatisfied partition queue => exact form_fenceWaitSatisfied partition queue
  | fenceWaitTimeout partition queue => exact form_fenceWaitTimeout partition queue
  | beadArm partition queue => exact form_beadArm partition queue
  | rodWait partition queue => exact form_rodWait partition queue
  | rodWaitSatisfied partition queue => exact form_rodWaitSatisfied partition queue
  | rodWaitTimeout partition queue => exact form_rodWaitTimeout partition queue
  | timestamp partition queue => exact form_timestamp partition queue
  | gpuCoreFault failed => exact form_gpuCoreFault failed
  | gpuCoreResetDone core => exact form_gpuCoreResetDone core
  | coreLeavingDrained core => exact form_coreLeavingDrained core
  | reshapePoint partition => exact form_reshapePoint partition
  | gpuQueueEnableWrite who partition queue value => exact form_gpuQueueEnableWrite who partition queue value
  | disableGraceExpiry partition queue => exact form_disableGraceExpiry partition queue
  | gpuQueueDisableComplete partition queue => exact form_gpuQueueDisableComplete partition queue
  | preemptionComplete partition => exact form_preemptionComplete partition
  | preemptionHoldEnd partition => exact form_preemptionHoldEnd partition
  | pipelineCreateSubmit who address => exact form_pipelineCreateSubmit who address
  | compilationStart serviceCore => exact form_compilationStart serviceCore
  | compilationComplete serviceCore firstBytes secondBytes => exact form_compilationComplete serviceCore firstBytes secondBytes
  | pipelineDestroy who handle => exact form_pipelineDestroy who handle
  | serviceCoreFault serviceCore => exact form_serviceCoreFault serviceCore
  | scanComplete panel found => exact form_scanComplete panel found
  | longRestExpiry panel identity => exact form_longRestExpiry panel identity
  | touchIdleExpiry panel => exact form_touchIdleExpiry panel
  | rebaseline who panel => exact form_rebaseline who panel
  | recalibrate who panel => exact form_recalibrate who panel
  | saveReference who panel value => exact form_saveReference who panel value
  | panelEnableWrite who panel value => exact form_panelEnableWrite who panel value
  | panelDisableComplete panel => exact form_panelDisableComplete panel
  | temperatureBandChange degrees => exact form_temperatureBandChange degrees
  | nodeMemoryFault panel => exact form_nodeMemoryFault panel
  | hapticTrigger who channel argument => exact form_hapticTrigger who channel argument
  | triggerTaken channel => exact form_triggerTaken channel
  | hapticLoopPeriod channel currentMa voltageMv diDt => exact form_hapticLoopPeriod channel currentMa voltageMv diDt
  | checkPhaseEnd channel resistance forceFactor => exact form_checkPhaseEnd channel resistance forceFactor
  | driveEnd channel resistance forceFactor => exact form_driveEnd channel resistance forceFactor
  | inDriveCheck channel resistance forceFactor => exact form_inDriveCheck channel resistance forceFactor
  | brakeEnd channel => exact form_brakeEnd channel
  | brakeTimeout channel => exact form_brakeTimeout channel
  | bridgeTrip channel overTemperature => exact form_bridgeTrip channel overTemperature
  | identify who channel => exact form_identify who channel
  | identificationEnd channel fit => exact form_identificationEnd channel fit
  | clearFault who channel value => exact form_clearFault who channel value
  | modelStateWrite who channel value => exact form_modelStateWrite who channel value
  | hapticEnableWrite who channel value => exact form_hapticEnableWrite who channel value
  | hapticDisableComplete channel => exact form_hapticDisableComplete channel
  | audioBlock => exact form_audioBlock
  | lowLatencyBlock => exact form_lowLatencyBlock
  | inputRunWrite who input value => exact form_inputRunWrite who input value
  | writePositionWrite who input value => exact form_writePositionWrite who input value
  | readPositionWrite who sink value => exact form_readPositionWrite who sink value
  | gainWrite who index sub data => exact form_gainWrite who index sub data
  | gainStepTimeout index sub => exact form_gainStepTimeout index sub
  | stageSilenceHoldExpiry sink => exact form_stageSilenceHoldExpiry sink
  | speakerStageFault sink => exact form_speakerStageFault sink
  | stageRetryExpiry sink => exact form_stageRetryExpiry sink
  | headsetDetEdge port present => exact form_headsetDetEdge port present
  | headsetDebounceExpiry port => exact form_headsetDebounceExpiry port
  | headsetMeasurementComplete port za zb => exact form_headsetMeasurementComplete port za zb
  | headsetRemeasureExpiry port => exact form_headsetRemeasureExpiry port
  | headsetWatchTick port za => exact form_headsetWatchTick port za
  | headsetPlugAbsentExpiry port => exact form_headsetPlugAbsentExpiry port
  | headsetButtonDebounce port resistance => exact form_headsetButtonDebounce port resistance
  | audioUnitEnableWrite who index value => exact form_audioUnitEnableWrite who index value
  | audioDisableComplete index => exact form_audioDisableComplete index
  | sqTail inst ring value => exact form_sqTail inst ring value
  | cqHead inst ring value => exact form_cqHead inst ring value
  | ringNop inst ring => exact form_ringNop inst ring
  | ringCompositionCommit inst ring => exact form_ringCompositionCommit inst ring
  | ringCopyJob inst ring => exact form_ringCopyJob inst ring
  | ringGpuJob inst ring => exact form_ringGpuJob inst ring
  | ringPipelineCreate inst ring => exact form_ringPipelineCreate inst ring
  | ringPipelineDestroy inst ring => exact form_ringPipelineDestroy inst ring
  | ringBlockReadComplete inst ring good => exact form_ringBlockReadComplete inst ring good
  | ringHalt inst ring => exact form_ringHalt inst ring
  | ringEnableWrite who inst ring value => exact form_ringEnableWrite who inst ring value
  | ringDisableComplete inst ring => exact form_ringDisableComplete inst ring
  | idleHint inst value => exact form_idleHint inst value
  | timeLo inst => exact form_timeLo inst
  | ptmRequest port turnaroundNs => exact form_ptmRequest port turnaroundNs
  | quiesce who inst => exact form_quiesce who inst
  | quiesceComplete inst => exact form_quiesceComplete inst
  | resume who inst => exact form_resume who inst
  | startDirtyLog port function settings => exact form_startDirtyLog port function settings
  | stopDirtyLog port function => exact form_stopDirtyLog port function
  | harvest port function => exact form_harvest port function
  | functionLevelReset inst => exact form_functionLevelReset inst
  | d3hotTransition inst => exact form_d3hotTransition inst
  | vfRemoval port numVfs => exact form_vfRemoval port numVfs
  | vfEnableSet port numVfs => exact form_vfEnableSet port numVfs
  | linkUp port speed width => exact form_linkUp port speed width
  | linkDown port => exact form_linkDown port
  | detachComplete inst => exact form_detachComplete inst
  | instanceResetComplete inst => exact form_instanceResetComplete inst
  | linkRetrain port => exact form_linkRetrain port
  | l1Entry rest => exact form_l1Entry rest
  | barReservedAccess access => exact form_barReservedAccess access
  | regionRecordWrite who index sub value => exact form_regionRecordWrite who index sub value
  | enclaveBuild who enclave => exact form_enclaveBuild who enclave
  | enclaveSeal who enclave => exact form_enclaveSeal who enclave
  | sealingComplete enclave => exact form_sealingComplete enclave
  | enclaveDestroy who enclave => exact form_enclaveDestroy who enclave
  | destroyComplete enclave => exact form_destroyComplete enclave
  | enclaveEnter core enclave thread => exact form_enclaveEnter core enclave thread
  | enclaveExit core made => exact form_enclaveExit core made
  | enclaveResume core enclave thread => exact form_enclaveResume core enclave thread
  | enclaveInterrupt core cause saved => exact form_enclaveInterrupt core cause saved
  | handoverRequest who word => exact form_handoverRequest who word
  | handoverRelease who block => exact form_handoverRelease who block
  | releaseTimeout block => exact form_releaseTimeout block
  | blockResetDone block => exact form_blockResetDone block
  | forcedBlockReset block => exact form_forcedBlockReset block
  | run who block => exact form_run who block
  | stopClock who block => exact form_stopClock who block
  | powerOff who block => exact form_powerOff who block
  | programKeySlot who data => exact form_programKeySlot who data
  | revokeKeySlot who slot => exact form_revokeKeySlot who slot
  | retire who value => exact form_retire who value
  | drawNonce who value => exact form_drawNonce who value
  | certificate data => exact form_certificate data
  | certificateCheckComplete => exact form_certificateCheckComplete
  | idcode => exact form_idcode
  | uid => exact form_uid
  | nonce => exact form_nonce
  | cert data => exact form_cert data
  | status => exact form_status
  | bypass => exact form_bypass
  | extest => exact form_extest
  | samplePreload => exact form_samplePreload
  | dmi domain => exact form_dmi domain
  | debugReq => exact form_debugReq
  | doorbell who page word => exact form_doorbell who page word
  | claim core page => exact form_claim core page
  | complete core page source => exact form_complete core page source
  | thresholdWrite core page value => exact form_thresholdWrite core page value
  | sourceEntryWrite who source value => exact form_sourceEntryWrite who source value
  | moderationTimerExpiry owner cls => exact form_moderationTimerExpiry owner cls
  | coreWfi core => exact form_coreWfi core
  | msixWriteIssue inst vector => exact form_msixWriteIssue inst vector
  | msixMaskWrite inst sel masked => exact form_msixMaskWrite inst sel masked
  | edgeLatchSet pin rising => exact form_edgeLatchSet pin rising
  | edgeLatchPost pin => exact form_edgeLatchPost pin
  | requestPromotion request => exact form_requestPromotion request
  | bankSkewWindow channel transfers busiestBank busiestCount region => exact form_bankSkewWindow channel transfers busiestBank busiestCount region
  | modeRegister4Read rank field limitExceeded => exact form_modeRegister4Read rank field limitExceeded
  | commandPathCheck rank mismatch again => exact form_commandPathCheck rank mismatch again
  | takeOutOfService who rank value => exact form_takeOutOfService who rank value
  | carryCopyComplete => exact form_carryCopyComplete
  | carryDrainComplete => exact form_carryDrainComplete
  | remap who region value => exact form_remap who region value
  | remapBlockDone => exact form_remapBlockDone
  | wayMaskWrite who partition value => exact form_wayMaskWrite who partition value
  | wayWritebackComplete partition => exact form_wayWritebackComplete partition
  | lockWrite who partition value => exact form_lockWrite who partition value
  | dramReadComplete owner address merge => exact form_dramReadComplete owner address merge
  | scrubBurst => exact form_scrubBurst
  | lapLimitExpiry => exact form_lapLimitExpiry
  | sramError word => exact form_sramError word
  | clearRetiredList who value => exact form_clearRetiredList who value
  | catalogueLoad who engine code => exact form_catalogueLoad who engine code
  | selfCheck who engine value => exact form_selfCheck who engine value
  | streamOpen who engine => exact form_streamOpen who engine
  | streamClose who engine => exact form_streamClose who engine
  | streamAbort who engine => exact form_streamAbort who engine
  | feedWord who engine value => exact form_feedWord who engine value
  | feedEnd engine => exact form_feedEnd engine
  | feedHalt engine => exact form_feedHalt engine
  | directData who engine data => exact form_directData who engine data
  | ninesEnableWrite who engine value => exact form_ninesEnableWrite who engine value
  | ninesDisableComplete engine => exact form_ninesDisableComplete engine
  | recordCommit => exact form_recordCommit
  | logClear who value => exact form_logClear who value
  | postEvent who data => exact form_postEvent who data
  | bucketRefill cls => exact form_bucketRefill cls
  | pixelPipeFault output => exact form_pixelPipeFault output
  | lockstepMismatch => exact form_lockstepMismatch
  | islandWatchdogExpiry => exact form_islandWatchdogExpiry
  | islandSwitch who value => exact form_islandSwitch who value
  | islandRestartComplete => exact form_islandRestartComplete
  | pairSelfTestComplete pair passed => exact form_pairSelfTestComplete pair passed
  | watchdogKick who watchdog value => exact form_watchdogKick who watchdog value
  | ownerWatchdogExpiry watchdog => exact form_ownerWatchdogExpiry watchdog
  | courierHeartbeatTimer => exact form_courierHeartbeatTimer
  | heartbeatFrame frame => exact form_heartbeatFrame frame
  | mirrorFrame frame => exact form_mirrorFrame frame
  | mirrorTimer => exact form_mirrorTimer
  | rodMarkFrame frame => exact form_rodMarkFrame frame
  | probeTimer => exact form_probeTimer
  | probeFrame frame turnaround => exact form_probeFrame frame turnaround
  | echoFrame frame roundTripNs => exact form_echoFrame frame roundTripNs
  | courierBlockLock => exact form_courierBlockLock
  | courierSilenceTimeout => exact form_courierSilenceTimeout
  | takeoverExpiry output => exact form_takeoverExpiry output
  | returnDelayExpiry output => exact form_returnDelayExpiry output
  | powerOn => exact form_powerOn
  | resetNLow => exact form_resetNLow
  | internalResetRelease nodeStraps pairRole bootSel => exact form_internalResetRelease nodeStraps pairRole bootSel
  | softwareReset who value => exact form_softwareReset who value
  | brownOut => exact form_brownOut
  | dramTrainingComplete timeMs => exact form_dramTrainingComplete timeMs
  | verifyingComplete => exact form_verifyingComplete
  | updateActivate who => exact form_updateActivate who
  | updateAbandon who => exact form_updateAbandon who
  | updateCommit who => exact form_updateCommit who
  | loadingComplete => exact form_loadingComplete
  | trialTimeExpiry => exact form_trialTimeExpiry
  | thermalStepDown logicTenths analogTenths dramHot => exact form_thermalStepDown logicTenths analogTenths dramHot
  | thermalReturnExpiry => exact form_thermalReturnExpiry
  | thermalShutdown => exact form_thermalShutdown
  | vinThresholdEvent millivolts => exact form_vinThresholdEvent millivolts
  | canPortStateChange port value => exact form_canPortStateChange port value
  | tpdoInhibitExpiry pdo => exact form_tpdoInhibitExpiry pdo
  | perstDeassertion port => exact form_perstDeassertion port
  | d0Transition inst => exact form_d0Transition inst

end Sys2Proof.Machine
end

