-- ==== Sys2Proof/Laws/Finish.lean ====
section
/-! SUPPORT. What follows every command changes nothing but the CAN node, the record of what was sent and the error history
1003h; and what `act`, `actServed` and `actAlways` answer. -/

namespace Sys2Proof.Machine

/-- Two devices differ in nothing but the CAN node, what was sent, and objects of the error history. -/
def SameBut (a b : Dev) : Prop :=
  (∃ objs can sent, b = { a with objs := objs, can := can, sent := sent }) ∧
  ∀ i j, i ≠ 0x1003 → j < 256 → b.getO i j = a.getO i j

theorem SameBut.refl (a : Dev) : SameBut a a := ⟨⟨a.objs, a.can, a.sent, rfl⟩, fun _ _ _ _ => rfl⟩

theorem SameBut.of_node (a : Dev) (can : Can) (sent : List Sent) : SameBut a { a with can := can, sent := sent } :=
  ⟨⟨a.objs, can, sent, rfl⟩, fun _ _ _ _ => rfl⟩

theorem SameBut.trans {a b c : Dev} (h : SameBut a b) (g : SameBut b c) : SameBut a c := by
  obtain ⟨⟨o, x, y, rfl⟩, h⟩ := h
  obtain ⟨⟨p, z, w, rfl⟩, g⟩ := g
  exact ⟨⟨p, z, w, rfl⟩, fun i j hi hj => (g i j hi hj).trans (h i j hi hj)⟩

theorem SameBut.foldl {α : Type} (f : Dev → α → Dev) (hf : ∀ d a, SameBut d (f d a)) :
    ∀ (l : List α) (d : Dev), SameBut d (l.foldl f d)
  | [], d => SameBut.refl d
  | a :: l, d => (hf d a).trans (SameBut.foldl f hf l (f d a))

theorem sendPorts_same (d : Dev) (m : Nat → Sent) : SameBut d (d.sendPorts m) := by
  refine SameBut.foldl _ ?_ _ d
  intro d p
  split
  · exact .of_node d d.can _
  · exact SameBut.refl d

theorem sendEmcy_same (d : Dev) (e : Emcy) : SameBut d (d.sendEmcy e) := by
  unfold Dev.sendEmcy
  split
  · exact .of_node d _ d.sent
  · exact (sendPorts_same d _).trans (.of_node _ _ _)

theorem sendTpdo_same (d : Dev) (t : Nat) : SameBut d (d.sendTpdo t) := by
  unfold Dev.sendTpdo
  exact (sendPorts_same d _).trans (.of_node _ _ _)

theorem tpdoChange_same (before d : Dev) (t : Nat) : SameBut d (Dev.tpdoChange before d t) := by
  unfold Dev.tpdoChange
  dsimp only
  split
  · split
    · exact .of_node d _ d.sent
    · exact sendTpdo_same d t
  · exact SameBut.refl d

theorem tpdoChanges_same (before d : Dev) : SameBut d (Dev.tpdoChanges before d) := by
  unfold Dev.tpdoChanges
  split
  · exact SameBut.foldl _ (fun d t => tpdoChange_same before d t) _ d
  · exact SameBut.refl d

/-- An object of the error history is written. -/
theorem setHistory_same (d : Dev) {j : Nat} (hj : j < 256) (v : Nat) : SameBut d (d.setO 0x1003 j v) :=
  ⟨⟨_, d.can, d.sent, rfl⟩, fun _ _ hi hk => getO_setO_other d (objKey_ne hj hk (.inl hi)) v⟩

theorem setHistories_same (l : List (Nat × Nat)) (h : ∀ x ∈ l, x.2 + 2 < 256) (d : Dev) :
    SameBut d (l.foldl (fun d x => d.setO 0x1003 (x.2 + 2) x.1) d) := by
  induction l generalizing d with
  | nil => exact SameBut.refl d
  | cons x l ih =>
    exact (setHistory_same d (h x (by simp)) _).trans (ih (fun y hy => h y (by simp [hy])) _)

theorem enterHistory_same (d : Dev) (code : Nat) : SameBut d (d.enterHistory code) := by
  unfold Dev.enterHistory
  refine ((setHistory_same d (by omega) _).trans (setHistories_same _ ?_ _)).trans (setHistory_same _ (by omega) _)
  intro x hx
  have := (List.of_mem_zip hx).2
  simp only [List.mem_range] at this
  omega

theorem settle_same (d : Dev) : SameBut d d.settle := by
  unfold Dev.settle
  split
  · exact ((enterHistory_same d 0).trans (sendEmcy_same _ _)).trans (.of_node _ _ _)
  · exact SameBut.refl d

/-- What follows a command touches the CAN node, the record of what was sent and the error history alone. -/
theorem finish_same (before d : Dev) : SameBut d (Dev.finish before d) :=
  (tpdoChanges_same before d).trans (settle_same _)

@[simp] theorem finish_blobs (b d : Dev) : (Dev.finish b d).blobs = d.blobs := by obtain ⟨⟨_, _, _, h⟩, _⟩ := finish_same b d; rw [h]
@[simp] theorem finish_frozen (b d : Dev) : (Dev.finish b d).frozen = d.frozen := by obtain ⟨⟨_, _, _, h⟩, _⟩ := finish_same b d; rw [h]
@[simp] theorem finish_mem (b d : Dev) : (Dev.finish b d).mem = d.mem := by obtain ⟨⟨_, _, _, h⟩, _⟩ := finish_same b d; rw [h]
@[simp] theorem finish_hostMem (b d : Dev) : (Dev.finish b d).hostMem = d.hostMem := by obtain ⟨⟨_, _, _, h⟩, _⟩ := finish_same b d; rw [h]
@[simp] theorem finish_clock (b d : Dev) : (Dev.finish b d).clock = d.clock := by obtain ⟨⟨_, _, _, h⟩, _⟩ := finish_same b d; rw [h]
@[simp] theorem finish_abacus (b d : Dev) : (Dev.finish b d).abacus = d.abacus := by obtain ⟨⟨_, _, _, h⟩, _⟩ := finish_same b d; rw [h]
@[simp] theorem finish_comp (b d : Dev) : (Dev.finish b d).comp = d.comp := by obtain ⟨⟨_, _, _, h⟩, _⟩ := finish_same b d; rw [h]
@[simp] theorem finish_bands (b d : Dev) : (Dev.finish b d).bands = d.bands := by obtain ⟨⟨_, _, _, h⟩, _⟩ := finish_same b d; rw [h]
@[simp] theorem finish_copy (b d : Dev) : (Dev.finish b d).copy = d.copy := by obtain ⟨⟨_, _, _, h⟩, _⟩ := finish_same b d; rw [h]
@[simp] theorem finish_gpu (b d : Dev) : (Dev.finish b d).gpu = d.gpu := by obtain ⟨⟨_, _, _, h⟩, _⟩ := finish_same b d; rw [h]
@[simp] theorem finish_panels (b d : Dev) : (Dev.finish b d).panels = d.panels := by obtain ⟨⟨_, _, _, h⟩, _⟩ := finish_same b d; rw [h]
@[simp] theorem finish_haptics (b d : Dev) : (Dev.finish b d).haptics = d.haptics := by obtain ⟨⟨_, _, _, h⟩, _⟩ := finish_same b d; rw [h]
@[simp] theorem finish_audio (b d : Dev) : (Dev.finish b d).audio = d.audio := by obtain ⟨⟨_, _, _, h⟩, _⟩ := finish_same b d; rw [h]
@[simp] theorem finish_engines (b d : Dev) : (Dev.finish b d).engines = d.engines := by obtain ⟨⟨_, _, _, h⟩, _⟩ := finish_same b d; rw [h]
@[simp] theorem finish_island (b d : Dev) : (Dev.finish b d).island = d.island := by obtain ⟨⟨_, _, _, h⟩, _⟩ := finish_same b d; rw [h]
@[simp] theorem finish_host (b d : Dev) : (Dev.finish b d).host = d.host := by obtain ⟨⟨_, _, _, h⟩, _⟩ := finish_same b d; rw [h]
@[simp] theorem finish_windows (b d : Dev) : (Dev.finish b d).windows = d.windows := by obtain ⟨⟨_, _, _, h⟩, _⟩ := finish_same b d; rw [h]
@[simp] theorem finish_transfers (b d : Dev) : (Dev.finish b d).transfers = d.transfers := by obtain ⟨⟨_, _, _, h⟩, _⟩ := finish_same b d; rw [h]
@[simp] theorem finish_answer (b d : Dev) : (Dev.finish b d).answer = d.answer := by obtain ⟨⟨_, _, _, h⟩, _⟩ := finish_same b d; rw [h]
@[simp] theorem finish_iso (b d : Dev) : (Dev.finish b d).iso = d.iso := by obtain ⟨⟨_, _, _, h⟩, _⟩ := finish_same b d; rw [h]
@[simp] theorem finish_letter (b d : Dev) : (Dev.finish b d).letter = d.letter := by obtain ⟨⟨_, _, _, h⟩, _⟩ := finish_same b d; rw [h]
@[simp] theorem finish_dram (b d : Dev) : (Dev.finish b d).dram = d.dram := by obtain ⟨⟨_, _, _, h⟩, _⟩ := finish_same b d; rw [h]
@[simp] theorem finish_prot (b d : Dev) : (Dev.finish b d).prot = d.prot := by obtain ⟨⟨_, _, _, h⟩, _⟩ := finish_same b d; rw [h]
@[simp] theorem finish_recorder (b d : Dev) : (Dev.finish b d).recorder = d.recorder := by obtain ⟨⟨_, _, _, h⟩, _⟩ := finish_same b d; rw [h]
@[simp] theorem finish_courier (b d : Dev) : (Dev.finish b d).courier = d.courier := by obtain ⟨⟨_, _, _, h⟩, _⟩ := finish_same b d; rw [h]
@[simp] theorem finish_registry (b d : Dev) : (Dev.finish b d).registry = d.registry := by obtain ⟨⟨_, _, _, h⟩, _⟩ := finish_same b d; rw [h]
@[simp] theorem finish_kept (b d : Dev) : (Dev.finish b d).kept = d.kept := by obtain ⟨⟨_, _, _, h⟩, _⟩ := finish_same b d; rw [h]
@[simp] theorem finish_power (b d : Dev) : (Dev.finish b d).power = d.power := by obtain ⟨⟨_, _, _, h⟩, _⟩ := finish_same b d; rw [h]
@[simp] theorem finish_free (b d : Dev) : (Dev.finish b d).free = d.free := by obtain ⟨⟨_, _, _, h⟩, _⟩ := finish_same b d; rw [h]

theorem finish_getO (b d : Dev) {i j : Nat} (hi : i ≠ 0x1003) (hj : j < 256) : (Dev.finish b d).getO i j = d.getO i j :=
  (finish_same b d).2 i j hi hj
theorem finish_getB (b d : Dev) (i j : Nat) : (Dev.finish b d).getB i j = d.getB i j := by simp [Dev.getB]

/-! ### The answers of the three forms -/

/-- A command of the running logic. -/
theorem act_live (f : Dev → Dev) (s : State) (h : s.dev.live = true) : act f s = .next (s.after (f s.dev)) := by
  simp [act, h, State.after]

/-- While the logic does not run, nothing happens. -/
theorem act_off (f : Dev → Dev) (s : State) (h : s.dev.live = false) : act f s = .next s := by simp [act, h]

/-- A request that the island serves. -/
theorem actServed_ready (f : Dev → Dev) (s : State) (h : s.ready = true) : actServed f s = .next (s.after (f s.dev)) := by
  simp only [State.ready, Bool.and_eq_true] at h
  simp [actServed, act, h.1, h.2, State.after]

/-- A command of the always-on domain, when it leaves the logic running. -/
theorem actAlways_live (f : Dev → Dev) (s : State) (h : (f s.dev).live = true) : actAlways f s = .next (s.after (f s.dev)) := by
  simp [actAlways, h, State.after]

/-- A command of the always-on domain, when it leaves the logic not running. -/
theorem actAlways_off (f : Dev → Dev) (s : State) (h : (f s.dev).live = false) :
    actAlways f s = .next { s with dev := f s.dev } := by simp [actAlways, h]

/-- A command that names a unit. -/
theorem onUnit_lt {n limit : Nat} (h : n < limit) (f : Dev → Dev) (d : Dev) : onUnit n limit f d = f d := by simp [onUnit, h]

theorem ready_live {s : State} (h : s.ready = true) : s.dev.live = true := by
  simp only [State.ready, Bool.and_eq_true] at h; exact h.1

@[simp] theorem after_pending (s : State) (d : Dev) : (s.after d).pending = s.pending := rfl
@[simp] theorem after_dev (s : State) (d : Dev) : (s.after d).dev = Dev.finish s.dev d := rfl

end Sys2Proof.Machine
end

