-- ==== Sys2Proof/Laws/Host.lean ====
section
/-! SUPPORT. What a TLP changes besides its own effect: the state of the link alone (R269); and what a doorbell and the selection
of a function on the manager page leave as it is. -/

namespace Sys2Proof.Machine

/-- A TLP changes at most objects. -/
theorem linkUse_only (d : Dev) (p : Nat) : ∃ objs, d.linkUse p = { d with objs := objs } := by
  unfold Dev.linkUse
  dsimp only
  split
  · exact ⟨_, rfl⟩
  · exact ⟨d.objs, rfl⟩

@[simp] theorem linkUse_host (d : Dev) (p : Nat) : (d.linkUse p).host = d.host := by obtain ⟨_, h⟩ := linkUse_only d p; rw [h]
@[simp] theorem linkUse_iso (d : Dev) (p : Nat) : (d.linkUse p).iso = d.iso := by obtain ⟨_, h⟩ := linkUse_only d p; rw [h]
@[simp] theorem linkUse_clock (d : Dev) (p : Nat) : (d.linkUse p).clock = d.clock := by obtain ⟨_, h⟩ := linkUse_only d p; rw [h]
@[simp] theorem linkUse_ring (d : Dev) (p i r : Nat) : (d.linkUse p).ring i r = d.ring i r := by simp [Dev.ring]
@[simp] theorem linkUse_inst (d : Dev) (p i : Nat) : (d.linkUse p).inst i = d.inst i := by simp [Dev.inst]
@[simp] theorem linkUse_page (d : Dev) (p q : Nat) : (d.linkUse p).page q = d.page q := by simp [Dev.page]
@[simp] theorem linkUse_owner (d : Dev) (p id : Nat) : (d.linkUse p).owner id = d.owner id := by
  obtain ⟨_, h⟩ := linkUse_only d p; rw [h]; rfl

/-- Every object but a port's link state holds what it held. -/
theorem getO_linkUse (d : Dev) {p a b : Nat} (hb : b < 256) (h : a ≠ 0x2901 + p ∨ b ≠ 1) : (d.linkUse p).getO a b = d.getO a b := by
  unfold Dev.linkUse
  dsimp only
  split
  · exact getO_setO_other _ (objKey_ne (by omega) hb h) _
  · rfl

@[simp] theorem linkUse_instState (d : Dev) {p : Nat} (hp : p < 2) (i : Nat) : (d.linkUse p).instState i = d.instState i :=
  getO_linkUse d (by omega) (by left; omega)

/-- A doorbell leaves the state of its ring. -/
theorem bell_ringState (d : Dev) (i r : Nat) (hr : r < 8) : ((d.linkUse (instPort i)).clearHint i).ringState i r = d.ringState i r := by
  unfold Dev.ringState Dev.clearHint
  rw [getO_setO_other _ (objKey_ne (by omega) (by unfold ringSub; omega) (by left; unfold ringIndex; omega)),
    getO_linkUse d (by unfold ringSub; omega) (by right; unfold ringSub; omega)]

/-- A doorbell leaves the length of its ring. -/
theorem bell_ringE (d : Dev) (i r : Nat) (hr : r < 8) : ((d.linkUse (instPort i)).clearHint i).ringE i r = d.ringE i r := by
  unfold Dev.ringE Dev.clearHint
  rw [getO_setO_other _ (objKey_ne (by omega) (by unfold ringSub; omega) (by left; unfold ringIndex; omega)),
    getO_linkUse d (by unfold ringSub; omega) (by right; unfold ringSub; omega)]

theorem bell_owner (d : Dev) (i id : Nat) : ((d.linkUse (instPort i)).clearHint i).owner id = d.owner id := by
  rw [← linkUse_owner d (instPort i)]; rfl

theorem bell_ring (d : Dev) (i r : Nat) : ((d.linkUse (instPort i)).clearHint i).ring i r = d.ring i r := by
  rw [← linkUse_ring d (instPort i)]; rfl

@[simp] theorem selected_instState (d : Dev) {p : Nat} (f : Nat) (hp : p < 2) (i : Nat) : (d.selected p f).instState i = d.instState i :=
  linkUse_instState d hp i

@[simp] theorem selected_inst (d : Dev) (p f i : Nat) : (d.selected p f).inst i = d.inst i := by
  rw [← linkUse_inst d p]; rfl

/-- A command of the manager page on a function that is there, while the page is not busy, is its effect on the device so
selected. -/
theorem manager_runs (d : Dev) {p f : Nat} (g : Nat → Dev → Dev) (hp : p < 2) (hf : f < 32) (ho : d.barOpen (32 * p))
    (hb : (d.page p).busy = none) (hi : d.instState (32 * p + f) ≠ 0) : d.manager p f g = g (32 * p + f) (d.selected p f) := by
  have a : ((d.selected p f).page p).busy = none := by
    unfold Dev.selected Dev.page Dev.setPage
    simp only [tabGet_set_same, linkUse_host]
    exact hb
  unfold Dev.manager
  simp [hp, hf, ho, a, hi]

end Sys2Proof.Machine
end

