-- ==== Sys2Proof/Laws/Log.lean ====
section
/-! SUPPORT. A record in the log writes no object outside the recorder's own indices. -/

namespace Sys2Proof.Machine

variable (d : Dev)

/-- Two blocks agree on every object outside the recorder's own. -/
def SameObjs (a b : Dev) : Prop := ∀ i j, logIndex i = false → j < 256 → b.getO i j = a.getO i j

theorem SameObjs.refl (a : Dev) : SameObjs a a := fun _ _ _ _ => rfl

theorem SameObjs.trans {a b c : Dev} (h : SameObjs a b) (g : SameObjs b c) : SameObjs a c :=
  fun i j hi hj => (g i j hi hj).trans (h i j hi hj)

theorem SameObjs.of_objs {a b : Dev} (h : b.objs = a.objs) : SameObjs a b := fun i j _ _ => getO_of_objs h i j

theorem sameObjs_setO {i j : Nat} (hi : logIndex i = true) (hj : j < 256) (v : Nat) : SameObjs d (d.setO i j v) :=
  fun i' j' hi' hj' => getO_setO_other d (objKey_ne hj hj' (.inl fun e => by simp [e, hi] at hi')) v

theorem sameObjs_notRecorded {code reason : Nat} (hc : code < 65536) (hr : reason < 4) :
    SameObjs d (d.notRecorded code reason) := by
  refine SameObjs.trans (sameObjs_setO d ?_ ?_ _) (sameObjs_setO _ rfl (by omega) _)
  · simp [logIndex]; omega
  · omega

theorem sameObjs_intakeCounted {code reason : Nat} (hc : code < 65536) (hr : reason < 4) :
    SameObjs d (d.intakeCounted code reason) := by
  unfold Dev.intakeCounted
  dsimp only
  split
  · exact (sameObjs_notRecorded d hc hr).trans (sameObjs_setO _ rfl (by omega) _)
  · exact sameObjs_notRecorded d hc hr

theorem sameObjs_enqueue (e : Event) : SameObjs d (d.enqueue e) := by
  unfold Dev.enqueue
  split
  · exact .of_objs rfl
  · dsimp only
    split
    · exact SameObjs.trans (.of_objs rfl) (sameObjs_setO _ rfl (by omega) _)
    · exact .of_objs rfl

theorem intakeRefusal_lt {d : Dev} {r : Nat} (h : d.intakeRefusal = some r) : r < 4 := by
  unfold Dev.intakeRefusal at h
  split_ifs at h <;> simp only [Option.some.injEq] at h <;> subst h <;> decide

theorem sameObjs_throttleRecord (cls : Nat) : SameObjs d (d.throttleRecord cls) := by
  unfold Dev.throttleRecord
  split
  · rename_i r h; exact sameObjs_intakeCounted d (by omega) (intakeRefusal_lt h)
  · exact sameObjs_enqueue d _

theorem sameObjs_intake (e : Event) (h : e.code < 65536) : SameObjs d (d.intake e).2 := by
  unfold Dev.intake
  dsimp only
  split
  · rename_i r hr; exact sameObjs_intakeCounted d h (intakeRefusal_lt hr)
  · split
    · exact sameObjs_enqueue d _
    · split
      · split
        · exact sameObjs_notRecorded d h (by omega)
        · refine SameObjs.trans ?_ (sameObjs_throttleRecord _ _)
          exact fun i j hi hj => sameObjs_notRecorded d h (by omega) i j hi hj
      · refine SameObjs.trans ?_ (sameObjs_enqueue _ _)
        exact fun _ _ _ _ => rfl

theorem sameObjs_log {cls : Nat} (hc : cls < 256) (what owner unit : Nat) (facts : List Nat) :
    SameObjs d (d.log cls what owner unit facts) :=
  sameObjs_intake d _ (by simp only [eventCode]; omega)

/-- A record in the log leaves every object outside the recorder as it was. -/
theorem log_getO {cls i j : Nat} (hc : cls < 256) (hi : logIndex i = false) (hj : j < 256) (what owner unit : Nat)
    (facts : List Nat) : (d.log cls what owner unit facts).getO i j = d.getO i j :=
  sameObjs_log d hc what owner unit facts i j hi hj

end Sys2Proof.Machine
end

