-- ==== Sys2Proof/Laws/Memory.lean ====
section
/-! SUPPORT. Every operation on memory keeps its canonical form, and reset's memory has it; and what a byte reads as after a
write. -/

namespace Sys2Proof.Machine

theorem rawSet_wf (d : Dev) (k : Nat) (b : Byte) (h : Memory.wf d.mem = true) : Memory.wf (d.rawSet k b).mem = true :=
  tabWf_set 0 d.mem k b h

theorem filter_wf (m : Tab Byte) (f : Nat × Byte → Bool) (h : Memory.wf m = true) : Memory.wf (m.filter f) = true :=
  tabWf_filter 0 f m h

theorem putByte_wf (d : Dev) (addr : Nat) (b : Byte) (h : Memory.wf d.mem = true) : Memory.wf (d.putByte addr b).mem = true := by
  unfold Dev.putByte
  repeat' split
  all_goals first
    | exact h
    | exact rawSet_wf _ _ _ h
    | exact rawSet_wf _ _ _ (rawSet_wf _ _ _ h)

theorem putBytes_wf (d : Dev) (addr : Nat) (l : List Byte) (h : Memory.wf d.mem = true) :
    Memory.wf (d.putBytes addr l).mem = true := by
  induction l generalizing d addr with
  | nil => exact h
  | cons b l ih => exact ih _ _ (putByte_wf d addr b h)

theorem rekey_wf (f : Nat → Option Nat) (m : Tab Byte) : Memory.wf (rekey f m) = true := by
  suffices h : ∀ (m : Tab Byte) (t : Tab Byte), Memory.wf t = true → Memory.wf (m.foldl (fun t p => match f p.1 with
      | some k => tabSet 0 t k p.2
      | none => t) t) = true from h m [] rfl
  intro m
  induction m with
  | nil => exact fun t h => h
  | cons p m ih =>
    intro t h
    refine ih _ ?_
    dsimp only
    split
    · exact tabWf_set 0 t _ p.2 h
    · exact h

theorem hostWrite_wf (d : Dev) (port addr : Nat) (l : List Byte) (h : Memory.wf d.hostMem = true) :
    Memory.wf (d.hostWrite port addr l).hostMem = true := by
  suffices g : ∀ (ps : List (Byte × Nat)) (m : Tab Byte), Memory.wf m = true →
      Memory.wf (ps.foldl (fun m p => tabSet 0 m (hostKey port (addr + p.2)) p.1) m) = true from g _ _ h
  intro ps
  induction ps with
  | nil => exact fun m h => h
  | cons p ps ih => exact fun m h => ih _ (tabWf_set 0 m _ _ h)

theorem putChimes_wf (d : Dev) (l : List Byte) (h : Memory.wf d.mem = true) : Memory.wf (d.putChimes l).mem = true :=
  putBytes_wf _ _ _ (filter_wf _ _ h)

@[simp] theorem mendWords_mem (d : Dev) (addr n : Nat) : (d.mendWords addr n).mem = d.mem := by
  unfold Dev.mendWords
  split <;> rfl

theorem foldl_mendWords_mem (l : List (Nat × Nat)) (d : Dev) :
    (l.foldl (fun d s => d.mendWords s.1 (s.2 - s.1)) d).mem = d.mem := by
  induction l generalizing d with
  | nil => rfl
  | cons s l ih => exact (ih _).trans (mendWords_mem d _ _)

theorem zeroSet_wf (d : Dev) (set : Nat) (h : Memory.wf d.mem = true) : Memory.wf (d.zeroSet set).mem = true :=
  filter_wf _ _ ((foldl_mendWords_mem _ d).symm ▸ h)

/-! ### A read after a write -/

@[simp] theorem keyOf_rawSet (d : Dev) (k : Nat) (b : Byte) (addr : Nat) : (d.rawSet k b).keyOf addr = d.keyOf addr := rfl

@[simp] theorem rawGet_rawSet_same (d : Dev) (k : Nat) (b : Byte) : (d.rawSet k b).rawGet k = b := by
  simp [Dev.rawGet, Dev.rawSet]

theorem rawGet_rawSet_other (d : Dev) {k k' : Nat} (h : k' ≠ k) (b : Byte) : (d.rawSet k b).rawGet k' = d.rawGet k' := by
  simp only [Dev.rawGet, Dev.rawSet]
  exact tabGet_set_other _ _ _ h _

/-- Where a key is given no copy, the key holds the byte that was put. -/
theorem putByte_at {d : Dev} {addr k : Nat} (h : d.keyOf addr = some k) (m : d.mirrorKey k = none) (b : Byte) :
    d.putByte addr b = d.rawSet k b := by simp [Dev.putByte, h, m]

/-- Outside the Registry's window, the byte that was put is read back. -/
theorem byte_putByte_same {d : Dev} {addr k : Nat} (h : d.keyOf addr = some k) (m : d.mirrorKey k = none)
    (o : ¬(0x3000000 ≤ addr ∧ addr < 0x3200000)) (b : Byte) : (d.putByte addr b).byte addr = b := by
  have o' : (decide (0x3000000 ≤ addr) && decide (addr < 0x3200000)) = false := by
    rw [← Bool.decide_and]; exact decide_eq_false o
  simp only [putByte_at h m, Dev.byte, o', keyOf_rawSet, h, rawGet_rawSet_same]
  rfl

/-- Every address with another key reads as before. -/
theorem byte_putByte_other {d : Dev} {addr k other : Nat} (h : d.keyOf addr = some k) (m : d.mirrorKey k = none)
    (ne : d.keyOf other ≠ some k) (b : Byte) : (d.putByte addr b).byte other = d.byte other := by
  simp only [putByte_at h m]
  unfold Dev.byte
  split
  · rfl
  · rw [keyOf_rawSet]
    cases e : d.keyOf other with
    | none => rfl
    | some k' => exact rawGet_rawSet_other d (fun h => ne (by rw [e, h])) b

/-- The bytes of the recorder's window have their own addresses for keys, and no copies. -/
theorem keyOf_log (d : Dev) {addr : Nat} (h : 0x4000000 ≤ addr) (g : addr < 0x4100000) : d.keyOf addr = some addr := by
  have e : guardOf addr = .recorder := by
    unfold guardOf
    repeat' (split; first | (simp_all; done) | (simp_all; omega))
    simp_all
  simp [Dev.keyOf, e]

theorem mirrorKey_low (d : Dev) {k : Nat} (h : k < 2 ^ 40) : d.mirrorKey k = none := by
  unfold Dev.mirrorKey
  split
  · rw [if_neg]; omega
  · rfl

theorem reset_memory_wf : Memory.wf State.reset.dev.mem = true := rfl
theorem reset_hostMemory_wf : Memory.wf State.reset.dev.hostMem = true := rfl

end Sys2Proof.Machine
end

