-- ==== Sys2Proof/Laws/Packets.lean ====
section
/-! SUPPORT. What the packet at a job's position does: the one lemma through which a proof reaches the effect of a packet. -/

namespace Sys2Proof.Machine

/-- A packet that its job stands at has its effect on the job moved past it: a halt keeps the job at the packet, a wait keeps
it in the buffer it waits in, and any other job goes on. -/
theorem packet_at {d d1 : Dev} {o q op : Nat} {j : GpuJob} {p : Packet} (h : d.atPacket o q op j p d1) (f : Effect)
    {j2 : GpuJob} {d2 : Dev} (hf : f p (j.past p) d1 = some (j2, d2)) :
    d.packet o q op f = d2.setHead o q (if j2.halt.isSome then { j2 with packet := j.pc }
      else if j2.wait.isSome || j2.rodWait.isSome then j2 else j2.norm) := by
  obtain ⟨a1, a2, a3, a4, a5, a6⟩ := h
  unfold Dev.packet
  cases hj : (d.gq o q).jobs with
  | nil => simp [hj] at a1
  | cons x t =>
    simp only [hj, List.head?_cons, Option.some.injEq] at a1
    subst a1
    unfold GpuJob.past at hf
    simp only [a2, a3, a4, a5, a6, Bool.not_true, Bool.or_self, Bool.false_eq_true, if_false, ne_eq, not_true_eq_false, hf]

/-- A job that runs has met no halt and waits for nothing. -/
theorem runs_free {j : GpuJob} (h : j.runs = true) : j.halt = none ∧ j.wait = none ∧ j.rodWait = none := by
  simp [GpuJob.runs] at h
  tauto

/-- A packet that neither halts its job nor makes it wait. -/
theorem packet_goes {d d1 : Dev} {o q op : Nat} {j : GpuJob} {p : Packet} (h : d.atPacket o q op j p d1) (f : Effect)
    {j2 : GpuJob} {d2 : Dev} (hf : f p (j.past p) d1 = some (j2, d2))
    (hh : j2.halt = none ∧ j2.wait = none ∧ j2.rodWait = none) : d.packet o q op f = d2.setHead o q j2.norm := by
  rw [packet_at h f hf, hh.1, hh.2.1, hh.2.2]; rfl

/-- A packet whose job waits at it (R139, R140). -/
theorem packet_waits {d d1 : Dev} {o q op : Nat} {j : GpuJob} {p : Packet} (h : d.atPacket o q op j p d1) (f : Effect)
    {j2 : GpuJob} {d2 : Dev} (hf : f p (j.past p) d1 = some (j2, d2)) (hh : j2.halt = none)
    (hw : (j2.wait.isSome || j2.rodWait.isSome) = true) : d.packet o q op f = d2.setHead o q j2 := by
  rw [packet_at h f hf, hh, hw]; rfl

end Sys2Proof.Machine
end

