-- ==== Sys2Proof/Laws/Units.lean ====
section
/-! SUPPORT. One lemma for each field and each update of one unit of the block (a partition, a panel, a channel, an engine, an
instance, a ring, a hand-over, a layer, the courier, the node): what the update leaves alone. -/

namespace Sys2Proof.Machine

variable (d : Dev)

@[simp] theorem setPart_objs (o : Nat) (x : Partition) : (d.setPart o x).objs = d.objs := rfl
@[simp] theorem setPart_blobs (o : Nat) (x : Partition) : (d.setPart o x).blobs = d.blobs := rfl
@[simp] theorem setPart_frozen (o : Nat) (x : Partition) : (d.setPart o x).frozen = d.frozen := rfl
@[simp] theorem setPart_mem (o : Nat) (x : Partition) : (d.setPart o x).mem = d.mem := rfl
@[simp] theorem setPart_hostMem (o : Nat) (x : Partition) : (d.setPart o x).hostMem = d.hostMem := rfl
@[simp] theorem setPart_clock (o : Nat) (x : Partition) : (d.setPart o x).clock = d.clock := rfl
@[simp] theorem setPart_abacus (o : Nat) (x : Partition) : (d.setPart o x).abacus = d.abacus := rfl
@[simp] theorem setPart_comp (o : Nat) (x : Partition) : (d.setPart o x).comp = d.comp := rfl
@[simp] theorem setPart_bands (o : Nat) (x : Partition) : (d.setPart o x).bands = d.bands := rfl
@[simp] theorem setPart_copy (o : Nat) (x : Partition) : (d.setPart o x).copy = d.copy := rfl
@[simp] theorem setPart_panels (o : Nat) (x : Partition) : (d.setPart o x).panels = d.panels := rfl
@[simp] theorem setPart_haptics (o : Nat) (x : Partition) : (d.setPart o x).haptics = d.haptics := rfl
@[simp] theorem setPart_audio (o : Nat) (x : Partition) : (d.setPart o x).audio = d.audio := rfl
@[simp] theorem setPart_engines (o : Nat) (x : Partition) : (d.setPart o x).engines = d.engines := rfl
@[simp] theorem setPart_island (o : Nat) (x : Partition) : (d.setPart o x).island = d.island := rfl
@[simp] theorem setPart_host (o : Nat) (x : Partition) : (d.setPart o x).host = d.host := rfl
@[simp] theorem setPart_windows (o : Nat) (x : Partition) : (d.setPart o x).windows = d.windows := rfl
@[simp] theorem setPart_transfers (o : Nat) (x : Partition) : (d.setPart o x).transfers = d.transfers := rfl
@[simp] theorem setPart_can (o : Nat) (x : Partition) : (d.setPart o x).can = d.can := rfl
@[simp] theorem setPart_answer (o : Nat) (x : Partition) : (d.setPart o x).answer = d.answer := rfl
@[simp] theorem setPart_sent (o : Nat) (x : Partition) : (d.setPart o x).sent = d.sent := rfl
@[simp] theorem setPart_iso (o : Nat) (x : Partition) : (d.setPart o x).iso = d.iso := rfl
@[simp] theorem setPart_letter (o : Nat) (x : Partition) : (d.setPart o x).letter = d.letter := rfl
@[simp] theorem setPart_dram (o : Nat) (x : Partition) : (d.setPart o x).dram = d.dram := rfl
@[simp] theorem setPart_prot (o : Nat) (x : Partition) : (d.setPart o x).prot = d.prot := rfl
@[simp] theorem setPart_recorder (o : Nat) (x : Partition) : (d.setPart o x).recorder = d.recorder := rfl
@[simp] theorem setPart_courier (o : Nat) (x : Partition) : (d.setPart o x).courier = d.courier := rfl
@[simp] theorem setPart_registry (o : Nat) (x : Partition) : (d.setPart o x).registry = d.registry := rfl
@[simp] theorem setPart_kept (o : Nat) (x : Partition) : (d.setPart o x).kept = d.kept := rfl
@[simp] theorem setPart_power (o : Nat) (x : Partition) : (d.setPart o x).power = d.power := rfl
@[simp] theorem setPart_free (o : Nat) (x : Partition) : (d.setPart o x).free = d.free := rfl

@[simp] theorem setPanel_objs (p : Nat) (x : Panel) : (d.setPanel p x).objs = d.objs := rfl
@[simp] theorem setPanel_blobs (p : Nat) (x : Panel) : (d.setPanel p x).blobs = d.blobs := rfl
@[simp] theorem setPanel_frozen (p : Nat) (x : Panel) : (d.setPanel p x).frozen = d.frozen := rfl
@[simp] theorem setPanel_mem (p : Nat) (x : Panel) : (d.setPanel p x).mem = d.mem := rfl
@[simp] theorem setPanel_hostMem (p : Nat) (x : Panel) : (d.setPanel p x).hostMem = d.hostMem := rfl
@[simp] theorem setPanel_clock (p : Nat) (x : Panel) : (d.setPanel p x).clock = d.clock := rfl
@[simp] theorem setPanel_abacus (p : Nat) (x : Panel) : (d.setPanel p x).abacus = d.abacus := rfl
@[simp] theorem setPanel_comp (p : Nat) (x : Panel) : (d.setPanel p x).comp = d.comp := rfl
@[simp] theorem setPanel_bands (p : Nat) (x : Panel) : (d.setPanel p x).bands = d.bands := rfl
@[simp] theorem setPanel_copy (p : Nat) (x : Panel) : (d.setPanel p x).copy = d.copy := rfl
@[simp] theorem setPanel_gpu (p : Nat) (x : Panel) : (d.setPanel p x).gpu = d.gpu := rfl
@[simp] theorem setPanel_haptics (p : Nat) (x : Panel) : (d.setPanel p x).haptics = d.haptics := rfl
@[simp] theorem setPanel_audio (p : Nat) (x : Panel) : (d.setPanel p x).audio = d.audio := rfl
@[simp] theorem setPanel_engines (p : Nat) (x : Panel) : (d.setPanel p x).engines = d.engines := rfl
@[simp] theorem setPanel_island (p : Nat) (x : Panel) : (d.setPanel p x).island = d.island := rfl
@[simp] theorem setPanel_host (p : Nat) (x : Panel) : (d.setPanel p x).host = d.host := rfl
@[simp] theorem setPanel_windows (p : Nat) (x : Panel) : (d.setPanel p x).windows = d.windows := rfl
@[simp] theorem setPanel_transfers (p : Nat) (x : Panel) : (d.setPanel p x).transfers = d.transfers := rfl
@[simp] theorem setPanel_can (p : Nat) (x : Panel) : (d.setPanel p x).can = d.can := rfl
@[simp] theorem setPanel_answer (p : Nat) (x : Panel) : (d.setPanel p x).answer = d.answer := rfl
@[simp] theorem setPanel_sent (p : Nat) (x : Panel) : (d.setPanel p x).sent = d.sent := rfl
@[simp] theorem setPanel_iso (p : Nat) (x : Panel) : (d.setPanel p x).iso = d.iso := rfl
@[simp] theorem setPanel_letter (p : Nat) (x : Panel) : (d.setPanel p x).letter = d.letter := rfl
@[simp] theorem setPanel_dram (p : Nat) (x : Panel) : (d.setPanel p x).dram = d.dram := rfl
@[simp] theorem setPanel_prot (p : Nat) (x : Panel) : (d.setPanel p x).prot = d.prot := rfl
@[simp] theorem setPanel_recorder (p : Nat) (x : Panel) : (d.setPanel p x).recorder = d.recorder := rfl
@[simp] theorem setPanel_courier (p : Nat) (x : Panel) : (d.setPanel p x).courier = d.courier := rfl
@[simp] theorem setPanel_registry (p : Nat) (x : Panel) : (d.setPanel p x).registry = d.registry := rfl
@[simp] theorem setPanel_kept (p : Nat) (x : Panel) : (d.setPanel p x).kept = d.kept := rfl
@[simp] theorem setPanel_power (p : Nat) (x : Panel) : (d.setPanel p x).power = d.power := rfl
@[simp] theorem setPanel_free (p : Nat) (x : Panel) : (d.setPanel p x).free = d.free := rfl

@[simp] theorem setHaptic_objs (c : Nat) (x : Haptic) : (d.setHaptic c x).objs = d.objs := rfl
@[simp] theorem setHaptic_blobs (c : Nat) (x : Haptic) : (d.setHaptic c x).blobs = d.blobs := rfl
@[simp] theorem setHaptic_frozen (c : Nat) (x : Haptic) : (d.setHaptic c x).frozen = d.frozen := rfl
@[simp] theorem setHaptic_mem (c : Nat) (x : Haptic) : (d.setHaptic c x).mem = d.mem := rfl
@[simp] theorem setHaptic_hostMem (c : Nat) (x : Haptic) : (d.setHaptic c x).hostMem = d.hostMem := rfl
@[simp] theorem setHaptic_clock (c : Nat) (x : Haptic) : (d.setHaptic c x).clock = d.clock := rfl
@[simp] theorem setHaptic_abacus (c : Nat) (x : Haptic) : (d.setHaptic c x).abacus = d.abacus := rfl
@[simp] theorem setHaptic_comp (c : Nat) (x : Haptic) : (d.setHaptic c x).comp = d.comp := rfl
@[simp] theorem setHaptic_bands (c : Nat) (x : Haptic) : (d.setHaptic c x).bands = d.bands := rfl
@[simp] theorem setHaptic_copy (c : Nat) (x : Haptic) : (d.setHaptic c x).copy = d.copy := rfl
@[simp] theorem setHaptic_gpu (c : Nat) (x : Haptic) : (d.setHaptic c x).gpu = d.gpu := rfl
@[simp] theorem setHaptic_panels (c : Nat) (x : Haptic) : (d.setHaptic c x).panels = d.panels := rfl
@[simp] theorem setHaptic_audio (c : Nat) (x : Haptic) : (d.setHaptic c x).audio = d.audio := rfl
@[simp] theorem setHaptic_engines (c : Nat) (x : Haptic) : (d.setHaptic c x).engines = d.engines := rfl
@[simp] theorem setHaptic_island (c : Nat) (x : Haptic) : (d.setHaptic c x).island = d.island := rfl
@[simp] theorem setHaptic_host (c : Nat) (x : Haptic) : (d.setHaptic c x).host = d.host := rfl
@[simp] theorem setHaptic_windows (c : Nat) (x : Haptic) : (d.setHaptic c x).windows = d.windows := rfl
@[simp] theorem setHaptic_transfers (c : Nat) (x : Haptic) : (d.setHaptic c x).transfers = d.transfers := rfl
@[simp] theorem setHaptic_can (c : Nat) (x : Haptic) : (d.setHaptic c x).can = d.can := rfl
@[simp] theorem setHaptic_answer (c : Nat) (x : Haptic) : (d.setHaptic c x).answer = d.answer := rfl
@[simp] theorem setHaptic_sent (c : Nat) (x : Haptic) : (d.setHaptic c x).sent = d.sent := rfl
@[simp] theorem setHaptic_iso (c : Nat) (x : Haptic) : (d.setHaptic c x).iso = d.iso := rfl
@[simp] theorem setHaptic_letter (c : Nat) (x : Haptic) : (d.setHaptic c x).letter = d.letter := rfl
@[simp] theorem setHaptic_dram (c : Nat) (x : Haptic) : (d.setHaptic c x).dram = d.dram := rfl
@[simp] theorem setHaptic_prot (c : Nat) (x : Haptic) : (d.setHaptic c x).prot = d.prot := rfl
@[simp] theorem setHaptic_recorder (c : Nat) (x : Haptic) : (d.setHaptic c x).recorder = d.recorder := rfl
@[simp] theorem setHaptic_courier (c : Nat) (x : Haptic) : (d.setHaptic c x).courier = d.courier := rfl
@[simp] theorem setHaptic_registry (c : Nat) (x : Haptic) : (d.setHaptic c x).registry = d.registry := rfl
@[simp] theorem setHaptic_kept (c : Nat) (x : Haptic) : (d.setHaptic c x).kept = d.kept := rfl
@[simp] theorem setHaptic_power (c : Nat) (x : Haptic) : (d.setHaptic c x).power = d.power := rfl
@[simp] theorem setHaptic_free (c : Nat) (x : Haptic) : (d.setHaptic c x).free = d.free := rfl

@[simp] theorem setEngine_objs (n : Nat) (x : Engine) : (d.setEngine n x).objs = d.objs := rfl
@[simp] theorem setEngine_blobs (n : Nat) (x : Engine) : (d.setEngine n x).blobs = d.blobs := rfl
@[simp] theorem setEngine_frozen (n : Nat) (x : Engine) : (d.setEngine n x).frozen = d.frozen := rfl
@[simp] theorem setEngine_mem (n : Nat) (x : Engine) : (d.setEngine n x).mem = d.mem := rfl
@[simp] theorem setEngine_hostMem (n : Nat) (x : Engine) : (d.setEngine n x).hostMem = d.hostMem := rfl
@[simp] theorem setEngine_clock (n : Nat) (x : Engine) : (d.setEngine n x).clock = d.clock := rfl
@[simp] theorem setEngine_abacus (n : Nat) (x : Engine) : (d.setEngine n x).abacus = d.abacus := rfl
@[simp] theorem setEngine_comp (n : Nat) (x : Engine) : (d.setEngine n x).comp = d.comp := rfl
@[simp] theorem setEngine_bands (n : Nat) (x : Engine) : (d.setEngine n x).bands = d.bands := rfl
@[simp] theorem setEngine_copy (n : Nat) (x : Engine) : (d.setEngine n x).copy = d.copy := rfl
@[simp] theorem setEngine_gpu (n : Nat) (x : Engine) : (d.setEngine n x).gpu = d.gpu := rfl
@[simp] theorem setEngine_panels (n : Nat) (x : Engine) : (d.setEngine n x).panels = d.panels := rfl
@[simp] theorem setEngine_haptics (n : Nat) (x : Engine) : (d.setEngine n x).haptics = d.haptics := rfl
@[simp] theorem setEngine_audio (n : Nat) (x : Engine) : (d.setEngine n x).audio = d.audio := rfl
@[simp] theorem setEngine_island (n : Nat) (x : Engine) : (d.setEngine n x).island = d.island := rfl
@[simp] theorem setEngine_host (n : Nat) (x : Engine) : (d.setEngine n x).host = d.host := rfl
@[simp] theorem setEngine_windows (n : Nat) (x : Engine) : (d.setEngine n x).windows = d.windows := rfl
@[simp] theorem setEngine_transfers (n : Nat) (x : Engine) : (d.setEngine n x).transfers = d.transfers := rfl
@[simp] theorem setEngine_can (n : Nat) (x : Engine) : (d.setEngine n x).can = d.can := rfl
@[simp] theorem setEngine_answer (n : Nat) (x : Engine) : (d.setEngine n x).answer = d.answer := rfl
@[simp] theorem setEngine_sent (n : Nat) (x : Engine) : (d.setEngine n x).sent = d.sent := rfl
@[simp] theorem setEngine_iso (n : Nat) (x : Engine) : (d.setEngine n x).iso = d.iso := rfl
@[simp] theorem setEngine_letter (n : Nat) (x : Engine) : (d.setEngine n x).letter = d.letter := rfl
@[simp] theorem setEngine_dram (n : Nat) (x : Engine) : (d.setEngine n x).dram = d.dram := rfl
@[simp] theorem setEngine_prot (n : Nat) (x : Engine) : (d.setEngine n x).prot = d.prot := rfl
@[simp] theorem setEngine_recorder (n : Nat) (x : Engine) : (d.setEngine n x).recorder = d.recorder := rfl
@[simp] theorem setEngine_courier (n : Nat) (x : Engine) : (d.setEngine n x).courier = d.courier := rfl
@[simp] theorem setEngine_registry (n : Nat) (x : Engine) : (d.setEngine n x).registry = d.registry := rfl
@[simp] theorem setEngine_kept (n : Nat) (x : Engine) : (d.setEngine n x).kept = d.kept := rfl
@[simp] theorem setEngine_power (n : Nat) (x : Engine) : (d.setEngine n x).power = d.power := rfl
@[simp] theorem setEngine_free (n : Nat) (x : Engine) : (d.setEngine n x).free = d.free := rfl

@[simp] theorem setInst_objs (i : Nat) (x : Instance) : (d.setInst i x).objs = d.objs := rfl
@[simp] theorem setInst_blobs (i : Nat) (x : Instance) : (d.setInst i x).blobs = d.blobs := rfl
@[simp] theorem setInst_frozen (i : Nat) (x : Instance) : (d.setInst i x).frozen = d.frozen := rfl
@[simp] theorem setInst_mem (i : Nat) (x : Instance) : (d.setInst i x).mem = d.mem := rfl
@[simp] theorem setInst_hostMem (i : Nat) (x : Instance) : (d.setInst i x).hostMem = d.hostMem := rfl
@[simp] theorem setInst_clock (i : Nat) (x : Instance) : (d.setInst i x).clock = d.clock := rfl
@[simp] theorem setInst_abacus (i : Nat) (x : Instance) : (d.setInst i x).abacus = d.abacus := rfl
@[simp] theorem setInst_comp (i : Nat) (x : Instance) : (d.setInst i x).comp = d.comp := rfl
@[simp] theorem setInst_bands (i : Nat) (x : Instance) : (d.setInst i x).bands = d.bands := rfl
@[simp] theorem setInst_copy (i : Nat) (x : Instance) : (d.setInst i x).copy = d.copy := rfl
@[simp] theorem setInst_gpu (i : Nat) (x : Instance) : (d.setInst i x).gpu = d.gpu := rfl
@[simp] theorem setInst_panels (i : Nat) (x : Instance) : (d.setInst i x).panels = d.panels := rfl
@[simp] theorem setInst_haptics (i : Nat) (x : Instance) : (d.setInst i x).haptics = d.haptics := rfl
@[simp] theorem setInst_audio (i : Nat) (x : Instance) : (d.setInst i x).audio = d.audio := rfl
@[simp] theorem setInst_engines (i : Nat) (x : Instance) : (d.setInst i x).engines = d.engines := rfl
@[simp] theorem setInst_island (i : Nat) (x : Instance) : (d.setInst i x).island = d.island := rfl
@[simp] theorem setInst_windows (i : Nat) (x : Instance) : (d.setInst i x).windows = d.windows := rfl
@[simp] theorem setInst_transfers (i : Nat) (x : Instance) : (d.setInst i x).transfers = d.transfers := rfl
@[simp] theorem setInst_can (i : Nat) (x : Instance) : (d.setInst i x).can = d.can := rfl
@[simp] theorem setInst_answer (i : Nat) (x : Instance) : (d.setInst i x).answer = d.answer := rfl
@[simp] theorem setInst_sent (i : Nat) (x : Instance) : (d.setInst i x).sent = d.sent := rfl
@[simp] theorem setInst_iso (i : Nat) (x : Instance) : (d.setInst i x).iso = d.iso := rfl
@[simp] theorem setInst_letter (i : Nat) (x : Instance) : (d.setInst i x).letter = d.letter := rfl
@[simp] theorem setInst_dram (i : Nat) (x : Instance) : (d.setInst i x).dram = d.dram := rfl
@[simp] theorem setInst_prot (i : Nat) (x : Instance) : (d.setInst i x).prot = d.prot := rfl
@[simp] theorem setInst_recorder (i : Nat) (x : Instance) : (d.setInst i x).recorder = d.recorder := rfl
@[simp] theorem setInst_courier (i : Nat) (x : Instance) : (d.setInst i x).courier = d.courier := rfl
@[simp] theorem setInst_registry (i : Nat) (x : Instance) : (d.setInst i x).registry = d.registry := rfl
@[simp] theorem setInst_kept (i : Nat) (x : Instance) : (d.setInst i x).kept = d.kept := rfl
@[simp] theorem setInst_power (i : Nat) (x : Instance) : (d.setInst i x).power = d.power := rfl
@[simp] theorem setInst_free (i : Nat) (x : Instance) : (d.setInst i x).free = d.free := rfl

@[simp] theorem setRing_objs (i r : Nat) (x : Ring) : (d.setRing i r x).objs = d.objs := rfl
@[simp] theorem setRing_blobs (i r : Nat) (x : Ring) : (d.setRing i r x).blobs = d.blobs := rfl
@[simp] theorem setRing_frozen (i r : Nat) (x : Ring) : (d.setRing i r x).frozen = d.frozen := rfl
@[simp] theorem setRing_mem (i r : Nat) (x : Ring) : (d.setRing i r x).mem = d.mem := rfl
@[simp] theorem setRing_hostMem (i r : Nat) (x : Ring) : (d.setRing i r x).hostMem = d.hostMem := rfl
@[simp] theorem setRing_clock (i r : Nat) (x : Ring) : (d.setRing i r x).clock = d.clock := rfl
@[simp] theorem setRing_abacus (i r : Nat) (x : Ring) : (d.setRing i r x).abacus = d.abacus := rfl
@[simp] theorem setRing_comp (i r : Nat) (x : Ring) : (d.setRing i r x).comp = d.comp := rfl
@[simp] theorem setRing_bands (i r : Nat) (x : Ring) : (d.setRing i r x).bands = d.bands := rfl
@[simp] theorem setRing_copy (i r : Nat) (x : Ring) : (d.setRing i r x).copy = d.copy := rfl
@[simp] theorem setRing_gpu (i r : Nat) (x : Ring) : (d.setRing i r x).gpu = d.gpu := rfl
@[simp] theorem setRing_panels (i r : Nat) (x : Ring) : (d.setRing i r x).panels = d.panels := rfl
@[simp] theorem setRing_haptics (i r : Nat) (x : Ring) : (d.setRing i r x).haptics = d.haptics := rfl
@[simp] theorem setRing_audio (i r : Nat) (x : Ring) : (d.setRing i r x).audio = d.audio := rfl
@[simp] theorem setRing_engines (i r : Nat) (x : Ring) : (d.setRing i r x).engines = d.engines := rfl
@[simp] theorem setRing_island (i r : Nat) (x : Ring) : (d.setRing i r x).island = d.island := rfl
@[simp] theorem setRing_windows (i r : Nat) (x : Ring) : (d.setRing i r x).windows = d.windows := rfl
@[simp] theorem setRing_transfers (i r : Nat) (x : Ring) : (d.setRing i r x).transfers = d.transfers := rfl
@[simp] theorem setRing_can (i r : Nat) (x : Ring) : (d.setRing i r x).can = d.can := rfl
@[simp] theorem setRing_answer (i r : Nat) (x : Ring) : (d.setRing i r x).answer = d.answer := rfl
@[simp] theorem setRing_sent (i r : Nat) (x : Ring) : (d.setRing i r x).sent = d.sent := rfl
@[simp] theorem setRing_iso (i r : Nat) (x : Ring) : (d.setRing i r x).iso = d.iso := rfl
@[simp] theorem setRing_letter (i r : Nat) (x : Ring) : (d.setRing i r x).letter = d.letter := rfl
@[simp] theorem setRing_dram (i r : Nat) (x : Ring) : (d.setRing i r x).dram = d.dram := rfl
@[simp] theorem setRing_prot (i r : Nat) (x : Ring) : (d.setRing i r x).prot = d.prot := rfl
@[simp] theorem setRing_recorder (i r : Nat) (x : Ring) : (d.setRing i r x).recorder = d.recorder := rfl
@[simp] theorem setRing_courier (i r : Nat) (x : Ring) : (d.setRing i r x).courier = d.courier := rfl
@[simp] theorem setRing_registry (i r : Nat) (x : Ring) : (d.setRing i r x).registry = d.registry := rfl
@[simp] theorem setRing_kept (i r : Nat) (x : Ring) : (d.setRing i r x).kept = d.kept := rfl
@[simp] theorem setRing_power (i r : Nat) (x : Ring) : (d.setRing i r x).power = d.power := rfl
@[simp] theorem setRing_free (i r : Nat) (x : Ring) : (d.setRing i r x).free = d.free := rfl

@[simp] theorem setHand_objs (id : Nat) (h : Hand) : (d.setHand id h).objs = d.objs := rfl
@[simp] theorem setHand_blobs (id : Nat) (h : Hand) : (d.setHand id h).blobs = d.blobs := rfl
@[simp] theorem setHand_frozen (id : Nat) (h : Hand) : (d.setHand id h).frozen = d.frozen := rfl
@[simp] theorem setHand_mem (id : Nat) (h : Hand) : (d.setHand id h).mem = d.mem := rfl
@[simp] theorem setHand_hostMem (id : Nat) (h : Hand) : (d.setHand id h).hostMem = d.hostMem := rfl
@[simp] theorem setHand_clock (id : Nat) (h : Hand) : (d.setHand id h).clock = d.clock := rfl
@[simp] theorem setHand_abacus (id : Nat) (h : Hand) : (d.setHand id h).abacus = d.abacus := rfl
@[simp] theorem setHand_comp (id : Nat) (h : Hand) : (d.setHand id h).comp = d.comp := rfl
@[simp] theorem setHand_bands (id : Nat) (h : Hand) : (d.setHand id h).bands = d.bands := rfl
@[simp] theorem setHand_copy (id : Nat) (h : Hand) : (d.setHand id h).copy = d.copy := rfl
@[simp] theorem setHand_gpu (id : Nat) (h : Hand) : (d.setHand id h).gpu = d.gpu := rfl
@[simp] theorem setHand_panels (id : Nat) (h : Hand) : (d.setHand id h).panels = d.panels := rfl
@[simp] theorem setHand_haptics (id : Nat) (h : Hand) : (d.setHand id h).haptics = d.haptics := rfl
@[simp] theorem setHand_audio (id : Nat) (h : Hand) : (d.setHand id h).audio = d.audio := rfl
@[simp] theorem setHand_engines (id : Nat) (h : Hand) : (d.setHand id h).engines = d.engines := rfl
@[simp] theorem setHand_island (id : Nat) (h : Hand) : (d.setHand id h).island = d.island := rfl
@[simp] theorem setHand_host (id : Nat) (h : Hand) : (d.setHand id h).host = d.host := rfl
@[simp] theorem setHand_windows (id : Nat) (h : Hand) : (d.setHand id h).windows = d.windows := rfl
@[simp] theorem setHand_transfers (id : Nat) (h : Hand) : (d.setHand id h).transfers = d.transfers := rfl
@[simp] theorem setHand_can (id : Nat) (h : Hand) : (d.setHand id h).can = d.can := rfl
@[simp] theorem setHand_answer (id : Nat) (h : Hand) : (d.setHand id h).answer = d.answer := rfl
@[simp] theorem setHand_sent (id : Nat) (h : Hand) : (d.setHand id h).sent = d.sent := rfl
@[simp] theorem setHand_letter (id : Nat) (h : Hand) : (d.setHand id h).letter = d.letter := rfl
@[simp] theorem setHand_dram (id : Nat) (h : Hand) : (d.setHand id h).dram = d.dram := rfl
@[simp] theorem setHand_prot (id : Nat) (h : Hand) : (d.setHand id h).prot = d.prot := rfl
@[simp] theorem setHand_recorder (id : Nat) (h : Hand) : (d.setHand id h).recorder = d.recorder := rfl
@[simp] theorem setHand_courier (id : Nat) (h : Hand) : (d.setHand id h).courier = d.courier := rfl
@[simp] theorem setHand_registry (id : Nat) (h : Hand) : (d.setHand id h).registry = d.registry := rfl
@[simp] theorem setHand_kept (id : Nat) (h : Hand) : (d.setHand id h).kept = d.kept := rfl
@[simp] theorem setHand_power (id : Nat) (h : Hand) : (d.setHand id h).power = d.power := rfl
@[simp] theorem setHand_free (id : Nat) (h : Hand) : (d.setHand id h).free = d.free := rfl

@[simp] theorem setLayer_objs (layer : Nat) (x : Layer) : (d.setLayer layer x).objs = d.objs := rfl
@[simp] theorem setLayer_blobs (layer : Nat) (x : Layer) : (d.setLayer layer x).blobs = d.blobs := rfl
@[simp] theorem setLayer_frozen (layer : Nat) (x : Layer) : (d.setLayer layer x).frozen = d.frozen := rfl
@[simp] theorem setLayer_mem (layer : Nat) (x : Layer) : (d.setLayer layer x).mem = d.mem := rfl
@[simp] theorem setLayer_hostMem (layer : Nat) (x : Layer) : (d.setLayer layer x).hostMem = d.hostMem := rfl
@[simp] theorem setLayer_clock (layer : Nat) (x : Layer) : (d.setLayer layer x).clock = d.clock := rfl
@[simp] theorem setLayer_abacus (layer : Nat) (x : Layer) : (d.setLayer layer x).abacus = d.abacus := rfl
@[simp] theorem setLayer_bands (layer : Nat) (x : Layer) : (d.setLayer layer x).bands = d.bands := rfl
@[simp] theorem setLayer_copy (layer : Nat) (x : Layer) : (d.setLayer layer x).copy = d.copy := rfl
@[simp] theorem setLayer_gpu (layer : Nat) (x : Layer) : (d.setLayer layer x).gpu = d.gpu := rfl
@[simp] theorem setLayer_panels (layer : Nat) (x : Layer) : (d.setLayer layer x).panels = d.panels := rfl
@[simp] theorem setLayer_haptics (layer : Nat) (x : Layer) : (d.setLayer layer x).haptics = d.haptics := rfl
@[simp] theorem setLayer_audio (layer : Nat) (x : Layer) : (d.setLayer layer x).audio = d.audio := rfl
@[simp] theorem setLayer_engines (layer : Nat) (x : Layer) : (d.setLayer layer x).engines = d.engines := rfl
@[simp] theorem setLayer_island (layer : Nat) (x : Layer) : (d.setLayer layer x).island = d.island := rfl
@[simp] theorem setLayer_host (layer : Nat) (x : Layer) : (d.setLayer layer x).host = d.host := rfl
@[simp] theorem setLayer_windows (layer : Nat) (x : Layer) : (d.setLayer layer x).windows = d.windows := rfl
@[simp] theorem setLayer_transfers (layer : Nat) (x : Layer) : (d.setLayer layer x).transfers = d.transfers := rfl
@[simp] theorem setLayer_can (layer : Nat) (x : Layer) : (d.setLayer layer x).can = d.can := rfl
@[simp] theorem setLayer_answer (layer : Nat) (x : Layer) : (d.setLayer layer x).answer = d.answer := rfl
@[simp] theorem setLayer_sent (layer : Nat) (x : Layer) : (d.setLayer layer x).sent = d.sent := rfl
@[simp] theorem setLayer_iso (layer : Nat) (x : Layer) : (d.setLayer layer x).iso = d.iso := rfl
@[simp] theorem setLayer_letter (layer : Nat) (x : Layer) : (d.setLayer layer x).letter = d.letter := rfl
@[simp] theorem setLayer_dram (layer : Nat) (x : Layer) : (d.setLayer layer x).dram = d.dram := rfl
@[simp] theorem setLayer_prot (layer : Nat) (x : Layer) : (d.setLayer layer x).prot = d.prot := rfl
@[simp] theorem setLayer_recorder (layer : Nat) (x : Layer) : (d.setLayer layer x).recorder = d.recorder := rfl
@[simp] theorem setLayer_courier (layer : Nat) (x : Layer) : (d.setLayer layer x).courier = d.courier := rfl
@[simp] theorem setLayer_registry (layer : Nat) (x : Layer) : (d.setLayer layer x).registry = d.registry := rfl
@[simp] theorem setLayer_kept (layer : Nat) (x : Layer) : (d.setLayer layer x).kept = d.kept := rfl
@[simp] theorem setLayer_power (layer : Nat) (x : Layer) : (d.setLayer layer x).power = d.power := rfl
@[simp] theorem setLayer_free (layer : Nat) (x : Layer) : (d.setLayer layer x).free = d.free := rfl

@[simp] theorem setBandLayer_objs (layer : Nat) (x : BandLayer) : (d.setBandLayer layer x).objs = d.objs := rfl
@[simp] theorem setBandLayer_blobs (layer : Nat) (x : BandLayer) : (d.setBandLayer layer x).blobs = d.blobs := rfl
@[simp] theorem setBandLayer_frozen (layer : Nat) (x : BandLayer) : (d.setBandLayer layer x).frozen = d.frozen := rfl
@[simp] theorem setBandLayer_mem (layer : Nat) (x : BandLayer) : (d.setBandLayer layer x).mem = d.mem := rfl
@[simp] theorem setBandLayer_hostMem (layer : Nat) (x : BandLayer) : (d.setBandLayer layer x).hostMem = d.hostMem := rfl
@[simp] theorem setBandLayer_clock (layer : Nat) (x : BandLayer) : (d.setBandLayer layer x).clock = d.clock := rfl
@[simp] theorem setBandLayer_abacus (layer : Nat) (x : BandLayer) : (d.setBandLayer layer x).abacus = d.abacus := rfl
@[simp] theorem setBandLayer_comp (layer : Nat) (x : BandLayer) : (d.setBandLayer layer x).comp = d.comp := rfl
@[simp] theorem setBandLayer_copy (layer : Nat) (x : BandLayer) : (d.setBandLayer layer x).copy = d.copy := rfl
@[simp] theorem setBandLayer_gpu (layer : Nat) (x : BandLayer) : (d.setBandLayer layer x).gpu = d.gpu := rfl
@[simp] theorem setBandLayer_panels (layer : Nat) (x : BandLayer) : (d.setBandLayer layer x).panels = d.panels := rfl
@[simp] theorem setBandLayer_haptics (layer : Nat) (x : BandLayer) : (d.setBandLayer layer x).haptics = d.haptics := rfl
@[simp] theorem setBandLayer_audio (layer : Nat) (x : BandLayer) : (d.setBandLayer layer x).audio = d.audio := rfl
@[simp] theorem setBandLayer_engines (layer : Nat) (x : BandLayer) : (d.setBandLayer layer x).engines = d.engines := rfl
@[simp] theorem setBandLayer_island (layer : Nat) (x : BandLayer) : (d.setBandLayer layer x).island = d.island := rfl
@[simp] theorem setBandLayer_host (layer : Nat) (x : BandLayer) : (d.setBandLayer layer x).host = d.host := rfl
@[simp] theorem setBandLayer_windows (layer : Nat) (x : BandLayer) : (d.setBandLayer layer x).windows = d.windows := rfl
@[simp] theorem setBandLayer_transfers (layer : Nat) (x : BandLayer) : (d.setBandLayer layer x).transfers = d.transfers := rfl
@[simp] theorem setBandLayer_can (layer : Nat) (x : BandLayer) : (d.setBandLayer layer x).can = d.can := rfl
@[simp] theorem setBandLayer_answer (layer : Nat) (x : BandLayer) : (d.setBandLayer layer x).answer = d.answer := rfl
@[simp] theorem setBandLayer_sent (layer : Nat) (x : BandLayer) : (d.setBandLayer layer x).sent = d.sent := rfl
@[simp] theorem setBandLayer_iso (layer : Nat) (x : BandLayer) : (d.setBandLayer layer x).iso = d.iso := rfl
@[simp] theorem setBandLayer_letter (layer : Nat) (x : BandLayer) : (d.setBandLayer layer x).letter = d.letter := rfl
@[simp] theorem setBandLayer_dram (layer : Nat) (x : BandLayer) : (d.setBandLayer layer x).dram = d.dram := rfl
@[simp] theorem setBandLayer_prot (layer : Nat) (x : BandLayer) : (d.setBandLayer layer x).prot = d.prot := rfl
@[simp] theorem setBandLayer_recorder (layer : Nat) (x : BandLayer) : (d.setBandLayer layer x).recorder = d.recorder := rfl
@[simp] theorem setBandLayer_courier (layer : Nat) (x : BandLayer) : (d.setBandLayer layer x).courier = d.courier := rfl
@[simp] theorem setBandLayer_registry (layer : Nat) (x : BandLayer) : (d.setBandLayer layer x).registry = d.registry := rfl
@[simp] theorem setBandLayer_kept (layer : Nat) (x : BandLayer) : (d.setBandLayer layer x).kept = d.kept := rfl
@[simp] theorem setBandLayer_power (layer : Nat) (x : BandLayer) : (d.setBandLayer layer x).power = d.power := rfl
@[simp] theorem setBandLayer_free (layer : Nat) (x : BandLayer) : (d.setBandLayer layer x).free = d.free := rfl

@[simp] theorem setCourier_objs (x : Courier) : (d.setCourier x).objs = d.objs := rfl
@[simp] theorem setCourier_blobs (x : Courier) : (d.setCourier x).blobs = d.blobs := rfl
@[simp] theorem setCourier_frozen (x : Courier) : (d.setCourier x).frozen = d.frozen := rfl
@[simp] theorem setCourier_mem (x : Courier) : (d.setCourier x).mem = d.mem := rfl
@[simp] theorem setCourier_hostMem (x : Courier) : (d.setCourier x).hostMem = d.hostMem := rfl
@[simp] theorem setCourier_clock (x : Courier) : (d.setCourier x).clock = d.clock := rfl
@[simp] theorem setCourier_abacus (x : Courier) : (d.setCourier x).abacus = d.abacus := rfl
@[simp] theorem setCourier_comp (x : Courier) : (d.setCourier x).comp = d.comp := rfl
@[simp] theorem setCourier_bands (x : Courier) : (d.setCourier x).bands = d.bands := rfl
@[simp] theorem setCourier_copy (x : Courier) : (d.setCourier x).copy = d.copy := rfl
@[simp] theorem setCourier_gpu (x : Courier) : (d.setCourier x).gpu = d.gpu := rfl
@[simp] theorem setCourier_panels (x : Courier) : (d.setCourier x).panels = d.panels := rfl
@[simp] theorem setCourier_haptics (x : Courier) : (d.setCourier x).haptics = d.haptics := rfl
@[simp] theorem setCourier_audio (x : Courier) : (d.setCourier x).audio = d.audio := rfl
@[simp] theorem setCourier_engines (x : Courier) : (d.setCourier x).engines = d.engines := rfl
@[simp] theorem setCourier_island (x : Courier) : (d.setCourier x).island = d.island := rfl
@[simp] theorem setCourier_host (x : Courier) : (d.setCourier x).host = d.host := rfl
@[simp] theorem setCourier_windows (x : Courier) : (d.setCourier x).windows = d.windows := rfl
@[simp] theorem setCourier_transfers (x : Courier) : (d.setCourier x).transfers = d.transfers := rfl
@[simp] theorem setCourier_can (x : Courier) : (d.setCourier x).can = d.can := rfl
@[simp] theorem setCourier_answer (x : Courier) : (d.setCourier x).answer = d.answer := rfl
@[simp] theorem setCourier_sent (x : Courier) : (d.setCourier x).sent = d.sent := rfl
@[simp] theorem setCourier_iso (x : Courier) : (d.setCourier x).iso = d.iso := rfl
@[simp] theorem setCourier_letter (x : Courier) : (d.setCourier x).letter = d.letter := rfl
@[simp] theorem setCourier_dram (x : Courier) : (d.setCourier x).dram = d.dram := rfl
@[simp] theorem setCourier_prot (x : Courier) : (d.setCourier x).prot = d.prot := rfl
@[simp] theorem setCourier_recorder (x : Courier) : (d.setCourier x).recorder = d.recorder := rfl
@[simp] theorem setCourier_registry (x : Courier) : (d.setCourier x).registry = d.registry := rfl
@[simp] theorem setCourier_kept (x : Courier) : (d.setCourier x).kept = d.kept := rfl
@[simp] theorem setCourier_power (x : Courier) : (d.setCourier x).power = d.power := rfl
@[simp] theorem setCourier_free (x : Courier) : (d.setCourier x).free = d.free := rfl

@[simp] theorem setNmt_objs (x : Nmt) : (d.setNmt x).objs = d.objs := rfl
@[simp] theorem setNmt_blobs (x : Nmt) : (d.setNmt x).blobs = d.blobs := rfl
@[simp] theorem setNmt_frozen (x : Nmt) : (d.setNmt x).frozen = d.frozen := rfl
@[simp] theorem setNmt_mem (x : Nmt) : (d.setNmt x).mem = d.mem := rfl
@[simp] theorem setNmt_hostMem (x : Nmt) : (d.setNmt x).hostMem = d.hostMem := rfl
@[simp] theorem setNmt_clock (x : Nmt) : (d.setNmt x).clock = d.clock := rfl
@[simp] theorem setNmt_abacus (x : Nmt) : (d.setNmt x).abacus = d.abacus := rfl
@[simp] theorem setNmt_comp (x : Nmt) : (d.setNmt x).comp = d.comp := rfl
@[simp] theorem setNmt_bands (x : Nmt) : (d.setNmt x).bands = d.bands := rfl
@[simp] theorem setNmt_copy (x : Nmt) : (d.setNmt x).copy = d.copy := rfl
@[simp] theorem setNmt_gpu (x : Nmt) : (d.setNmt x).gpu = d.gpu := rfl
@[simp] theorem setNmt_panels (x : Nmt) : (d.setNmt x).panels = d.panels := rfl
@[simp] theorem setNmt_haptics (x : Nmt) : (d.setNmt x).haptics = d.haptics := rfl
@[simp] theorem setNmt_audio (x : Nmt) : (d.setNmt x).audio = d.audio := rfl
@[simp] theorem setNmt_engines (x : Nmt) : (d.setNmt x).engines = d.engines := rfl
@[simp] theorem setNmt_island (x : Nmt) : (d.setNmt x).island = d.island := rfl
@[simp] theorem setNmt_host (x : Nmt) : (d.setNmt x).host = d.host := rfl
@[simp] theorem setNmt_windows (x : Nmt) : (d.setNmt x).windows = d.windows := rfl
@[simp] theorem setNmt_transfers (x : Nmt) : (d.setNmt x).transfers = d.transfers := rfl
@[simp] theorem setNmt_answer (x : Nmt) : (d.setNmt x).answer = d.answer := rfl
@[simp] theorem setNmt_sent (x : Nmt) : (d.setNmt x).sent = d.sent := rfl
@[simp] theorem setNmt_iso (x : Nmt) : (d.setNmt x).iso = d.iso := rfl
@[simp] theorem setNmt_letter (x : Nmt) : (d.setNmt x).letter = d.letter := rfl
@[simp] theorem setNmt_dram (x : Nmt) : (d.setNmt x).dram = d.dram := rfl
@[simp] theorem setNmt_prot (x : Nmt) : (d.setNmt x).prot = d.prot := rfl
@[simp] theorem setNmt_recorder (x : Nmt) : (d.setNmt x).recorder = d.recorder := rfl
@[simp] theorem setNmt_courier (x : Nmt) : (d.setNmt x).courier = d.courier := rfl
@[simp] theorem setNmt_registry (x : Nmt) : (d.setNmt x).registry = d.registry := rfl
@[simp] theorem setNmt_kept (x : Nmt) : (d.setNmt x).kept = d.kept := rfl
@[simp] theorem setNmt_power (x : Nmt) : (d.setNmt x).power = d.power := rfl
@[simp] theorem setNmt_free (x : Nmt) : (d.setNmt x).free = d.free := rfl

end Sys2Proof.Machine
end

