-- ==== Sys2Proof/Laws/Word.lean ====
section
/-! SUPPORT. Little-endian bytes and the numbers that they spell (R43). -/

namespace Sys2Proof

@[simp] theorem leBytes_length : ∀ n v : Nat, (leBytes n v).length = n
  | 0, _ => rfl
  | n + 1, v => by simp [leBytes, leBytes_length n]

theorem leNat_lt : ∀ b : List Byte, leNat b < 256 ^ b.length
  | [] => by simp [leNat]
  | x :: b => by
    have h := leNat_lt b
    have g := x.isLt
    simp only [leNat, List.length_cons, Nat.pow_succ]
    omega

@[simp] theorem leNat_leBytes : ∀ n v : Nat, leNat (leBytes n v) = v % 256 ^ n
  | 0, v => by simp [leBytes, leNat, Nat.mod_one]
  | n + 1, v => by
    have e : 256 ^ (n + 1) = 256 * 256 ^ n := by rw [Nat.pow_succ, Nat.mul_comm]
    rw [leBytes, leNat, leNat_leBytes n, BitVec.toNat_ofNat, e, Nat.mod_mul]

@[simp] theorem leBytes_leNat : ∀ b : List Byte, leBytes b.length (leNat b) = b
  | [] => rfl
  | x :: b => by
    have g := x.isLt
    have h1 : (x.toNat + 256 * leNat b) / 256 = leNat b := by omega
    have h2 : BitVec.ofNat 8 (x.toNat + 256 * leNat b) = x := by
      apply BitVec.eq_of_toNat_eq; simp only [BitVec.toNat_ofNat]; omega
    simp only [leNat, List.length_cons, leBytes, h1, h2, leBytes_leNat b]

end Sys2Proof
end

