-- ==== Sys2Proof/Machine/Balls.lean ====
section
/-! DEFINITION. The ball map of the package (R419 to R427): which ball lies at a row and column, its group, its internal pull,
and the state of every ball without VIN, in reset and while running (R410, Table 23-8). -/

namespace Sys2Proof.Machine

/-- The low-speed balls that stand alone. -/
inductive Control where
  | resetN | pgood | faultN | wakeIn | pairRole | bootSel | testen
  | tck | tms | tdi | tdo | trstN | debugReq
  deriving DecidableEq, Repr

/-- What a headset ball is. -/
inductive Contact where
  | left | right | ring2 | sleeve | det | gref
  deriving DecidableEq, Repr

/-- What a TDM ball is. -/
inductive TdmLine where
  | bclk | fsync | mclk | tx | rx
  deriving DecidableEq, Repr

/-- A ball. `pos` is the positive leg of a pair, `b` is port B of the PCIe ports, `terminalB` the B terminal of a channel. -/
inductive Ball where
  | vin | pgnd | gnd
  | dpLane (port lane : Nat) (pos : Bool) | dpAux (port : Nat) (pos : Bool) | dpHpd (port : Nat)
  | peTx (b : Bool) (lane : Nat) (pos : Bool) | peRx (b : Bool) (lane : Nat) (pos : Bool) | peRefclk (b : Bool) (pos : Bool)
  | pePerst (b : Bool) | peClkreq (b : Bool) | peWake (b : Bool)
  | courierTx (pos : Bool) | courierRx (pos : Bool) | courierSbo | courierSbi
  | can (port : Nat) (high : Bool)
  | sense (k : Nat) | shield (p : Nat)
  | haptic (c : Nat) (terminalB : Bool) | speaker (s : Nat) (pos : Bool)
  | headset (n : Nat) (contact : Contact)
  | tdm (p : Nat) (line : TdmLine) | pdmClk (n : Nat) | pdmDat (l : Nat)
  | genlock (n : Nat) | syncOut (n : Nat)
  | control (c : Control) | nodeId (n : Nat) | atb (n : Nat) | gpio (n : Nat) | reserved (n : Nat)
  deriving DecidableEq, Repr

/-! ### The map (R419 to R425): rows count from 1 for A to 39 for BA, columns from 1 -/

/-- The entry of a run of balls that begins at a column. -/
def runAt (first : Nat) (balls : List Ball) (col : Nat) : Ball :=
  if col < first then .gnd else balls.getD (col - first) .gnd

/-- A DisplayPort block (Table 24-3): its port, its row in the block, and which of its three columns. -/
def dpBall (port row place : Nat) : Ball :=
  if place = 2 then (if row = 4 then .dpHpd port else .gnd)
  else if row = 4 then .dpAux port (place == 0)
  else .dpLane port row (place == 0)

/-- PCIe balls (Table 24-4), by row of the band, counted in twos from row P. -/
def peBall (b : Bool) (step place : Nat) : Ball :=
  if place = 2 then (if step = 9 then .peWake b else .gnd)
  else if step < 8 then
    (if step % 2 = 0 then .peTx b (step / 2) (place == 0) else .peRx b (step / 2) (place == 0))
  else if step = 8 then .peRefclk b (place == 0)
  else if place = 0 then .pePerst b
  else .peClkreq b

/-- Courier balls (Table 24-4). -/
def courierBall (step : Nat) (second : Bool) : Ball :=
  match step with
  | 0 => .courierTx (!second)
  | 1 => .courierRx (!second)
  | 2 => if second then .courierSbi else .courierSbo
  | _ => .gnd

/-- The balls of row AJ (Table 24-5). -/
def controlRow : List Ball :=
  [.control .resetN, .control .pgood, .control .faultN, .control .wakeIn]
    ++ (List.range 7).map Ball.nodeId
    ++ [.control .pairRole, .control .bootSel, .control .testen, .atb 0, .atb 1]

/-- Row AL. -/
def debugRow : List Ball :=
  [.genlock 0, .genlock 1, .syncOut 0, .syncOut 1]
    ++ [.control .tck, .control .tms, .control .tdi, .control .tdo, .control .trstN, .control .debugReq]

/-- Row AN. -/
def tdmRow : List Ball :=
  ([0, 1].flatMap (fun p => [TdmLine.bclk, .fsync, .mclk, .tx, .rx].map (Ball.tdm p)))
    ++ [.pdmClk 0, .pdmClk 1] ++ (List.range 4).map Ball.pdmDat

/-- Row AP. -/
def headsetRow : List Ball :=
  ([0, 1].flatMap (fun n => [Contact.left, .right, .ring2, .sleeve, .det, .gref].map (Ball.headset n)))
    ++ [.can 0 true, .can 0 false, .can 1 true, .can 1 false]

/-- The low-speed balls (Table 24-5), by row. -/
def lowSpeedBall (row col : Nat) : Ball :=
  match row with
  | 24 => runAt 10 ((List.range 20).map Ball.reserved) col
  | 26 => runAt 12 ((List.range 16).map Ball.gpio) col
  | 28 => runAt 12 controlRow col
  | 30 => runAt 12 debugRow col
  | 32 => runAt 12 tdmRow col
  | 33 => runAt 12 headsetRow col
  | _ => .gnd

/-- The middle band (R422 to R424). -/
def middleBall (row col : Nat) : Ball :=
  let up := row - 14
  let even := up % 2 == 0
  if col ≤ 3 then dpBall (up / 5) (up % 5) (col - 1)
  else if 37 ≤ col then dpBall (4 + up / 5) (up % 5) (39 - col)
  else if 5 ≤ col ∧ col ≤ 7 then (if even then peBall false (up / 2) (col - 5) else .gnd)
  else if 33 ≤ col ∧ col ≤ 35 then (if even then peBall true (up / 2) (35 - col) else .gnd)
  else if col = 8 ∨ col = 9 then (if even then courierBall (up / 2) (col == 9) else .gnd)
  else if 10 ≤ col ∧ col ≤ 32 then lowSpeedBall row col
  else .gnd

/-- The power band (R425, Table 24-6). -/
def powerBall (row col : Nat) : Ball :=
  if 16 ≤ col ∧ col ≤ 23 then .vin
  else if row ≤ 35 then (if col ≤ 8 ∨ 32 ≤ col then .pgnd else .gnd)
  else if col ≤ 8 then .haptic (col - 1) (decide (38 ≤ row))
  else if col ≤ 30 then .pgnd
  else if col = 31 then .gnd
  else if row = 36 then .pgnd
  else .speaker ((col - 32) / 2) (col % 2 == 0)

/-- The ball at a row and column of the package. -/
def ballAt (row col : Nat) : Ball :=
  if row ≤ 12 then (if 4 ≤ col ∧ col ≤ 35 then .sense (32 * (row - 1) + (col - 4)) else .gnd)
  else if row = 13 then (if 4 ≤ col ∧ col ≤ 32 ∧ col % 4 = 0 then .shield ((col - 4) / 4) else .gnd)
  else if row ≤ 33 then middleBall row col
  else powerBall row col

/-! ### Groups (R426, Table 24-8) -/

/-- The group of a ball, in the order of Table 24-8 by columns: VIN, PGND, GND, DisplayPort, PCIe, CAN, courier, touch, haptics;
speakers, headsets, TDM, PDM, sync, JTAG, control and straps, GPIO, reserved. -/
def Ball.group (x : Ball) : Nat :=
  match x with
  | .vin => 0
  | .pgnd => 1
  | .gnd => 2
  | .dpLane _ _ _ | .dpAux _ _ | .dpHpd _ => 3
  | .peTx _ _ _ | .peRx _ _ _ | .peRefclk _ _ | .pePerst _ | .peClkreq _ | .peWake _ => 4
  | .can _ _ => 5
  | .courierTx _ | .courierRx _ | .courierSbo | .courierSbi => 6
  | .sense _ | .shield _ => 7
  | .haptic _ _ => 8
  | .speaker _ _ => 9
  | .headset _ _ => 10
  | .tdm _ _ => 11
  | .pdmClk _ | .pdmDat _ => 12
  | .genlock _ | .syncOut _ => 13
  | .control .tck | .control .tms | .control .tdi | .control .tdo | .control .trstN | .control .debugReq => 14
  | .control _ | .nodeId _ | .atb _ => 15
  | .gpio _ => 16
  | .reserved _ => 17

/-- How many balls of a row lie in a group. -/
def rowCount (g row : Nat) : Nat := ((List.range 39).filter (fun c => (ballAt row (c + 1)).group == g)).length

/-- How many balls of the package lie in a group. -/
def groupCount (g : Nat) : Nat := (List.range 39).foldl (fun n r => n + rowCount g (r + 1)) 0

/-! ### Internal pulls (R427, Table 24-9) -/

/-- A pull to the supply or to ground, in kΩ. -/
inductive Pull where
  | up (kohm : Nat) | down (kohm : Nat)
  deriving DecidableEq, Repr

/-- The internal pull of a ball with an input or a normally-on pull. -/
def Ball.pull (x : Ball) : Option Pull :=
  match x with
  | .dpAux _ pos => some (if pos then .down 100 else .up 100)
  | .dpHpd _ | .pePerst _ | .courierSbi | .genlock _ | .gpio _ | .pdmDat _ | .tdm _ .rx | .control .wakeIn => some (.down 100)
  | .headset _ .det => some (.up 100)
  | .control .tck | .control .trstN | .control .testen => some (.down 47)
  | .control .tms | .control .tdi | .control .debugReq | .control .resetN | .control .pairRole | .control .bootSel | .nodeId _ =>
    some (.up 47)
  | _ => none

/-- The value that a strap or an input left open reads: its pull's. -/
def Ball.openReads (x : Ball) : Option Bool := x.pull.map (fun p => match p with | .up _ => true | .down _ => false)

/-! ### States (R410, Table 23-8) -/

/-- What the part does at a ball. -/
inductive BallState where
  /-- Supply, ground, or not connected. -/
  | passive
  | highZ
  /-- To ground through a number of ohms; 0 is driven to ground. -/
  | ground (ohms : Nat)
  | low
  | high
  /-- No swing on a lane; for a receiver, no termination. -/
  | idle
  /-- An input, not driven. -/
  | input
  /-- An open-drain output let go. -/
  | released
  /-- A CAN driver that leaves the bus recessive, or without power as ISO 11898-2 requires. -/
  | recessive
  /-- A coil shorted through the low-side switches. -/
  | shorted
  /-- Driven by its function. -/
  | active
  deriving DecidableEq, Repr

/-- Without VIN. -/
def Ball.unpowered (x : Ball) : BallState :=
  match x with
  | .vin | .pgnd | .gnd | .reserved _ => .passive
  | .can _ _ => .recessive
  | .sense _ | .shield _ => .ground 10000
  | .haptic _ _ => .shorted
  | .speaker _ _ => .ground 1000
  | .headset _ .left | .headset _ .right => .ground 1000
  | .pePerst _ | .peRefclk _ _ | .courierSbi | .genlock _ | .tdm _ .rx | .pdmDat _ | .control .wakeIn | .headset _ .det => .input
  | .control .pgood | .control .faultN => .low
  | _ => .highZ

/-- With VIN, in reset. -/
def Ball.inReset (x : Ball) : BallState :=
  match x with
  | .vin | .pgnd | .gnd | .reserved _ => .passive
  | .dpLane _ _ _ | .peTx _ _ _ | .peRx _ _ _ | .courierTx _ | .courierRx _ => .idle
  | .dpAux _ _ => .highZ
  | .peClkreq _ | .peWake _ | .syncOut _ => .released
  | .can _ _ => .recessive
  | .courierSbo => .low
  | .sense _ | .shield _ | .speaker _ _ => .ground 0
  | .haptic _ _ => .shorted
  | .headset _ .left | .headset _ .right => .ground 0
  | .headset _ .det | .headset _ .gref => .input
  | .headset _ _ => .highZ
  | .tdm _ .rx | .pdmDat _ => .input
  | .tdm _ _ | .pdmClk _ => .low
  | .control .tdo => .highZ
  | .control .faultN => .low
  | .control .pgood => .high
  | .atb _ => .highZ
  | _ => .input

/-- A port's lanes carry training patterns or frames (Table 4-3). -/
def Dev.lanesOn (d : Dev) (n : Nat) : Bool := 3 ≤ d.outState n && d.outState n ≤ 5

/-- While running. A GPIO is an input: what the island content configures is its own (assumption log 64). -/
def Dev.runningState (d : Dev) (x : Ball) : BallState :=
  let port (b : Bool) : Nat := if b then 1 else 0
  let level (b : Bool) : BallState := if b then .high else .low
  match x with
  | .dpLane n _ _ => if d.lanesOn n then .active else .idle
  | .dpAux _ _ => .active
  | .peTx b _ _ | .peRx b _ _ => if tabGet false d.host.linked (port b) then .active else .idle
  | .peClkreq _ | .peWake _ => .active
  | .can p _ => if d.portOpen p then .active else .recessive
  | .courierTx _ | .courierRx _ => if d.linkState = 0 then .idle else .active
  | .courierSbo => level d.sidebandOut
  | .sense k => if d.senseBall k = .scan then .active else .ground 0
  | .shield p => if d.shieldBall p = .scan then .active else .ground 0
  | .haptic c _ =>
    match d.bridge c with
    | .shorted => .shorted
    | .isOpen => .highZ
    | .driven => .active
  | .speaker s _ => if d.snk s 1 = 1 then .active else .ground 0
  | .headset n .left | .headset n .right => if d.headphonesLive n then .active else .ground 0
  | .headset n .ring2 | .headset n .sleeve =>
    let st := d.getO (headsetIndex n) 1
    if st = 2 ∨ st = 3 ∨ st = 4 then .active else .highZ
  | .tdm _ .rx => .input
  | .tdm p _ => if d.tdmRuns p then .active else .low
  | .pdmClk n => if d.pdmClock n then .active else .low
  | .syncOut n => if d.abacus.syncLow.testBit n then .low else .released
  | .control .tdo => .active
  | .control .pgood => level d.power.pgood
  | .control .faultN => level d.faultN
  | _ => x.inReset

/-- The state of a ball now. Asleep, the rails are off as without VIN, but for the always-on domain's inputs (DESIGN CHOICE,
assumption log 64: Table 23-8 has no column for Sleep); PGOOD is low until the rails are up. -/
def Dev.ballState (d : Dev) (x : Ball) : BallState :=
  match d.power.phase with
  | .held => if x = .control .pgood ∧ !d.power.pgood then .low else x.inReset
  | .sleep => if x = .control .resetN then .input else x.unpowered
  | _ => d.runningState x

end Sys2Proof.Machine
end

