-- ==== Sys2Proof/Machine/Figures.lean ====
section
/-! DEFINITION. The electrical, thermal and package figures (24, 25): the tables as data, and the rules that compute with
them. Nothing else in the model reads them. -/

namespace Sys2Proof.Machine

/-- A figure of a table: its limits and its typical value, where the table gives them, and what it says beside numbers. -/
structure Figure where
  what    : String
  least   : Option Rat := none
  typical : Option Rat := none
  most    : Option Rat := none
  unit    : String := ""
  note    : String := ""
  deriving DecidableEq, Repr

/-- A value lies within a figure's limits. -/
def Figure.holds (f : Figure) (v : Rat) : Bool :=
  (match f.least with | some l => decide (l ≤ v) | none => true) && (match f.most with | some m => decide (v ≤ m) | none => true)

/-- Package dimensions (R419, Table 24-1). -/
def packageFigures : List Figure :=
  [{ what := "Body, each side", least := some (3290 / 100), typical := some (3300 / 100), most := some (3310 / 100), unit := "mm" },
    { what := "Ball pitch", typical := some (80 / 100), unit := "mm" },
    { what := "Grid", unit := "balls", note := "39 × 39" },
    { what := "Span of outer ball centres", typical := some (3040 / 100), unit := "mm" }]
  ++ [{ what := "Body edge to outer ball centre", typical := some (130 / 100), unit := "mm" },
    { what := "Ball A1 centre from body centre, x and y", unit := "mm", note := "−15.20, +15.20" },
    { what := "Seated height, lid top to board", least := some (290 / 100), typical := some (305 / 100), most := some (320 / 100), unit := "mm" },
    { what := "Ball diameter before reflow", least := some (40 / 100), typical := some (45 / 100), most := some (50 / 100), unit := "mm" }]
  ++ [{ what := "Ball coplanarity", most := some (20 / 100), unit := "mm" },
    { what := "Lid, each side", typical := some (3100 / 100), unit := "mm" },
    { what := "Lid flatness", most := some (5 / 100), unit := "mm" },
    { what := "Mass", typical := some (95 / 10), unit := "g" }]

/-- Thermal path and heatsink (R430, Table 24-10). -/
def thermalFigures : List Figure :=
  [{ what := "Junction to case, logic die (K/W)", typical := some (7 / 100), most := some (10 / 100) },
    { what := "Junction to case, analog and power die (K/W)", typical := some (45 / 100), most := some (60 / 100) },
    { what := "Junction to board, whole package (K/W)", typical := some (25 / 10) },
    { what := "Heatsink clamp force (N)", least := some (150), most := some (350) }]
  ++ [{ what := "Lid pressure (MPa)", most := some (35 / 100) }]

/-- Absolute maximum ratings (R431, Table 25-1); a ball that the table does not name: -0.3 V to +0.3 V. -/
def absoluteRatings : List Figure :=
  [{ what := "VIN, continuous", least := some (-16), most := some (24), unit := "V" },
    { what := "VIN, pulse of 400 ms or less", most := some (40), unit := "V" },
    { what := "C33 ball", least := some (-(3 / 10)), most := some (36 / 10), unit := "V" },
    { what := "DPn_HPD, PEx_PERST#", least := some (-(3 / 10)), most := some (55 / 10), unit := "V" }]
  ++ [{ what := "C18 ball", least := some (-(3 / 10)), most := some (20 / 10), unit := "V" },
    { what := "CANp_H, CANp_L", least := some (-58), most := some (58), unit := "V" },
    { what := "TSk, TSHp", least := some (-(3 / 10)), most := some (36 / 10), unit := "V" },
    { what := "HAPc, SPKs terminals", least := some (-(5 / 10)), unit := "V", note := "VIN + 0.5" }]
  ++ [{ what := "HSn contacts", least := some (-(30 / 10)), most := some (30 / 10), unit := "V" },
    { what := "Junction temperature", most := some (150), unit := "°C" },
    { what := "Storage temperature", least := some (-55), most := some (150), unit := "°C" }]

/-- ESD robustness (R432, Table 25-2). -/
def esdFigures : List Figure :=
  [{ what := "all balls", least := some (-2), most := some (2), unit := "HBM, ANSI/ESDA/JEDEC JS-001", note := "±2 kV" },
    { what := "all balls", least := some (-500), most := some (500), unit := "CDM, JS-002", note := "±500 V" },
    { what := "TSk, TSHp, HSn, CANp, SPKs, HAPc, measured at the connector", least := some (-8), most := some (8), unit := "IEC 61000-4-2, contact", note := "±8 kV" }]

/-- Operating conditions (R433, Table 25-3). -/
def operatingConditions : List Figure :=
  [{ what := "VIN at the balls, including transients", least := some (90 / 10), most := some (160 / 10), unit := "V", note := "12.0 or 14.4" },
    { what := "Ambient, with a heatsink as R430 requires", least := some (-40), most := some (85), unit := "°C" },
    { what := "Case (R430)", least := some (-40), most := some (105), unit := "°C" },
    { what := "Junction, either die", least := some (-40), most := some (125), unit := "°C" }]

/-- Dissipation in W by profile, typical and most (R435, Table 25-4). -/
def powerFigures : List Figure :=
  [{ what := "Full", typical := some (28), most := some (45) },
    { what := "Balanced", typical := some (21), most := some (32) },
    { what := "Cool", typical := some (14), most := some (22) },
    { what := "Keep-alive", typical := some (9 / 10), most := some (15 / 10) }]
  ++ [{ what := "Sleep", typical := some (18 / 1000), most := some (40 / 1000) },
    { what := "Peak input, all loads", most := some (125) }]

/-- Levels of class C33 (R436, Table 25-5). -/
def levelsC33 : List Figure :=
  [{ what := "Supply of the class (internal)", least := some (314 / 100), most := some (346 / 100), unit := "V" },
    { what := "Input high", least := some (20 / 10), unit := "V" },
    { what := "Input low", most := some (8 / 10), unit := "V" },
    { what := "Schmitt hysteresis, where marked", least := some (2 / 10), unit := "V" }]
  ++ [{ what := "Output high, at −4 mA (C33) or −2 mA (C18)", least := some (24 / 10), unit := "V" },
    { what := "Output low, at 4 mA (C33) or 2 mA (C18)", most := some (4 / 10), unit := "V" },
    { what := "Open-drain low, at 8 mA", most := some (4 / 10), unit := "V" },
    { what := "Open-drain external pull-up voltage", most := some (36 / 10), unit := "V" }]
  ++ [{ what := "Input leakage", least := some (-1), most := some (1), unit := "µA" },
    { what := "Ball capacitance", most := some (5), unit := "pF" }]

/-- Levels of class C18 (R436, Table 25-5). -/
def levelsC18 : List Figure :=
  [{ what := "Supply of the class (internal)", least := some (171 / 100), most := some (189 / 100), unit := "V" },
    { what := "Input high", least := some (117 / 100), unit := "V" },
    { what := "Input low", most := some (63 / 100), unit := "V" },
    { what := "Schmitt hysteresis, where marked", unit := "V" }]
  ++ [{ what := "Output high, at −4 mA (C33) or −2 mA (C18)", least := some (135 / 100), unit := "V" },
    { what := "Output low, at 4 mA (C33) or 2 mA (C18)", most := some (45 / 100), unit := "V" },
    { what := "Open-drain low, at 8 mA", unit := "V" },
    { what := "Open-drain external pull-up voltage", unit := "V" }]
  ++ [{ what := "Input leakage", least := some (-1), most := some (1), unit := "µA" },
    { what := "Ball capacitance", most := some (4), unit := "pF" }]

/-- Reset and strap timing (R437, Table 25-6). -/
def resetTiming : List Figure :=
  [{ what := "RESET_N low that resets (R405)", least := some (1), unit := "µs" },
    { what := "RESET_N low that is ignored", most := some (1 / 10), unit := "µs" },
    { what := "RESET_N fall to every ball group in its reset state (Table 23-8)", most := some (2), unit := "µs" },
    { what := "Strap level stable before the internal release (set-up)", least := some (10), unit := "µs" }]
  ++ [{ what := "Strap level stable after the internal release (hold)", least := some (10), unit := "µs" },
    { what := "VIN good to PGOOD high", most := some (8), unit := "ms" },
    { what := "Brown-out: VIN below 7.0 V before reset", least := some (10), unit := "µs" }]

/-- CAN transceivers (R441, Table 25-7). -/
def canFigures : List Figure :=
  [{ what := "Data-phase bit rate (2001h/05h)", most := some (5), unit := "Mbit/s" },
    { what := "Loop delay, recessive and dominant", typical := some (150), most := some (255), unit := "ns" },
    { what := "Bit-time symmetry, 5 Mbit/s option of the standard", note := "met" },
    { what := "Dominant output, CANH − CANL, 60 Ω load", least := some (15 / 10), typical := some (225 / 100), most := some (30 / 10), unit := "V" }]
  ++ [{ what := "Common-mode range of the receiver", least := some (-12), most := some (12), unit := "V" },
    { what := "Dominant timeout of the transmitter", least := some (8 / 10), most := some (10), unit := "ms" },
    { what := "Current from VIN, Sleep, both ports", most := some (40), unit := "µA" }]

/-- Sense slices (R442, Table 25-8). -/
def senseFigures : List Figure :=
  [{ what := "Sense waveform, at 192 kHz (5.2083 µs)", typical := some (18 / 10), unit := "V peak-to-peak" },
    { what := "Electrode plus trace capacitance that calibrates to 16 384", least := some (4), most := some (6775 / 100), unit := "pF" },
    { what := "Compensation step (R196)", least := some (225 / 1000), typical := some (250 / 1000), most := some (275 / 1000), unit := "pF" },
    { what := "Shield tracking of the sense waveform, 2 nF guard", typical := some (1), most := some (2), unit := "% of amplitude" }]
  ++ [{ what := "Raw noise, n = 12, 20 pF electrode, blanking mode", typical := some (8), most := some (16), unit := "counts rms" },
    { what := "Raw noise, as above, line-locked mode", typical := some (12), most := some (24), unit := "counts rms" },
    { what := "Gain drift over −40 °C to +105 °C", most := some (3), unit := "%" }]

/-- Haptic channels (R443, Table 25-9). -/
def hapticFigures : List Figure :=
  [{ what := "Haptic rail", least := some (1164 / 100), typical := some (120 / 10), most := some (1236 / 100), unit := "V" },
    { what := "Coil voltage", least := some (-(115 / 10)), most := some (115 / 10), unit := "V" },
    { what := "Coil current, continuous per channel", most := some (15 / 10), unit := "A" },
    { what := "Bridge resistance, both switches, junction 125 °C", typical := some (25 / 100), most := some (40 / 100), unit := "Ω" }]
  ++ [{ what := "Current measurement error", least := some (-2), most := some (2), unit := "% of reading" },
    { what := "Overcurrent trip (cause 5)", least := some (18 / 10), typical := some (20 / 10), most := some (22 / 10), unit := "A" },
    { what := "Acceleration tracking error, model within 5 %", typical := some (5), unit := "% of peak" }]

/-- Audio paths (R444, Table 25-10). -/
def audioFigures : List Figure :=
  [{ what := "Speaker output, 4 Ω, VIN 14.4 V, 1 % THD+N", least := some (15), typical := some (151 / 10), unit := "W" },
    { what := "Speaker output, 4 Ω, VIN 9.0 V (ceiling −2.8 dBFS)", typical := some (79 / 10), unit := "W" },
    { what := "Speaker THD+N, 1 W into 4 Ω", typical := some (5 / 100), most := some (1 / 10), unit := "%" },
    { what := "Speaker efficiency, 15 W into 4 Ω", typical := some (88), unit := "%" }]
  ++ [{ what := "Speaker idle noise (A)", typical := some (60), most := some (100), unit := "µV" },
    { what := "Headphone output, 32 Ω, 0 dBFS", least := some (30), typical := some (31), unit := "mW" },
    { what := "Headphone THD+N, 10 mW into 32 Ω", typical := some (1 / 100), most := some (3 / 100), unit := "%" },
    { what := "Headphone SNR (A)", least := some (104), typical := some (110), unit := "dB" }]
  ++ [{ what := "Microphone bias (/05h), error", least := some (-3), most := some (3), unit := "%" },
    { what := "Microphone bias current", most := some (2), unit := "mA" },
    { what := "Microphone input noise at 42 dB gain (A)", typical := some (3), most := some (5), unit := "µV" },
    { what := "Headset resistance measurement (R252, R253)", least := some (-5), most := some (5) }]

/-- The case-to-ambient resistance, in K/W, that keeps the case at 105 °C at an ambient temperature, for a dissipation in W
(R430, Table 24-11). -/
def caseToAmbient (ambient watts : Rat) : Rat := (105 - ambient) / watts

/-- The dissipation limit of a profile in W (Table 1-5): Full, Balanced, Cool; Cool above 2.4 Gpix/s under R14. -/
def dissipationLimit (profile : Nat) (overRate : Bool) : Rat :=
  match profile with
  | 0 => 45
  | 1 => 32
  | _ => if overRate then 26 else 22

/-- The dip of VIN, in V, from a loop inductance in µH at the slew of the input current, 0.05 A/µs (R434). -/
def supplyDip (microhenry : Rat) : Rat := microhenry * (5 / 100)

/-- Current in A through each VIN ball at an input power and voltage (R428). -/
def ampsPerBall (watts volts : Rat) : Rat := watts / volts / (groupCount 0 : Nat)

/-- Nominal swing, in mV peak-to-peak differential, and pre-emphasis, in tenths of a dB, of a DisplayPort level (R438). -/
def dpSwing (level : Nat) : Nat := [400, 600, 800, 1200].getD level 0
def dpEmphasis (level : Nat) : Nat := [0, 35, 60, 95].getD level 0

/-- Swing of the courier lane in mV, and the channel loss in dB at 5.156 GHz that its receiver works with (R440). -/
def courierSwing : Figure := { what := "Courier lane swing", least := some 500, most := some 900, unit := "mV" }
def courierLoss : Figure := { what := "Courier channel loss", most := some 15, unit := "dB" }

/-- The capacitance to ground, in pF, of the trace from a sense ball to its electrode (R429). -/
def senseTrace : Figure := { what := "Sense trace", most := some 30, unit := "pF" }

/-- Saves that the flash allows (R445): each of `sectors` areas used in turn is erased 10 000 times. -/
def savesAllowed (sectors : Nat) : Nat := 10000 * sectors

end Sys2Proof.Machine
end

