-- ==== Sys2Proof/Tests/Slice0.lean ====
section
/-! SUPPORT. Our own tests: an ill-formed command for each check of WellFormed, worked examples of the spec, and for every
statement states and operands that meet its hypotheses. -/

open Sys2Proof Sys2Proof.Machine

-- The checks below wait for the kernel; one at a time they need one thread.
set_option Elab.async false

/-! ### Ill-formed commands -/

theorem test_wf_ok : (Instr.freeRunWrite (.enclave 31) 11 (2 ^ 64 - 1)).wellFormed = true := by decide
theorem test_wf_initiator : (Instr.freeRunWrite (.enclave 32) 11 0).wellFormed = false := by decide
theorem test_wf_word : (Instr.freeRunWrite .island 11 (2 ^ 64)).wellFormed = false := by decide
theorem test_wf_rod : (Instr.holdoverExpiry 12).wellFormed = false := by decide
theorem test_wf_block : (Instr.handoverRelease .island 0x1008).wellFormed = false := by decide +kernel
theorem test_wf_channel : (Instr.copyJobSubmit .island 32 0).wellFormed = false := by decide
theorem test_wf_core : (Instr.enclaveEnter 9 1 0).wellFormed = false := by decide
theorem test_wf_enclave : (Instr.enclaveBuild .island 0).wellFormed = false := by decide
theorem test_wf_thread : (Instr.enclaveEnter 8 1 8).wellFormed = false := by decide
theorem test_wf_entry : (Instr.heartbeatConsumerTimeout 9).wellFormed = false := by decide
theorem test_wf_function : (Instr.startDirtyLog 0 32 ⟨0, 0, 0, 0⟩).wellFormed = false := by decide
theorem test_wf_gpu_core : (Instr.gpuCoreFault ⟨16, 0⟩).wellFormed = false := by decide
theorem test_wf_held_queues : (Instr.gpuCoreFault ⟨15, 16⟩).wellFormed = false := by decide
theorem test_wf_index : (Instr.objectWrite .island (.object 0x10000) 0 []).wellFormed = false := by decide
theorem test_wf_sub : (Instr.objectWrite .island (.object 0x2000) 256 []).wellFormed = false := by decide
theorem test_wf_address : (Instr.objectWrite .island .address (2 ^ 40) []).wellFormed = false := by decide
theorem test_wf_link_state : (Instr.l1Entry ⟨0, 6⟩).wellFormed = false := by decide
theorem test_wf_bar_size : (Instr.barReservedAccess ⟨0, 0, 3, none⟩).wellFormed = false := by decide
theorem test_wf_bar_offset : (Instr.barReservedAccess ⟨0, 65533, 4, none⟩).wellFormed = false := by decide
theorem test_wf_input : (Instr.inputRunWrite .island 32 0).wellFormed = false := by decide
theorem test_wf_instance : (Instr.sqTail 64 0 0).wellFormed = false := by decide
theorem test_wf_ring : (Instr.sqTail 63 8 0).wellFormed = false := by decide
theorem test_wf_key_slot : (Instr.revokeKeySlot .island 4).wellFormed = false := by decide
theorem test_wf_layer : (Instr.layerEnableWrite .island 48 0).wellFormed = false := by decide
theorem test_wf_node : (Instr.heartbeatReceived 0 128).wellFormed = false := by decide
theorem test_wf_pair : (Instr.heartbeatReceived 2 1).wellFormed = false := by decide
theorem test_wf_offset : (Instr.windowRegisterWrite .island 0 4096 []).wellFormed = false := by decide
theorem test_wf_window : (Instr.windowRegisterWrite .island 33 0 []).wellFormed = false := by decide
theorem test_wf_output : (Instr.pixelPllLocked 8 0).wellFormed = false := by decide
theorem test_wf_panel : (Instr.scanComplete 8 ⟨[], 0⟩).wellFormed = false := by decide
theorem test_wf_partition : (Instr.gpuJobSubmit .island 0x21 0 0).wellFormed = false := by decide
theorem test_wf_queue : (Instr.gpuJobSubmit .island 0x20 4 0).wellFormed = false := by decide
theorem test_wf_pdo : (Instr.rpdoTimeout 16).wellFormed = false := by decide
theorem test_wf_pin : (Instr.edgeLatchSet 17 true).wellFormed = false := by decide
theorem test_wf_region : (Instr.bankSkewWindow 7 0 0 0 32).wellFormed = false := by decide
theorem test_wf_sink : (Instr.readPositionWrite .island 12 0).wellFormed = false := by decide
theorem test_wf_slot : (Instr.beadWordWrite .island 512 0).wellFormed = false := by decide
theorem test_wf_source : (Instr.complete 8 0 153).wellFormed = false := by decide
theorem test_wf_vector : (Instr.msixWriteIssue 63 64).wellFormed = false := by decide

/-! ### Worked examples of the spec -/

/-- The worked tile of chapter 06 (Table 6-3): header byte 03h and the 48 slot bytes. -/
theorem test_worked_tile :
    encodeTile 1 ((List.range 64).map (fun k => [BitVec.ofNat 8 (100 + 2 * (k % 8)), BitVec.ofNat 8 (50 + k / 8), 200, 255])) =
      (3, [0x64, 0x32, 0xC8, 0xFF, 0x23, 0x00] ++ (List.replicate 7 [0x84, 0x10, 0x42, 0x08, 0x81]).flatten ++
        [0x84, 0x10, 0x42, 0x08, 0x01, 0x00, 0x00]) := by decide +kernel

/-- The example of R335: the line whose only set bit is bit 0 has the check word 0403h. -/
theorem test_code_l_example : lineCheck (1 :: zeroBytes 63) 0 = [0x03, 0x04] := by decide +kernel

/-- The example of R319 with one spare: 17_0000_01C0h lies in physical rank 13, eighth 7, row 57 344, bank 0, column 0. -/
theorem test_dram_example :
    Dev.locate ((((({} : Dev).setO 0x2C00 4 1).setO 0x2A10 1 0x1000000000).setO 0x2A10 2 0x1780000000).setO 0x2A10 3 0x8000FFFF)
      0x17000001C0 = some (dramKey 13 7 0 0 0 0) := by decide +kernel

/-- The worked region of chapter 17: 512 MiB of code L hold 1F07_C000h bytes of data. -/
theorem test_region_example :
    (((({} : Dev).setO 0x2A14 1 0x1040000000).setO 0x2A14 2 0x1060000000).setO 0x2A14 3 0xA000FFFF).regData 4 = 0x1F07C000 := by
  decide +kernel

/-- Step 1 of the worked example of chapter 18: row 10 makes the configuration word 0000_0340h. -/
theorem test_catalogue_word :
    (match catalogueVerdict 2 10 {} with | .ok d => d.getO 0x2E03 3 | .error _ => 0) = 0x0340 := by decide +kernel

/-- The check values of Table 18-2 for CRC-16/CCITT-FALSE and CRC-32C. -/
theorem test_check_values :
    crc 16 0x1021 0xFFFF 0 false false nineDigits = 0x29B1 ∧
    crc 32 0x1EDC6F41 0xFFFFFFFF 0xFFFFFFFF true true nineDigits = 0xE3069283 := by decide +kernel

/-- The example under Table 11-6: 2720h/04h reads 0000_157Ch. -/
theorem test_effect_example : ({} : Dev).getO 0x2720 4 = 0x157C := by decide +kernel

/-! ### Witnesses -/

/-- The block after reset with some objects set: index, subindex, value. -/
def wSet (l : List (Nat × Nat × Nat)) : Dev := l.foldl (fun d x => d.setO x.1 x.2.1 x.2.2) {}

/-- The same with bytes in the island's own memory, which the island reads and writes. -/
def wMem (l : List (Nat × Nat × Nat)) (addr : Nat) (bytes : List Byte) : Dev :=
  { wSet l with mem := ((List.range bytes.length).zip bytes).filterMap (fun p => if p.2 = 0 then none else some (addr + p.1, p.2)) }

/-- A commit block of output 0 for its layer 5, with a record that hides the layer. -/
def wBlock : List Byte := [0, 0x20, 0, 1, 1] ++ zeroBytes 47 ++ [1] ++ zeroBytes 43

/-- Output 0 in Standby, its layer 5 bare, and the block in memory. -/
def wCommit : Dev := wMem [(0x2200, 2, 1), (0x2315, 1, 1)] 0x1000000 wBlock

def wCommitJ : Item × Dev :=
  wCommit.journalItem 1 { block := 0x1000000, code := 0, seq := field wBlock 4 4, replay := hdrReplay wBlock } (hdrOutput wBlock)
    (commitLength wBlock) (leBytes 8 (hdrTarget wBlock) ++ leBytes 1 (hdrMask wBlock) ++ leBytes 1 (hdrFlags wBlock)
      ++ leBytes 4 (wCommit.checkCommit 0 0x1000000 (some 0) wBlock).demand ++ leBytes 8 wCommit.clock.ns)

/-- Output 7 Active, and its layer 5 shows a record with checking. -/
def wLayer : Dev :=
  (wSet [(0x2270, 2, 5), (0x233F, 1, 2)]).setB 0x233F 4
    (zeroBytes 20 ++ [1, 5] ++ zeroBytes 6 ++ [2, 0, 2, 0] ++ zeroBytes 4 ++ [2, 0, 2, 0] ++ zeroBytes 8 ++ [0, 0, 0, 4] ++ zeroBytes 12)

/-- A fill of one row of 64 bytes. -/
def wFillJob : List Byte := [4, 0, 0, 0] ++ zeroBytes 12 ++ [0, 0, 0, 2, 0, 0, 0, 0, 64, 0, 0, 0, 1] ++ zeroBytes 35

/-- The island owns copy channel 31, which is idle, and a region of the secure SRAM; the fill stands in its memory. -/
def wFill : Dev := { wMem [(0x2420, 1, 1), (0x2420, 2, 1), (0x2A30, 1, 0x2000000), (0x2A30, 2, 0x2001000), (0x2A30, 3, 0x800000FF)]
    0x1000000 wFillJob with iso := { owners := [(7 * 4096 + 31, 0)] } }

def wFillItem : Item := { block := 0x1000000, code := 0, seq := field wFillJob 4 4, replay := (field wFillJob 1 1).testBit 0 }
def wFillC : Nat × List Byte × Dev := wFill.checkCopy wFillItem 31 wFillJob
def wFillJ : Item × Dev := wFillC.2.2.journalItem 2 wFillItem 31 64 []

/-- A copy job of one row of 64 bytes, or of 64 by 1 pixels or tiles of the descriptor `wDesc`. -/
def wJob (op : Byte) : CopyJob :=
  { body := op :: zeroBytes 23 ++ [64, 0, 0, 0, 1, 0, 0, 0] ++ zeroBytes 32 ++ (zeroBytes 16 ++ [64, 0, 1, 0, 1] ++ zeroBytes 11) }

/-- The descriptor of 64 tiles in the job. -/
def wDesc : PtsDesc := { slots := 0, headers := 0, columns := 64, rows := 1, format := 1, clear := 0 }

/-- Copy channel 31 runs the job. -/
def wCopy (op : Byte) : Dev := { wSet [(0x2420, 1, 2)] with copy := [(31, { jobs := [wJob op] })] }

/-- The open world holds the first MiB of DRAM without a code, and core 15 of the GPU; a job of its queue `q`, in hand, stands at
the packet. -/
def wGpu (q : Nat) (packet : List Byte) (l : List (Nat × Nat × Nat) := []) (job : GpuJob := {}) : Dev :=
  let d := ((wSet ([(0x2A10, 1, 0x1000000000), (0x2A10, 2, 0x1000100000), (0x2A10, 3, 0xC00020FF), (0x2510, 2, 2)] ++ l)).memWrite 0x20
    0x1000000000 packet).2
  let body : List Byte := [BitVec.ofNat 8 q] ++ zeroBytes 11 ++ [0x10] ++ zeroBytes 3 ++ [0, 1] ++ zeroBytes 46
  { d with iso := { owners := [(6 * 4096 + 15, 0x20)] }
           gpu := { parts := [(0x20, { queues := [(q, { jobs := [{ job with started := true, body := body }] })], view := d.mem })] } }

/-- The job in hand of that queue, and the packet that is fetched. -/
def wJobOf (d : Dev) (q : Nat) : GpuJob := (d.gq 0x20 q).jobs.headD {}
def wPacketOf (d : Dev) (q : Nat) : Packet :=
  match (d.fetchPacket 0x20 q (wJobOf d q)).1 with
  | .ok p => p
  | .error _ => { op := 255, words := [], bytes := 0 }

/-- A SPIR-V module with one compute shader that returns at once: its words. -/
def wModule : List Nat :=
  [0x07230203, 0x00010600, 0, 5, 0, 0x20011, 1, 0x3000E, 0, 1, 0x4000F, 5, 1, 0x6D, 0x60010, 1, 17, 1, 1, 1, 0x20013, 2, 0x30021, 3, 2,
   0x50036, 2, 1, 0, 3, 0x200F8, 4, 0x100FD, 0x10038]

/-- Two pipelines of the open world: handle 5 for graphics, without modules, and 6 for compute. -/
def wPipe6 : Pipeline := { handle := 6, owner := 0x20, kind := 2, first := wModule }
def wPipes (d : Dev) : Dev :=
  { d with gpu := { d.gpu with pipes := [{ handle := 5, owner := 0x20, kind := 1 }, wPipe6] } }

/-- Draws without an instance or a record, and dispatches of one workgroup; what each leaves. -/
def wDraw : Dev := wPipes (wGpu 0 [5, 0, 0, 0x10, 3] [] { pipeline := 5 })
def wDrawn : Halted := (wDraw.drawCall 0x20 ((wJobOf wDraw 0).past (wPacketOf wDraw 0)) { handle := 5, owner := 0x20, kind := 1 }
  (plainCall 3 0 0 0)).getD (some 0, {})
def wDrawX : Dev := wPipes (wGpu 2 [9, 0, 0, 0x11] [] { pipeline := 5 })
def wDrawnX : Halted := (wDrawX.drawCall 0x20 ((wJobOf wDrawX 2).past (wPacketOf wDrawX 2)) { handle := 5, owner := 0x20, kind := 1 }
  { vertices := [], instances := 0, firstInst := 0 }).getD (some 0, {})
def wDrawI : Dev := wPipes (wGpu 0 [5, 0, 0, 0x12, 0, 0, 0, 0, 0x10, 0, 0, 0, 1, 0, 0, 0, 16] [] { pipeline := 5 })
def wDrawnI : Halted := (wDrawI.drawRecords 0x20 ((wJobOf wDrawI 0).past (wPacketOf wDrawI 0)) { handle := 5, owner := 0x20, kind := 1 }
  0x1000000000 16 1).getD (some 0, {})
def wDisp : Dev := wPipes (wGpu 1 [4, 0, 0, 0x18, 1, 0, 0, 0, 1, 0, 0, 0, 1] [] { pipeline := 6 })
def wDisped : Halted := (wDisp.dispatchCall 0x20 ((wJobOf wDisp 1).past (wPacketOf wDisp 1)) wPipe6 [1, 1, 1]).getD (some 0, {})
def wDispI : Dev := wPipes (wGpu 1 [3, 0, 0, 0x19, 12, 0, 0, 0, 0x10, 0, 0, 0, 1, 0, 0, 0, 1, 0, 0, 0, 1] [] { pipeline := 6 })
def wDispedI : Halted := (wDispI.dispatchCall 0x20 ((wJobOf wDispI 1).past (wPacketOf wDispI 1)) wPipe6 [1, 1, 1]).getD (some 0, {})

/-- A COPY packet that fills one row of 4 bytes with the value 7. -/
def wCopyRow : Dev :=
  wGpu 3 [10, 0, 0, 0x28, 2, 0, 0, 0, 7, 0, 0, 0, 0, 0, 0, 0, 0, 8, 0, 0, 0x10, 0, 0, 0, 4, 0, 0, 0, 1]

/-- A descriptor for the copy queue of the open world, in its region of DRAM, and its queue enabled. -/
def wGpuBody : List Byte := [3] ++ zeroBytes 11 ++ [0x10] ++ zeroBytes 3 ++ [0, 1] ++ zeroBytes 46
def wSubmitGpu : Dev := { wGpu 0 wGpuBody [(0x2530, 0x28, 1), (0x2530, 0x29, 1)] with gpu := {} }
def wSubmitJ : Item × Dev :=
  wSubmitGpu.journalItem 3 { block := 0x1000000000, code := 0x20, seq := field wGpuBody 4 4, replay := (field wGpuBody 1 1).testBit 0 }
    (gjQueue wGpuBody % 4 + 256 * 0x20) 64 []
def wSubmitB : GpuJob × Dev := wSubmitJ.2.countBands { item := wSubmitJ.1, number := wSubmitJ.2.gpu.accepted + 1, body := wGpuBody }

/-- Layer 46 is a band layer of the open world, and shows a record of one row. -/
def wBand (packet : List Byte) (job : GpuJob) : Dev :=
  let d := wGpu 2 packet [(bandIndex 46, 7, 1)] job
  { ((d.setBandState 46 0 1).setB 0x233E 4 (zeroBytes 20 ++ [1, 1] ++ zeroBytes 16 ++ [1] ++ zeroBytes 25)) with
    iso := { owners := [(2 * 4096 + 46, 0x20), (6 * 4096 + 15, 0x20)] }
    bands := [(46, { on := true, height := 1, pending := [(0, 1)] })] }

/-- The open world owns bead slot 511; a job arms it with no action, for line 0 of rod 8. -/
def wArm : Dev :=
  { wGpu 3 ([6, 0, 0, 0x38, 0xFF, 1, 0, 0] ++ zeroBytes 7 ++ [0x88] ++ zeroBytes 8) with
    iso := { owners := [(6 * 4096 + 15, 0x20), (10 * 4096 + 511, 0x20)] } }
def wArm2 : Dev := wArm.writePair 511 0 0
def wArm3 : Dev := wArm2.writePair 511 0x8800000000000000 0

/-- A create block of the open world for a compute pipeline without a module, in its region of DRAM; its code area follows. -/
def wCreateBody : List Byte :=
  [2] ++ zeroBytes 32 ++ [0x10, 0, 0, 0x10, 0, 0, 0, 0, 0x10, 0, 0, 0, 0, 0xFF, 0xFF] ++ zeroBytes 112
def wCreate : Dev := wGpu 0 wCreateBody [(0x2A10, 3, 0x80002000 + 255)]

def wCreateJ : Item × Dev := wCreate.journalItem 4 { block := 0x1000000000, code := 0x20, seq := field wCreateBody 4 4 } 0 160 []

/-- A compilation of a module that a service core has in hand, the module at the start of the open world's region. -/
def wCompileOf (m : List Nat) : Compile :=
  { item := { code := 0x20 }
    body := [2] ++ zeroBytes 11 ++ [0x10] ++ zeroBytes 3 ++ leBytes 4 (4 * m.length) ++ zeroBytes 140 }
def wCompiling (c : Nat) (m : List Nat) : Dev :=
  let d := ((wSet [(0x2A10, 1, 0x1000000000), (0x2A10, 2, 0x1000100000), (0x2A10, 3, 0xC00020FF)]).memWrite 0x20 0x1000000000
    (m.flatMap (leBytes 4))).2
  { d with gpu := { d.gpu with cores := [(c, some (wCompileOf m))] } }

/-- What that compilation takes in and finds. -/
def wCompiled : (List Nat × List Nat × List (Nat × Nat) × Nat) × Dev :=
  (wCompiling 1 wModule).readModules (wCompileOf wModule).item.code (wCompileOf wModule).body

theorem pair_eta {α β γ δ ε : Type} (p : (α × β × γ × δ) × ε) : p = ((p.1.1, p.1.2.1, p.1.2.2.1, p.1.2.2.2), p.2) := rfl

theorem wCompiled_is : (wCompiling 1 wModule).readModules (wCompileOf wModule).item.code (wCompileOf wModule).body = wCompiled := by
  delta wCompiled; exact Eq.refl _

theorem wCompiled_eta : (wCompiling 1 wModule).readModules (wCompileOf wModule).item.code (wCompileOf wModule).body =
    ((wCompiled.1.1, wCompiled.1.2.1, wCompiled.1.2.2.1, wCompiled.1.2.2.2), wCompiled.2) :=
  wCompiled_is.trans (pair_eta wCompiled)

/-- If SPIR-V calls that module valid, the module checks pass. -/
theorem wCompiles (hv : Config.spirvValid wModule = true) :
    (wCompiling 1 wModule).readModules (wCompileOf wModule).item.code (wCompileOf wModule).body =
      ((wModule, [], [], 0), wCompiling 1 wModule) := by
  have e1 : (wCompiling 1 wModule).moduleWords 0x20 0x1000000000 (4 * wModule.length) = (some wModule, wCompiling 1 wModule) := by
    decide +kernel
  have e2 : ∀ (d : Dev) (o a : Nat), d.moduleWords o a 0 = (some [], d) := fun _ _ _ => rfl
  have e3 : ∀ b : Bool, checkModules 2 (wModule, true) ([], b) (specEntries []) = 0 := by decide +kernel
  unfold Dev.readModules
  rw [show (wCompileOf wModule).item.code = 0x20 from rfl, show field (wCompileOf wModule).body 8 8 = 0x1000000000 by decide,
    show field (wCompileOf wModule).body 16 4 = 4 * wModule.length by decide, show field (wCompileOf wModule).body 20 4 = 0 by decide,
    show field (wCompileOf wModule).body 72 4 = 0 by decide, show field (wCompileOf wModule).body 0 1 = 2 by decide]
  simp only [e1, e2, hv, e3]
  rfl

/-- Haptic channel 7 drives an actuator whose model is in range. -/
def wDrive : Dev := wSet [(0x2708, 1, 3), (0x2717, 2, 1000), (0x2717, 5, 8000), (0x2708, 0x16, 20), (0x2708, 0x17, 50), (0x3400, 6, 250), (0x2717, 7, 25)]

/-- Instance 0 is Present, with a ring 0 of four slots whose first entry stands in host memory. -/
def wRing (entry : List Byte) (l : List (Nat × Nat × Nat) := []) : Dev :=
  let d := wSet ([(0x2901, 1, 2), (0x2910, 1, 1), (0x2950, 0x10, 1), (0x2950, 0x11, 1), (0x2950, 0x14, 4)] ++ l)
  { d.hostWrite 0 0 entry with host := { d.host with rings := [(0, { tail := 1 })], linked := [(0, true)] } }

/-- An entry with an opcode and the length of its block. -/
def wEntry (op n : Byte) : List Byte := [op] ++ zeroBytes 15 ++ [n] ++ zeroBytes 47

/-- An instance in a state, with some of its own state. -/
def wInst (i st : Nat) (x : Instance := {}) : Dev :=
  let d := wSet [(0x2901, 1, 2), (0x2910, 1, 1), (0x2910 + i, 1, st)]
  { d with host := { d.host with instances := [(i, x)], linked := [(0, true)] } }

/-- Block `id` belongs to the island and stands in a hand-over state. -/
def wHand (id st : Nat) : Dev := { iso := { owners := [(id, 0)], hands := [(id, { state := st, newOwner := 0x20 })] } }

/-- Enclave 1 in a state, with one thread from address 7; core 2 stands as given. -/
def wEnclave (st : Nat) (c : Core := {}) : Dev :=
  { wSet [(0x2A41, 1, st), (0x2A41, 4, 7), (0x2A41, 5, 1)] with iso := { cores := [(2, c)] } }

/-- Source 512 with an entry; its class has released it. -/
def wSource (entry : Nat) (l : List (Nat × Nat × Nat) := []) : Dev :=
  let d := wSet ([(0x2B14, 1, entry)] ++ l)
  { d with letter := { d.letter with released := [(512, true)], unmasked := [(0, true)], claimedBy := [(512, 3)], timers := [(512, true)] }
           kept := { d.kept with latched := [(2, true)] } }

/-- Rank 3 is carried to rank 5. -/
def wCarry (draining : Bool) : Dev := { dram := { carry := some { source := 3, target := 5, draining := draining } } }

/-- Engine 7 is the island's, in a state. -/
def wEngine (st : Nat) (x : Engine := {}) (l : List (Nat × Nat × Nat) := []) : Dev :=
  { wSet ([(0x2E08, 1, st), (0x2A30, 1, 0x2000000), (0x2A30, 2, 0x2001000), (0x2A30, 3, 0x800000FF)] ++ l) with
    iso := { owners := [(8 * 4096 + 7, 0)] }, engines := [(7, x)] }

/-- The link to the partner is in a state, locked, with both masks naming output 3. -/
def wLink (st : Nat) (l : List (Nat × Nat × Nat) := []) (x : Courier := { mask := 8, theirs := 8, enabled := true, canGone := true }) : Dev :=
  { wSet ([(0x3200, 9, st), (0x3200, 2, 0)] ++ l) with courier := { x with locked := true } }

/-- Port 0 is open: the node has started and is in the state. -/
def wNode (x : Nmt) (l : List (Nat × Nat × Nat) := []) : Dev :=
  { wSet ([(0x2001, 3, 5)] ++ l) with can := { nmt := x, started := true, ports := 3 } }

/-- Window 32 is busy with a request that the server has answered. -/
def wBusy : Dev := { windows := [(32, { busy := true, result := some {} })] }

/-- Window 32 holds an open write of the colour table of layer 5, with all its bytes and their check. -/
def wTransfer : Dev :=
  { transfers := [(objKey 0x2315 9, some { path := .window 32, who := .island, writing := true, data := zeroBytes 1024 })]
    windows := [(32, { dlen := 1024, dcrc := crc32c (256 * 0x2315 + 9) (zeroBytes 1024) })] }

/-- Update state `st`, and pair B in pair state `p`. -/
def wUpdate (st p : Nat) : Dev := wSet [(0x3300, 8, st), (0x3100, 3, p)]

/-- A lap runs in region 0 of DRAM, which a remap keeps the scrubber out of. -/
def wScrub : Dev :=
  { wSet [(regionIndex 0 0, 1, dramBase), (regionIndex 0 0, 2, dramBase + 0x1000000), (regionIndex 0 0, 3, 0x80000000), (0x2D10, 3, 1), (0x2D00, 1, 1)] with
    dram := { trained := true, remaps := [{ region := 0, order := 1 }] }, prot := { running := true } }

/-- Window 32 of the island has taken a write of a byte to register 1 of 5000h, and the Registry lists it. -/
def wWindowWrite : Dev :=
  let d : Dev := Dev.opened { windows := [(32, { len := 1 })] } 32
  let p := d.journal (writeEntry .island 32 0x5000 1 (zeroBytes 1))
  p.2.regIssue p.1

/-- The node has taken a USDO write of register 1 of 5000h, and the Registry lists it. -/
def wUsdoWrite : Dev :=
  let p := (wNode .preOperational).journal (writeEntry (.can 0) 0x80 0x5000 1 [1])
  p.2.regIssue p.1

/-- Window 32 at an offset of a DOMAIN, with a transfer of the colour table of layer 5. -/
def wSegment (t : Option Transfer) (offset : Nat) : Dev :=
  { transfers := [(objKey 0x2315 9, t)], windows := [(32, { offset := offset })] }

/-- Logic that runs, and logic that does not. -/
  theorem witness_an_empty_queue_ticks : ({} : Dev).live = true ∧ ({ power := { phase := .sleep } } : Dev).live = false := by decide
/-- A block asleep, and a command that is not of the always-on domain. -/
  theorem witness_nothing_acts_while_the_logic_is_off :
    ({ power := { phase := .sleep } } : Dev).live = false ∧ (Instr.audioBlock).alwaysOn = false := by decide
/-- A halted island, and a write of an object. -/
  theorem witness_a_halted_island_serves_no_request :
    ({ island := { halted := true } } : Dev).live = true ∧ ({ island := { halted := true } } : Dev).serving = false
      ∧ (Instr.objectWrite .island (.object 0x5000) 1 [1]).request = true := by decide
/-- The invariant holds at reset, and a step from there answers a next state. -/
  theorem witness_every_step_keeps_errors_shown : State.reset.dev.errorsShown ∧ ∃ t, step State.reset = .next t :=
    ⟨fun _ h => absurd h (by decide), _, rfl⟩
/-- A write of a read-only object. -/
  theorem witness_refused_writes_change_nothing :
    ({} : Dev).live = true ∧ ({} : Dev).serving = true ∧ ({} : Dev).checkWrite .island 0x2000 1 (leBytes 4 5) = some 0x06010002 ∧
    objectAt 0x10000100 = (0x2000, 1, 0) ∧ windowAt 0x10000100 = none ∧ onChip .island = true ∧
    ({} : Dev).mappedFits 0x10000100 4 = true := by decide +kernel
/-- The open world writes the enable of a layer of the island. -/
  theorem witness_only_the_owner_configures_a_block : ∃ r, ({} : Dev).live = true ∧ ({} : Dev).serving = true ∧ objRow 0x2315 2 = some r ∧
      ({} : Dev).hasIndex 0x2315 = true ∧ r.ty ≠ .domain ∧ r.acc ≠ .ro ∧ r.acc ≠ .const ∧
      (({} : Dev).ownerPasses .openWorld 0x2315 2 = false ∨ r.write.testBit (initBit .openWorld) = false) :=
    ⟨(objRow 0x2315 2).get (by decide +kernel), by decide +kernel⟩
/-- The rate at reset, and a slew under way. -/
  theorem witness_device_clock_advances : ({} : Dev).getI 0x2100 0x0A 32 = 0 ∧ ({} : Dev).clock.slew = 0 ∧
      ({ clock := { slew := 500000, left := 7 } } : Dev).clock.slew ≠ 0 ∧
      ({ clock := { slew := 500000, left := 7 } } : Dev).getI 0x2100 0x0A 32 + 500000 ≥ -1000000000 := by decide +kernel
theorem witness_rods_and_beads_complete :
    (∃ (d : Dev) (rod _late : Nat), (d.live) ∧ (rod < 12) ∧ (d.rodRuns rod) ∧ (d.rodLine rod + 1 < d.rodLines rod)) ∧
    (∃ (d : Dev) (rod _late : Nat), (d.live) ∧ (8 ≤ rod) ∧ (rod < 12) ∧ (d.rodRuns rod) ∧ (d.rodLines rod ≤ d.rodLine rod + 1)) ∧
    (∃ (d : Dev) (rod _late : Nat), (d.live) ∧ (rod < 8) ∧ (d.rodRuns rod) ∧ (d.rodLines rod ≤ d.rodLine rod + 1) ∧ ((((d.pulseLine rod).drawEnds rod (d.rodLines rod)).endDisable rod).rodRuns rod)) ∧
    (∃ (d : Dev) (rod _late : Nat), (d.live) ∧ (rod < 12) ∧ (d.rodState rod = 0)) ∧
    (∃ (d : Dev) (ball : Nat), (d.live) ∧ (ball < 2) ∧ (∀ p ∈ d.abacus.pulses, p.ball = ball → p.lines = 0)) ∧
    (∃ (d : Dev) (who : Init) (rod : Nat), (d.live) ∧ (d.serving) ∧ (8 ≤ rod) ∧ (rod < 12) ∧ (d.checkWrite who (rodIndex rod) 8 (numData (rodIndex rod) 8 1) = none) ∧ (d.rodState rod = 0)) ∧
    (∃ (d : Dev) (who : Init) (rod : Nat), (d.live) ∧ (d.serving) ∧ (8 ≤ rod) ∧ (rod < 12) ∧ (d.checkWrite who (rodIndex rod) 8 (numData (rodIndex rod) 8 0) = none)) ∧
    (∃ (d : Dev) (who : Init) (rod sub value : Nat), (d.live) ∧ (d.serving) ∧ (rod < 12) ∧ (sub = 6 ∨ sub = 7) ∧ (d.checkWrite who (rodIndex rod) sub (numData (rodIndex rod) sub value) = none)) ∧
    (∃ (d : Dev) (who : Init) (rod value : Nat), (d.live) ∧ (d.serving) ∧ (rod < 12) ∧ (d.checkWrite who (rodIndex rod) 0x0A (numData (rodIndex rod) 0x0A value) = none) ∧ (0x10 ≤ value → value ≤ 0x1B → d.lockReaches rod 13 (value - 0x10) = false) ∧ (value ≠ 0)) ∧
    (∃ (d : Dev) (rod : Nat) (_phase _trim : Int), (d.live) ∧ (rod < 12) ∧ (d.rodState rod = 1) ∧ (d.getO (rodIndex rod) 0x0A ≠ 0) ∧ (d.lockBlind rod = false) ∧ ((d.rod rod).good = 0)) ∧
    (∃ (d : Dev) (rod : Nat), (d.live) ∧ (rod < 12) ∧ (d.rodState rod = 2 ∨ d.rodState rod = 3)) ∧
    (∃ (d : Dev) (rod : Nat), (d.live) ∧ (rod < 12) ∧ (d.rodState rod = 4)) ∧
    (∃ (d : Dev) (who : Init) (slot value : Nat), (d.live) ∧ (d.serving) ∧ (slot < 512) ∧ (d.checkWrite who (beadIndex slot) (wordSub slot) (numData (beadIndex slot) (wordSub slot) value) = none) ∧ (beadRod value < 12) ∧ (beadLine value < d.rodVtotal (beadRod value)) ∧ (fargOk value) ∧ (seriesOk value (d.actionWord slot)) ∧ (beadEn value = true → d.actionOwned (d.owner (blockId 10 slot)) (d.actionWord slot)) ∧ (beadEn value = true → isSeries (d.actionWord slot) = false → d.armedOn slot (beadRod value) (beadLine value) < 32)) ∧
    (∃ (d : Dev) (who : Init) (slot value : Nat), (d.live) ∧ (d.serving) ∧ (slot < 512) ∧ (d.checkWrite who (beadIndex slot) (wordSub slot + 1) (numData (beadIndex slot) (wordSub slot + 1) value) = none) ∧ (beadEn (d.beadWord slot) = false) ∧ (argOk (setBits value 32 24 0)) ∧ (d.actionOwned (d.owner (blockId 10 slot)) (setBits value 32 24 0))) ∧
    (∃ (d : Dev) (output _hz : Nat), (d.live) ∧ (d.awake) ∧ (output < 8) ∧ (d.pixelStopped output = false) ∧ ((d.output output).locking)) ∧
    (∃ (d : Dev) (output _hz : Nat), (d.live) ∧ (d.awake) ∧ (output < 8) ∧ (d.pixelStopped output = false) ∧ ((d.output output).locking = false) ∧ ((d.rod output).relock)) :=
  ⟨⟨wSet [(0x210C, 2, 1), (0x210C, 5, 2)], 11, 0, by decide +kernel⟩,
   ⟨wSet [(0x2109, 2, 1), (0x2109, 5, 1)], 8, 0, by decide +kernel⟩,
   ⟨wSet [(0x2101, 2, 1), (0x2101, 5, 1)], 0, 0, by decide +kernel⟩,
   ⟨{}, 0, 0, by decide +kernel⟩,
   ⟨{}, 1, by decide +kernel⟩,
   ⟨{}, .island, 8, by decide +kernel⟩,
   ⟨{}, .island, 11, by decide +kernel⟩,
   ⟨{}, .island, 8, 6, 525, by decide +kernel⟩,
   ⟨{}, .island, 11, 0x10, by decide +kernel⟩,
   ⟨wSet [(0x2101, 2, 1), (0x2101, 0xA, 1)], 0, 5, 0, by decide +kernel⟩,
   ⟨wSet [(0x210C, 2, 3)], 11, by decide +kernel⟩,
   ⟨wSet [(0x210C, 2, 4)], 11, by decide +kernel⟩,
   ⟨{}, .island, 63, 0x8000000000000000 + 8 * 2 ^ 56, by decide +kernel⟩,
   ⟨{}, .island, 0, 9 * 2 ^ 56, by decide +kernel⟩,
   ⟨{ comp := { outputs := [(7, { locking := true })] } }, 7, 0, by decide +kernel⟩,
   ⟨{ abacus := { rods := [(7, { relock := true })] } }, 7, 0, by decide +kernel⟩⟩

theorem witness_clock_commands_complete :
    (∃ (d : Dev) (who : Init) (value : Int), (d.live) ∧ (d.serving) ∧ (d.checkWrite who 0x2100 0x09 (intData 0x2100 0x09 value) = none) ∧ (0 < value) ∧ (value ≤ 1000000)) ∧
    (∃ (d : Dev) (who : Init) (value : Int), (d.live) ∧ (d.serving) ∧ (d.checkWrite who 0x2100 0x09 (intData 0x2100 0x09 value) = none) ∧ (1000000 < value)) ∧
    (∃ (d : Dev) (who : Init) (value : Int), (d.live) ∧ (d.serving) ∧ (d.checkWrite who 0x2100 0x0A (intData 0x2100 0x0A value) = none)) ∧
    (∃ (d : Dev), (d.live)) ∧
    (∃ (d : Dev) (port _days _ms : Nat), (d.live) ∧ (d.serving) ∧ (port < 2) ∧ (d.portOpen port) ∧ (d.nodeServes) ∧ (d.getO 0x2100 0x08 = 1)) :=
  ⟨⟨{}, .island, 1000000, by decide +kernel⟩,
   ⟨{}, .island, 1000001, by decide +kernel⟩,
   ⟨{}, .island, -5, by decide +kernel⟩,
   ⟨{}, by decide +kernel⟩,
   ⟨{ can := { started := true } , objs := [(objKey 0x2100 8, 1)] }, 0, 1, 0, by decide +kernel⟩⟩

theorem witness_outputs_complete :
    (∃ (d : Dev) (who : Init) (n : Nat), (d.live) ∧ (d.serving) ∧ (n < 8) ∧ (d.checkWrite who (outputIndex n) 1 (numData (outputIndex n) 1 1) = none) ∧ (d.outState n = 0) ∧ ((d.output n).disable = none) ∧ (d.coolExceeded n = false) ∧ (d.pixelStopped n = false)) ∧
    (∃ (d : Dev) (who : Init) (n : Nat), (d.live) ∧ (d.serving) ∧ (n < 8) ∧ (d.checkWrite who (outputIndex n) 1 (numData (outputIndex n) 1 0) = none) ∧ ((d.output n).disable = none) ∧ (d.frameRuns n = false)) ∧
    (∃ (d : Dev) (n target : Nat), (d.live) ∧ (n < 8) ∧ (d.rodRuns n → d.rodLines n ≤ d.rodLine n + 1) ∧ ((d.output n).disable = some target)) ∧
    (∃ (d : Dev) (who : Init) (n : Nat), (d.live) ∧ (d.serving) ∧ (n < 8) ∧ (d.checkWrite who (outputIndex n + 1) 0x0F (numData (outputIndex n + 1) 0x0F 1) = none) ∧ (linkFits (d.staged n) (d.trimPpm n)) ∧ (timingValid (d.staged n)) ∧ ((d.output n).disable = none) ∧ (d.outDemand d.comp.commits (d.staged n) n ≤ d.getO (0x2301 + n) 1) ∧ (((List.range 6).map (fun k => d.layerRec (6 * n + k)) ++ (d.comp.commits.filter (fun c => c.output == n)).flatMap (fun c => c.records.map (fun q => q.2))).any (d.recBreaks n (d.staged n)) = false) ∧ (d.getO 0x2002 2 ≠ 2) ∧ ((d.output n).apply = none) ∧ (d.outState n = 0)) ∧
    (∃ (d : Dev) (who : Init) (n : Nat), (d.live) ∧ (d.serving) ∧ (n < 8) ∧ (d.checkWrite who (outputIndex n + 1) 0x0F (numData (outputIndex n + 1) 0x0F 1) = none) ∧ (linkFits (d.staged n) (d.trimPpm n)) ∧ (timingValid (d.staged n)) ∧ ((d.output n).disable = none) ∧ (d.outDemand d.comp.commits (d.staged n) n ≤ d.getO (0x2301 + n) 1) ∧ (((List.range 6).map (fun k => d.layerRec (6 * n + k)) ++ (d.comp.commits.filter (fun c => c.output == n)).flatMap (fun c => c.records.map (fun q => q.2))).any (d.recBreaks n (d.staged n)) = false) ∧ (d.getO 0x2002 2 ≠ 2) ∧ ((d.output n).apply = none) ∧ (d.outState n ≠ 0)) ∧
    (∃ (d : Dev) (n : Nat), (d.live) ∧ (n < 8) ∧ (d.outState n = 2)) ∧
    (∃ (d : Dev) (n : Nat), (d.live) ∧ (n < 8) ∧ (3 ≤ d.outState n) ∧ (d.edp n = false)) ∧
    (∃ (d : Dev) (n : Nat), (d.live) ∧ (n < 8) ∧ (d.outState n = 5)) ∧
    (∃ (d : Dev) (n : Nat), (d.live) ∧ (n < 8)) ∧
    (∃ (d : Dev) (n _revision : Nat), (d.live) ∧ (n < 8) ∧ (d.outState n = 3)) ∧
    (∃ (d : Dev) (n cause : Nat), (d.live) ∧ (n < 8) ∧ (1 ≤ cause) ∧ (cause ≤ 4) ∧ (d.outState n = 3)) ∧
    (∃ (d : Dev) (n : Nat), (d.live) ∧ (n < 8) ∧ (d.outState n = 3)) ∧
    (∃ (d : Dev) (n : Nat), (d.live) ∧ (n < 8) ∧ (d.outState n = 6) ∧ (d.hpdHigh n)) ∧
    (∃ (d : Dev) (n : Nat) (edid : List Byte), (d.live) ∧ (n < 8) ∧ ((d.output n).edidBusy) ∧ (edid.length ≤ 32768)) ∧
    (∃ (d : Dev) (who : Init) (n : Nat) (r : List Byte), (d.live) ∧ (d.serving) ∧ (n < 8) ∧ (d.checkWrite who (outputIndex n + 6) 1 r = none) ∧ (auxFormOk r) ∧ (auxManaged r = false) ∧ ((d.output n).aux = none) ∧ (d.outState n ≠ 3) ∧ ((d.output n).disable = none)) ∧
    (∃ (d : Dev) (n : Nat) (reply : List Byte), (d.live) ∧ (n < 8) ∧ ((d.output n).aux.isSome) ∧ (reply.length ≤ 17)) ∧
    (∃ (d : Dev) (n : Nat), (d.live) ∧ (n < 8) ∧ ((d.output n).aux.isSome)) ∧
    (∃ (d : Dev) (n first count : Nat), (d.live) ∧ (n < 8) ∧ (d.outState n = 5) ∧ (d.rodLine n < d.force n 6) ∧ (0 < first) ∧ (0 < count) ∧ (first + count ≤ d.force n 2) ∧ ((d.output n).line.length = d.force n 2) ∧ ((d.output n).underrun = false) ∧ ((d.output n).lineUnder = false)) :=
  ⟨⟨{}, .island, 7, by decide +kernel⟩,
   ⟨{}, .island, 7, by decide +kernel⟩,
   ⟨{ comp := { outputs := [(7, { disable := some 1 })] } }, 7, 1, by decide +kernel⟩,
   ⟨{}, .island, 7, by decide +kernel⟩,
   ⟨wSet [(0x2270, 2, 1)], .island, 7, by decide +kernel⟩,
   ⟨wSet [(0x2270, 2, 2)], 7, by decide +kernel⟩,
   ⟨wSet [(0x2270, 2, 5)], 7, by decide +kernel⟩,
   ⟨wSet [(0x2270, 2, 5)], 7, by decide +kernel⟩,
   ⟨{}, 7, by decide +kernel⟩,
   ⟨wSet [(0x2270, 2, 3)], 7, 0x14, by decide +kernel⟩,
   ⟨wSet [(0x2270, 2, 3)], 7, 4, by decide +kernel⟩,
   ⟨wSet [(0x2270, 2, 3)], 7, by decide +kernel⟩,
   ⟨wSet [(0x2270, 2, 6), (0x2270, 6, 1)], 7, by decide +kernel⟩,
   ⟨{ comp := { outputs := [(7, { edidBusy := true })] } }, 7, [0], by decide +kernel⟩,
   ⟨{}, .island, 7, [9, 0, 2, 0, 15], by decide +kernel⟩,
   ⟨{ comp := { outputs := [(7, { aux := some [9, 0, 2, 0, 15] })] } }, 7, [0], by decide +kernel⟩,
   ⟨{ comp := { outputs := [(7, { aux := some [9, 0, 2, 0, 15] })] } }, 7, by decide +kernel⟩,
   ⟨({ comp := { outputs := [(7, { line := [1, 2, 3] })] } } : Dev).setO 0x2270 2 5 |>.setO 0x2272 2 3 |>.setO 0x2272 6 4, 7, 1, 2, by decide +kernel⟩⟩

theorem witness_composition_completes :
    (∃ (d : Dev) (who : Init) (n addr : Nat) (h b : List Byte) (d1 d2 d3 : Dev) (x : CommitCheck) (it : Item), (d.live) ∧ (d.serving) ∧ (n < 8) ∧ (d.checkWrite who (0x2301 + n) 6 (numData (0x2301 + n) 6 addr) = none) ∧ (d.readSubmitted (initCode who) addr 32 = (some h, d1)) ∧ (d1.readSubmitted (initCode who) addr (commitLength h) = (some b, d2)) ∧ (d.submitRoom (initCode who)) ∧ (d2.checkCommit (initCode who) addr (some n) b = x) ∧ (x.status = 1) ∧ (d2.journalItem 1 { block := addr, code := initCode who, seq := field b 4 4, replay := hdrReplay b } (hdrOutput b) (commitLength b) (leBytes 8 (hdrTarget b) ++ leBytes 1 (hdrMask b) ++ leBytes 1 (hdrFlags b) ++ leBytes 4 x.demand ++ leBytes 8 d2.clock.ns) = (it, d3))) ∧
    (∃ (d : Dev) (who : Init) (n v : Nat), (d.live) ∧ (d.serving) ∧ (n < 8) ∧ (d.checkWrite who (0x2301 + n) 1 (numData (0x2301 + n) 1 v) = none) ∧ (((List.range 8).filter (fun m => m != n)).foldl (fun acc m => acc + d.getO (0x2301 + m) 1) 0 + v ≤ 48000) ∧ (d.outDemand d.comp.commits (d.force n) n ≤ v)) ∧
    (∃ (d : Dev) (who : Init) (layer : Nat), (d.live) ∧ (d.serving) ∧ (layer < 48) ∧ (d.checkWrite who (layerIndex layer) 2 (numData (layerIndex layer) 2 1) = none) ∧ (d.layerState layer = 0)) ∧
    (∃ (d : Dev) (who : Init) (layer : Nat), (d.live) ∧ (d.serving) ∧ (layer < 48) ∧ (d.checkWrite who (layerIndex layer) 2 (numData (layerIndex layer) 2 0) = none) ∧ (1 ≤ d.layerState layer) ∧ (d.layerState layer ≤ 3) ∧ (d.outState (outputOf layer) ≠ 0) ∧ (d.comp.commits = [])) ∧
    (∃ (d : Dev) (layer addr line : Nat), (d.live) ∧ (layer < 48) ∧ (recShow (d.layerRec layer)) ∧ (d.outState (outputOf layer) = 5) ∧ (d.haltLineOf layer addr = some line)) ∧
    (∃ (d : Dev) (layer line : Nat), (d.live) ∧ (layer < 48) ∧ (recShow (d.layerRec layer)) ∧ (recCheck (d.layerRec layer)) ∧ (d.outState (outputOf layer) = 5) ∧ (recSrcY (d.layerRec layer) ≤ line) ∧ (line < recSrcY (d.layerRec layer) + recSrcH (d.layerRec layer))) :=
  ⟨⟨wCommit, .island, 0, 0x1000000, wBlock.take 32, wBlock, wCommit, wCommit, wCommitJ.2, wCommit.checkCommit 0 0x1000000 (some 0) wBlock, wCommitJ.1, by decide +kernel⟩,
   ⟨{}, .island, 7, 6000, by decide +kernel⟩,
   ⟨wSet [(0x233F, 1, 0)], .island, 47, by decide +kernel⟩,
   ⟨wSet [(0x233F, 1, 1), (0x2270, 2, 1)], .island, 47, by decide +kernel⟩,
   ⟨wLayer, 47, 0, 0, by decide +kernel⟩,
   ⟨wLayer, 47, 0, by decide +kernel⟩⟩

theorem witness_copy_engine_completes :
    (∃ (d : Dev) (who : Init) (c addr : Nat) (b x : List Byte) (d1 d2 d3 : Dev) (it : Item), (d.live) ∧ (d.serving) ∧ (c < 32) ∧ (d.checkWrite who (copyIndex c) 3 (numData (copyIndex c) 3 addr) = none) ∧ (d.readSubmitted (initCode who) addr 64 = (some b, d1)) ∧ ((d.chan c).jobs.length < 16) ∧ (d.submitRoom (initCode who)) ∧ (d1.checkCopy { block := addr, code := initCode who, seq := field b 4 4, replay := (field b 1 1).testBit 0 } c b = (1, x, d2)) ∧ (d2.journalItem 2 { block := addr, code := initCode who, seq := field b 4 4, replay := (field b 1 1).testBit 0 } c 64 [] = (it, d3))) ∧
    (∃ (d : Dev) (c : Nat) (j : CopyJob) (rest : List CopyJob), (d.live) ∧ (c < 32) ∧ ((d.chan c).jobs = j :: rest) ∧ (jobOp j.body = 1) ∧ (d.chanState c = 2) ∧ (d.ringCancels j.item = false) ∧ (j.halt = none) ∧ (j.pos < jobEnd j.body)) ∧
    (∃ (d : Dev) (c : Nat) (j : CopyJob) (rest : List CopyJob), (d.live) ∧ (c < 32) ∧ ((d.chan c).jobs = j :: rest) ∧ (jobOp j.body = 4) ∧ (d.chanState c = 2) ∧ (d.ringCancels j.item = false) ∧ (j.halt = none) ∧ (j.pos < jobEnd j.body)) ∧
    (∃ (d : Dev) (c : Nat) (j : CopyJob) (rest : List CopyJob) (x : PtsDesc), (d.live) ∧ (c < 32) ∧ ((d.chan c).jobs = j :: rest) ∧ (jobOp j.body = 2) ∧ (d.chanState c = 2) ∧ (d.ringCancels j.item = false) ∧ (j.halt = none) ∧ (j.pos < jobEnd j.body) ∧ (ptsDesc (j.body.drop 64) = some x)) ∧
    (∃ (d : Dev) (c : Nat) (j : CopyJob) (rest : List CopyJob) (x : PtsDesc), (d.live) ∧ (c < 32) ∧ ((d.chan c).jobs = j :: rest) ∧ (jobOp j.body = 3) ∧ (d.chanState c = 2) ∧ (d.ringCancels j.item = false) ∧ (j.halt = none) ∧ (j.pos < jobEnd j.body) ∧ (ptsDesc (j.body.drop 64) = some x)) ∧
    (∃ (d : Dev) (c : Nat) (j : CopyJob) (rest : List CopyJob) (x : PtsDesc), (d.live) ∧ (c < 32) ∧ ((d.chan c).jobs = j :: rest) ∧ (jobOp j.body = 5) ∧ (d.chanState c = 2) ∧ (d.ringCancels j.item = false) ∧ (j.halt = none) ∧ (j.pos < jobEnd j.body) ∧ (ptsDesc (j.body.drop 64) = some x)) ∧
    (∃ (d : Dev) (c : Nat) (j : CopyJob) (rest : List CopyJob), (d.live) ∧ (c < 32) ∧ ((d.chan c).jobs = j :: rest) ∧ (j.halt = none) ∧ (jobEnd j.body ≤ j.pos)) ∧
    (∃ (d : Dev) (c : Nat) (j : CopyJob) (rest : List CopyJob) (status : Nat), (d.live) ∧ (c < 32) ∧ ((d.chan c).jobs = j :: rest) ∧ (j.halt = some status)) ∧
    (∃ (d : Dev) (who : Init) (c : Nat), (d.live) ∧ (d.serving) ∧ (c < 32) ∧ (d.checkWrite who (copyIndex c) 2 (numData (copyIndex c) 2 1) = none) ∧ (d.chanState c = 0) ∧ (d.running)) ∧
    (∃ (d : Dev) (who : Init) (c : Nat), (d.live) ∧ (d.serving) ∧ (c < 32) ∧ (d.checkWrite who (copyIndex c) 2 (numData (copyIndex c) 2 0) = none) ∧ (d.chanState c = 1 ∨ d.chanState c = 2) ∧ ((d.chan c).jobs ≠ [])) ∧
    (∃ (d : Dev) (c : Nat), (d.live) ∧ (c < 32) ∧ (d.chanState c = 3)) :=
  ⟨⟨wFill, .island, 31, 0x1000000, wFillJob, wFillC.2.1, wFill, wFillC.2.2, wFillJ.2, wFillJ.1, by decide +kernel⟩,
   ⟨wCopy 1, 31, wJob 1, [], by decide +kernel⟩,
   ⟨wCopy 4, 31, wJob 4, [], by decide +kernel⟩,
   ⟨wCopy 2, 31, wJob 2, [], wDesc, by decide +kernel⟩,
   ⟨wCopy 3, 31, wJob 3, [], wDesc, by decide +kernel⟩,
   ⟨wCopy 5, 31, wJob 5, [], wDesc, by decide +kernel⟩,
   ⟨{ copy := [(31, { jobs := [{}] })] }, 31, {}, [], by decide +kernel⟩,
   ⟨{ copy := [(31, { jobs := [{ halt := some 0x30 }] })] }, 31, { halt := some 0x30 }, [], 0x30, by decide +kernel⟩,
   ⟨wSet [(0x2420, 1, 0)], .island, 31, by decide +kernel⟩,
   ⟨wCopy 1, .island, 31, by decide +kernel⟩,
   ⟨wSet [(0x2420, 1, 3)], 31, by decide +kernel⟩⟩

theorem witness_gpu_queues_complete :
    (∃ (d : Dev) (who : Init) (o k addr : Nat) (b : List Byte) (d1 d2 d3 : Dev) (it : Item) (j : GpuJob), (d.live) ∧ (d.serving) ∧ (partOk o) ∧ (k < 4) ∧ (d.checkWrite who (partIndex o) (queueSub k 2) (numData (partIndex o) (queueSub k 2) addr) = none) ∧ (d.readSubmitted o addr 64 = (some b, d1)) ∧ (d.gqFull o b = false) ∧ (d.submitRoom o) ∧ (d1.checkGpuJob o addr b = 1) ∧ (d1.journalItem 3 { block := addr, code := o, seq := field b 4 4, replay := (field b 1 1).testBit 0 } (gjQueue b % 4 + 256 * o) 64 [] = (it, d2)) ∧ (d2.countBands { item := it, number := d2.gpu.accepted + 1, body := b } = (j, d3))) ∧
    (∃ (d : Dev) (o k : Nat) (j : GpuJob) (rest : List GpuJob), (d.live) ∧ (partOk o) ∧ (k < 4) ∧ ((d.gq o k).jobs = j :: rest) ∧ (j.started = false) ∧ (j.held = false) ∧ ((if k = 1 then d.computeCores o else d.members o) ≠ []) ∧ (d.gqState o k = 2) ∧ (d.gpuRuns)) ∧
    (∃ (d : Dev) (o k : Nat) (j : GpuJob) (rest : List GpuJob), (d.live) ∧ (partOk o) ∧ (k < 4) ∧ ((d.gq o k).jobs = j :: rest) ∧ (j.runs) ∧ (j.atEnd) ∧ (j.band = none) ∧ (j.awaySince = none)) ∧
    (∃ (d : Dev) (o k : Nat) (j : GpuJob) (rest : List GpuJob) (status : Nat), (d.live) ∧ (partOk o) ∧ (k < 4) ∧ ((d.gq o k).jobs = j :: rest) ∧ (j.started) ∧ (j.held = false) ∧ (j.halt = some status)) ∧
    (∃ (d : Dev) (o : Nat) (j : GpuJob) (rest : List GpuJob), (d.live) ∧ (partOk o) ∧ ((d.gq o 1).jobs = j :: rest) ∧ (j.started) ∧ (gjBudget j.body ≠ 0) ∧ (j.overran = false) ∧ (j.awaySince = none) ∧ (1000 * gjBudget j.body < d.jobTime j)) ∧
    (∃ (d : Dev) (c _had : Nat), (d.live) ∧ (d.awake) ∧ (c < 16) ∧ (d.gpuCore c = 2)) ∧
    (∃ (d : Dev) (c : Nat), (d.live) ∧ (d.awake) ∧ (c < 16) ∧ (d.gpuCore c = 4) ∧ (partOk (d.ownerByte (blockId 6 c)) = false)) ∧
    (∃ (d : Dev) (c : Nat), (d.live) ∧ (d.awake) ∧ (c < 16) ∧ (d.gpuCore c = 5) ∧ (partOk (d.ownerByte (blockId 6 c)))) ∧
    (∃ (d : Dev) (c : Nat), (d.live) ∧ (c < 16) ∧ (d.gpuCore c = 3) ∧ (d.workLeft (d.ownerByte (blockId 6 c)) = false) ∧ (d.staying (d.ownerByte (blockId 6 c)) ≠ [])) ∧
    (∃ (d : Dev) (c : Nat), (d.live) ∧ (c < 16) ∧ (d.gpuCore c = 3) ∧ (d.workLeft (d.ownerByte (blockId 6 c)) = false) ∧ (d.staying (d.ownerByte (blockId 6 c)) = []) ∧ (partOk (d.ownerByte (blockId 6 c)))) ∧
    (∃ (d : Dev) (o : Nat), (d.live) ∧ (partOk o) ∧ (d.drawing o = false) ∧ (d.coresOf o ≠ [])) ∧
    (∃ (d : Dev) (who : Init) (o k : Nat), (d.live) ∧ (d.serving) ∧ (partOk o) ∧ (k < 4) ∧ (d.checkWrite who (partIndex o) (queueSub k 0) (numData (partIndex o) (queueSub k 0) 1) = none) ∧ ((d.setO (partIndex o) (queueSub k 0) 1).gqState o k = 0) ∧ (d.running)) ∧
    (∃ (d : Dev) (who : Init) (o k : Nat), (d.live) ∧ (d.serving) ∧ (partOk o) ∧ (k < 4) ∧ (d.checkWrite who (partIndex o) (queueSub k 0) (numData (partIndex o) (queueSub k 0) 0) = none)) ∧
    (∃ (d : Dev) (o k : Nat) (j : GpuJob) (rest : List GpuJob), (d.live) ∧ (partOk o) ∧ (k < 4) ∧ ((d.gq o k).jobs = j :: rest) ∧ (j.started) ∧ (d.gqState o k = 3)) ∧
    (∃ (d : Dev) (o k : Nat), (d.live) ∧ (partOk o) ∧ (k < 4) ∧ (d.gqState o k = 3) ∧ ((d.gq o k).jobs.any (fun j => j.started) = false)) ∧
    (∃ (d : Dev) (o t layer : Nat), (d.live) ∧ (partOk o) ∧ ((d.part o).request = some (t, layer)) ∧ (d.clock.ns - t ≤ d.getO 0x25B0 5) ∧ (1000 * ((d.setPart o { d.part o with request := none }).setO (bandIndex layer) 0x13 (d.clock.ns - t)).preemptionBound ≥ d.clock.ns - t)) ∧
    (∃ (d : Dev) (o : Nat) (j : GpuJob) (rest : List GpuJob) (t : Nat), (d.live) ∧ (partOk o) ∧ ((d.part o).request = none) ∧ ((d.part o).hold.all (fun h => d.bandState h.1 h.2 == 2)) ∧ ((d.gq o 1).jobs = j :: rest) ∧ (j.awaySince = some t)) :=
  ⟨⟨wSubmitGpu, .openWorld, 0x20, 3, 0x1000000000, wGpuBody, wSubmitGpu, wSubmitJ.2, wSubmitB.2, wSubmitJ.1, wSubmitB.1, by decide +kernel⟩,
   ⟨{ wSet [(0x2510, 2, 2), (0x2530, 0x29, 2)] with iso := { owners := [(6 * 4096 + 15, 0x20)] }, gpu := { parts := [(0x20, { queues := [(3, { jobs := [{}] })] })] } }, 0x20, 3, {}, [], by decide +kernel⟩,
   ⟨{ gpu := { parts := [(0x7F, { queues := [(3, { jobs := [{ started := true }] })] })] } }, 0x7F, 3, { started := true }, [], by decide +kernel⟩,
   ⟨{ gpu := { parts := [(0x7F, { queues := [(3, { jobs := [{ started := true, halt := some 0x31 }] })] })] } }, 0x7F, 3, { started := true, halt := some 0x31 }, [], 0x31, by decide +kernel⟩,
   ⟨{ clock := { ns := 1001 }, gpu := { parts := [(0x40, { queues := [(1, { jobs := [{ started := true, body := zeroBytes 20 ++ [1] }] })] })] } }, 0x40, { started := true, body := zeroBytes 20 ++ [1] }, [], by decide +kernel⟩,
   ⟨wSet [(0x2510, 2, 2)], 15, 1, by decide +kernel⟩,
   ⟨{ wSet [(0x2510, 2, 4)] with iso := { owners := [(6 * 4096 + 15, 0xFF)] } }, 15, by decide +kernel⟩,
   ⟨{ wSet [(0x2510, 2, 5)] with iso := { owners := [(6 * 4096 + 15, 0x20)] } }, 15, by decide +kernel⟩,
   ⟨{ wSet [(0x2510, 2, 3), (0x250F, 2, 2)] with iso := { owners := [(6 * 4096 + 14, 0x20), (6 * 4096 + 15, 0x20)] } }, 15, by decide +kernel⟩,
   ⟨{ wSet [(0x2510, 2, 3)] with iso := { owners := [(6 * 4096 + 15, 0x20)] } }, 15, by decide +kernel⟩,
   ⟨{ wSet [(0x2510, 2, 1)] with iso := { owners := [(6 * 4096 + 15, 0x20)] } }, 0x20, by decide +kernel⟩,
   ⟨wSet [(0x2530, 0x29, 0)], .openWorld, 0x20, 3, by decide +kernel⟩,
   ⟨{}, .openWorld, 0x20, 3, by decide +kernel⟩,
   ⟨{ wSet [(0x2530, 0x29, 3)] with gpu := { parts := [(0x20, { queues := [(3, { jobs := [{ started := true }] })] })] } }, 0x20, 3, { started := true }, [], by decide +kernel⟩,
   ⟨wSet [(0x2530, 0x29, 3)], 0x20, 3, by decide +kernel⟩,
   ⟨{ gpu := { parts := [(0x20, { request := some (0, 47) })] } }, 0x20, 0, 47, by decide +kernel⟩,
   ⟨{ gpu := { parts := [(0x20, { queues := [(1, { jobs := [{ awaySince := some 0 }] })] })] } }, 0x20, { awaySince := some 0 }, [], 0, by decide +kernel⟩⟩

theorem witness_gpu_packets_complete :
    (∃ (d : Dev) (o k : Nat) (j : GpuJob) (p : Packet) (d1 : Dev), (d.live) ∧ (partOk o) ∧ (k < 4) ∧ (d.atPacket o k 0x00 j p d1)) ∧
    (∃ (d : Dev) (o k : Nat) (j : GpuJob) (p : Packet) (d1 : Dev) (x : Pipeline), (d.live) ∧ (partOk o) ∧ (k < 4) ∧ (d.atPacket o k 0x01 j p d1) ∧ (d1.pipeline o (p.pair 1) j.number = some x) ∧ (x.kind = 2 ↔ k = 1)) ∧
    (∃ (d : Dev) (o k : Nat) (j : GpuJob) (p : Packet) (d1 : Dev), (d.live) ∧ (partOk o) ∧ (k < 4) ∧ (d.atPacket o k 0x02 j p d1) ∧ (p.word 1 < 65536) ∧ (registerRows.any (fun r => r.1 ≤ p.word 1 && p.word 1 + (p.words.drop 1).length - 1 ≤ r.2))) ∧
    (∃ (d : Dev) (o k : Nat) (j : GpuJob) (p : Packet) (d1 : Dev), (d.live) ∧ (partOk o) ∧ (k < 4) ∧ (d.atPacket o k 0x03 j p d1) ∧ (j.called = none) ∧ (addrOk (p.pair 1)) ∧ (p.pair 1 % 64 = 0) ∧ (p.word 3 % 4 = 0) ∧ (4 ≤ p.word 3) ∧ (p.word 3 ≤ 16777216)) ∧
    (∃ (d : Dev) (o k : Nat) (j : GpuJob) (p : Packet) (d1 : Dev) (x : Pipeline) (r : Halted), (d.live) ∧ (partOk o) ∧ (k < 4) ∧ (d.atPacket o k 0x10 j p d1) ∧ (d1.pipeline o j.pipeline j.number = some x) ∧ (d1.drawCall o (j.past p) x (plainCall (p.word 1) (p.word 2) (p.word 3) (p.word 4)) = some r)) ∧
    (∃ (d : Dev) (o k : Nat) (j : GpuJob) (p : Packet) (d1 : Dev) (x : Pipeline) (dr : Dev), (d.live) ∧ (partOk o) ∧ (k < 4) ∧ (d.atPacket o k 0x10 j p d1) ∧ (d1.pipeline o j.pipeline j.number = some x) ∧ (d1.drawCall o (j.past p) x (plainCall (p.word 1) (p.word 2) (p.word 3) (p.word 4)) = some (none, dr))) ∧
    (∃ (d : Dev) (o k : Nat) (j : GpuJob) (p : Packet) (d1 : Dev) (x : Pipeline) (l : List Nat) (d2 : Dev) (r : Halted), (d.live) ∧ (partOk o) ∧ (k < 4) ∧ (d.atPacket o k 0x11 j p d1) ∧ (bits (p.word 7) 8 23 = 0) ∧ (d1.pipeline o j.pipeline j.number = some x) ∧ (d1.readIndices o (p.pair 6 % 2 ^ 40) (if (p.word 7).testBit 31 then 4 else 2) (p.word 8) (p.word 3) (p.word 1) = (.ok l, d2)) ∧ (d2.drawCall o (j.past p) x { vertices := l.map (fun (i : Nat) => (((i : Int) + asSigned 32 (p.word 4)) % (2 ^ 32 : Int)).toNat), instances := p.word 2, firstInst := p.word 5 } = some r)) ∧
    (∃ (d : Dev) (o k : Nat) (j : GpuJob) (p : Packet) (d1 : Dev) (x : Pipeline) (l : List Nat) (d2 : Dev) (dr : Dev), (d.live) ∧ (partOk o) ∧ (k < 4) ∧ (d.atPacket o k 0x11 j p d1) ∧ (bits (p.word 7) 8 23 = 0) ∧ (d1.pipeline o j.pipeline j.number = some x) ∧ (d1.readIndices o (p.pair 6 % 2 ^ 40) (if (p.word 7).testBit 31 then 4 else 2) (p.word 8) (p.word 3) (p.word 1) = (.ok l, d2)) ∧ (d2.drawCall o (j.past p) x { vertices := l.map (fun (i : Nat) => (((i : Int) + asSigned 32 (p.word 4)) % (2 ^ 32 : Int)).toNat), instances := p.word 2, firstInst := p.word 5 } = some (none, dr))) ∧
    (∃ (d : Dev) (o k : Nat) (j : GpuJob) (p : Packet) (d1 : Dev) (x : Pipeline) (r : Halted), (d.live) ∧ (partOk o) ∧ (k < 4) ∧ (d.atPacket o k 0x12 j p d1) ∧ (addrOk (p.pair 1)) ∧ (p.word 4 % 4 = 0) ∧ (16 ≤ p.word 4) ∧ (d1.pipeline o j.pipeline j.number = some x) ∧ (d1.drawRecords o (j.past p) x (p.pair 1) (p.word 4) (p.word 3) = some r)) ∧
    (∃ (d : Dev) (o k : Nat) (j : GpuJob) (p : Packet) (d1 : Dev) (x : Pipeline) (dr : Dev), (d.live) ∧ (partOk o) ∧ (k < 4) ∧ (d.atPacket o k 0x12 j p d1) ∧ (addrOk (p.pair 1)) ∧ (p.word 4 % 4 = 0) ∧ (16 ≤ p.word 4) ∧ (d1.pipeline o j.pipeline j.number = some x) ∧ (d1.drawRecords o (j.past p) x (p.pair 1) (p.word 4) (p.word 3) = some (none, dr))) ∧
    (∃ (d : Dev) (o k : Nat) (j : GpuJob) (p : Packet) (d1 : Dev) (x : Pipeline) (r : Halted), (d.live) ∧ (partOk o) ∧ (k < 4) ∧ (d.atPacket o k 0x18 j p d1) ∧ (d1.computeHeld o = false) ∧ (1 ≤ p.word 1) ∧ (p.word 1 ≤ 65535) ∧ (1 ≤ p.word 2) ∧ (p.word 2 ≤ 65535) ∧ (1 ≤ p.word 3) ∧ (p.word 3 ≤ 65535) ∧ (d1.pipeline o j.pipeline j.number = some x) ∧ (d1.dispatchCall o (j.past p) x [p.word 1, p.word 2, p.word 3] = some r)) ∧
    (∃ (d : Dev) (o k : Nat) (j : GpuJob) (p : Packet) (d1 : Dev) (x : Pipeline) (dr : Dev), (d.live) ∧ (partOk o) ∧ (k < 4) ∧ (d.atPacket o k 0x18 j p d1) ∧ (d1.computeHeld o = false) ∧ (1 ≤ p.word 1) ∧ (p.word 1 ≤ 65535) ∧ (1 ≤ p.word 2) ∧ (p.word 2 ≤ 65535) ∧ (1 ≤ p.word 3) ∧ (p.word 3 ≤ 65535) ∧ (d1.pipeline o j.pipeline j.number = some x) ∧ (d1.dispatchCall o (j.past p) x [p.word 1, p.word 2, p.word 3] = some (none, dr))) ∧
    (∃ (d : Dev) (o k : Nat) (j : GpuJob) (p : Packet) (d1 : Dev) (x : Pipeline) (b : List Byte) (d2 : Dev) (r : Halted), (d.live) ∧ (partOk o) ∧ (k < 4) ∧ (d.atPacket o k 0x19 j p d1) ∧ (d1.computeHeld o = false) ∧ (addrOk (p.pair 1)) ∧ (d1.gpuRead o (p.pair 1) 12 = (.ok b, d2)) ∧ (1 ≤ field b 0 4) ∧ (field b 0 4 ≤ 65535) ∧ (1 ≤ field b 4 4) ∧ (field b 4 4 ≤ 65535) ∧ (1 ≤ field b 8 4) ∧ (field b 8 4 ≤ 65535) ∧ (d2.pipeline o j.pipeline j.number = some x) ∧ (d2.dispatchCall o (j.past p) x [field b 0 4, field b 4 4, field b 8 4] = some r)) ∧
    (∃ (d : Dev) (o k : Nat) (j : GpuJob) (p : Packet) (d1 : Dev) (x : Pipeline) (b : List Byte) (d2 : Dev) (dr : Dev), (d.live) ∧ (partOk o) ∧ (k < 4) ∧ (d.atPacket o k 0x19 j p d1) ∧ (d1.computeHeld o = false) ∧ (addrOk (p.pair 1)) ∧ (d1.gpuRead o (p.pair 1) 12 = (.ok b, d2)) ∧ (1 ≤ field b 0 4) ∧ (field b 0 4 ≤ 65535) ∧ (1 ≤ field b 4 4) ∧ (field b 4 4 ≤ 65535) ∧ (1 ≤ field b 8 4) ∧ (field b 8 4 ≤ 65535) ∧ (d2.pipeline o j.pipeline j.number = some x) ∧ (d2.dispatchCall o (j.past p) x [field b 0 4, field b 4 4, field b 8 4] = some (none, dr))) ∧
    (∃ (d : Dev) (o k : Nat) (j : GpuJob) (p : Packet) (d1 : Dev), (d.live) ∧ (partOk o) ∧ (k < 4) ∧ (d.atPacket o k 0x28 j p d1) ∧ (p.word 1 ≤ 2) ∧ (addrOk (p.pair 4)) ∧ (p.word 1 = 2 → p.word 3 = 0) ∧ (p.word 1 ≠ 2 → addrOk (p.pair 2) = true)) ∧
    (∃ (d : Dev) (o k : Nat) (j : GpuJob) (p : Packet) (d1 : Dev) (dr : Dev), (d.live) ∧ (partOk o) ∧ (k < 4) ∧ (d.atPacket o k 0x28 j p d1) ∧ (p.word 1 ≤ 2) ∧ (addrOk (p.pair 4)) ∧ (p.word 1 = 2 → p.word 3 = 0) ∧ (p.word 1 ≠ 2 → addrOk (p.pair 2) = true) ∧ ((List.range (if p.word 1 = 0 then 1 else p.word 7)).foldl (gpuCopyRow o p) (none, d1) = (none, dr))) :=
  ⟨⟨wGpu 3 [1, 0, 0, 0] [] {}, 0x20, 3, wJobOf (wGpu 3 [1, 0, 0, 0] [] {}) 3, wPacketOf (wGpu 3 [1, 0, 0, 0] [] {}) 3, wGpu 3 [1, 0, 0, 0] [] {}, by decide +kernel⟩,
   ⟨wPipes (wGpu 2 [3, 0, 0, 1, 5] [] {}), 0x20, 2, wJobOf (wPipes (wGpu 2 [3, 0, 0, 1, 5] [] {})) 2, wPacketOf (wPipes (wGpu 2 [3, 0, 0, 1, 5] [] {})) 2, wPipes (wGpu 2 [3, 0, 0, 1, 5] [] {}), { handle := 5, owner := 0x20, kind := 1 }, by decide +kernel⟩,
   ⟨wGpu 0 [3, 0, 0, 2, 0xBF, 0, 0, 0, 7] [] {}, 0x20, 0, wJobOf (wGpu 0 [3, 0, 0, 2, 0xBF, 0, 0, 0, 7] [] {}) 0, wPacketOf (wGpu 0 [3, 0, 0, 2, 0xBF, 0, 0, 0, 7] [] {}) 0, wGpu 0 [3, 0, 0, 2, 0xBF, 0, 0, 0, 7] [] {}, by decide +kernel⟩,
   ⟨wGpu 1 [4, 0, 0, 3, 0, 0, 0, 0, 0x10, 0, 0, 0, 4] [] {}, 0x20, 1, wJobOf (wGpu 1 [4, 0, 0, 3, 0, 0, 0, 0, 0x10, 0, 0, 0, 4] [] {}) 1, wPacketOf (wGpu 1 [4, 0, 0, 3, 0, 0, 0, 0, 0x10, 0, 0, 0, 4] [] {}) 1, wGpu 1 [4, 0, 0, 3, 0, 0, 0, 0, 0x10, 0, 0, 0, 4] [] {}, by decide +kernel⟩,
   ⟨wDraw, 0x20, 0, wJobOf wDraw 0, wPacketOf wDraw 0, wDraw, { handle := 5, owner := 0x20, kind := 1 }, wDrawn, by decide +kernel⟩,
   ⟨wDraw, 0x20, 0, wJobOf wDraw 0, wPacketOf wDraw 0, wDraw, { handle := 5, owner := 0x20, kind := 1 }, wDrawn.2, by decide +kernel⟩,
   ⟨wDrawX, 0x20, 2, wJobOf wDrawX 2, wPacketOf wDrawX 2, wDrawX, { handle := 5, owner := 0x20, kind := 1 }, [], wDrawX, wDrawnX, by decide +kernel⟩,
   ⟨wDrawX, 0x20, 2, wJobOf wDrawX 2, wPacketOf wDrawX 2, wDrawX, { handle := 5, owner := 0x20, kind := 1 }, [], wDrawX, wDrawnX.2, by decide +kernel⟩,
   ⟨wDrawI, 0x20, 0, wJobOf wDrawI 0, wPacketOf wDrawI 0, wDrawI, { handle := 5, owner := 0x20, kind := 1 }, wDrawnI, by decide +kernel⟩,
   ⟨wDrawI, 0x20, 0, wJobOf wDrawI 0, wPacketOf wDrawI 0, wDrawI, { handle := 5, owner := 0x20, kind := 1 }, wDrawnI.2, by decide +kernel⟩,
   ⟨wDisp, 0x20, 1, wJobOf wDisp 1, wPacketOf wDisp 1, wDisp, wPipe6, wDisped, by decide +kernel⟩,
   ⟨wDisp, 0x20, 1, wJobOf wDisp 1, wPacketOf wDisp 1, wDisp, wPipe6, wDisped.2, by decide +kernel⟩,
   ⟨wDispI, 0x20, 1, wJobOf wDispI 1, wPacketOf wDispI 1, wDispI, wPipe6, [1, 0, 0, 0, 1, 0, 0, 0, 1, 0, 0, 0], wDispI, wDispedI, by decide +kernel⟩,
   ⟨wDispI, 0x20, 1, wJobOf wDispI 1, wPacketOf wDispI 1, wDispI, wPipe6, [1, 0, 0, 0, 1, 0, 0, 0, 1, 0, 0, 0], wDispI, wDispedI.2, by decide +kernel⟩,
   ⟨wCopyRow, 0x20, 3, wJobOf wCopyRow 3, wPacketOf wCopyRow 3, wCopyRow, by decide +kernel⟩,
   ⟨wCopyRow, 0x20, 3, wJobOf wCopyRow 3, wPacketOf wCopyRow 3, wCopyRow, (gpuCopyRow 0x20 (wPacketOf wCopyRow 3) (none, wCopyRow) 0).2, by decide +kernel⟩⟩

theorem witness_gpu_waits_and_fences_complete :
    (∃ (d : Dev) (o k : Nat) (j : GpuJob) (p : Packet) (d1 : Dev) (d2 : Dev), (d.live) ∧ (partOk o) ∧ (k < 4) ∧ (d.atPacket o k 0x30 j p d1) ∧ (addrOk (p.pair 1)) ∧ (p.pair 1 % 16 = 0) ∧ (bits (p.word 5) 11 20 = 0) ∧ ((p.word 5).testBit 31 = false) ∧ ((d1.flushL2 o).gpuWrite o (p.pair 1) (leBytes 8 (p.pair 3) ++ leBytes 8 (d1.flushL2 o).clock.ns) = (true, d2))) ∧
    (∃ (d : Dev) (o k : Nat) (j : GpuJob) (p : Packet) (d1 : Dev) (d2 : Dev), (d.live) ∧ (partOk o) ∧ (k < 4) ∧ (d.atPacket o k 0x30 j p d1) ∧ (addrOk (p.pair 1)) ∧ (p.pair 1 % 16 = 0) ∧ (bits (p.word 5) 11 20 = 0) ∧ ((p.word 5).testBit 31 = true) ∧ ((d1.flushL2 o).gpuWrite o (p.pair 1) (leBytes 8 (p.pair 3) ++ leBytes 8 (d1.flushL2 o).clock.ns) = (true, d2)) ∧ (((d2.flushL2 o).fenceWritten (p.pair 1)).sourceFor o (p.word 5 % 2048))) ∧
    (∃ (d : Dev) (o k : Nat) (j : GpuJob) (p : Packet) (d1 : Dev) (d2 : Dev), (d.live) ∧ (partOk o) ∧ (k < 4) ∧ (d.atPacket o k 0x31 j p d1) ∧ (addrOk (p.pair 1)) ∧ (p.pair 1 % 8 = 0) ∧ (d1.fenceReached o (p.pair 1) (p.pair 3) = (.ok true, d2))) ∧
    (∃ (d : Dev) (o k : Nat) (j : GpuJob) (p : Packet) (d1 : Dev) (d2 : Dev), (d.live) ∧ (partOk o) ∧ (k < 4) ∧ (d.atPacket o k 0x31 j p d1) ∧ (addrOk (p.pair 1)) ∧ (p.pair 1 % 8 = 0) ∧ (d1.fenceReached o (p.pair 1) (p.pair 3) = (.ok false, d2))) ∧
    (∃ (d : Dev) (o k : Nat) (j : GpuJob) (rest : List GpuJob) (a v : Nat) (d2 : Dev), (d.live) ∧ (partOk o) ∧ (k < 4) ∧ ((d.gq o k).jobs = j :: rest) ∧ (j.wait = some (a, v)) ∧ (d.fenceReached o a v = (.ok true, d2))) ∧
    (∃ (d : Dev) (o k : Nat) (j : GpuJob) (rest : List GpuJob), (d.live) ∧ (partOk o) ∧ (k < 4) ∧ ((d.gq o k).jobs = j :: rest) ∧ (j.timeout) ∧ (j.wait.isSome)) ∧
    (∃ (d : Dev) (o k : Nat) (j : GpuJob) (rest : List GpuJob) (r v : Nat), (d.live) ∧ (partOk o) ∧ (k < 4) ∧ ((d.gq o k).jobs = j :: rest) ∧ (j.rodWait = some (r, v)) ∧ (v ≤ d.rodPosition r)) ∧
    (∃ (d : Dev) (o k : Nat) (j : GpuJob) (rest : List GpuJob), (d.live) ∧ (partOk o) ∧ (k < 4) ∧ ((d.gq o k).jobs = j :: rest) ∧ (j.timeout) ∧ (j.rodWait.isSome)) ∧
    (∃ (d : Dev) (o k : Nat) (j : GpuJob) (p : Packet) (d1 : Dev), (d.live) ∧ (partOk o) ∧ (k < 4) ∧ (d.atPacket o k 0x39 j p d1) ∧ (p.word 1 < 12) ∧ (p.pair 2 ≤ d1.rodPosition (p.word 1))) ∧
    (∃ (d : Dev) (o k : Nat) (j : GpuJob) (p : Packet) (d1 : Dev), (d.live) ∧ (partOk o) ∧ (k < 4) ∧ (d.atPacket o k 0x39 j p d1) ∧ (p.word 1 < 12) ∧ (d1.rodPosition (p.word 1) < p.pair 2)) ∧
    (∃ (d : Dev) (o k : Nat) (j : GpuJob) (p : Packet) (d1 : Dev) (l b : Nat), (d.live) ∧ (partOk o) ∧ (k < 4) ∧ (d.atPacket o k 0x20 j p d1) ∧ (p.word 1 = l + 256 * b) ∧ (l < 48) ∧ (b < 256) ∧ (j.band = none) ∧ (j.called = none) ∧ ((d1.band l).on) ∧ (d1.owner (blockId 2 l) = o) ∧ (b < d1.bandCount l) ∧ (tabGet false (d1.band l).deferred b = false) ∧ (j.named.contains (l, b))) ∧
    (∃ (d : Dev) (o k : Nat) (j : GpuJob) (p : Packet) (d1 : Dev), (d.live) ∧ (partOk o) ∧ (k < 4) ∧ (d.atPacket o k 0x21 j p d1) ∧ (j.band.isSome)) ∧
    (∃ (d : Dev) (o k : Nat) (j : GpuJob) (rest : List GpuJob) (l b : Nat), (d.live) ∧ (partOk o) ∧ (k < 4) ∧ ((d.gq o k).jobs = j :: rest) ∧ (j.closing) ∧ (j.band = some (l, b)) ∧ ((d.writeBack o (d.inBand l b)).bandState l b = 1)) ∧
    (∃ (d : Dev) (o k : Nat) (j : GpuJob) (p : Packet) (d1 : Dev) (d2 d3 : Dev), (d.live) ∧ (partOk o) ∧ (k < 4) ∧ (d.atPacket o k 0x38 j p d1) ∧ (p.word 1 < 512) ∧ (d1.tryWrite (initOf o) (beadIndex (p.word 1)) (wordSub (p.word 1) + 1) (leBytes 8 (p.pair 4)) (actionWordVerdict (p.word 1) (p.pair 4)) = .ok d2) ∧ (d2.tryWrite (initOf o) (beadIndex (p.word 1)) (wordSub (p.word 1)) (leBytes 8 (p.pair 2)) (beadWordVerdict (p.word 1) (p.pair 2)) = .ok d3)) ∧
    (∃ (d : Dev) (o k : Nat) (j : GpuJob) (p : Packet) (d1 : Dev) (d2 : Dev), (d.live) ∧ (partOk o) ∧ (k < 4) ∧ (d.atPacket o k 0x3A j p d1) ∧ (addrOk (p.pair 1)) ∧ (p.pair 1 % 16 = 0) ∧ (p.word 3 < 12) ∧ (d1.gpuWrite o (p.pair 1) (leBytes 8 d1.clock.ns ++ leBytes 8 (d1.rodPosition (p.word 3))) = (true, d2))) :=
  ⟨⟨wGpu 3 [6, 0, 0, 0x30, 0, 8, 0, 0, 0x10] [] {}, 0x20, 3, wJobOf (wGpu 3 [6, 0, 0, 0x30, 0, 8, 0, 0, 0x10] [] {}) 3, wPacketOf (wGpu 3 [6, 0, 0, 0x30, 0, 8, 0, 0, 0x10] [] {}) 3, wGpu 3 [6, 0, 0, 0x30, 0, 8, 0, 0, 0x10] [] {}, ((wGpu 3 [6, 0, 0, 0x30, 0, 8, 0, 0, 0x10]).gpuWrite 0x20 0x1000000800 (zeroBytes 16)).2, by decide +kernel⟩,
   ⟨wGpu 3 [6, 0, 0, 0x30, 0, 8, 0, 0, 0x10, 0, 0, 0, 0, 0, 0, 0, 0, 0, 0, 0, 0, 0, 0, 0x80] [] {}, 0x20, 3, wJobOf (wGpu 3 [6, 0, 0, 0x30, 0, 8, 0, 0, 0x10, 0, 0, 0, 0, 0, 0, 0, 0, 0, 0, 0, 0, 0, 0, 0x80] [] {}) 3, wPacketOf (wGpu 3 [6, 0, 0, 0x30, 0, 8, 0, 0, 0x10, 0, 0, 0, 0, 0, 0, 0, 0, 0, 0, 0, 0, 0, 0, 0x80] [] {}) 3, wGpu 3 [6, 0, 0, 0x30, 0, 8, 0, 0, 0x10, 0, 0, 0, 0, 0, 0, 0, 0, 0, 0, 0, 0, 0, 0, 0x80] [] {}, ((wGpu 3 [6, 0, 0, 0x30, 0, 8, 0, 0, 0x10, 0, 0, 0, 0, 0, 0, 0, 0, 0, 0, 0, 0, 0, 0, 0x80]).gpuWrite 0x20 0x1000000800 (zeroBytes 16)).2, by decide +kernel⟩,
   ⟨wGpu 0 [6, 0, 0, 0x31, 0, 8, 0, 0, 0x10] [] {}, 0x20, 0, wJobOf (wGpu 0 [6, 0, 0, 0x31, 0, 8, 0, 0, 0x10] [] {}) 0, wPacketOf (wGpu 0 [6, 0, 0, 0x31, 0, 8, 0, 0, 0x10] [] {}) 0, wGpu 0 [6, 0, 0, 0x31, 0, 8, 0, 0, 0x10] [] {}, wGpu 0 [6, 0, 0, 0x31, 0, 8, 0, 0, 0x10], by decide +kernel⟩,
   ⟨wGpu 0 [6, 0, 0, 0x31, 0, 8, 0, 0, 0x10, 0, 0, 0, 1] [] {}, 0x20, 0, wJobOf (wGpu 0 [6, 0, 0, 0x31, 0, 8, 0, 0, 0x10, 0, 0, 0, 1] [] {}) 0, wPacketOf (wGpu 0 [6, 0, 0, 0x31, 0, 8, 0, 0, 0x10, 0, 0, 0, 1] [] {}) 0, wGpu 0 [6, 0, 0, 0x31, 0, 8, 0, 0, 0x10, 0, 0, 0, 1] [] {}, wGpu 0 [6, 0, 0, 0x31, 0, 8, 0, 0, 0x10, 0, 0, 0, 1], by decide +kernel⟩,
   ⟨wGpu 3 [] [] { wait := some (0x1000000000, 0) }, 0x20, 3, wJobOf (wGpu 3 [] [] { wait := some (0x1000000000, 0) }) 3, [], 0x1000000000, 0, wGpu 3 [] [] { wait := some (0x1000000000, 0) }, by decide +kernel⟩,
   ⟨wGpu 3 [] [] { wait := some (0x1000000000, 1), timeout := true }, 0x20, 3, wJobOf (wGpu 3 [] [] { wait := some (0x1000000000, 1), timeout := true }) 3, [], by decide +kernel⟩,
   ⟨wGpu 3 [] [] { rodWait := some (11, 0) }, 0x20, 3, wJobOf (wGpu 3 [] [] { rodWait := some (11, 0) }) 3, [], 11, 0, by decide +kernel⟩,
   ⟨wGpu 3 [] [] { rodWait := some (11, 5), timeout := true }, 0x20, 3, wJobOf (wGpu 3 [] [] { rodWait := some (11, 5), timeout := true }) 3, [], by decide +kernel⟩,
   ⟨wGpu 1 [5, 0, 0, 0x39, 11] [] {}, 0x20, 1, wJobOf (wGpu 1 [5, 0, 0, 0x39, 11] [] {}) 1, wPacketOf (wGpu 1 [5, 0, 0, 0x39, 11] [] {}) 1, wGpu 1 [5, 0, 0, 0x39, 11] [] {}, by decide +kernel⟩,
   ⟨wGpu 1 [5, 0, 0, 0x39, 11, 0, 0, 0, 1] [] {}, 0x20, 1, wJobOf (wGpu 1 [5, 0, 0, 0x39, 11, 0, 0, 0, 1] [] {}) 1, wPacketOf (wGpu 1 [5, 0, 0, 0x39, 11, 0, 0, 0, 1] [] {}) 1, wGpu 1 [5, 0, 0, 0x39, 11, 0, 0, 0, 1] [] {}, by decide +kernel⟩,
   ⟨wBand [2, 0, 0, 0x20, 46, 0] { named := [(46, 0)] }, 0x20, 2, wJobOf (wBand [2, 0, 0, 0x20, 46, 0] { named := [(46, 0)] }) 2, wPacketOf (wBand [2, 0, 0, 0x20, 46, 0] { named := [(46, 0)] }) 2, wBand [2, 0, 0, 0x20, 46, 0] { named := [(46, 0)] }, 46, 0, by decide +kernel⟩,
   ⟨wBand [1, 0, 0, 0x21] { band := some (46, 0) }, 0x20, 2, wJobOf (wBand [1, 0, 0, 0x21] { band := some (46, 0) }) 2, wPacketOf (wBand [1, 0, 0, 0x21] { band := some (46, 0) }) 2, wBand [1, 0, 0, 0x21] { band := some (46, 0) }, by decide +kernel⟩,
   ⟨wBand [] { band := some (46, 0), closing := true }, 0x20, 2, wJobOf (wBand [] { band := some (46, 0), closing := true }) 2, [], 46, 0, by decide +kernel⟩,
   ⟨wArm, 0x20, 3, wJobOf wArm 3, wPacketOf wArm 3, wArm, wArm2, wArm3, by decide +kernel⟩,
   ⟨wGpu 0 [4, 0, 0, 0x3A, 0, 8, 0, 0, 0x10, 0, 0, 0, 11] [] {}, 0x20, 0, wJobOf (wGpu 0 [4, 0, 0, 0x3A, 0, 8, 0, 0, 0x10, 0, 0, 0, 11] [] {}) 0, wPacketOf (wGpu 0 [4, 0, 0, 0x3A, 0, 8, 0, 0, 0x10, 0, 0, 0, 11] [] {}) 0, wGpu 0 [4, 0, 0, 0x3A, 0, 8, 0, 0, 0x10, 0, 0, 0, 11] [] {}, ((wGpu 0 [4, 0, 0, 0x3A, 0, 8, 0, 0, 0x10, 0, 0, 0, 11]).gpuWrite 0x20 0x1000000800 (zeroBytes 16)).2, by decide +kernel⟩⟩

theorem witness_pipelines_complete :
    (∃ (d : Dev) (who : Init) (addr : Nat) (b : List Byte) (d1 d2 : Dev) (it : Item), (d.live) ∧ (d.serving) ∧ (d.checkWrite who 0x25C0 2 (numData 0x25C0 2 addr) = none) ∧ (d.readSubmitted (initCode who) addr 160 = (some b, d1)) ∧ (d.createFull (initCode who) = false) ∧ (d.submitRoom (initCode who)) ∧ (d1.checkCreate { block := addr, code := initCode who, seq := field b 4 4 } b = 1) ∧ (d1.journalItem 4 { block := addr, code := initCode who, seq := field b 4 4 } 0 160 [] = (it, d2))) ∧
    (∃ (d : Dev) (c : Nat) (x : Compile), (d.live) ∧ (d.awake) ∧ (c < 2) ∧ (d.compiling c = none) ∧ (nextCreate d.gpu.waiting d.gpu.turn = some x)) ∧
    (∃ (d : Dev) (c first second status : Nat) (x : Compile) (f l : List Nat) (spec : List (Nat × Nat)) (d0 : Dev), (d.live) ∧ (d.awake) ∧ (c < 2) ∧ (d.compiling c = some x) ∧ (d.readModules x.item.code x.body = ((f, l, spec, status), d0)) ∧ (first + second ≤ field x.body 40 4) ∧ ((d0.clock.ns - x.startAt) / 1000 ≤ d0.getO 0x25C0 7)) ∧
    (∃ (d : Dev) (c _first _second status : Nat) (x : Compile) (f l : List Nat) (spec : List (Nat × Nat)) (d0 : Dev), (d.live) ∧ (d.awake) ∧ (c < 2) ∧ (d.compiling c = some x) ∧ (d.readModules x.item.code x.body = ((f, l, spec, status), d0)) ∧ (status ≠ 0) ∧ (status ≠ 0x44) ∧ ((d0.clock.ns - x.startAt) / 1000 ≤ d0.getO 0x25C0 7)) ∧
    (∃ (d : Dev) (who : Init) (handle : Nat), (d.live) ∧ (d.serving) ∧ (d.checkWrite who 0x25C0 3 (numData 0x25C0 3 handle) = none) ∧ (d.gpu.pipes.any (fun p => p.handle == handle && p.owner == initCode who && p.destroyed.isNone))) ∧
    (∃ (d : Dev) (c : Nat) (x : Compile), (d.live) ∧ (d.awake) ∧ (c < 2) ∧ (d.compiling c = some x)) :=
  ⟨⟨wCreate, .openWorld, 0x1000000000, wCreateBody, wCreate, wCreateJ.2, wCreateJ.1, by decide +kernel⟩,
   ⟨{ gpu := { waiting := [{ item := { code := 0x20 } }] } }, 1, { item := { code := 0x20 } }, by decide +kernel⟩,
   ⟨wCompiling 1 wModule, 1, 0, 0, wCompiled.1.2.2.2, wCompileOf wModule, wCompiled.1.1, wCompiled.1.2.1, wCompiled.1.2.2.1, wCompiled.2, ⟨by decide +kernel, by decide +kernel, by decide +kernel, by decide +kernel, wCompiled_eta, by decide +kernel, by decide +kernel⟩⟩,
   ⟨wCompiling 0 [1], 0, 0, 0, 0x40, wCompileOf [1], [1], [], [], wCompiling 0 [1], by decide +kernel⟩,
   ⟨wPipes {}, .openWorld, 6, by decide +kernel⟩,
   ⟨{ gpu := { cores := [(1, some {})] } }, 1, {}, by decide +kernel⟩⟩

theorem witness_touch_completes :
    (∃ (d : Dev) (p _edges : Nat) (_raw : List Nat) (sc : Scan), (d.live) ∧ (p < 8) ∧ ((d.panel p).scan = some sc) ∧ ((sc.waiting && d.rodRuns sc.rod) = false) ∧ (sc.ganged = false)) ∧
    (∃ (d : Dev) (p _edges : Nat) (_raw : List Nat) (sc : Scan), (d.live) ∧ (p < 8) ∧ ((d.panel p).scan = some sc) ∧ ((sc.waiting && d.rodRuns sc.rod) = false) ∧ (sc.ganged = true)) ∧
    (∃ (d : Dev) (p identity : Nat), (d.live) ∧ (p < 8) ∧ ((d.panel p).touches.any (fun t => t.identity == identity && !t.longRest && !t.hover)) ∧ (d.baseState p ≠ 4)) ∧
    (∃ (d : Dev) (p : Nat), (d.live) ∧ (p < 8) ∧ (d.panelState p = 1) ∧ (d.pan p 0x0C ≠ 0) ∧ ((d.panel p).reported = false) ∧ ((d.panel p).approach = false)) ∧
    (∃ (d : Dev) (who : Init) (p : Nat), (d.live) ∧ (d.serving) ∧ (p < 8) ∧ (d.checkWrite who (panelIndex p) 0x1E (leBytes 1 1) = none) ∧ (d.baseState p ≠ 0)) ∧
    (∃ (d : Dev) (who : Init) (p : Nat), (d.live) ∧ (d.serving) ∧ (p < 8) ∧ (d.checkWrite who (panelIndex p) 0x1E (leBytes 1 2) = none) ∧ (d.baseState p ≠ 0)) ∧
    (∃ (d : Dev) (who : Init) (p value k gen : Nat), (d.live) ∧ (d.serving) ∧ (p < 8) ∧ (d.checkWrite who (panelIndex p) 0x1F (numData (panelIndex p) 0x1F value) = none) ∧ (d.baseState p = 3) ∧ (d.suspects p = 0) ∧ ((match d.newestReferences with | some (n, g, _) => ((n + 1) % 16, (g + 1) % 2 ^ 32) | none => (0, 1)) = (k, gen))) ∧
    (∃ (d : Dev) (who : Init) (p : Nat), (d.live) ∧ (d.serving) ∧ (p < 8) ∧ (d.checkWrite who (panelIndex p) 2 (numData (panelIndex p) 2 1) = none) ∧ (d.panelState p = 0) ∧ (d.panelFits p)) ∧
    (∃ (d : Dev) (who : Init) (p : Nat), (d.live) ∧ (d.serving) ∧ (p < 8) ∧ (d.checkWrite who (panelIndex p) 2 (numData (panelIndex p) 2 0) = none)) ∧
    (∃ (d : Dev) (p : Nat), (d.live) ∧ (p < 8) ∧ (d.panelState p = 3) ∧ ((d.panel p).scan = none)) ∧
    (∃ (d : Dev) (_t : Int), (d.live)) ∧
    (∃ (d : Dev) (p : Nat), (d.live) ∧ (p < 8) ∧ (d.panelState p ≠ 0)) :=
  ⟨⟨{ panels := [(7, { scan := some {} })] }, 7, 2, [], {}, by decide +kernel⟩,
   ⟨{ panels := [(7, { scan := some { ganged := true } })] }, 7, 0, [], { ganged := true }, by decide +kernel⟩,
   ⟨{ panels := [(7, { touches := [{ identity := 0 }] })] }, 7, 0, by decide +kernel⟩,
   ⟨wSet [(0x2608, 1, 1), (0x2608, 0xC, 1)], 7, by decide +kernel⟩,
   ⟨wSet [(0x2608, 0x20, 3)], .island, 7, by decide +kernel⟩,
   ⟨wSet [(0x2608, 0x20, 3)], .island, 7, by decide +kernel⟩,
   ⟨wSet [(0x2608, 0x20, 3)], .island, 7, 1, 0, 1, by decide +kernel⟩,
   ⟨wSet [(0x2608, 4, 4), (0x2608, 6, 2), (0x2608, 8, 1)], .island, 7, by decide +kernel⟩,
   ⟨{}, .island, 7, by decide +kernel⟩,
   ⟨wSet [(0x2608, 1, 3)], 7, by decide +kernel⟩,
   ⟨{}, -40, by decide +kernel⟩,
   ⟨wSet [(0x2608, 1, 1)], 7, by decide +kernel⟩⟩

theorem witness_haptics_complete :
    (∃ (d : Dev) (who : Init) (n a : Nat), (d.live) ∧ (d.serving) ∧ (n < 8) ∧ (d.checkWrite who (hapticIndex n) 3 (numData (hapticIndex n) 3 a) = none) ∧ (a % 8 = n) ∧ (argOk (3 * 2 ^ 56 + a)) ∧ ((d.haptic n).arrived = none)) ∧
    (∃ (d : Dev) (n a : Nat), (d.live) ∧ (n < 8) ∧ ((d.haptic n).arrived = some a)) ∧
    (∃ (d : Dev) (n : Nat) (_i _u _slope : Int), (d.live) ∧ (n < 8) ∧ (d.hapticPhase n = 3 ∨ d.hapticPhase n = 4)) ∧
    (∃ (d : Dev) (n _r _bl : Nat), (d.live) ∧ (n < 8) ∧ (d.hapticPhase n = 2) ∧ ((d.haptic n).probing = false) ∧ ((d.haptic n).clearing = false)) ∧
    (∃ (d : Dev) (n r bl : Nat), (d.live) ∧ (n < 8) ∧ (d.hapticPhase n = 2) ∧ ((d.haptic n).probing) ∧ (d.checkCause n r bl ≠ 0)) ∧
    (∃ (d : Dev) (n r bl : Nat), (d.live) ∧ (n < 8) ∧ (d.hapticPhase n = 3) ∧ (d.checkCause n r bl = 0)) ∧
    (∃ (d : Dev) (n r bl : Nat), (d.live) ∧ (n < 8) ∧ (d.hapticPhase n = 3) ∧ (d.checkCause n r bl ≠ 0)) ∧
    (∃ (d : Dev) (n r bl : Nat), (d.live) ∧ (n < 8) ∧ (d.hapticPhase n = 3) ∧ (d.checkCause n r bl = 0)) ∧
    (∃ (d : Dev) (n : Nat), (d.live) ∧ (n < 8) ∧ (d.hapticPhase n = 4) ∧ ((d.haptic n).still) ∧ ((d.haptic n).waiting = none)) ∧
    (∃ (d : Dev) (n : Nat), (d.live) ∧ (n < 8) ∧ (d.hapticPhase n = 4)) ∧
    (∃ (d : Dev) (n : Nat) (_hot : Bool), (d.live) ∧ (n < 8) ∧ (1 ≤ d.hapticPhase n) ∧ (d.hapticPhase n ≤ 4)) ∧
    (∃ (d : Dev) (who : Init) (n : Nat), (d.live) ∧ (d.serving) ∧ (n < 8) ∧ (d.checkWrite who (modelIndex n) 9 (numData (modelIndex n) 9 1) = none) ∧ (d.hap n 1 = 1) ∧ (d.running) ∧ (300 ≤ d.hap n 5) ∧ (300 ≤ d.hapticLeft n)) ∧
    (∃ (d : Dev) (n : Nat) (fit : Fit), (d.live) ∧ (n < 8) ∧ (d.hapticPhase n = 6) ∧ (fit.openOrShort = some 1)) ∧
    (∃ (d : Dev) (n : Nat) (fit : Fit), (d.live) ∧ (n < 8) ∧ (d.hapticPhase n = 6) ∧ (fit.openOrShort = none) ∧ (100 < fit.residual)) ∧
    (∃ (d : Dev) (n : Nat) (fit : Fit) (t : Int), (d.live) ∧ (n < 8) ∧ (d.hapticPhase n = 6) ∧ (fit.openOrShort = none) ∧ (fit.residual ≤ 100) ∧ ([(2, fit.bl), (3, fit.mass), (4, fit.stiffness), (5, fit.resistance), (6, fit.inductance)].all (fun x => fitValueOk x.1 x.2)) ∧ (d.getI 0x3400 6 16 / 10 + (if d.getI 0x3400 6 16 % 10 = 0 then 0 else Config.freeNat d.nextFree.1 % 2 : Nat) = t) ∧ (-40 ≤ t) ∧ (t ≤ 125) ∧ (resonanceOk fit.stiffness fit.mass)) ∧
    (∃ (d : Dev) (who : Init) (n value : Nat), (d.live) ∧ (d.serving) ∧ (n < 8) ∧ (d.checkWrite who (hapticIndex n) 9 (numData (hapticIndex n) 9 value) = none) ∧ (d.hap n 1 = 5) ∧ (d.running)) ∧
    (∃ (d : Dev) (who : Init) (n value : Nat), (d.live) ∧ (d.serving) ∧ (n < 8) ∧ (d.checkWrite who (modelIndex n) 1 (numData (modelIndex n) 1 value) = none) ∧ (value = 1 → d.modelInRange n = true)) ∧
    (∃ (d : Dev) (who : Init) (n : Nat), (d.live) ∧ (d.serving) ∧ (n < 8) ∧ (d.checkWrite who (hapticIndex n) 2 (numData (hapticIndex n) 2 1) = none) ∧ (d.hap n 1 = 0)) ∧
    (∃ (d : Dev) (who : Init) (n : Nat), (d.live) ∧ (d.serving) ∧ (n < 8) ∧ (d.checkWrite who (hapticIndex n) 2 (numData (hapticIndex n) 2 0) = none)) ∧
    (∃ (d : Dev) (n : Nat), (d.live) ∧ (n < 8) ∧ (d.hap n 1 = 7) ∧ ((d.haptic n).phase = 1 ∨ (d.haptic n).phase = 5)) :=
  ⟨⟨{}, .island, 7, 50 * 2 ^ 24 + 7, by decide +kernel⟩,
   ⟨{ haptics := [(7, { arrived := some 7 })] }, 7, 7, by decide +kernel⟩,
   ⟨wSet [(0x2708, 1, 4)], 7, 0, 0, 0, by decide +kernel⟩,
   ⟨wSet [(0x2708, 1, 2)], 7, 0, 0, by decide +kernel⟩,
   ⟨{ wSet [(0x2708, 1, 2)] with haptics := [(7, { probing := true })] }, 7, 60000, 0, by decide +kernel⟩,
   ⟨wDrive, 7, 8000, 1000, by decide +kernel⟩,
   ⟨wDrive, 7, 60000, 1000, by decide +kernel⟩,
   ⟨wDrive, 7, 8000, 1000, by decide +kernel⟩,
   ⟨wSet [(0x2708, 1, 4)], 7, by decide +kernel⟩,
   ⟨wSet [(0x2708, 1, 4)], 7, by decide +kernel⟩,
   ⟨wSet [(0x2708, 1, 4)], 7, true, by decide +kernel⟩,
   ⟨wSet [(0x2708, 1, 1), (0x2708, 5, 300)], .island, 7, by decide +kernel⟩,
   ⟨wSet [(0x2708, 1, 6)], 7, { openOrShort := some 1, bl := 0, mass := 0, stiffness := 0, resistance := 0, inductance := 0, residual := 0 }, by decide +kernel⟩,
   ⟨wSet [(0x2708, 1, 6)], 7, { openOrShort := none, bl := 0, mass := 0, stiffness := 0, resistance := 0, inductance := 0, residual := 101 }, by decide +kernel⟩,
   ⟨wSet [(0x2708, 1, 6), (0x3400, 6, 250)], 7, { openOrShort := none, bl := 1000, mass := 20000, stiffness := 10000, resistance := 8000, inductance := 100, residual := 100 }, 25, by decide +kernel⟩,
   ⟨wSet [(0x2708, 1, 5)], .island, 7, 1, by decide +kernel⟩,
   ⟨{}, .island, 7, 0, by decide +kernel⟩,
   ⟨wSet [(0x2708, 1, 0)], .island, 7, by decide +kernel⟩,
   ⟨{}, .island, 7, by decide +kernel⟩,
   ⟨{ wSet [(0x2708, 1, 7)] with haptics := [(7, { phase := 1 })] }, 7, by decide +kernel⟩⟩

theorem witness_audio_completes :
    (∃ (d : Dev), (d.live) ∧ (d.awake && d.domainRuns 15)) ∧
    (∃ (d : Dev), (d.live) ∧ (d.awake && d.domainRuns 15)) ∧
    (∃ (d : Dev), (d.live) ∧ (d.awake && d.domainRuns 15)) ∧
    (∃ (d : Dev) (who : Init) (i : Nat), (d.live) ∧ (d.serving) ∧ (i < 32) ∧ (d.checkWrite who (inIndex i) 4 (numData (inIndex i) 4 1) = none) ∧ (d.inp i 1 = 1)) ∧
    (∃ (d : Dev) (who : Init) (i : Nat), (d.live) ∧ (d.serving) ∧ (i < 32) ∧ (d.checkWrite who (inIndex i) 4 (numData (inIndex i) 4 0) = none) ∧ (d.inp i 1 = 2) ∧ (d.inKind i = 1 ∨ d.inKind i = 2)) ∧
    (∃ (d : Dev) (who : Init) (i v : Nat), (d.live) ∧ (d.serving) ∧ (i < 32) ∧ (d.checkWrite who (inIndex i) 0x12 (numData (inIndex i) 0x12 v) = none) ∧ (d.inp i 1 = 1 ∨ d.inp i 1 = 2) ∧ ((v + 2 ^ 32 - d.inp i 0x13) % 2 ^ 32 ≤ d.inp i 0x0B) ∧ (d.available i ≤ (v + 2 ^ 32 - d.inp i 0x13) % 2 ^ 32)) ∧
    (∃ (d : Dev) (who : Init) (s v : Nat), (d.live) ∧ (d.serving) ∧ (s < 12) ∧ (d.checkWrite who (sinkIndex s) 0x15 (numData (sinkIndex s) 0x15 v) = none) ∧ ((d.snk s 0x14 + 2 ^ 32 - v) % 2 ^ 32 ≤ d.recorded s)) ∧
    (∃ (d : Dev) (who : Init) (g i j : Nat) (data : List Byte), (d.live) ∧ (d.serving) ∧ (d.checkWrite who i j data = none) ∧ (gainOf i j = some g) ∧ (gainOk (asSigned 16 (leNat data))) ∧ ((d.setO i j (leNat data)).gainLevel g ≠ d.gainLevel g)) ∧
    (∃ (d : Dev) (i j g : Nat), (d.live) ∧ (d.awake && d.domainRuns 15) ∧ (gainOf i j = some g)) ∧
    (∃ (d : Dev) (s : Nat), (d.live) ∧ (d.awake && d.domainRuns 15) ∧ (s < 4) ∧ (d.snk s 1 = 1) ∧ ((d.sink s).quiet) ∧ (d.snk s 0x0D ≠ 0) ∧ (d.routeRuns s = false)) ∧
    (∃ (d : Dev) (s : Nat), (d.live) ∧ (d.awake && d.domainRuns 15) ∧ (s < 4) ∧ (d.snk s 1 = 1 ∨ d.snk s 1 = 2)) ∧
    (∃ (d : Dev) (s : Nat), (d.live) ∧ (d.awake && d.domainRuns 15) ∧ (s < 4) ∧ (d.snk s 1 = 3) ∧ (d.recentFaults s < 3) ∧ (d.power.overVolt = false)) ∧
    (∃ (d : Dev) (who : Init) (i : Nat), (d.live) ∧ (d.serving) ∧ (hasEnable i) ∧ (d.checkWrite who i 2 (numData i 2 1) = none) ∧ (d.audioDisabling i = false)) ∧
    (∃ (d : Dev) (who : Init) (i : Nat), (d.live) ∧ (d.serving) ∧ (hasEnable i) ∧ (d.checkWrite who i 2 (numData i 2 0) = none)) ∧
    (∃ (d : Dev) (i : Nat), (d.live) ∧ (d.awake && d.domainRuns 15) ∧ (0x2801 ≤ i) ∧ (i ≤ 0x2820) ∧ (d.getO i 1 = 3)) ∧
    (∃ (d : Dev) (i : Nat), (d.live) ∧ (d.awake && d.domainRuns 15) ∧ (0x2831 ≤ i) ∧ (i ≤ 0x283C) ∧ (d.getO i 1 = 4)) ∧
    (∃ (d : Dev) (i : Nat), (d.live) ∧ (d.awake && d.domainRuns 15) ∧ (0x2842 ≤ i) ∧ (i ≤ 0x2847) ∧ (d.getO i 1 = 2)) ∧
    (∃ (d : Dev) (i : Nat), (d.live) ∧ (d.awake && d.domainRuns 15) ∧ (hasEnable i)) :=
  ⟨⟨{}, by decide +kernel⟩,
   ⟨{}, by decide +kernel⟩,
   ⟨{}, by decide +kernel⟩,
   ⟨{ wSet [(0x2820, 1, 1)] with iso := { owners := [(5 * 4096 + 31, 0)] } }, .island, 31, by decide +kernel⟩,
   ⟨{ wSet [(0x2820, 1, 2), (0x2820, 3, 1)] with iso := { owners := [(5 * 4096 + 31, 0)] } }, .island, 31, by decide +kernel⟩,
   ⟨{ wSet [(0x2820, 1, 2)] with iso := { owners := [(5 * 4096 + 31, 0)] } }, .island, 31, 0, by decide +kernel⟩,
   ⟨{ iso := { owners := [(5 * 4096 + 59, 0)] } }, .island, 11, 0, by decide +kernel⟩,
   ⟨{ iso := { owners := [(5 * 4096 + 59, 0)] } }, .island, 0x20B, 0x283C, 5, [0xF6, 0xFF], by decide +kernel⟩,
   ⟨{}, 0x283C, 5, 0x20B, by decide +kernel⟩,
   ⟨{ wSet [(0x2834, 1, 1), (0x2834, 0xD, 1)] with audio := { sinks := [(3, { quiet := true })] } }, 3, by decide +kernel⟩,
   ⟨wSet [(0x2834, 1, 2)], 3, by decide +kernel⟩,
   ⟨wSet [(0x2834, 1, 3)], 3, by decide +kernel⟩,
   ⟨{}, .island, 0x2847, by decide +kernel⟩,
   ⟨{}, .island, 0x2847, by decide +kernel⟩,
   ⟨wSet [(0x2820, 1, 3)], 0x2820, by decide +kernel⟩,
   ⟨wSet [(0x2831, 1, 4)], 0x2831, by decide +kernel⟩,
   ⟨wSet [(0x2847, 1, 2)], 0x2847, by decide +kernel⟩,
   ⟨wSet [(0x2820, 1, 3)], 0x2820, by decide +kernel⟩⟩

theorem witness_headset_completes :
    (∃ (d : Dev) (n : Nat), (d.live) ∧ (d.awake && d.domainRuns 15) ∧ (n < 2) ∧ (d.getO (headsetIndex n) 1 = 0)) ∧
    (∃ (d : Dev) (n : Nat), (d.live) ∧ (d.awake && d.domainRuns 15) ∧ (n < 2) ∧ (d.getO (headsetIndex n) 1 = 1)) ∧
    (∃ (d : Dev) (n : Nat), (d.live) ∧ (d.awake && d.domainRuns 15) ∧ (n < 2) ∧ (d.getO (headsetIndex n) 1 = 1) ∧ ((d.plug n).present)) ∧
    (∃ (d : Dev) (n za zb : Nat), (d.live) ∧ (d.awake && d.domainRuns 15) ∧ (n < 2) ∧ (d.getO (headsetIndex n) 1 = 2) ∧ (d.getO (headsetIndex n) 4 = 0) ∧ (za < 70) ∧ (zb < 70)) ∧
    (∃ (d : Dev) (n : Nat), (d.live) ∧ (d.awake && d.domainRuns 15) ∧ (n < 2) ∧ (d.getO (headsetIndex n) 1 = 3 ∨ d.getO (headsetIndex n) 1 = 5) ∧ ((d.plug n).remeasured = false)) ∧
    (∃ (d : Dev) (n za : Nat), (d.live) ∧ (d.awake && d.domainRuns 15) ∧ (n < 2) ∧ (d.getO (headsetIndex n) 1 = 3) ∧ (1000 < za)) ∧
    (∃ (d : Dev) (n : Nat), (d.live) ∧ (d.awake && d.domainRuns 15) ∧ (n < 2) ∧ (2 ≤ d.getO (headsetIndex n) 1) ∧ (d.getO (headsetIndex n) 1 ≤ 5) ∧ ((d.plug n).present = false)) ∧
    (∃ (d : Dev) (n z k : Nat), (d.live) ∧ (d.awake && d.domainRuns 15) ∧ (n < 2) ∧ (d.getO (headsetIndex n) 1 = 4) ∧ (d.buttonAt n z = some k) ∧ (((d.setO (headsetIndex n) 0x0A (min 65535 z)).muteMic n).getO (headsetIndex n) 7 ≠ 2 ^ k)) :=
  ⟨⟨wSet [(0x2841, 1, 0)], 1, by decide +kernel⟩,
   ⟨wSet [(0x2841, 1, 1)], 1, by decide +kernel⟩,
   ⟨{ wSet [(0x2841, 1, 1)] with audio := { plugs := [(1, { present := true })] } }, 1, by decide +kernel⟩,
   ⟨wSet [(0x2841, 1, 2)], 1, 69, 69, by decide +kernel⟩,
   ⟨wSet [(0x2841, 1, 5)], 1, by decide +kernel⟩,
   ⟨wSet [(0x2841, 1, 3)], 1, 1001, by decide +kernel⟩,
   ⟨wSet [(0x2841, 1, 5)], 1, by decide +kernel⟩,
   ⟨wSet [(0x2841, 1, 4)], 1, 0, 0, by decide +kernel⟩⟩

theorem witness_rings_complete :
    (∃ (d : Dev) (i r v : Nat), (d.live) ∧ (i < 64) ∧ (r < 8) ∧ (d.barOpen i) ∧ (d.ringState i r = 1) ∧ (d.owner (blockId 9 i) = 0x40 + i) ∧ (v % 4096 < d.ringE i r)) ∧
    (∃ (d : Dev) (i r v : Nat), (d.live) ∧ (i < 64) ∧ (r < 8) ∧ (d.barOpen i) ∧ (d.ringState i r = 1 ∨ d.ringState i r = 2) ∧ (v % 4096 < d.ringE i r)) ∧
    (∃ (d : Dev) (i r : Nat), (d.live) ∧ (i < 64) ∧ (r < 8) ∧ (d.ringReady i r) ∧ (entOpcode (d.ringEntry i r (d.ring i r).sqHead) = 0) ∧ (d.regRoom (0x40 + i)) ∧ (entryOk (d.ringEntry i r (d.ring i r).sqHead))) ∧
    (∃ (d : Dev) (i r : Nat), (d.live) ∧ (i < 64) ∧ (r < 8) ∧ (d.ringReady i r) ∧ (entOpcode (d.ringEntry i r (d.ring i r).sqHead) = 1) ∧ (d.regRoom (0x40 + i)) ∧ (entryOk (d.ringEntry i r (d.ring i r).sqHead))) ∧
    (∃ (d : Dev) (i r : Nat), (d.live) ∧ (i < 64) ∧ (r < 8) ∧ (d.ringReady i r) ∧ (entOpcode (d.ringEntry i r (d.ring i r).sqHead) = 2) ∧ (d.regRoom (0x40 + i)) ∧ (entryOk (d.ringEntry i r (d.ring i r).sqHead))) ∧
    (∃ (d : Dev) (i r : Nat), (d.live) ∧ (i < 64) ∧ (r < 8) ∧ (d.ringReady i r) ∧ (entOpcode (d.ringEntry i r (d.ring i r).sqHead) = 3) ∧ (d.regRoom (0x40 + i)) ∧ (entryOk (d.ringEntry i r (d.ring i r).sqHead))) ∧
    (∃ (d : Dev) (i r : Nat), (d.live) ∧ (i < 64) ∧ (r < 8) ∧ (d.ringReady i r) ∧ (entOpcode (d.ringEntry i r (d.ring i r).sqHead) = 4) ∧ (d.regRoom (0x40 + i)) ∧ (entryOk (d.ringEntry i r (d.ring i r).sqHead))) ∧
    (∃ (d : Dev) (i r : Nat), (d.live) ∧ (i < 64) ∧ (r < 8) ∧ (d.ringReady i r) ∧ (entOpcode (d.ringEntry i r (d.ring i r).sqHead) = 5) ∧ (d.regRoom (0x40 + i)) ∧ (entryOk (d.ringEntry i r (d.ring i r).sqHead))) ∧
    (∃ (d : Dev) (i r : Nat) (b : List Byte), (d.live) ∧ (i < 64) ∧ (r < 8) ∧ ((d.ring i r).waiting = some b)) ∧
    (∃ (d : Dev) (i r : Nat) (b : List Byte), (d.live) ∧ (i < 64) ∧ (r < 8) ∧ ((d.ring i r).waiting = some b) ∧ (entOpcode b = 2) ∧ (d.chanFull (entUnit b) = false)) ∧
    (∃ (d : Dev) (i r : Nat), (d.live) ∧ (i < 64) ∧ (r < 8) ∧ (d.ringReady i r)) ∧
    (∃ (d : Dev) (who : Init) (i r : Nat), (d.live) ∧ (d.serving) ∧ (i < 64) ∧ (r < 8) ∧ (d.checkWrite who (ringIndex i) (ringSub r 0) (numData (ringIndex i) (ringSub r 0) 1) = none) ∧ (d.ringState i r = 0)) ∧
    (∃ (d : Dev) (who : Init) (i r : Nat), (d.live) ∧ (d.serving) ∧ (i < 64) ∧ (r < 8) ∧ (d.checkWrite who (ringIndex i) (ringSub r 0) (numData (ringIndex i) (ringSub r 0) 0) = none) ∧ (d.ringState i r = 1)) ∧
    (∃ (d : Dev) (i r : Nat), (d.live) ∧ (i < 64) ∧ (r < 8) ∧ (d.ringState i r = 3) ∧ ((d.ring i r).drained)) :=
  ⟨⟨{ wRing [] with iso := { owners := [(blockId 9 0, 0x40)] } }, 0, 0, 3, by decide +kernel⟩,
   ⟨{ wRing [] with host := { (wRing []).host with rings := [(0, { tail := 1, records := [(0, 1)] })] } }, 0, 0, 1, by decide +kernel⟩,
   ⟨wRing (wEntry 0 0), 0, 0, by decide +kernel⟩,
   ⟨wRing (wEntry 1 32), 0, 0, by decide +kernel⟩,
   ⟨wRing (wEntry 2 64), 0, 0, by decide +kernel⟩,
   ⟨wRing (wEntry 3 64), 0, 0, by decide +kernel⟩,
   ⟨wRing (wEntry 4 160), 0, 0, by decide +kernel⟩,
   ⟨wRing (wEntry 5 0), 0, 0, by decide +kernel⟩,
   ⟨{ wRing [] with host := { (wRing []).host with rings := [(0, { tail := 1, waiting := some (wEntry 2 64) })] } }, 0, 0, wEntry 2 64, by decide +kernel⟩,
   ⟨{ wRing [] with host := { (wRing []).host with rings := [(0, { tail := 1, waiting := some (wEntry 2 64) })] } }, 0, 0, wEntry 2 64, by decide +kernel⟩,
   ⟨wRing (wEntry 0 0), 0, 0, by decide +kernel⟩,
   ⟨{}, .island, 63, 7, by decide +kernel⟩,
   ⟨wRing [], .island, 0, 0, by decide +kernel⟩,
   ⟨wRing [] [(0x2950, 0x11, 3)], 0, 0, by decide +kernel⟩⟩

theorem witness_host_instances_complete :
    (∃ (d : Dev) (i : Nat), (d.live) ∧ (i < 64) ∧ (d.barOpen i)) ∧
    (∃ (d : Dev) (i : Nat), (d.live) ∧ (i < 64) ∧ (d.barOpen i)) ∧
    (∃ (d : Dev) (i : Nat), (d.live) ∧ (i < 64) ∧ (d.barOpen i)) ∧
    (∃ (d : Dev) (p _t : Nat), (d.live) ∧ (p < 2) ∧ (d.instState (32 * p) ≠ 0) ∧ (tabGet false d.host.linked p = true)) ∧
    (∃ (d : Dev) (who : Init) (i : Nat), (d.live) ∧ (d.serving) ∧ (i < 64) ∧ (managerOf who i = true) ∧ (d.barOpen (32 * instPort i)) ∧ ((d.page (instPort i)).busy = none) ∧ (d.instState i = 1)) ∧
    (∃ (d : Dev) (i : Nat), (d.live) ∧ (i < 64) ∧ (d.instState i = 2) ∧ (d.quiesced i)) ∧
    (∃ (d : Dev) (who : Init) (i : Nat), (d.live) ∧ (d.serving) ∧ (i < 64) ∧ (managerOf who i = true) ∧ (d.barOpen (32 * instPort i)) ∧ ((d.page (instPort i)).busy = none) ∧ (d.instState i = 3) ∧ ((d.inst i).d3hot = false)) ∧
    (∃ (d : Dev) (p f : Nat) (x : DirtySettings), (d.live) ∧ (p < 2) ∧ (f < 32) ∧ (d.barOpen (32 * p)) ∧ ((d.page p).busy = none) ∧ (d.instState (32 * p + f) ≠ 0) ∧ (settingsOk x)) ∧
    (∃ (d : Dev) (p f : Nat), (d.live) ∧ (p < 2) ∧ (f < 32) ∧ (d.barOpen (32 * p)) ∧ ((d.page p).busy = none) ∧ (d.instState (32 * p + f) ≠ 0) ∧ ((d.inst (32 * p + f)).log.logging = true)) ∧
    (∃ (d : Dev) (p f : Nat), (d.live) ∧ (p < 2) ∧ (f < 32) ∧ (d.barOpen (32 * p)) ∧ ((d.page p).busy = none) ∧ (d.instState (32 * p + f) ≠ 0) ∧ ((d.inst (32 * p + f)).log.logging = true)) ∧
    (∃ (d : Dev) (i : Nat), (d.live) ∧ (i < 64) ∧ (d.instState i ≠ 0) ∧ (d.mayReset (affected i))) ∧
    (∃ (d : Dev) (i : Nat), (d.live) ∧ (i < 64) ∧ (i % 32 ≠ 0) ∧ (d.instState i = 3)) ∧
    (∃ (d : Dev) (i : Nat), (d.live) ∧ (i < 64) ∧ (i % 32 ≠ 0) ∧ (d.instState i = 3) ∧ ((d.inst i).d3hot = true)) ∧
    (∃ (d : Dev) (p n : Nat), (d.live) ∧ (p < 2) ∧ (n < d.getO (portIndex p) 4) ∧ (d.mayReset ((portInstances p).filter (fun i => n < i % 32)))) ∧
    (∃ (d : Dev) (p n : Nat), (d.live) ∧ (p < 2) ∧ (n ≤ 31) ∧ (d.getO (portIndex p) 4 ≤ n) ∧ (d.barOpen (32 * p))) ∧
    (∃ (d : Dev) (p speed : Nat), (d.live) ∧ (p < 2) ∧ (d.awake) ∧ (d.portExists p) ∧ (1 ≤ speed) ∧ (speed ≤ 5) ∧ (d.domainRuns 17)) ∧
    (∃ (d : Dev) (p : Nat), (d.live) ∧ (p < 2) ∧ (tabGet false d.host.linked p = true)) ∧
    (∃ (d : Dev) (i : Nat), (d.live) ∧ (i < 64) ∧ (d.instState i = 5) ∧ ((List.range 8).all (fun r => (d.ring i r).drained)) ∧ ((d.inst i).audio = [])) ∧
    (∃ (d : Dev) (i : Nat), (d.live) ∧ (i < 64) ∧ (d.instState i = 4)) ∧
    (∃ (d : Dev) (p : Nat), (d.live) ∧ (p < 2) ∧ (tabGet false d.host.linked p = true)) ∧
    (∃ (d : Dev) (p n : Nat), (d.live) ∧ (p < 2) ∧ (d.getO (portIndex p) 1 = 2) ∧ (n = 3 ∨ n = 4 ∨ n = 5) ∧ ((((portInstances p).filter (fun i => d.instState i == 1)).foldl (fun d i => d.releaseAll (0x40 + i)) d).msixWaits p = false)) ∧
    (∃ (d : Dev) (i o n : Nat), (d.live) ∧ (i < 64) ∧ (d.barOpen i) ∧ ((d.linkUse (instPort i)).barIgnored i o n)) ∧
    (∃ (d : Dev) (i o n _v : Nat), (d.live) ∧ (i < 64) ∧ (d.barOpen i) ∧ ((d.linkUse (instPort i)).barIgnored i o n)) :=
  ⟨⟨wInst 0 1, 0, by decide +kernel⟩,
   ⟨wInst 0 1, 0, by decide +kernel⟩,
   ⟨wInst 0 1, 0, by decide +kernel⟩,
   ⟨wInst 0 1, 0, 5, by decide +kernel⟩,
   ⟨wInst 3 1, .host 0, 3, by decide +kernel⟩,
   ⟨wInst 3 2, 3, by decide +kernel⟩,
   ⟨wInst 3 3 { reEnable := [2] }, .host 0, 3, by decide +kernel⟩,
   ⟨wInst 3 1, 0, 3, ⟨0x1000, 0x2000, 0, 8⟩, by decide +kernel⟩,
   ⟨wInst 3 1 { log := { logging := true } }, 0, 3, by decide +kernel⟩,
   ⟨wInst 3 1 { log := { logging := true } }, 0, 3, by decide +kernel⟩,
   ⟨wInst 3 3, 3, by decide +kernel⟩,
   ⟨wInst 3 3, 3, by decide +kernel⟩,
   ⟨wInst 3 3 { d3hot := true }, 3, by decide +kernel⟩,
   ⟨{ wInst 3 3 with objs := tabSet 0 (wInst 3 3).objs (objKey 0x2901 4) 3 }, 0, 1, by decide +kernel⟩,
   ⟨wInst 3 3, 0, 3, by decide +kernel⟩,
   ⟨{}, 1, 5, by decide +kernel⟩,
   ⟨wInst 3 3, 0, by decide +kernel⟩,
   ⟨wInst 3 5, 3, by decide +kernel⟩,
   ⟨wInst 3 4, 3, by decide +kernel⟩,
   ⟨wInst 3 1, 0, by decide +kernel⟩,
   ⟨wInst 3 1, 0, 4, by decide +kernel⟩,
   ⟨wInst 3 1, 3, 0x80, 4, by decide +kernel⟩,
   ⟨wInst 3 1, 3, 0x1000, 2, 5, by decide +kernel⟩⟩

theorem witness_handover_completes :
    (∃ (d : Dev) (who : Init) (w : Nat), (d.live) ∧ (d.serving) ∧ (who ≠ .openWorld) ∧ (d.checkWrite who 0x2A01 1 (numData 0x2A01 1 w) = none) ∧ (blockExists (w / 65536)) ∧ (w % 256 = 0) ∧ (ownerCodeOk (bits w 8 8)) ∧ (bits w 8 8 ≠ d.owner (w / 65536)) ∧ (d.limitBroken (w / 65536) (bits w 8 8) = false) ∧ ((d.hand (w / 65536)).state = 0) ∧ (d.running) ∧ (d.owner (w / 65536) ≠ 0xFF)) ∧
    (∃ (d : Dev) (who : Init) (b : Nat), (d.live) ∧ (d.serving) ∧ (d.checkWrite who 0x2A01 2 (numData 0x2A01 2 b) = none) ∧ (blockExists b) ∧ (initCode who = d.owner b) ∧ ((d.hand b).state = 1)) ∧
    (∃ (d : Dev) (b : Nat), (d.live) ∧ (blockExists b) ∧ ((d.hand b).state = 1)) ∧
    (∃ (d : Dev) (b : Nat), (d.live) ∧ (blockExists b) ∧ ((d.hand b).state = 2) ∧ (d.resetEnded b)) ∧
    (∃ (d : Dev) (b : Nat), (d.live) ∧ (blockExists b) ∧ ((d.hand b).state = 2)) ∧
    (∃ (d : Dev) (who : Init) (b : Nat), (d.live) ∧ (d.serving) ∧ (d.checkWrite who 0x2A02 1 (numData 0x2A02 1 (65536 * b)) = none) ∧ (b / 256 ≠ 15) ∧ (blockExists b) ∧ (who = .island) ∧ ((d.hand b).state = 0) ∧ (d.blockBusy b = false)) ∧
    (∃ (d : Dev) (who : Init) (b : Nat), (d.live) ∧ (d.serving) ∧ (d.checkWrite who 0x2A02 1 (numData 0x2A02 1 (65536 * b)) = none) ∧ (b / 256 = 15) ∧ (domainOk (b % 256)) ∧ (who = .island) ∧ ((domainBlocks (b % 256)).any (fun id => (d.hand id).state != 0 || d.blockBusy id) = false)) ∧
    (∃ (d : Dev) (who : Init) (b : Nat), (d.live) ∧ (d.serving) ∧ (d.checkWrite who 0x2A02 1 (numData 0x2A02 1 (65536 * b + 1)) = none) ∧ (b / 256 ≠ 15) ∧ (blockExists b) ∧ (who = .island) ∧ ((d.hand b).state = 0) ∧ (d.blockBusy b = false)) ∧
    (∃ (d : Dev) (who : Init) (b : Nat), (d.live) ∧ (d.serving) ∧ (d.checkWrite who 0x2A02 1 (numData 0x2A02 1 (65536 * b + 1)) = none) ∧ (b / 256 = 15) ∧ (domainOk (b % 256)) ∧ (who = .island) ∧ ((domainBlocks (b % 256)).any (fun id => (d.hand id).state != 0 || d.blockBusy id) = false)) ∧
    (∃ (d : Dev) (who : Init) (b : Nat), (d.live) ∧ (d.serving) ∧ (d.checkWrite who 0x2A02 1 (numData 0x2A02 1 (65536 * b + 2)) = none) ∧ (b / 256 ≠ 15) ∧ (blockExists b) ∧ (who = .island) ∧ ((d.hand b).state = 0) ∧ (d.blockBusy b = false)) ∧
    (∃ (d : Dev) (who : Init) (b : Nat), (d.live) ∧ (d.serving) ∧ (d.checkWrite who 0x2A02 1 (numData 0x2A02 1 (65536 * b + 2)) = none) ∧ (b / 256 = 15) ∧ (domainOk (b % 256)) ∧ (who = .island) ∧ ((domainBlocks (b % 256)).any (fun id => (d.hand id).state != 0 || d.blockBusy id) = false)) :=
  ⟨⟨wHand 0x2000 0, .island, 0x20002000, by decide +kernel⟩,
   ⟨wHand 0x2000 1, .island, 0x2000, by decide +kernel⟩,
   ⟨wHand 0x2000 1, 0x2000, by decide +kernel⟩,
   ⟨wHand 0x2000 2, 0x2000, by decide +kernel⟩,
   ⟨wHand 0x2000 2, 0x2000, by decide +kernel⟩,
   ⟨{}, .island, 0x6001, by decide +kernel⟩,
   ⟨{}, .island, 0x0F10, by decide +kernel⟩,
   ⟨{}, .island, 0x6001, by decide +kernel⟩,
   ⟨{}, .island, 0x0F10, by decide +kernel⟩,
   ⟨{}, .island, 0x6001, by decide +kernel⟩,
   ⟨{}, .island, 0x0F10, by decide +kernel⟩⟩

theorem witness_enclaves_and_regions_complete :
    (∃ (d : Dev) (who : Init) (t r v : Nat), (d.live) ∧ (d.serving) ∧ (who = .island) ∧ (regionOfIndex (regionIndex t r) = some (t, r)) ∧ (d.checkWrite who (regionIndex t r) 1 (numData (regionIndex t r) 1 v) = none) ∧ (v % regionGrain t = 0) ∧ (attrEn (d.regAttr t r) = false) ∧ (d.heldBy t r = none)) ∧
    (∃ (d : Dev) (who : Init) (n : Nat), (d.live) ∧ (d.serving) ∧ (1 ≤ n) ∧ (n ≤ 31) ∧ (d.checkWrite who (enclaveIndex n) 2 [1#8] = none) ∧ (d.enclaveState n = 0) ∧ (d.setFree (d.getO (enclaveIndex n) 3))) ∧
    (∃ (d : Dev) (who : Init) (n : Nat), (d.live) ∧ (d.serving) ∧ (1 ≤ n) ∧ (n ≤ 31) ∧ (d.checkWrite who (enclaveIndex n) 2 [2#8] = none) ∧ (d.enclaveState n = 1)) ∧
    (∃ (d : Dev) (n : Nat), (d.live) ∧ (1 ≤ n) ∧ (n ≤ 31) ∧ (d.enclaveState n = 2)) ∧
    (∃ (d : Dev) (who : Init) (n : Nat), (d.live) ∧ (d.serving) ∧ (1 ≤ n) ∧ (n ≤ 31) ∧ (d.checkWrite who (enclaveIndex n) 2 [3#8] = none) ∧ (d.enclaveState n = 1 ∨ d.enclaveState n = 3) ∧ (d.iso.owners = [])) ∧
    (∃ (d : Dev) (n : Nat), (d.live) ∧ (1 ≤ n) ∧ (n ≤ 31) ∧ (d.enclaveState n = 4) ∧ (d.threadsStill n) ∧ (d.iso.owners.any (fun p => p.2 == n) = false)) ∧
    (∃ (d : Dev) (c n t : Nat), (d.live) ∧ (d.awake) ∧ (appCore c) ∧ ((d.core c).tag = 0) ∧ (1 ≤ n) ∧ (n ≤ 31) ∧ (d.enclaveState n = 3) ∧ (t < d.getO (enclaveIndex n) 5) ∧ ((d.thread n t).state ≠ 1) ∧ (d.coreRuns c)) ∧
    (∃ (d : Dev) (c _v : Nat), (d.live) ∧ (d.awake) ∧ (appCore c) ∧ ((d.core c).tag ≠ 0) ∧ (d.coreRuns c)) ∧
    (∃ (d : Dev) (c _v : Nat), (d.live) ∧ (d.awake) ∧ (appCore c) ∧ ((d.core c).tag ≠ 0) ∧ (d.coreRuns c)) ∧
    (∃ (d : Dev) (c n _v : Nat) (_l : List Nat), (d.live) ∧ (d.awake) ∧ (appCore c) ∧ ((d.core c).tag ≠ 0) ∧ ((d.core c).tag ≠ n) ∧ (d.coreRuns c)) ∧
    (∃ (d : Dev) (c : Nat) (_l : List Nat), (d.live) ∧ (d.awake) ∧ (appCore c) ∧ ((d.core c).tag ≠ 0) ∧ (d.coreRuns c)) ∧
    (∃ (d : Dev) (c n t : Nat), (d.live) ∧ (d.awake) ∧ (appCore c) ∧ ((d.core c).tag = 0) ∧ (1 ≤ n) ∧ (n ≤ 31) ∧ (d.enclaveState n = 3) ∧ (t < d.getO (enclaveIndex n) 5) ∧ ((d.thread n t).state = 2) ∧ (d.coreRuns c)) :=
  ⟨⟨{}, .island, 1, 7, 0x2001000, by decide +kernel⟩,
   ⟨wEnclave 0, .island, 1, by decide +kernel⟩,
   ⟨wEnclave 1, .island, 1, by decide +kernel⟩,
   ⟨wEnclave 2, 1, by decide +kernel⟩,
   ⟨wEnclave 3, .island, 1, by decide +kernel⟩,
   ⟨wEnclave 4, 1, by decide +kernel⟩,
   ⟨wEnclave 3, 2, 1, 0, by decide +kernel⟩,
   ⟨wEnclave 3 { tag := 1 }, 2, 9, by decide +kernel⟩,
   ⟨wEnclave 3 { tag := 1 }, 2, 9, by decide +kernel⟩,
   ⟨wEnclave 3 { tag := 1 }, 2, 0x20, 0x123, [5], by decide +kernel⟩,
   ⟨wEnclave 3 { tag := 1 }, 2, [], by decide +kernel⟩,
   ⟨{ wEnclave 3 with iso := { (wEnclave 3).iso with threads := [(8, { state := 2 })] } }, 2, 1, 0, by decide +kernel⟩⟩

theorem witness_fuses_and_debug_complete :
    (∃ (d : Dev) (who : Init) (b : List Byte), (d.live) ∧ (d.serving) ∧ (d.checkWrite who 0x2A03 8 b = none) ∧ (b.length = 50) ∧ ((byteAt b 0).toNat ≤ 3) ∧ ((byteAt b 1).toNat ≤ 3) ∧ ((d.key (byteAt b 0).toNat).programmed = false)) ∧
    (∃ (d : Dev) (who : Init) (k : Nat), (d.live) ∧ (d.serving) ∧ (d.checkWrite who 0x2A03 9 (numData 0x2A03 9 k) = none) ∧ ((d.key k).programmed = true) ∧ ((d.key k).revoked = false) ∧ ((d.key k).bootUse = false)) ∧
    (∃ (d : Dev) (who : Init), (d.live) ∧ (d.serving) ∧ (d.checkWrite who 0x2A03 10 (numData 0x2A03 10 0x6B696C6C) = none)) ∧
    (∃ (d : Dev) (who : Init) (v : Nat), (d.live) ∧ (d.serving) ∧ (d.checkWrite who 0x2A03 2 (numData 0x2A03 2 v) = none)) ∧
    (∃ (d : Dev) (b : List Byte), (d.live) ∧ (b.length = 256)) ∧
    (∃ (d : Dev) (b : List Byte) (x : Nat × Bool), (d.live) ∧ (d.iso.checking = some b) ∧ ((d.certChecks b).find? (fun c => !c.2) = some x)) ∧
    (∃ (d : Dev), (d.live)) ∧
    (∃ (d : Dev), (d.live)) ∧
    (∃ (d : Dev), (d.live)) ∧
    (∃ (d : Dev) (b : List Byte), (d.live) ∧ (b.length = 256)) ∧
    (∃ (d : Dev), (d.live)) ∧
    (∃ (d : Dev), (d.live)) ∧
    (∃ (d : Dev), (d.live) ∧ ((d.getO 0x2A03 6).testBit 0 = false)) ∧
    (∃ (d : Dev), (d.live) ∧ ((d.getO 0x2A03 6).testBit 0)) ∧
    (∃ (d : Dev), (d.live) ∧ ((d.getO 0x2A03 6).testBit 0 = false)) ∧
    (∃ (d : Dev), (d.live) ∧ ((d.getO 0x2A03 6).testBit 0)) ∧
    (∃ (d : Dev) (n : Nat), (d.live) ∧ (coreScopes.contains n) ∧ ((d.getO 0x2A03 6).testBit n = false)) ∧
    (∃ (d : Dev) (n : Nat), (d.live) ∧ (coreScopes.contains n) ∧ ((d.getO 0x2A03 6).testBit n)) ∧
    (∃ (d : Dev), (d.live)) :=
  ⟨⟨{}, .island, [3, 3] ++ zeroBytes 48, by decide +kernel⟩,
   ⟨{ kept := { keys := [(3, { programmed := true })] } }, .island, 3, by decide +kernel⟩,
   ⟨{}, .island, by decide +kernel⟩,
   ⟨{}, .island, 1, by decide +kernel⟩,
   ⟨{}, zeroBytes 256, by decide +kernel⟩,
   ⟨{ iso := { checking := some (zeroBytes 256) } }, zeroBytes 256, (0x10, false), by decide +kernel⟩,
   ⟨{}, by decide +kernel⟩,
   ⟨{}, by decide +kernel⟩,
   ⟨{}, by decide +kernel⟩,
   ⟨{}, zeroBytes 256, by decide +kernel⟩,
   ⟨{}, by decide +kernel⟩,
   ⟨{}, by decide +kernel⟩,
   ⟨{}, by decide +kernel⟩,
   ⟨wSet [(0x2A03, 6, 1)], by decide +kernel⟩,
   ⟨{}, by decide +kernel⟩,
   ⟨wSet [(0x2A03, 6, 1)], by decide +kernel⟩,
   ⟨{}, 1, by decide +kernel⟩,
   ⟨wSet [(0x2A03, 6, 2)], 1, by decide +kernel⟩,
   ⟨wSet [(0x2A03, 6, 2)], by decide +kernel⟩⟩

theorem witness_letterbox_completes :
    (∃ (d : Dev) (p w : Nat), (d.live) ∧ (doorbellPage p) ∧ (w < 2048) ∧ (256 ≤ w) ∧ (entryTarget (d.entry w) = p)) ∧
    (∃ (d : Dev) (p w : Nat), (d.live) ∧ (doorbellPage p) ∧ (2048 ≤ w)) ∧
    (∃ (d : Dev) (k p s : Nat), (d.live) ∧ (d.serves k p) ∧ (d.bestSource p k = some s) ∧ (d.coreRuns k)) ∧
    (∃ (d : Dev) (k p s : Nat), (d.live) ∧ (s < 2048) ∧ (d.serves k p) ∧ (entryState (d.entry s) = 2) ∧ (tabGet 0 d.letter.claimedBy s = k + 1) ∧ (d.coreRuns k)) ∧
    (∃ (d : Dev) (k p _v : Nat), (d.live) ∧ (d.serves k p) ∧ (d.coreRuns k)) ∧
    (∃ (d : Dev) (s v : Nat), (d.live) ∧ (d.serving) ∧ (s < 2048) ∧ (d.checkWrite .island (0x2B10 + s / 128) (s % 128 + 1) (numData (0x2B10 + s / 128) (s % 128 + 1) v) = none) ∧ (sourceReserved s = false) ∧ (ownerCodeOk (entryTarget v)) ∧ (ownerCodeOk (entryPoster v)) ∧ (routeOk (entryTarget v) (entryRoute v)) ∧ (entryTarget v = entryTarget (d.entry s)) ∧ (entryEn v)) ∧
    (∃ (d : Dev) (o k : Nat), (d.live) ∧ (k < 16) ∧ (tabGet false d.letter.timers (16 * o + k) = true)) ∧
    (∃ (d : Dev) (k : Nat), (d.live) ∧ (k < 9) ∧ (d.requestRaised k = false) ∧ (d.coreRuns k)) ∧
    (∃ (d : Dev) (i v : Nat), (d.live) ∧ (i < 64) ∧ (v < 64) ∧ (d.vectorBlocked i v = false) ∧ ((d.vectorSources i v).isEmpty = false)) ∧
    (∃ (d : Dev) (i : Nat) (_x : MaskSel) (_m : Bool), (d.live) ∧ (i < 64)) ∧
    (∃ (d : Dev) (n : Nat), (d.live) ∧ (n < 17) ∧ (tabGet false d.kept.latched n = true) ∧ (entryEn (d.entry (160 + n)))) :=
  ⟨⟨wSource 0x8000000000002000, 0x20, 512, by decide +kernel⟩,
   ⟨{}, 0x20, 2048, by decide +kernel⟩,
   ⟨wSource 0x9000000000002000, 2, 0x20, 512, by decide +kernel⟩,
   ⟨wSource 0xA000000000002000, 2, 0x20, 512, by decide +kernel⟩,
   ⟨wSource 0x9000000000002000, 2, 0x20, 5, by decide +kernel⟩,
   ⟨wSource 0x8000000000002000, 512, 0x8500000000002000, by decide +kernel⟩,
   ⟨wSource 0x9000000000002000, 0x20, 0, by decide +kernel⟩,
   ⟨{}, 2, by decide +kernel⟩,
   ⟨wSource 0x9000000000004000 [(0x2910, 1, 1)], 0, 0, by decide +kernel⟩,
   ⟨wSource 0x9000000000004000 [(0x2910, 1, 1)], 0, .vector 0, true, by decide +kernel⟩,
   ⟨wSource 0 [(0x2B11, 35, 2 ^ 63)], 2, by decide +kernel⟩⟩

theorem witness_dram_completes :
    (∃ (d : Dev) (k t : Nat) (x : DramInitiator), (d.live) ∧ (d.awake) ∧ (k < 8) ∧ (d.ageLimit x < t)) ∧
    (∃ (d : Dev) (k t _b _n r : Nat), (d.live) ∧ (d.awake) ∧ (k < 8) ∧ (t < 10000 ∨ 32 ≤ r)) ∧
    (∃ (d : Dev) (k _t _b _n _r : Nat), (d.live) ∧ (d.awake) ∧ (k < 8)) ∧
    (∃ (d : Dev) (p f : Nat), (d.live) ∧ (p < 16) ∧ (d.awake) ∧ (d.rankState p ≠ 5) ∧ (f < 256) ∧ (d.getO 0x2C00 0x0B ≤ f)) ∧
    (∃ (d : Dev) (p : Nat), (d.live) ∧ (p < 16) ∧ (d.awake) ∧ (((d.count (0x2C10 + p) 5).count 0x2C00 0x12).rankState p = 1)) ∧
    (∃ (d : Dev) (who : Init) (p v : Nat), (d.live) ∧ (d.serving) ∧ (p < 16) ∧ (d.checkWrite who (0x2C10 + p) 6 (numData (0x2C10 + p) 6 v) = none) ∧ (d.rankState p = 0) ∧ (d.dram.carry = none)) ∧
    (∃ (d : Dev) (who : Init) (p v : Nat) (x : Carry), (d.live) ∧ (d.serving) ∧ (p < 16) ∧ (d.checkWrite who (0x2C10 + p) 6 (numData (0x2C10 + p) 6 v) = none) ∧ (d.rankState p = 0) ∧ (d.dram.carry = some x)) ∧
    (∃ (d : Dev) (who : Init) (p v : Nat), (d.live) ∧ (d.serving) ∧ (p < 16) ∧ (d.checkWrite who (0x2C10 + p) 6 (numData (0x2C10 + p) 6 v) = none) ∧ (d.rankState p ≠ 0) ∧ (d.rankState p ≠ 4)) ∧
    (∃ (d : Dev) (x : Carry), (d.live) ∧ (d.awake) ∧ (d.dram.carry = some x) ∧ (x.draining = false)) ∧
    (∃ (d : Dev) (x : Carry), (d.live) ∧ (d.awake) ∧ (d.dram.carry = some x) ∧ (x.draining = true)) ∧
    (∃ (d : Dev) (who : Init) (r v : Nat), (d.live) ∧ (d.serving) ∧ (r < 32) ∧ (d.checkWrite who (0x2C20 + r) 2 (numData (0x2C20 + r) 2 v) = none) ∧ (d.remapRefused r v = false) ∧ (d.dram.remaps = []) ∧ (d.dram.carry = none)) ∧
    (∃ (d : Dev) (who : Init) (r v : Nat), (d.live) ∧ (d.serving) ∧ (r < 32) ∧ (d.checkWrite who (0x2C20 + r) 2 (numData (0x2C20 + r) 2 v) = none) ∧ (d.remapRefused r v = false) ∧ (d.dram.remaps ≠ [] ∨ d.dram.carry ≠ none)) ∧
    (∃ (d : Dev) (x : Remap) (l : List Remap), (d.live) ∧ (d.awake) ∧ (d.dram.remaps = x :: l) ∧ (d.getO (0x2C20 + x.region) 3 = 2) ∧ ((d.regLimit 0 x.region - d.regBase 0 x.region) / waySize ≤ d.getO (0x2C20 + x.region) 4)) ∧
    (∃ (d : Dev) (x : Remap) (l : List Remap), (d.live) ∧ (d.awake) ∧ (d.dram.remaps = x :: l) ∧ (d.getO (0x2C20 + x.region) 3 = 2)) ∧
    (∃ (d : Dev) (who : Init) (k v : Nat), (d.live) ∧ (d.serving) ∧ (k < 16) ∧ (d.checkWrite who (wayIndex k) 3 (numData (wayIndex k) 3 v) = none) ∧ (d.getO (wayIndex k) 1 ≠ 1)) ∧
    (∃ (d : Dev) (who : Init) (k v : Nat), (d.live) ∧ (d.serving) ∧ (k < 16) ∧ (d.checkWrite who (wayIndex k) 3 (numData (wayIndex k) 3 v) = none) ∧ (d.getO (wayIndex k) 1 = 1) ∧ (d.waysTaken k v = false) ∧ (d.getO (wayIndex k) 3 - (d.getO (wayIndex k) 3 &&& v) ≠ 0)) ∧
    (∃ (d : Dev) (k : Nat), (d.live) ∧ (k < 16) ∧ (tabGet 0 d.dram.leaving k ≠ 0)) ∧
    (∃ (d : Dev) (who : Init) (k v : Nat), (d.live) ∧ (d.serving) ∧ (k < 16) ∧ (d.checkWrite who (wayIndex k) 4 (numData (wayIndex k) 4 v) = none) ∧ (v ≠ d.getO (wayIndex k) 4)) :=
  ⟨⟨{}, 7, 1000001, .copyEngine, by decide +kernel⟩,
   ⟨{}, 7, 9999, 3, 19000, 0, by decide +kernel⟩,
   ⟨{}, 7, 20000, 3, 19000, 0, by decide +kernel⟩,
   ⟨{}, 3, 255, by decide +kernel⟩,
   ⟨wSet [(0x2C13, 1, 1)], 3, by decide +kernel⟩,
   ⟨{}, .island, 3, 1, by decide +kernel⟩,
   ⟨wCarry false, .island, 7, 1, { source := 3, target := 5, draining := false }, by decide +kernel⟩,
   ⟨wSet [(0x2C13, 1, 5)], .island, 3, 1, by decide +kernel⟩,
   ⟨wCarry false, { source := 3, target := 5, draining := false }, by decide +kernel⟩,
   ⟨wCarry true, { source := 3, target := 5, draining := true }, by decide +kernel⟩,
   ⟨wSet [(0x2C40, 3, 3)], .island, 3, 1, by decide +kernel⟩,
   ⟨{ wSet [(0x2C40, 3, 3)] with dram := { remaps := [{ region := 5, order := 0 }] } }, .island, 3, 1, by decide +kernel⟩,
   ⟨{ wSet [(0x2C23, 3, 2), (0x2C23, 4, 64)] with dram := { remaps := [{ region := 3, order := 1 }] } }, { region := 3, order := 1 }, [], by decide +kernel⟩,
   ⟨{ wSet [(0x2C23, 3, 2)] with dram := { remaps := [{ region := 3, order := 1 }] } }, { region := 3, order := 1 }, [], by decide +kernel⟩,
   ⟨{}, .island, 3, 6, by decide +kernel⟩,
   ⟨wSet [(0x2C44, 1, 1), (0x2C44, 3, 6)], .island, 3, 2, by decide +kernel⟩,
   ⟨{ dram := { leaving := [(3, 65538)] } }, 3, by decide +kernel⟩,
   ⟨{}, .island, 3, 1, by decide +kernel⟩⟩

theorem witness_protection_completes :
    (∃ (d : Dev) (o a : Nat) (b : List Byte) (d' : Dev), (d.live) ∧ (d.memRead o (a / 64 * 64) 64 = (.ok b, d'))) ∧
    (∃ (d : Dev) (_o _a : Nat) (_b : List Byte), (d.live)) ∧
    (∃ (d : Dev), (d.live) ∧ (d.awake) ∧ (d.dram.trained) ∧ (d.getO 0x2D00 1 ≠ 0) ∧ (d.prot.nextAt ≤ d.clock.ns) ∧ (d.prot.running) ∧ (d.scrubbed d.prot.region) ∧ (d.prot.offset + 64 < d.regData d.prot.region) ∧ (d.scrubSkips d.prot.region d.prot.offset)) ∧
    (∃ (d : Dev), (d.live) ∧ (d.awake) ∧ (d.dram.trained)) ∧
    (∃ (d : Dev), (d.live) ∧ (d.prot.running = true) ∧ (d.prot.alerted = false)) ∧
    (∃ (d : Dev) (x : SramWord), (d.live) ∧ (2 ≤ x.array) ∧ (x.array ≤ 11) ∧ (x.array ≠ 5) ∧ (x.uncorrectable = false)) ∧
    (∃ (d : Dev) (x : SramWord), (d.live) ∧ (x.array = 8) ∧ (x.uncorrectable = true)) ∧
    (∃ (d : Dev) (who : Init) (v : Nat), (d.live) ∧ (d.serving) ∧ (d.checkWrite who 0x2D40 4 (numData 0x2D40 4 v) = none)) :=
  ⟨⟨wGpu 0 [7], 0x20, 0x1000000000, ([7] ++ zeroBytes 63), ((wGpu 0 [7]).memRead 0x20 0x1000000000 64).2, by decide +kernel⟩,
   ⟨wGpu 0 [7], 0x20, 0x1000000000, [5], by decide +kernel⟩,
   ⟨wScrub, by decide +kernel⟩,
   ⟨{ dram := { trained := true } }, by decide +kernel⟩,
   ⟨{ prot := { running := true } }, by decide +kernel⟩,
   ⟨{}, ⟨3, false, false, 0, 0, 0, 0⟩, by decide +kernel⟩,
   ⟨{}, ⟨8, true, false, 0, 0, 0, 0⟩, by decide +kernel⟩,
   ⟨{}, .island, 1, by decide +kernel⟩⟩

theorem witness_nines_complete :
    (∃ (d : Dev) (who : Init) (n k w poly init out : Nat) (ref : Bool), (d.live) ∧ (d.serving) ∧ (n < 8) ∧ (d.checkWrite who (ninesIndex n) 7 (numData (ninesIndex n) 7 k) = none) ∧ (k ≠ 0) ∧ (catalogue[k - 1]? = some (w, poly, init, ref, out)) ∧ (d.engStill n)) ∧
    (∃ (d : Dev) (who : Init) (n v : Nat), (d.live) ∧ (d.serving) ∧ (n < 8) ∧ (d.checkWrite who (ninesIndex n) 8 (numData (ninesIndex n) 8 v) = none) ∧ (d.engStill n)) ∧
    (∃ (d : Dev) (who : Init) (n : Nat), (d.live) ∧ (d.serving) ∧ (n < 8) ∧ (d.checkWrite who (ninesIndex n) 11 [1#8] = none) ∧ (d.engState n = 1)) ∧
    (∃ (d : Dev) (who : Init) (n : Nat), (d.live) ∧ (d.serving) ∧ (n < 8) ∧ (d.checkWrite who (ninesIndex n) 11 [2#8] = none) ∧ (d.engState n = 2) ∧ (cfgCmp (d.getO (ninesIndex n) 3) = false) ∧ (cfgTag (d.getO (ninesIndex n) 3) ≠ 3)) ∧
    (∃ (d : Dev) (who : Init) (n : Nat), (d.live) ∧ (d.serving) ∧ (n < 8) ∧ (d.checkWrite who (ninesIndex n) 11 [2#8] = none) ∧ (d.engState n = 2)) ∧
    (∃ (d : Dev) (who : Init) (n : Nat), (d.live) ∧ (d.serving) ∧ (n < 8) ∧ (d.checkWrite who (ninesIndex n) 11 [3#8] = none) ∧ (d.engState n = 2)) ∧
    (∃ (d : Dev) (who : Init) (n v : Nat), (d.live) ∧ (d.serving) ∧ (n < 8) ∧ (d.checkWrite who (ninesIndex n) 13 (numData (ninesIndex n) 13 v) = none) ∧ (bits v 28 3 = 0) ∧ (v % 2 ^ 28 ≠ 0) ∧ (d.engState n = 2) ∧ (cfgTag (d.getO (ninesIndex n) 3) ≠ 1)) ∧
    (∃ (d : Dev) (n a len : Nat) (last : Bool), (d.live) ∧ (n < 8) ∧ ((d.engine n).feed = some (a, len, last)) ∧ (d.engState n = 3) ∧ ((d.feedNow n a len).halt = none)) ∧
    (∃ (d : Dev) (n a len : Nat) (last : Bool) (x : Nat × Nat), (d.live) ∧ (n < 8) ∧ ((d.engine n).feed = some (a, len, last)) ∧ (d.engState n = 3) ∧ ((d.feedNow n a len).halt = some x)) ∧
    (∃ (d : Dev) (who : Init) (n : Nat) (b : List Byte), (d.live) ∧ (d.serving) ∧ (n < 8) ∧ (d.checkWrite who (ninesIndex n) 14 b = none) ∧ (b.isEmpty = false) ∧ (d.engState n = 2) ∧ (cfgTag (d.getO (ninesIndex n) 3) ≠ 1)) ∧
    (∃ (d : Dev) (who : Init) (n : Nat), (d.live) ∧ (d.serving) ∧ (n < 8) ∧ (d.checkWrite who (ninesIndex n) 2 (numData (ninesIndex n) 2 0) = none)) ∧
    (∃ (d : Dev) (n : Nat), (d.live) ∧ (n < 8) ∧ (d.engState n = 6) ∧ (d.getO (ninesIndex n) 0x14 = 255) ∧ ((d.engine n).feed = none)) ∧
    (∃ (d : Dev) (n : Nat), (d.live) ∧ (n < 8) ∧ (d.engState n = 6) ∧ (d.getO (ninesIndex n) 0x14 = 255)) :=
  ⟨⟨wEngine 1, .island, 7, 10, 64, 0x42F0E1EBA9EA3693, 2 ^ 64 - 1, 2 ^ 64 - 1, true, by decide +kernel⟩,
   ⟨wEngine 1, .island, 7, 1, by decide +kernel⟩,
   ⟨wEngine 1, .island, 7, by decide +kernel⟩,
   ⟨wEngine 2, .island, 7, by decide +kernel⟩,
   ⟨wEngine 2, .island, 7, by decide +kernel⟩,
   ⟨wEngine 2, .island, 7, by decide +kernel⟩,
   ⟨wEngine 2, .island, 7, 2 ^ 31 + 5, by decide +kernel⟩,
   ⟨wEngine 3 { feed := some (0x2000000, 16, true) }, 7, 0x2000000, 16, true, by decide +kernel⟩,
   ⟨wEngine 3 { feed := some (0x2000FC0, 128, true) } [(0x2A30, 3, 0)], 7, 0x2000FC0, 128, true, (0x2000FC0, 3), by decide +kernel⟩,
   ⟨wEngine 2, .island, 7, [1, 2, 3], by decide +kernel⟩,
   ⟨wEngine 2, .island, 7, by decide +kernel⟩,
   ⟨wEngine 6 { opened := true }, 7, by decide +kernel⟩,
   ⟨wEngine 6, 7, by decide +kernel⟩⟩

theorem witness_recorder_completes :
    (∃ (d : Dev) (x : Event), (d.live) ∧ (d.recorder.hand = some x)) ∧
    (∃ (d : Dev) (who : Init) (v : Nat), (d.live) ∧ (d.serving) ∧ (d.checkWrite who 0x2F00 4 (numData 0x2F00 4 v) = none) ∧ (v = 0x636C6561) ∧ (d.getO 0x2F00 1 ≠ 2) ∧ (d.recorder.hand = none)) ∧
    (∃ (d : Dev) (who : Init) (b : List Byte), (d.live) ∧ (d.serving) ∧ (d.checkWrite who 0x2F01 1 b = none) ∧ (b.length = 14) ∧ (0xF0 ≤ field b 0 2 / 256) ∧ (field b 0 2 / 256 ≤ 0xFE)) ∧
    (∃ (d : Dev) (k : Nat), (d.live) ∧ (k < 256) ∧ (d.bucket k / 65536 ≠ 0) ∧ (1 < tabGet 0 d.recorder.spent k)) :=
  ⟨⟨{ recorder := { hand := some { time := 5, code := 0x7800, origin := 0xFFFF, payload := zeroBytes 12 } } }, { time := 5, code := 0x7800, origin := 0xFFFF, payload := zeroBytes 12 }, by decide +kernel⟩,
   ⟨{}, .island, 0x636C6561, by decide +kernel⟩,
   ⟨{}, .openWorld, [7, 0xF0] ++ zeroBytes 12, by decide +kernel⟩,
   ⟨{ recorder := { spent := [(0x11, 2)] } }, 0x11, by decide +kernel⟩⟩

theorem witness_island_completes :
    (∃ (d : Dev) (n : Nat), (d.live) ∧ (n < 8) ∧ (d.outState n ≠ 0)) ∧
    (∃ (d : Dev), (d.live) ∧ (d.island.halted = false) ∧ (d.island.restarting = false) ∧ (d.standby) ∧ (d.pairSlot (d.getO 0x3100 1) = d.pairSlot (1 - d.getO 0x3100 1))) ∧
    (∃ (d : Dev), (d.live) ∧ (d.island.halted = false) ∧ (d.island.restarting = false) ∧ (d.standby)) ∧
    (∃ (d : Dev), (d.live) ∧ (d.island.halted = false) ∧ (d.island.restarting = false) ∧ (d.standby) ∧ (d.pairSlot (d.getO 0x3100 1) = d.pairSlot (1 - d.getO 0x3100 1))) ∧
    (∃ (d : Dev), (d.live) ∧ (d.island.halted = false) ∧ (d.island.restarting = false) ∧ (d.standby)) ∧
    (∃ (d : Dev) (who : Init) (v : Nat), (d.live) ∧ (d.serving) ∧ (d.checkWrite who 0x3100 6 (numData 0x3100 6 v) = none) ∧ (d.standby) ∧ (d.pairSlot (d.getO 0x3100 1) = d.pairSlot (1 - d.getO 0x3100 1))) ∧
    (∃ (d : Dev) (who : Init) (v : Nat), (d.live) ∧ (d.serving) ∧ (d.checkWrite who 0x3100 6 (numData 0x3100 6 v) = none) ∧ (d.standby)) ∧
    (∃ (d : Dev), (d.live) ∧ (d.island.restarting = true)) ∧
    (∃ (d : Dev) (p : Nat) (_b : Bool), (d.live) ∧ (p < 2) ∧ (d.pairState p = 3)) ∧
    (∃ (d : Dev) (who : Init) (n v : Nat), (d.live) ∧ (d.serving) ∧ (n < 16) ∧ (d.checkWrite who (dogIndex n) 3 (numData (dogIndex n) 3 v) = none) ∧ (initCode who = d.getO (dogIndex n) 1)) ∧
    (∃ (d : Dev) (n : Nat), (d.live) ∧ (n < 16) ∧ (d.awake) ∧ (d.serving) ∧ (d.getO (dogIndex n) 5 = 1)) :=
  ⟨⟨wSet [(0x2270, 2, 5)], 7, by decide +kernel⟩,
   ⟨wSet [(0x3100, 3, 2)], by decide +kernel⟩,
   ⟨wSet [(0x3100, 3, 2)], by decide +kernel⟩,
   ⟨wSet [(0x3100, 3, 2)], by decide +kernel⟩,
   ⟨wSet [(0x3100, 3, 2)], by decide +kernel⟩,
   ⟨wSet [(0x3100, 3, 2)], .island, 1, by decide +kernel⟩,
   ⟨wSet [(0x3100, 3, 2)], .island, 1, by decide +kernel⟩,
   ⟨{ island := { restarting := true } }, by decide +kernel⟩,
   ⟨{}, 1, true, by decide +kernel⟩,
   ⟨wSet [(0x3111, 1, 0x20)], .openWorld, 1, 1, by decide +kernel⟩,
   ⟨wSet [(0x3111, 1, 0x20), (0x3111, 5, 1)], 1, by decide +kernel⟩⟩

theorem witness_pairing_completes :
    (∃ (d : Dev), (d.live) ∧ (d.linkState ≠ 0)) ∧
    (∃ (d : Dev) (f : List Byte) (n : Nat), (d.live) ∧ (d.linkState ≠ 0) ∧ (d.courier.locked) ∧ (frameOk f) ∧ (frameType f = 1) ∧ (d.courier.last = some n) ∧ (frameSeq f = (n + 1) % 2 ^ 32)) ∧
    (∃ (d : Dev) (f : List Byte) (n : Nat), (d.live) ∧ (d.linkState ≠ 0) ∧ (d.courier.locked) ∧ (frameOk f) ∧ (frameType f = 3) ∧ (d.courier.last = some n) ∧ (frameSeq f = (n + 1) % 2 ^ 32)) ∧
    (∃ (d : Dev) (f : List Byte) (n : Nat), (d.live) ∧ (d.linkState ≠ 0) ∧ (d.courier.locked) ∧ (frameOk f) ∧ (frameType f = 4) ∧ (d.courier.last = some n) ∧ (frameSeq f = (n + 1) % 2 ^ 32)) ∧
    (∃ (d : Dev) (f : List Byte) (_t n : Nat), (d.live) ∧ (d.linkState ≠ 0) ∧ (d.courier.locked) ∧ (frameOk f) ∧ (frameType f = 5) ∧ (d.courier.last = some n) ∧ (frameSeq f = (n + 1) % 2 ^ 32)) ∧
    (∃ (d : Dev) (f : List Byte) (_t n : Nat), (d.live) ∧ (d.linkState ≠ 0) ∧ (d.courier.locked) ∧ (frameOk f) ∧ (frameType f = 6) ∧ (d.courier.last = some n) ∧ (frameSeq f = (n + 1) % 2 ^ 32)) ∧
    (∃ (d : Dev) (f : List Byte), (d.live) ∧ (d.linkState ≠ 0) ∧ (d.courier.locked) ∧ (frameOk f = false)) ∧
    (∃ (d : Dev) (f : List Byte), (d.live) ∧ (d.linkState ≠ 0) ∧ (d.courier.locked) ∧ (frameOk f = false)) ∧
    (∃ (d : Dev) (f : List Byte), (d.live) ∧ (d.linkState ≠ 0) ∧ (d.courier.locked) ∧ (frameOk f = false)) ∧
    (∃ (d : Dev), (d.live) ∧ (d.secondary = false)) ∧
    (∃ (d : Dev), (d.live) ∧ (d.linkState = 2)) ∧
    (∃ (d : Dev), (d.live) ∧ (d.linkState ≠ 0)) ∧
    (∃ (d : Dev), (d.live) ∧ (d.linkState ≠ 0)) ∧
    (∃ (d : Dev) (n : Nat), (d.live) ∧ (n < 8) ∧ (d.takesPart n) ∧ (d.witness n = 1) ∧ (d.witnessL) ∧ (d.witnessC)) ∧
    (∃ (d : Dev) (n : Nat), (d.live) ∧ (n < 8) ∧ (d.witness n = 3)) :=
  ⟨⟨wLink 1, by decide +kernel⟩,
   ⟨wLink 1 [] { last := some 4 }, frameBytes 1 5 (zeroBytes 32), 4, by decide +kernel⟩,
   ⟨wLink 2 [] { last := some 4 }, frameBytes 3 5 (zeroBytes 264), 4, by decide +kernel⟩,
   ⟨wLink 2 [] { last := some 4 }, frameBytes 4 5 (zeroBytes 16), 4, by decide +kernel⟩,
   ⟨wLink 2 [] { last := some 4 }, frameBytes 5 5 (zeroBytes 8), 9, 4, by decide +kernel⟩,
   ⟨wLink 2 [] { last := some 4 }, frameBytes 6 5 (zeroBytes 8), 900, 4, by decide +kernel⟩,
   ⟨wLink 1, [1], by decide +kernel⟩,
   ⟨wLink 1, [1], by decide +kernel⟩,
   ⟨wLink 1, [1], by decide +kernel⟩,
   ⟨wLink 2 [(0x3200, 2, 1)], by decide +kernel⟩,
   ⟨wLink 2, by decide +kernel⟩,
   ⟨wLink 1, by decide +kernel⟩,
   ⟨wLink 2, by decide +kernel⟩,
   ⟨wLink 1 [] { mask := 8, theirs := 8, enabled := true, canGone := true, witness := [(3, 1)] }, 3, by decide +kernel⟩,
   ⟨wLink 2 [] { mask := 8, theirs := 8, enabled := true, witness := [(3, 3)] }, 3, by decide +kernel⟩⟩

theorem witness_boot_and_update_complete :
    (∃ (d : Dev), (d.power.phase ≠ .sleep)) ∧
    (∃ (d : Dev) (_n _p _b : Nat), (d.power.phase = .held)) ∧
    (∃ (d : Dev) (who : Init) (v : Nat), (d.live) ∧ (d.serving) ∧ (d.checkWrite who 0x3300 2 (numData 0x3300 2 v) = none) ∧ (d.running)) ∧
    (∃ (d : Dev) (_t : Nat), (d.live)) ∧
    (∃ (d : Dev) (_t : Nat), (d.live) ∧ (d.dram.trained = false) ∧ (d.power.recovery = false)) ∧
    (∃ (d : Dev) (x : Nat), (d.live) ∧ (d.updateState = 2) ∧ (d.imageFails d.power.bankNew = some x)) ∧
    (∃ (d : Dev) (who : Init), (d.live) ∧ (d.serving) ∧ (d.checkWrite who 0x3300 7 (numData 0x3300 7 1) = none) ∧ (d.updateState = 3) ∧ (d.standby)) ∧
    (∃ (d : Dev) (who : Init), (d.live) ∧ (d.serving) ∧ (d.checkWrite who 0x3300 7 (numData 0x3300 7 2) = none) ∧ (d.updateState = 3)) ∧
    (∃ (d : Dev) (who : Init), (d.live) ∧ (d.serving) ∧ (d.checkWrite who 0x3300 7 (numData 0x3300 7 3) = none) ∧ (d.updateState = 5)) ∧
    (∃ (d : Dev), (d.live) ∧ (d.pairState (1 - d.getO 0x3100 1) = 5) ∧ (d.updateState ≠ 4)) ∧
    (∃ (d : Dev), (d.live) ∧ (d.updateState = 5)) :=
  ⟨⟨{}, by decide +kernel⟩,
   ⟨{ power := { phase := .held } }, 5, 1, 1, by decide +kernel⟩,
   ⟨{}, .island, 1919251316, by decide +kernel⟩,
   ⟨{}, 900, by decide +kernel⟩,
   ⟨{ dram := { trained := false } }, 900, by decide +kernel⟩,
   ⟨wUpdate 2 2, 0x10, by decide +kernel⟩,
   ⟨wUpdate 3 2, .island, by decide +kernel⟩,
   ⟨wUpdate 3 2, .island, by decide +kernel⟩,
   ⟨wUpdate 5 2, .island, by decide +kernel⟩,
   ⟨wUpdate 0 5, by decide +kernel⟩,
   ⟨wUpdate 5 2, by decide +kernel⟩⟩

theorem witness_power_completes :
    (∃ (d : Dev) (who : Init) (v : Nat), (d.live) ∧ (d.serving) ∧ (d.checkWrite who 0x2002 1 (numData 0x2002 1 v) = none) ∧ (d.power.phase = .running) ∧ (v ≤ 2) ∧ (d.coolTooFast v = false)) ∧
    (∃ (d : Dev) (who : Init), (d.live) ∧ (d.serving) ∧ (d.checkWrite who 0x2002 1 (numData 0x2002 1 3) = none) ∧ (d.power.phase = .running) ∧ (d.keepAliveRefused = false)) ∧
    (∃ (d : Dev) (who : Init), (d.live) ∧ (d.serving) ∧ (d.checkWrite who 0x2002 1 (numData 0x2002 1 4) = none) ∧ (d.power.phase = .running) ∧ (d.keepAliveRefused = false)) ∧
    (∃ (d : Dev), (d.live) ∧ (d.power.phase = .entering) ∧ (d.power.later = none) ∧ (d.power.toSleep = false) ∧ (d.beginKeepAlive.power.later = none) ∧ (d.beginKeepAlive.power.toSleep = false) ∧ (d.beginKeepAlive.power.wakeEdge = false)) ∧
    (∃ (d : Dev) (p : Nat), (d.live) ∧ (p < 8) ∧ (d.power.phase = .keepAlive) ∧ (d.panelOn p) ∧ ((d.getO 0x3300 0x0F).testBit p) ∧ ((d.panel p).approach)) ∧
    (∃ (d : Dev) (p : Nat), (p < 2) ∧ (d.power.phase = .sleep) ∧ (d.power.canWake)) ∧
    (∃ (d : Dev) (n : Nat), (d.live = false) ∧ (n < 17) ∧ ((d.latchWord n).testBit 0) ∧ ((d.latchWord n).testBit 2 = false)) ∧
    (∃ (d : Dev) (_a _b : Int) (_x : Bool), (d.live)) ∧
    (∃ (d : Dev), (d.live) ∧ (d.thermalStep ≠ 0)) ∧
    (∃ (d : Dev), (d.live)) ∧
    (∃ (d : Dev) (_v : Nat), (d.live)) ∧
    (∃ (d : Dev) (p : Nat), (d.live) ∧ (d.awake) ∧ (p < 2) ∧ (d.portExists p) ∧ (tabGet false d.host.linked p = false)) ∧
    (∃ (d : Dev) (p : Nat), (d.live = false) ∧ (p < 2)) :=
  ⟨⟨{}, .island, 1, by decide +kernel⟩,
   ⟨{}, .island, by decide +kernel⟩,
   ⟨{}, .island, by decide +kernel⟩,
   ⟨{ power := { phase := .entering } }, by decide +kernel⟩,
   ⟨{ wSet [(0x2608, 1, 2), (0x3300, 0x0F, 128)] with power := { phase := .keepAlive }, panels := [(7, { approach := true })] }, 7, by decide +kernel⟩,
   ⟨{ power := { phase := .sleep, canWake := true } }, 1, by decide +kernel⟩,
   ⟨{ wSet [(0x2B02, 17, 1)] with power := { phase := .sleep }, kept := { latchSet := [(16, 1)] } }, 16, by decide +kernel⟩,
   ⟨{}, 1060, 900, false, by decide +kernel⟩,
   ⟨wSet [(0x3400, 7, 2)], by decide +kernel⟩,
   ⟨{}, by decide +kernel⟩,
   ⟨{}, 8700, by decide +kernel⟩,
   ⟨{}, 1, by decide +kernel⟩,
   ⟨{ power := { phase := .sleep } }, 1, by decide +kernel⟩⟩

theorem witness_store_completes :
    (∃ (d : Dev) (who : Init) (i j : Nat) (b : List Byte) (t : Dev), (d.live) ∧ (d.serving) ∧ (answersItself i j = false) ∧ (d.checkWrite who i j b = none) ∧ (objectVerdict who i j b d = .ok t)) ∧
    (∃ (d : Dev) (who : Init) (j : Nat) (b : List Byte), (d.live) ∧ (d.serving) ∧ (d.checkWrite who 0x5000 j b = none)) ∧
    (∃ (d : Dev) (who : Init) (a i j : Nat) (b : List Byte) (t : Dev), (d.live) ∧ (d.serving) ∧ (onChip who) ∧ (windowAt a = none) ∧ (d.mappedFits a b.length) ∧ (objectAt a = (i, j, 0)) ∧ (answersItself i j = false) ∧ (d.checkWrite who i j b = none) ∧ (objectVerdict who i j b d = .ok t)) ∧
    (∃ (d : Dev) (_who : Init) (n : Nat) (b : List Byte), (d.live) ∧ (d.serving) ∧ (b.length = 8) ∧ (n < 8)) ∧
    (∃ (d : Dev) (_who : Init) (n : Nat) (b : List Byte), (d.live) ∧ (d.serving) ∧ (b.length = 8) ∧ (n < 32)) ∧
    (∃ (d : Dev) (_who : Init) (b : List Byte), (b.length = 8)) ∧
    (∃ (d : Dev) (_who : Init) (b : List Byte), (b.length = 1)) ∧
    (∃ (d : Dev) (_who : Init) (i k : Nat) (b : List Byte), (d.live) ∧ (d.serving) ∧ (b.length = 8) ∧ (0x2511 ≤ i) ∧ (i < 0x2571) ∧ (k < 4)) ∧
    (∃ (d : Dev) (who : Init), (d.live) ∧ (d.serving) ∧ (d.checkWrite who 0x1003 0 (numData 0x1003 0 0) = none)) ∧
    (∃ (d : Dev) (who : Init) (r v : Nat), (d.live) ∧ (d.serving) ∧ (d.checkWrite who 0x1010 r (numData 0x1010 r v) = none) ∧ (d.power.saving = none)) ∧
    (∃ (d : Dev) (x : Saving), (d.live) ∧ (d.power.saving = some x)) ∧
    (∃ (d : Dev) (x : Saving), (d.live) ∧ (d.power.saving = some x)) ∧
    (∃ (d : Dev) (who : Init) (r v : Nat), (d.live) ∧ (d.serving) ∧ (d.checkWrite who 0x1011 r (numData 0x1011 r v) = none) ∧ (d.power.saving = none)) :=
  ⟨⟨{}, .island, 0x5000, 3, [5], ({} : Dev).setO 0x5000 3 5, ⟨by decide +kernel, by decide +kernel, by decide +kernel, by decide +kernel, rfl⟩⟩,
   ⟨{}, .island, 3, [5], by decide +kernel⟩,
   ⟨{}, .island, objAddress 0x2001 2, 0x2001, 2, [5], ({} : Dev).setO 0x2001 2 5, ⟨by decide +kernel, by decide +kernel, by decide +kernel, by decide +kernel, by decide +kernel, by decide +kernel, by decide +kernel, by decide +kernel, rfl⟩⟩,
   ⟨{}, .island, 7, zeroBytes 8, by decide +kernel⟩,
   ⟨{}, .island, 7, zeroBytes 8, by decide +kernel⟩,
   ⟨{}, .island, zeroBytes 8, by decide +kernel⟩,
   ⟨{}, .island, [1], by decide +kernel⟩,
   ⟨{}, .island, 0x2531, 1, zeroBytes 8, by decide +kernel⟩,
   ⟨{}, .island, by decide +kernel⟩,
   ⟨{}, .island, 1, 0x65766173, by decide +kernel⟩,
   ⟨{ power := { saving := some { range := 1, slot := 0, generation := 1 } } }, { range := 1, slot := 0, generation := 1 }, by decide +kernel⟩,
   ⟨{ power := { saving := some { range := 1, slot := 0, generation := 1 } } }, { range := 1, slot := 0, generation := 1 }, by decide +kernel⟩,
   ⟨{}, .island, 1, 0x64616F6C, by decide +kernel⟩⟩

theorem witness_windows_complete :
    (∃ (d : Dev) (who : Init) (n i j : Nat), (d.live) ∧ (d.serving) ∧ (d.reaches who n) ∧ (d.takesCommand who) ∧ ((d.window n).busy = false) ∧ (d.checkRead who i j false = none)) ∧
    (∃ (d : Dev) (who : Init) (n i j a : Nat), (d.live) ∧ (d.serving) ∧ (d.reaches who n) ∧ (d.takesCommand who) ∧ ((d.window n).busy = false) ∧ (d.checkRead who i j false = some a)) ∧
    (∃ (d : Dev) (who : Init) (n i j : Nat) (r : ObjRow) (k t : Dev), (d.live) ∧ (d.serving) ∧ (d.reaches who n) ∧ (d.takesCommand who) ∧ ((d.window n).busy = false) ∧ (objRow i j = some r) ∧ (((d.opened n).journal (writeEntry who n i j ((d.opened n).window n).payload)).2.regIssue ((d.opened n).journal (writeEntry who n i j ((d.opened n).window n).payload)).1 = k) ∧ (answersItself i j = false) ∧ (k.checkWrite who i j ((d.opened n).window n).payload = none) ∧ (objectVerdict who i j ((d.opened n).window n).payload k = .ok t) ∧ ((t.window n).busy = true) ∧ (i ≠ 0x1010)) ∧
    (∃ (d : Dev) (who : Init) (n _i _j : Nat), (d.live) ∧ (d.serving) ∧ (d.reaches who n) ∧ (d.takesCommand who) ∧ ((d.window n).busy = false)) ∧
    (∃ (d : Dev) (who : Init) (n i j : Nat) (r : ObjRow), (d.live) ∧ (d.serving) ∧ (d.reaches who n) ∧ (d.takesCommand who) ∧ ((d.window n).busy = false) ∧ (objRow i j = some r) ∧ (d.hasIndex i)) ∧
    (∃ (d : Dev) (who : Init) (n i j : Nat), (d.live) ∧ (d.serving) ∧ (d.reaches who n) ∧ (d.takesCommand who) ∧ ((d.window n).busy = false) ∧ (d.transfer i j = none) ∧ (d.checkRead who i j true = none) ∧ ((d.window n).offset ≤ ((d.opened n).valueOf i j).length)) ∧
    (∃ (d : Dev) (who : Init) (n i j : Nat) (t : Transfer), (d.live) ∧ (d.serving) ∧ (d.reaches who n) ∧ (d.takesCommand who) ∧ ((d.window n).busy = false) ∧ (d.transfer i j = some t) ∧ (t.path = .window n) ∧ (t.writing = false) ∧ (i ≠ 0x2F03 ∨ t.base = d.baseSeq) ∧ ((d.window n).offset ≤ t.data.length)) ∧
    (∃ (d : Dev) (who : Init) (n i j : Nat), (d.live) ∧ (d.serving) ∧ (d.reaches who n) ∧ (d.takesCommand who) ∧ ((d.window n).busy = false) ∧ (d.transfer i j = none) ∧ (d.checkDomain who i j = none) ∧ (1 ≤ (d.window n).len) ∧ ((d.window n).len ≤ 2048) ∧ (d.domainFree i j) ∧ ((d.window n).offset = 0)) ∧
    (∃ (d : Dev) (who : Init) (n i j : Nat) (t : Transfer), (d.live) ∧ (d.serving) ∧ (d.reaches who n) ∧ (d.takesCommand who) ∧ ((d.window n).busy = false) ∧ (d.transfer i j = some t) ∧ (t.path = .window n) ∧ (t.writing = true) ∧ (1 ≤ (d.window n).len) ∧ ((d.window n).len ≤ 2048) ∧ ((d.window n).offset = t.data.length) ∧ (t.data.length % 4 = 0)) ∧
    (∃ (d : Dev) (who : Init) (n i j : Nat) (t : Transfer), (d.live) ∧ (d.serving) ∧ (d.reaches who n) ∧ (d.takesCommand who) ∧ ((d.window n).busy = false) ∧ (d.checkType i j = none) ∧ (d.transfer i j = some t) ∧ (t.path = .window n) ∧ (t.writing = true) ∧ (d.contentAbort i j (d.window n).dlen (d.window n).dcrc t.data = none)) ∧
    (∃ (d : Dev) (who : Init) (n i j : Nat) (t : Transfer), (d.live) ∧ (d.serving) ∧ (d.reaches who n) ∧ (d.takesCommand who) ∧ ((d.window n).busy = false) ∧ (d.checkType i j = none) ∧ (d.transfer i j = some t) ∧ (t.path = .window n) ∧ (t.writing = false)) ∧
    (∃ (d : Dev) (who : Init) (n i j : Nat) (t : Transfer), (d.live) ∧ (d.serving) ∧ (d.reaches who n) ∧ (d.takesCommand who) ∧ ((d.window n).busy = false) ∧ (d.checkType i j = none) ∧ (d.transfer i j = some t) ∧ (t.path = .window n)) ∧
    (∃ (d : Dev) (who : Init) (n x : Nat) (b : List Byte), (d.live) ∧ (d.reaches who n) ∧ (oddAccess who x b.length = false) ∧ (x ≠ 0 ∨ b.length ≠ 4) ∧ (x ≠ 12 ∨ b.length ≠ 4) ∧ ((d.window n).busy = false)) ∧
    (∃ (d : Dev) (who : Init) (n : Nat) (b : List Byte), (d.live) ∧ (d.reaches who n) ∧ (oddAccess who 12 b.length = false) ∧ (b.length = 4)) ∧
    (∃ (d : Dev) (who : Init) (n : Nat) (b : List Byte), (d.live) ∧ (d.serving) ∧ (d.reaches who n) ∧ (oddAccess who 0 b.length = false) ∧ (b.length = 4) ∧ (bits (leNat b) 24 8 = 1)) ∧
    (∃ (d : Dev) (who : Init) (n : Nat) (b : List Byte), (d.live) ∧ (d.serving) ∧ (d.reaches who n) ∧ (oddAccess who 0 b.length = false) ∧ (b.length = 4) ∧ (bits (leNat b) 24 8 = 2)) ∧
    (∃ (d : Dev) (who : Init) (n : Nat) (b : List Byte), (d.live) ∧ (d.serving) ∧ (d.reaches who n) ∧ (oddAccess who 0 b.length = false) ∧ (b.length = 4) ∧ (bits (leNat b) 24 8 = 3)) ∧
    (∃ (d : Dev) (who : Init) (n : Nat) (b : List Byte), (d.live) ∧ (d.serving) ∧ (d.reaches who n) ∧ (oddAccess who 0 b.length = false) ∧ (b.length = 4) ∧ (bits (leNat b) 24 8 = 4)) ∧
    (∃ (d : Dev) (who : Init) (n : Nat) (b : List Byte), (d.live) ∧ (d.serving) ∧ (d.reaches who n) ∧ (oddAccess who 0 b.length = false) ∧ (b.length = 4) ∧ (bits (leNat b) 24 8 = 5)) ∧
    (∃ (d : Dev) (who : Init) (n : Nat) (b : List Byte), (d.live) ∧ (d.serving) ∧ (d.reaches who n) ∧ (oddAccess who 0 b.length = false) ∧ (b.length = 4) ∧ (bits (leNat b) 24 8 = 6)) ∧
    (∃ (d : Dev) (who : Init) (n : Nat) (b : List Byte), (d.live) ∧ (d.serving) ∧ (d.reaches who n) ∧ (oddAccess who 0 b.length = false) ∧ (b.length = 4) ∧ (bits (leNat b) 24 8 = 7)) ∧
    (∃ (d : Dev) (n : Nat) (x : WinResult), (d.live) ∧ (d.serving) ∧ ((d.window n).busy = true) ∧ ((d.window n).result = some x) ∧ ((d.window n).entry = none) ∧ ((d.window n).irqEn = false)) :=
  ⟨⟨{}, .island, 32, 0x2000, 1, by decide +kernel⟩,
   ⟨{}, .island, 32, 0x6000, 1, 0x06020000, by decide +kernel⟩,
   ⟨{ windows := [(32, { len := 1 })] }, .island, 32, 0x5000, 1, (objRow 0x5000 1).get (by decide +kernel), wWindowWrite, wWindowWrite.setO 0x5000 1 0, ⟨by decide +kernel, by decide +kernel, by decide +kernel, by decide +kernel, by decide +kernel, by simp, rfl, by decide +kernel, by decide +kernel, rfl, by decide +kernel, by decide +kernel⟩⟩,
   ⟨{}, .island, 32, 0x5000, 1, by decide +kernel⟩,
   ⟨{}, .island, 32, 0x5000, 1, (objRow 0x5000 1).get (by decide +kernel), ⟨by decide +kernel, by decide +kernel, by decide +kernel, by decide +kernel, by decide +kernel, by simp, by decide +kernel⟩⟩,
   ⟨wSegment none 0, .island, 32, 0x2F03, 1, by decide +kernel⟩,
   ⟨wSegment (some { path := .window 32, who := .island, writing := false, data := zeroBytes 100 }) 40, .island, 32, 0x2315, 9, { path := .window 32, who := .island, writing := false, data := zeroBytes 100 }, by decide +kernel⟩,
   ⟨{ windows := [(32, { len := 4 })] }, .island, 32, 0x2315, 9, by decide +kernel⟩,
   ⟨{ wTransfer with windows := [(32, { len := 4, offset := 1024 })] }, .island, 32, 0x2315, 9, { path := .window 32, who := .island, writing := true, data := zeroBytes 1024 }, by decide +kernel⟩,
   ⟨wTransfer, .island, 32, 0x2315, 9, { path := .window 32, who := .island, writing := true, data := zeroBytes 1024 }, by decide +kernel⟩,
   ⟨wSegment (some { path := .window 32, who := .island, writing := false, data := zeroBytes 100 }) 40, .island, 32, 0x2315, 9, { path := .window 32, who := .island, writing := false, data := zeroBytes 100 }, by decide +kernel⟩,
   ⟨wTransfer, .island, 32, 0x2315, 9, { path := .window 32, who := .island, writing := true, data := zeroBytes 1024 }, by decide +kernel⟩,
   ⟨{}, .island, 32, 4, [8, 0, 0, 0], by decide +kernel⟩,
   ⟨{}, .island, 32, [8, 0, 0, 0], by decide +kernel⟩,
   ⟨{}, .island, 32, [0, 0x20, 1, 1], by decide +kernel⟩,
   ⟨{}, .island, 32, [0, 0x20, 1, 2], by decide +kernel⟩,
   ⟨{}, .island, 32, [0, 0x20, 1, 3], by decide +kernel⟩,
   ⟨{}, .island, 32, [0, 0x20, 1, 4], by decide +kernel⟩,
   ⟨{}, .island, 32, [0, 0x20, 1, 5], by decide +kernel⟩,
   ⟨{}, .island, 32, [0, 0x20, 1, 6], by decide +kernel⟩,
   ⟨{}, .island, 32, [0, 0x20, 1, 7], by decide +kernel⟩,
   ⟨wBusy, 32, {}, by decide +kernel⟩⟩

theorem witness_canopen_completes :
    (∃ (d : Dev) (p i j : Nat) (b : List Byte) (r : ObjRow) (k t : Dev), (d.live) ∧ (d.serving) ∧ (p < 2) ∧ (d.usdoTaken p) ∧ (objRow i j = some r) ∧ (r.ty ≠ .domain) ∧ ((d.journal (writeEntry (.can p) (0x80 + p) i j b)).2.regIssue (d.journal (writeEntry (.can p) (0x80 + p) i j b)).1 = k) ∧ (answersItself i j = false) ∧ (k.checkWrite (.can p) i j b = none) ∧ (objectVerdict (.can p) i j b k = .ok t) ∧ (i ≠ 0x1010)) ∧
    (∃ (d : Dev) (p i j : Nat) (b : List Byte) (r : ObjRow), (d.live) ∧ (d.serving) ∧ (p < 2) ∧ (d.usdoTaken p) ∧ (objRow i j = some r) ∧ (r.ty = .domain) ∧ (d.checkDomain (.can p) i j = none) ∧ (d.domainFree i j) ∧ ((d.openWrite (.can p) (.can p) i j b).contentAbort i j b.length (crc32c (256 * i + j) b) b = none)) ∧
    (∃ (d : Dev) (p i j : Nat) (_b : List Byte), (d.live) ∧ (d.serving) ∧ (p < 2) ∧ (d.usdoTaken p) ∧ (objRow i j = none)) ∧
    (∃ (d : Dev) (p i j : Nat) (r : ObjRow), (d.live) ∧ (d.serving) ∧ (p < 2) ∧ (d.usdoTaken p) ∧ (objRow i j = some r) ∧ (r.ty ≠ .domain ∨ d.transfer i j = none) ∧ (d.checkRead (.can p) i j (r.ty == .domain) = none)) ∧
    (∃ (d : Dev) (p i j a : Nat) (r : ObjRow), (d.live) ∧ (d.serving) ∧ (p < 2) ∧ (d.usdoTaken p) ∧ (objRow i j = some r) ∧ (d.checkRead (.can p) i j (r.ty == .domain) = some a)) ∧
    (∃ (d : Dev) (p k : Nat) (b : List Byte), (d.live) ∧ (d.serving) ∧ (p < 2) ∧ (k < 16) ∧ (d.portOpen p) ∧ (d.can.nmt = .operational) ∧ (d.pdoValid (0x1400 + k)) ∧ (d.rpdoLength k ≤ b.length) ∧ (0xF0 < d.getO (0x1400 + k) 2)) ∧
    (∃ (d : Dev) (k : Nat), (d.live) ∧ (d.serving) ∧ (k < 16) ∧ (d.pdoValid (0x1400 + k)) ∧ (d.getO (0x1400 + k) 5 ≠ 0) ∧ (tabGet false d.can.rpdoLate k = false)) ∧
    (∃ (d : Dev) (k : Nat), (d.live) ∧ (d.serving) ∧ (k < 16) ∧ (d.can.nmt = .operational) ∧ (d.tpdoValid k) ∧ (0xFE ≤ d.getO (0x1800 + k) 2) ∧ (d.getO (0x1800 + k) 5 ≠ 0) ∧ (tabGet false d.can.tpdoInhibit k = false)) ∧
    (∃ (d : Dev) (k : Nat), (d.live) ∧ (d.serving) ∧ (k < 16) ∧ (tabGet false d.can.tpdoWaits k = false)) ∧
    (∃ (d : Dev) (p : Nat), (d.live) ∧ (d.serving) ∧ (p < 2) ∧ (d.portOpen p) ∧ (d.can.nmt = .operational)) ∧
    (∃ (d : Dev), (d.live) ∧ (d.serving) ∧ (d.getO 0x1017 0 ≠ 0) ∧ (d.can.nmt ≠ .initialisation)) ∧
    (∃ (d : Dev) (p _n : Nat), (d.live) ∧ (d.serving) ∧ (p < 2) ∧ (d.portOpen p)) ∧
    (∃ (d : Dev) (k : Nat), (d.live) ∧ (d.serving) ∧ (1 ≤ k) ∧ (k ≤ 8) ∧ (d.consumerUsed k) ∧ (tabGet false d.can.lost k = false)) ∧
    (∃ (d : Dev) (x : Emcy) (l : List Emcy), (d.live) ∧ (d.serving) ∧ (d.can.waiting = x :: l)) ∧
    (∃ (d : Dev) (p : Nat), (d.live) ∧ (d.serving) ∧ (p < 2) ∧ (d.portOpen p)) ∧
    (∃ (d : Dev) (p : Nat), (d.live) ∧ (d.serving) ∧ (p < 2) ∧ (d.portEnabled p) ∧ (tabGet 0 d.can.portState p = 2)) ∧
    (∃ (d : Dev) (p : Nat), (d.live) ∧ (p < 2) ∧ (d.portEnabled p) ∧ (tabGet 0 d.can.portState p ≠ 1)) ∧
    (∃ (d : Dev) (p n : Nat), (d.live) ∧ (d.serving) ∧ (p < 2) ∧ (d.portOpen p) ∧ (n = 0 ∨ n = d.nodeId)) ∧
    (∃ (d : Dev) (p n : Nat), (d.live) ∧ (d.serving) ∧ (p < 2) ∧ (d.portOpen p) ∧ (n = 0 ∨ n = d.nodeId)) ∧
    (∃ (d : Dev) (p n : Nat), (d.live) ∧ (d.serving) ∧ (p < 2) ∧ (d.portOpen p) ∧ (n = 0 ∨ n = d.nodeId)) ∧
    (∃ (d : Dev) (p n : Nat), (d.live) ∧ (d.serving) ∧ (p < 2) ∧ (d.portOpen p) ∧ (n = 0 ∨ n = d.nodeId)) ∧
    (∃ (d : Dev) (p n : Nat), (d.live) ∧ (d.serving) ∧ (p < 2) ∧ (d.portOpen p) ∧ (n = 0 ∨ n = d.nodeId)) :=
  ⟨⟨wNode .preOperational, 0, 0x5000, 1, [1], ((objRow 0x5000 1).get (by decide +kernel)), wUsdoWrite, wUsdoWrite.setO 0x5000 1 1, ⟨by decide +kernel, by decide +kernel, by decide +kernel, by decide +kernel, by simp, by decide +kernel, rfl, by decide +kernel, by decide +kernel, rfl, by decide +kernel⟩⟩,
   ⟨wNode .preOperational, 0, 0x2A03, 4, zeroBytes 256, ((objRow 0x2A03 4).get (by decide +kernel)), ⟨by decide +kernel, by decide +kernel, by decide +kernel, by decide +kernel, by simp, by decide +kernel, by decide +kernel, by decide +kernel, by decide +kernel⟩⟩,
   ⟨wNode .preOperational, 0, 0x6000, 0, [1], by decide +kernel⟩,
   ⟨wNode .preOperational, 0, 0x5000, 1, ((objRow 0x5000 1).get (by decide +kernel)), ⟨by decide +kernel, by decide +kernel, by decide +kernel, by decide +kernel, by simp, by decide +kernel, by decide +kernel⟩⟩,
   ⟨wNode .preOperational, 0, 0x2401, 3, 0x06010001, ((objRow 0x2401 3).get (by decide +kernel)), ⟨by decide +kernel, by decide +kernel, by decide +kernel, by decide +kernel, by simp, by decide +kernel⟩⟩,
   ⟨wNode .operational [(0x1403, 1, 0x205), (0x1403, 2, 255)], 0, 3, [], by decide +kernel⟩,
   ⟨wNode .operational [(0x1403, 1, 0x205), (0x1403, 5, 9)], 3, by decide +kernel⟩,
   ⟨wNode .operational [(0x1803, 1, 0x185), (0x1803, 2, 255), (0x1803, 5, 9)], 3, by decide +kernel⟩,
   ⟨wNode .operational, 3, by decide +kernel⟩,
   ⟨wNode .operational, 1, by decide +kernel⟩,
   ⟨wNode .operational [(0x1017, 0, 10)], by decide +kernel⟩,
   ⟨wNode .operational [(0x1016, 2, 65536 * 9 + 50)], 1, 9, by decide +kernel⟩,
   ⟨wNode .operational [(0x1016, 2, 65536 * 9 + 50)], 2, by decide +kernel⟩,
   ⟨{ can := { waiting := [{ code := 0x8110, reg := 17, seq := 0, event := 5 }] } }, { code := 0x8110, reg := 17, seq := 0, event := 5 }, [], by decide +kernel⟩,
   ⟨wNode .operational, 1, by decide +kernel⟩,
   ⟨{ can := { ports := 3, portState := [(1, 2)] } }, 1, by decide +kernel⟩,
   ⟨{ can := { ports := 3 } }, 1, by decide +kernel⟩,
   ⟨wNode .preOperational, 1, 5, by decide +kernel⟩,
   ⟨wNode .preOperational, 1, 5, by decide +kernel⟩,
   ⟨wNode .operational, 1, 0, by decide +kernel⟩,
   ⟨wNode .operational, 1, 0, by decide +kernel⟩,
   ⟨wNode .operational, 1, 0, by decide +kernel⟩⟩

/-- An idle engine of the island, with the settings of every row in turn, loads codes 1, 5 and 10, and refuses 0 and 11. -/
  theorem witness_catalogue_settings_load_and_check :
      (wEngine 1).live = true ∧ (wEngine 1).serving = true ∧ (wEngine 1).engStill 7 = true ∧
      (wEngine 1).checkWrite .island (ninesIndex 7) 7 (numData (ninesIndex 7) 7 1) = none ∧
      (wEngine 1).checkWrite .island (ninesIndex 7) 7 (numData (ninesIndex 7) 7 7) = none ∧
      (wEngine 1).checkWrite .island (ninesIndex 7) 7 (numData (ninesIndex 7) 7 10) = none ∧
      (wEngine 1).checkWrite .island (ninesIndex 7) 8 (numData (ninesIndex 7) 8 1) = none ∧
      (∀ r ∈ catalogue, let s := ((((wEngine 1).setO (ninesIndex 7) 3 (r.1 + if r.2.2.2.1 then 0x300 else 0)).setO (ninesIndex 7) 4
          r.2.1).setO (ninesIndex 7) 5 r.2.2.1).setO (ninesIndex 7) 6 r.2.2.2.2
        s.live = true ∧ s.engStill 7 = true ∧ s.checkWrite .island (ninesIndex 7) 8 (numData (ninesIndex 7) 8 1) = none ∧
        cfgWidth (s.getO (ninesIndex 7) 3) = r.1 ∧ cfgRefIn (s.getO (ninesIndex 7) 3) = r.2.2.2.1 ∧
        cfgRefOut (s.getO (ninesIndex 7) 3) = r.2.2.2.1 ∧ s.getO (ninesIndex 7) 4 = r.2.1 ∧ s.getO (ninesIndex 7) 5 = r.2.2.1 ∧
        s.getO (ninesIndex 7) 6 = r.2.2.2.2) := by decide +kernel
/-- A record in hand of an empty log, and of a log with one free slot. -/
  theorem witness_a_record_lies_in_its_slot_as_table_19_1_lays_it_out :
      (let d : Dev := { recorder := { hand := some { time := 1, code := 0x1101, origin := 0, payload := [] } } }
       d.live = true ∧ d.recorder.hand.isSome = true ∧ d.committed = 0 ∧ d.getO 0x2F00 1 ≠ 2) ∧
      (let d : Dev := (({ recorder := { hand := some { time := 1, code := 0x1101, origin := 0, payload := [] } } } : Dev)).setO 0x2F00 3 32767
       d.live = true ∧ d.recorder.hand.isSome = true ∧ d.committed = 32767 ∧ d.getO 0x2F00 1 ≠ 2) := by decide +kernel
/-- A sealed recorder refuses every event; a class without tokens refuses its own. -/
  theorem witness_an_emcy_carries_the_fate_of_its_event :
      (({} : Dev).setO 0x2F00 1 2).intakeRefusal.isSome = true ∧
      bucketExempt 0x11 = false ∧ ({ recorder := { spent := [(0x11, 32)] } } : Dev).tokens 0x11 = 0 := by decide +kernel
/-- A tile of 64 equal pixels, and the worked tile of the chapter. -/
  theorem witness_packed_tiles_decode_to_what_was_encoded :
      (List.replicate 64 ([1, 2, 3, 4] : Pixel)).length = 64 ∧ (∀ p ∈ List.replicate 64 ([1, 2, 3, 4] : Pixel), p.length = ptsBpp 1) ∧
      (List.replicate 64 ([7] : Pixel)).length = 64 ∧ (∀ p ∈ List.replicate 64 ([7] : Pixel), p.length = ptsBpp 8) := by decide +kernel
/-- A line of zeros. -/
  theorem witness_code_l_corrects_any_single_bit : (zeroBytes 64).length = 64 := by decide
/-- A sector of zeros. -/
  theorem witness_code_s_corrects_any_one_byte : (zeroBytes 32).length = 32 := by decide
/-- A core with nothing to take, a core with a source to take, and a page that a core does not serve. -/
  theorem witness_a_claim_returns_the_best_source :
      ({} : Dev).live = true ∧ ({} : Dev).coreRuns 2 = true ∧ ({ power := { phase := .keepAlive } } : Dev).coreRuns 2 = false ∧
      ({ power := { phase := .keepAlive } } : Dev).live = true ∧ ({} : Dev).serves 2 0x20 = true ∧ ({} : Dev).takeable 0x20 2 = [] ∧ ({} : Dev).serves 2 0x21 = false ∧
      (let d := (({} : Dev).setEntry 600 (2 ^ 63 + 2 ^ 60 + 3 * 2 ^ 56 + 2 ^ 13)).setReleased 600 true
       d.live = true ∧ d.coreRuns 2 = true ∧ d.serves 2 0x20 = true ∧ d.takeable 0x20 2 = [600]) := by decide +kernel
/-- An engine and a copy channel that are being reset, and a request for the engine. -/
  theorem witness_a_passing_block_has_no_owner :
      (let d := (({} : Dev).setHand (blockId 8 7) { state := 2, newOwner := 0x20 }).setHand (blockId 7 31) { state := 3, newOwner := 0x20 }
       2 ≤ (d.hand (blockId 8 7)).state ∧ 2 ≤ (d.hand (blockId 7 31)).state ∧ initOk .island = true ∧ d.live = true ∧ d.serving = true ∧
       65536 * blockId 8 7 + 0x2000 < 2 ^ 32 ∧ 2 ≤ (d.hand ((65536 * blockId 8 7 + 0x2000) / 65536)).state) := by decide +kernel
/-- From reset, an absent reference. -/
  theorem witness_frame_of_the_time_commands : ∃ t, exec (.lockReferenceAbsent 11) State.reset = .next t := ⟨_, rfl⟩
/-- From reset, a training failure of output 7. -/
  theorem witness_frame_of_the_output_events : ∃ t, exec (.trainingFail 7 4) State.reset = .next t := ⟨_, rfl⟩
/-- From reset, a loop period of channel 7. -/
  theorem witness_frame_of_the_haptic_channels : ∃ t, exec (.hapticLoopPeriod 7 1 1 1) State.reset = .next t := ⟨_, rfl⟩
/-- From reset, a claim by core 8. -/
  theorem witness_frame_of_the_letterbox : ∃ t, exec (.claim 8 0) State.reset = .next t := ⟨_, rfl⟩
/-- From reset, a self-check of engine 7. -/
  theorem witness_frame_of_the_check_engines : ∃ t, exec (.selfCheck .island 7 1) State.reset = .next t := ⟨_, rfl⟩
end

section
/-! SUPPORT. What the forms of a command answer on a state written as its queue and its block; and a request that is taken. -/

namespace Sys2Proof.Machine

theorem act_of_live (f : Dev → Dev) {q : List Instr} {d : Dev} (hl : d.live = true) :
    act f ⟨q, d⟩ = .next ⟨q, Dev.finish d (f d)⟩ :=
  act_live f ⟨q, d⟩ hl

theorem actServed_of_live (f : Dev → Dev) {q : List Instr} {d : Dev} (hl : d.live = true) (hs : d.serving = true) :
    actServed f ⟨q, d⟩ = .next ⟨q, Dev.finish d (f d)⟩ :=
  actServed_ready f ⟨q, d⟩ (Bool.and_eq_true_iff.mpr ⟨hl, hs⟩)

/-- A command of the always-on domain, by the block that it comes to. -/
theorem actAlways_of_live {f : Dev → Dev} {q : List Instr} {d t : Dev} (h : f d = t) (hl : t.live = true) :
    actAlways f ⟨q, d⟩ = .next ⟨q, Dev.finish d t⟩ := by
  subst h
  exact actAlways_live f ⟨q, d⟩ hl

theorem actAlways_of_off {f : Dev → Dev} {q : List Instr} {d t : Dev} (h : f d = t) (hl : t.live = false) :
    actAlways f ⟨q, d⟩ = .next ⟨q, t⟩ := by
  subst h
  exact actAlways_off f ⟨q, d⟩ hl

/-- A write that passes the checks, and that its chapter takes. -/
theorem request_accepts {d : Dev} {who : Init} {i j : Nat} {data : List Byte} {f : Dev → Verdict} {t : Dev}
    (h : d.checkWrite who i j data = none) (hf : f d = .ok t) : d.request who i j data f = t.accept := by
  simp only [Dev.request, Dev.tryWrite, h, hf]

end Sys2Proof.Machine
end

section
/-! PROOF. A write that a check of Table 3-2 refuses: which abort codes those checks answer, and that every path of a write, the
submit objects included, leaves the block as it was but for the answer (R9, R45, R48). -/

namespace Sys2Proof.Machine

/-- The abort code of a list of checks is the code of one of them. -/
theorem firstAbort_mem {a : Nat} : ∀ {l : List (Bool × Nat)}, firstAbort l = some a → a ∈ l.map Prod.snd
  | (failed, code) :: rest, h => by
    unfold firstAbort at h
    split at h
    · simp_all
    · exact List.mem_cons_of_mem _ (firstAbort_mem h)

variable {d : Dev} {who : Init} {i j a : Nat} {data : List Byte}

/-- The abort codes of checks 1 to 7 of a write (Table 3-2). -/
def writeCheckCodes : List Nat :=
  [abortIndex, abortSub, abortCommand, abortReadOnly, abortAccess, abortLength, abortRange]

theorem checkWrite_mem (h : d.checkWrite who i j data = some a) : a ∈ writeCheckCodes := by
  unfold Dev.checkWrite at h
  split at h
  · split at h <;> (cases h; decide)
  · have hm := firstAbort_mem h
    simp only [writeCheckCodes, List.map_cons, List.map_nil, List.mem_cons, List.not_mem_nil, or_false] at hm ⊢
    tauto

/-- None of these checks answers the code of success, nor the one that a profile request shows in 2002h/04h (R64). -/
theorem checkWrite_code (h : d.checkWrite who i j data = some a) : a ≠ 0 ∧ a ≠ abortState :=
  (by decide : ∀ c ∈ writeCheckCodes, c ≠ 0 ∧ c ≠ abortState) a (checkWrite_mem h)

/-- Check 5 is the first that fails: the object exists, is no DOMAIN and may be written, but not by this initiator. -/
theorem checkWrite_access {r : ObjRow} (hr : objRow i j = some r) (hi : d.hasIndex i = true) (hty : r.ty ≠ .domain)
    (hro : r.acc ≠ .ro) (hconst : r.acc ≠ .const) (hm : d.mayWrite who i j r = false) :
    d.checkWrite who i j data = some abortAccess := by
  simp [Dev.checkWrite, hr, firstAbort, hi, hty, hro, hconst, hm]

/-- A value in the size of its object is spelled by its own bytes. -/
theorem numData_leNat (h : (objRow i j).bind (fun r => r.ty.size) = some data.length) : numData i j (leNat data) = data := by
  simp only [numData, h, if_pos (leNat_lt data), leBytes_leNat]

theorem request_refused (f : Dev → Verdict) (h : d.checkWrite who i j data = some a) : d.request who i j data f = d.refuse a := by
  simp only [Dev.request, Dev.tryWrite, h, Dev.noteRefusal, (checkWrite_code h).2, and_false, if_false]

/-! ### The objects that answer for themselves -/

theorem submitCommit_refused {n v : Nat} (h : d.checkWrite who (0x2301 + n) 6 (numData (0x2301 + n) 6 v) = some a) :
    d.submitCommit who n v = d.refuse a := by
  simp only [Dev.submitCommit, h]

theorem submitCopy_refused {c v : Nat} (h : d.checkWrite who (copyIndex c) 3 (numData (copyIndex c) 3 v) = some a) :
    d.submitCopy who c v = d.refuse a := by
  simp only [Dev.submitCopy, h]

theorem submitGpuJob_refused {o q v : Nat}
    (h : d.checkWrite who (partIndex o) (queueSub q 2) (numData (partIndex o) (queueSub q 2) v) = some a) :
    d.submitGpuJob who o q v = d.refuse a := by
  simp only [Dev.submitGpuJob, h]

theorem submitCreate_refused {v : Nat} (h : d.checkWrite who 0x25C0 2 (numData 0x25C0 2 v) = some a) :
    d.submitCreate who v = d.refuse a := by
  simp only [Dev.submitCreate, h]

theorem clockRequest_refused {block action : Nat}
    (h : d.checkWrite who 0x2A02 1 (numData 0x2A02 1 (65536 * block + action)) = some a) :
    d.clockRequest who block action = d.refuse a := by
  simp only [Dev.clockRequest, h]

/-- The record of a partition, from the owner that it names (R145). -/
theorem partIndex_partitionOwner (h : 0x2511 ≤ i ∧ i < 0x2571) : partIndex (partitionOwner i) = i := by
  unfold partIndex partitionOwner
  split <;> split <;> omega

/-- The submit object of a queue, from the queue that it names (R147). -/
theorem queueSub_submit (h : 0x10 ≤ j ∧ j % 8 = 2) : queueSub ((j - 0x10) / 8) 2 = j := by
  unfold queueSub
  omega

/-- An object in a size other than its type's has no number to answer for: it is checked as any other write. -/
theorem writeAny_unsized (h : (objRow i j).bind (fun r => r.ty.size) ≠ some data.length) :
    d.writeAny who i j data = d.request who i j data (objectVerdict who i j data) := by
  unfold Dev.writeAny
  cases hs : (objRow i j).bind (fun r => r.ty.size) with
  | none => rfl
  | some n =>
    have hn : (data.length == n) = false := beq_eq_false_iff_ne.mpr fun e => h (by rw [hs, e])
    simp only [hn, Bool.not_false, Bool.true_or, if_true]

/-- Whatever the object and its path: a write that a check refuses changes nothing but the answer. -/
theorem writeAny_refuses (h : d.checkWrite who i j data = some a) : d.writeAny who i j data = d.refuse a := by
  by_cases hsize : (objRow i j).bind (fun r => r.ty.size) = some data.length
  case neg => rw [writeAny_unsized hsize, request_refused _ h]
  cases hself : answersItself i j with
  | false => rw [writeAny_request d who i j data hself, request_refused _ h]
  | true =>
    have hnum := h
    rw [← numData_leNat hsize] at hnum
    unfold Dev.writeAny
    simp only [hsize, hself, beq_self_eq_true, Bool.not_true, Bool.or_self, Bool.false_eq_true, if_false]
    split
    next hcommit =>
      obtain ⟨n, rfl⟩ := Nat.exists_eq_add_of_le hcommit.1
      obtain ⟨_, _, rfl⟩ := hcommit
      rw [Nat.add_sub_cancel_left]
      exact submitCommit_refused hnum
    split
    next hcopy =>
      obtain ⟨c, rfl⟩ := Nat.exists_eq_add_of_le hcopy.1
      obtain ⟨_, _, rfl⟩ := hcopy
      rw [Nat.add_sub_cancel_left]
      exact submitCopy_refused hnum
    split
    next hgpu =>
      obtain ⟨hi, hi', hj⟩ := hgpu
      apply submitGpuJob_refused
      rw [partIndex_partitionOwner ⟨hi, hi'⟩, queueSub_submit hj]
      exact hnum
    split
    next hcreate =>
      obtain ⟨rfl, rfl⟩ := hcreate
      exact submitCreate_refused hnum
    split
    next hprofile =>
      obtain ⟨rfl, rfl⟩ := hprofile
      exact request_refused _ hnum
    split
    next => exact request_refused _ h
    obtain ⟨rfl, rfl⟩ : i = 0x2A02 ∧ j = 1 := by
      simp only [answersItself, Bool.or_eq_true, Bool.and_eq_true, decide_eq_true_eq, beq_iff_eq] at hself
      omega
    apply clockRequest_refused
    rw [Nat.mul_comm, Nat.div_add_mod']
    exact hnum

/-- A store to the slot of an object whose write is refused returns a bus error with the abort code (R48). -/
theorem mappedStore_refuses {addr : Nat} (ho : objectAt addr = (i, j, 0)) (hw : windowAt addr = none) (hc : onChip who = true)
    (hf : d.mappedFits addr data.length = true) (h : d.checkWrite who i j data = some a) :
    d.mappedStore who addr data = d.busError a := by
  simp only [Dev.mappedStore, hc, hw, hf, ho, Bool.not_true, Bool.false_eq_true, if_false, writeAny_refuses h]
  exact if_neg (checkWrite_code h).1

/-- OBJECT_WRITE of an object by its name, while the island serves. -/
theorem exec_objectWrite_named {q : List Instr} (hl : d.live = true) (hs : d.serving = true) :
    exec (.objectWrite who (.object i) j data) ⟨q, d⟩ = .next ⟨q, Dev.finish d (d.writeAny who i j data)⟩ := by
  rw [exec_objectWrite, execObjectWrite, actServed_of_live _ hl hs]

/-- OBJECT_WRITE of a control space by its address, while the island serves. -/
theorem exec_objectWrite_mapped {q : List Instr} {addr : Nat} (hl : d.live = true) (hs : d.serving = true) :
    exec (.objectWrite who .address addr data) ⟨q, d⟩ = .next ⟨q, Dev.finish d (d.mappedStore who addr data)⟩ := by
  rw [exec_objectWrite, execObjectWrite, actServed_of_live _ hl hs]

end Sys2Proof.Machine

open Sys2Proof Sys2Proof.Machine

/-- Settles O10: every path of a write refuses it before any effect, with the check's own code. -/
theorem refusedWritesChangeNothing : Obligations.refused_writes_change_nothing := by
  intro q d who i j a b hl hs h
  constructor
  · rw [exec_objectWrite_named hl hs, writeAny_refuses h]
    rfl
  · intro addr ho hw hc hf
    rw [exec_objectWrite_mapped hl hs, mappedStore_refuses ho hw hc hf h]

/-- Settles O11 by O10: check 5 is the first that fails, and its code is 0601_0000h. -/
theorem onlyTheOwnerConfiguresABlock : Obligations.only_the_owner_configures_a_block := by
  intro q d who i j b r hl hs hr hi hty hro hconst hdenied
  have hm : d.mayWrite who i j r = false := by
    rcases hdenied with h | h <;> simp [Dev.mayWrite, h]
  exact (refusedWritesChangeNothing q d who i j _ b hl hs (checkWrite_access hr hi hty hro hconst hm)).1
end

section
/-! PROOF. The commands of the power profiles, the edge latches, the thermal steps, the supply and PERST# (R13, R14, R311, R408,
R414 to R416): each is its meaning, at the branch that its condition names. -/

namespace Sys2Proof.Machine

variable {d : Dev}

/-- While everything runs, a request for Full, Balanced or Cool is taken unless Cool is too slow for the outputs (R14). -/
theorem profileVerdict_profile {who : Init} {v : Nat} (hp : d.power.phase = .running) (hv : v ≤ 2)
    (hc : d.coolTooFast v = false) : profileVerdict who v d = .ok (d.setO 0x2002 1 v).followProfile := by
  simp [profileVerdict, hp, hv, hc]

/-- While everything runs, a request for Keep-alive or Sleep starts the entry unless a hand-over or an update forbids it (R414). -/
theorem profileVerdict_entry {who : Init} {v : Nat} (hp : d.power.phase = .running) (hv : 2 < v)
    (hk : d.keepAliveRefused = false) : profileVerdict who v d = .ok (d.enterKeepAlive v) := by
  simp [profileVerdict, hp, Nat.not_le.mpr hv, hk]

/-- The entry ends in Keep-alive when nothing came meanwhile and Sleep was not asked for. -/
theorem entryEnds_keepAlive (hp : d.power.phase = .entering) (hn : d.beginKeepAlive.power.later = none)
    (hs : d.beginKeepAlive.power.toSleep = false) (hw : d.beginKeepAlive.power.wakeEdge = false) :
    d.entryEnds = d.beginKeepAlive := by
  simp [Dev.entryEnds, hp, hn, hs, hw]

/-- With the logic off, a rising edge that a latch without WAKE chooses sets the latch and wakes nothing (R311). -/
theorem edge_latches {n : Nat} (hl : d.live = false) (hr : (d.latchWord n).testBit 0 = true)
    (hw : (d.latchWord n).testBit 2 = false) :
    d.edge n true = d.setKept { d.kept with latched := tabSet false d.kept.latched n true } := by
  simp [Dev.edge, hl, hr, hw]

theorem stepBack_pos (h : d.thermalStep ≠ 0) :
    d.stepBack = (d.putStep (d.thermalStep - 1)).log 0xA0 0xA002 0xFF 0xFF [d.thermalStep - 1] := by
  simp only [Dev.stepBack, h, if_false]

end Sys2Proof.Machine

open Sys2Proof Sys2Proof.Machine

/-- Settles O39: each command's meaning, at the branch that the clause names. The operands of the supply and the junctions, and the
step back without a second look at the temperature, are the model's choice (assumption log 67). -/
theorem powerCompletes : Obligations.power_completes := by
  refine ⟨?profile, ?keepAlive, ?sleep, ?entry, ?approach, ?canWake, ?edge, ?heat, ?back, ?shutdown, ?vin, ?detect, ?held⟩
  case profile =>
    intro q d who v hl hs hc hp hv hcool
    rw [exec_profileRequest, execProfileRequest, actServed_of_live _ hl hs, Dev.requestProfile,
      request_accepts hc (profileVerdict_profile hp hv hcool)]
  case keepAlive =>
    intro q d who hl hs hc hp hk
    rw [exec_keepAliveRequest, execKeepAliveRequest, actServed_of_live _ hl hs, Dev.requestProfile,
      request_accepts hc (profileVerdict_entry hp (by decide) hk)]
    rfl
  case sleep =>
    intro q d who hl hs hc hp hk
    rw [exec_sleepRequest, execSleepRequest, actServed_of_live _ hl hs, Dev.requestProfile,
      request_accepts hc (profileVerdict_entry hp (by decide) hk)]
    rfl
  case entry =>
    intro q d hl hp _ _ hlater hsleep hwake
    rw [exec_keepAliveEntryComplete, execKeepAliveEntryComplete, act_of_live _ hl, entryEnds_keepAlive hp hlater hsleep hwake]
  case approach =>
    intro q d p hl hn hp hon hbit happ
    rw [exec_keepAliveExit, execKeepAliveExit, act_of_live _ hl, onUnit_lt hn, if_pos ⟨hp, hon, hbit, happ⟩]
  case canWake =>
    intro q d p hn hp hw
    simp only [exec_canWakePattern, execCanWakePattern, actAlways, onUnit_lt hn, hp, hw, decide_true, Bool.and_self, if_true]
  case edge =>
    intro q d n hl hn hr hw
    rw [exec_edgeLatchSet, execEdgeLatchSet]
    exact actAlways_of_off ((onUnit_lt hn _ d).trans (edge_latches hl hr hw)) hl
  case heat =>
    intro q d a b x hl
    rw [exec_thermalStepDown, execThermalStepDown, act_of_live _ hl]
  case back =>
    intro q d hl hstep
    rw [exec_thermalReturnExpiry, execThermalReturnExpiry, act_of_live _ hl, stepBack_pos hstep]
  case shutdown =>
    intro q d hl
    rw [exec_thermalShutdown, execThermalShutdown, act_of_live _ hl]
  case vin =>
    intro q d v hl
    rw [exec_vinThresholdEvent, execVinThresholdEvent, act_of_live _ hl]
  case detect =>
    intro q d p hl ha hn hx hk
    have hgo : (d.live && d.awake && d.portExists p && !(tabGet false d.host.linked p)) = true := by simp [hl, ha, hx, hk]
    rw [exec_perstDeassertion, execPerstDeassertion]
    exact actAlways_of_live ((onUnit_lt hn _ d).trans (if_pos hgo)) hl
  case held =>
    intro q d p hl hn
    have hstay : ¬(d.live && d.awake && d.portExists p && !(tabGet false d.host.linked p)) = true := by simp [hl]
    rw [exec_perstDeassertion, execPerstDeassertion]
    exact actAlways_of_off ((onUnit_lt hn _ d).trans (if_neg hstay)) hl
end

section
/-! PROOF. The device clock (R37, R38): one cycle of the reference adds the rounded step of the rate, and a slew spends no more
than its offset; the offset, the trim, the end of a slew and a TIME object, each as its meaning at the branch that a clause names. -/

namespace Sys2Proof.Machine

variable {d : Dev}

/-- A request that passes the checks, to a chapter that takes every value. -/
theorem request_takes {who : Init} {i j : Nat} {data : List Byte} {f : Dev → Dev} (h : d.checkWrite who i j data = none) :
    d.request who i j data (fun d => .ok (f d)) = (f d).accept :=
  request_accepts h rfl

/-! ### The step -/

/-- The rounding of R37: to the nearest unit, with halves up. -/
theorem clockStepAt_rounded {slew : Int} (h : 0 ≤ 1000000000 + d.getI 0x2100 0x0A 32 + slew) :
    -38400000 < 2 * ((d.clockStepAt slew : Int) * 38400000 - 2 ^ 32 * (1000000000 + d.getI 0x2100 0x0A 32 + slew)) ∧
    2 * ((d.clockStepAt slew : Int) * 38400000 - 2 ^ 32 * (1000000000 + d.getI 0x2100 0x0A 32 + slew)) ≤ 38400000 := by
  simp only [Dev.clockStepAt]
  omega

/-- With trim 0 and no slew, the step is the 111 848 106 667 units of R37. -/
theorem clockStepAt_nominal (h : d.getI 0x2100 0x0A 32 = 0) : d.clockStepAt 0 = 111848106667 := by
  simp only [Dev.clockStepAt, h]
  decide

/-! ### The clock as one number -/

/-- The 64-bit clock and its 32 fraction bits, taken as one number (R37). -/
def Clock.units (c : Clock) : Int := (c.ns * 2 ^ 32 + c.frac : Nat)

theorem units_move (c : Clock) (m : Int) : (c.move m).units = (c.units + m) % 2 ^ 96 := by
  simp only [Clock.units, Clock.move]
  omega

@[simp] theorem move_slew (c : Clock) (m : Int) : (c.move m).slew = c.slew := rfl
@[simp] theorem move_left (c : Clock) (m : Int) : (c.move m).left = c.left := rfl

theorem move_frac_lt (c : Clock) (m : Int) : (c.move m).frac < 2 ^ 32 :=
  Nat.mod_lt _ (by decide)

/-! ### The slew -/

/-- A cycle spends no more of an offset than is left. -/
theorem slewGain_natAbs_le : d.slewGain.natAbs ≤ d.clock.left.natAbs := by
  simp only [Dev.slewGain]
  split <;> omega

/-- A cycle spends what the slew makes of the step, unless no more than that is left. -/
theorem slewGain_full_or_rest :
    d.slewGain = (d.clockStepAt d.clock.slew : Int) - d.clockStepAt 0 ∨ d.clock.left - d.slewGain = 0 := by
  simp only [Dev.slewGain]
  split
  · exact .inr (Int.sub_self _)
  · exact .inl rfl

/-! ### One cycle -/

theorem clockTick_steady (h : d.clock.slew = 0) : d.clockTick.clock = d.clock.move (d.clockStepAt 0) := by
  simp only [Dev.clockTick, h, if_true, Dev.clockStep]

theorem clockTick_slewing (h : d.clock.slew ≠ 0) :
    d.clockTick.clock = { d.clock.move (d.clockStepAt 0 + d.slewGain) with
      left := d.clock.left - d.slewGain, slew := if d.clock.left - d.slewGain = 0 then 0 else d.clock.slew } := by
  simp only [Dev.clockTick, h, if_false]
  rfl

theorem clockTick_frac_lt : d.clockTick.clock.frac < 2 ^ 32 := by
  by_cases h : d.clock.slew = 0
  · rw [clockTick_steady h]
    exact move_frac_lt ..
  · rw [clockTick_slewing h]
    exact move_frac_lt ..

theorem clockTick_steady_units (h : d.clock.slew = 0) :
    d.clockTick.clock.units = (d.clock.units + d.clockStepAt 0) % 2 ^ 96 := by
  rw [clockTick_steady h, units_move]

/-- A slewing cycle moves the clock by the step and what it spends. -/
theorem clockTick_slewing_units (h : d.clock.slew ≠ 0) :
    d.clockTick.clock.units = (d.clock.units + d.clockStepAt 0 + d.slewGain) % 2 ^ 96 := by
  rw [Int.add_assoc, ← units_move, clockTick_slewing h]
  rfl

/-- On the empty queue the running logic ticks (assumption log 3). -/
theorem step_empty_live {d : Dev} (h : d.live = true) : step ⟨[], d⟩ = .next ⟨[], Dev.finish d d.clockTick.refreshMirrors⟩ :=
  act_live Dev.tick ⟨[], d⟩ h

theorem step_empty_off {d : Dev} (h : d.live = false) : step ⟨[], d⟩ = .next ⟨[], d⟩ :=
  act_off Dev.tick ⟨[], d⟩ h

/-! ### Offsets -/

/-- An offset forward of at most 1 ms is slewed out, in place of one not yet spent (R38). -/
theorem clockOffset_slews {v : Int} (h0 : 0 < v) (h1 : v ≤ 1000000) :
    d.clockOffset v = { d with clock := { d.clock with
      left := v * 4294967296, slew := ((1 + Config.slewRate v % 500000 : Nat) : Int) } } := by
  have hsmall : v.natAbs ≤ 1000000 := by omega
  have hne : v ≠ 0 := by omega
  simp only [Dev.clockOffset, hsmall, hne, h0, if_true, if_false]
  rfl

/-- An offset forward of more than 1 ms steps the clock, is held in 2100h/0Bh and logged (R38). -/
theorem clockOffset_steps {v : Int} (h : 1000000 < v) :
    d.clockOffset v = (({ d with clock := { d.clock with
      left := 0, slew := 0, ns := (((d.clock.ns : Int) + v) % (2 ^ 64 : Int)).toNat } } : Dev).setI 0x2100 0x0B 64 v).log
        0x08 0x805 0 0xFF [ofSigned 64 v] := by
  have hlarge : ¬v.natAbs ≤ 1000000 := by omega
  simp only [Dev.clockOffset, hlarge, if_false]

/-- A TIME object sets the clock to its time, when CAN TIME is the source (R37). -/
theorem timeTarget_selected (days ms : Nat) (h : d.getO 0x2100 0x08 = 1) :
    d.timeTarget days ms = d.clockOffset (((days * 86400000 + ms) * 1000000 : Nat) - (d.clock.ns : Int)) :=
  if_pos h

end Sys2Proof.Machine

open Sys2Proof Sys2Proof.Machine

/-- Settles O2: the tick is the meaning of the empty queue, and acts as every command of the running logic does. -/
theorem anEmptyQueueTicks : Obligations.an_empty_queue_ticks := by
  intro d
  exact ⟨step_empty_live, step_empty_off⟩

/-- Settles O12: the step is that of the rate without the slew, and what a slewing cycle adds to it is `Dev.slewGain`. -/
theorem deviceClockAdvances : Obligations.device_clock_advances := by
  intro d hfull hstep rounded old new
  refine ⟨d.clockStepAt 0, d.clockStepAt d.clock.slew, ?step, ?full, clockTick_frac_lt, clockStepAt_nominal, ?steady, ?slewing⟩
  case step => simpa only [Int.add_zero] using clockStepAt_rounded (d := d) (slew := 0) (by omega)
  case full => exact clockStepAt_rounded (by omega)
  case steady =>
    intro h
    exact ⟨clockTick_steady_units h, by rw [clockTick_steady h, move_slew, h]⟩
  case slewing =>
    intro h
    refine ⟨d.slewGain, clockTick_slewing_units h, ?_, slewGain_natAbs_le, ?_, ?_⟩
    · rw [clockTick_slewing h]
    · rw [clockTick_slewing h]
      exact slewGain_full_or_rest
    · rw [clockTick_slewing h]

/-- Settles O14: each command's meaning, at the branch that the clause names. That the rate of a slew lies in 0.001 ppm to
500 ppm, and that a slew which ends adds the whole of what is left, are the model's choice (assumption log 15). -/
theorem clockCommandsComplete : Obligations.clock_commands_complete := by
  refine ⟨?slew, ?step, ?trim, ?spent, ?time⟩
  case slew =>
    intro q d who v hl hs hc h0 h1
    rw [exec_clockOffsetWrite, execClockOffsetWrite, actServed_of_live _ hl hs,
      request_takes hc, clockOffset_slews h0 h1]
  case step =>
    intro q d who v hl hs hc h
    rw [exec_clockOffsetWrite, execClockOffsetWrite, actServed_of_live _ hl hs,
      request_takes hc, clockOffset_steps h]
  case trim =>
    intro q d who v hl hs hc
    rw [exec_rateTrimWrite, execRateTrimWrite, actServed_of_live _ hl hs, request_takes hc]
  case spent =>
    intro q d hl
    rw [exec_offsetSlewSpent, execOffsetSlewSpent, act_of_live _ hl]
    rfl
  case time =>
    intro q d p days ms hl hs hp hopen hnode hsource
    rw [exec_timeReceived, execTimeReceived, actServed_of_live _ hl hs, onUnit_lt hp]
    simp only [hopen, hnode, Bool.and_self, if_true, timeTarget_selected _ _ hsource]
end

section
/-! PROOF. The commands of rods and beads (R17 to R29, R69, R458): each is its meaning, at the branch that a clause names. -/

namespace Sys2Proof.Machine

variable {d : Dev} {r : Nat}

/-! ### The advance of a line -/

/-- Pulses count lines beside the objects: the rods' states and positions are as they were. -/
@[simp] theorem rodRuns_pulseLine (r' : Nat) : (d.pulseLine r).rodRuns r' = d.rodRuns r' := rfl
@[simp] theorem rodFrame_pulseLine (r' : Nat) : (d.pulseLine r).rodFrame r' = d.rodFrame r' := rfl
@[simp] theorem rodLine_pulseLine (r' : Nat) : (d.pulseLine r).rodLine r' = d.rodLine r' := rfl
@[simp] theorem rodLines_pulseLine (r' : Nat) : (d.pulseLine r).rodLines r' = d.rodLines r' := rfl

theorem rodRuns_of_stopped (h : d.rodState r = 0) : d.rodRuns r = false := by
  simp [Dev.rodRuns, h]

/-- Inside a frame the line rises by one (R17). -/
theorem nextLine_inside (late : Nat) (hr : d.rodRuns r = true) (h : d.rodLine r + 1 < d.rodLines r) :
    d.nextLine r late = ((d.pulseLine r).setPosition r (d.rodFrame r) (d.rodLine r + 1)).lineStarts r late := by
  simp [Dev.nextLine, hr, h]

/-- A free rod goes from its last line to line 0 of the next frame (R17). -/
theorem nextLine_frame_free (late : Nat) (hr : d.rodRuns r = true) (h8 : 8 ≤ r) (h : d.rodLines r ≤ d.rodLine r + 1) :
    d.nextLine r late = ((d.pulseLine r).setPosition r ((d.rodFrame r + 1) % 2 ^ 48) 0).lineStarts r late := by
  simp [Dev.nextLine, hr, Nat.not_lt.mpr h, Nat.not_lt.mpr h8]

/-- The rod of an output ends its frame before line 0 of the next, which starts if the rod still runs (R17, R79). -/
theorem nextLine_frame_output {x : Dev} (late : Nat) (hx : ((d.pulseLine r).drawEnds r (d.rodLines r)).endDisable r = x)
    (hr : d.rodRuns r = true) (h8 : r < 8) (h : d.rodLines r ≤ d.rodLine r + 1) (hstill : x.rodRuns r = true) :
    d.nextLine r late = (x.setPosition r ((x.rodFrame r + 1) % 2 ^ 48) 0).lineStarts r late := by
  subst hx
  simp [Dev.nextLine, hr, Nat.not_lt.mpr h, h8, hstill]

theorem nextLine_stopped (late : Nat) (h : d.rodState r = 0) : d.nextLine r late = d := by
  simp [Dev.nextLine, rodRuns_of_stopped h]

/-! ### Pulses -/

/-- When every pulse on the ball is over, what is left are the pulses of the other ball. -/
theorem pulses_left {ps : List Pulse} {ball : Nat} (h : ∀ p ∈ ps, p.ball = ball → p.lines = 0) :
    ps.filter (fun p => !(p.ball == ball && p.lines == 0)) = ps.filter (fun p => p.ball != ball) := by
  refine List.filter_congr fun p hp => ?_
  by_cases hb : p.ball = ball
  · simp [hb, h p hp hb]
  · have hother : (p.ball == ball) = false := beq_eq_false_iff_ne.mpr hb
    simp only [hother, Bool.false_and, Bool.not_false, bne]

theorem pulses_other_free (ps : List Pulse) (ball : Nat) :
    (ps.filter (fun p => p.ball != ball)).any (fun p => p.ball == ball) = false := by
  simp

/-! ### Free rods -/

/-- The record of a rod holds its state apart from its other objects. -/
theorem rodState_setO_other {j : Nat} (hj : j < 256) (h : j ≠ 2) (v : Nat) :
    (d.setO (rodIndex r) j v).rodState r = d.rodState r :=
  getO_setO_other d (objKey_ne hj (by decide) (.inr h.symm)) v

theorem freeRun_starts (h : d.rodState r = 0) : d.freeRun r 1 = (d.setO (rodIndex r) 8 1).startRod r := by
  have hstopped : (d.setO (rodIndex r) 8 1).rodRuns r = false :=
    rodRuns_of_stopped (by rw [rodState_setO_other (by decide) (by decide), h])
  simp [Dev.freeRun, hstopped]

theorem freeRun_stops : d.freeRun r 0 = (d.setO (rodIndex r) 8 0).stopRod r := rfl

/-! ### Locks -/

/-- A lock source other than None, which closes no loop, is taken, and the lock starts afresh (R22). -/
theorem lockSourceVerdict_taken {v : Nat} (hloop : 0x10 ≤ v → v ≤ 0x1B → d.lockReaches r 13 (v - 0x10) = false) (hv : v ≠ 0) :
    lockSourceVerdict r v d = .ok ((d.setO (rodIndex r) 0x0A v).lockFresh r) := by
  have hfree : ¬(0x10 ≤ v ∧ v ≤ 0x1B ∧ d.lockReaches r 13 (v - 0x10) = true) := by
    rintro ⟨hlo, hhi, hreach⟩
    exact Bool.false_ne_true ((hloop hlo hhi).symm.trans hreach)
  simp only [lockSourceVerdict, hfree, hv, false_and, if_false]

/-- The first reference event of a Free rod counts one, and shows the phase error (R23, R24). -/
theorem lockEvent_first {phase trim : Int} (hst : d.rodState r = 1) (hsrc : d.getO (rodIndex r) 0x0A ≠ 0)
    (hsee : d.lockBlind r = false) (hgood : (d.rod r).good = 0) :
    d.lockEvent r phase trim =
      (d.setI (rodIndex r) 0x13 32 (clampInt (-2147483648) 2147483647 (phase - d.getI (rodIndex r) 0x0C 32))).setRod r
        { d.rod r with good := 1 } := by
  have hrod : ∀ v : Int, (d.setI (rodIndex r) 0x13 32 v).rod r = d.rod r := fun _ => rfl
  simp [Dev.lockEvent, hst, hsrc, hsee, hrod, hgood]

/-- An absent reference takes Acquire and Track to Holdover (R24). -/
theorem lockAbsent_holds (h : d.rodState r = 2 ∨ d.rodState r = 3) :
    d.lockAbsent r = ((d.setRod r { d.rod r with markAt := none }).setRodState r 4).lockFresh r :=
  if_pos h

/-- Holdover that expires goes to Free, its trim slewing to 0 (R24). -/
theorem lockExpired_frees (h : d.rodState r = 4) :
    d.lockExpired r = ((d.setRodState r 1).lockFresh r).setRod r { ((d.setRodState r 1).lockFresh r).rod r with slewing := true } :=
  if_pos h

/-! ### Beads -/

/-- A bead word in range, whose action belongs to the slot's owner and whose line has room, is taken (R26, R28, R29). -/
theorem beadWordVerdict_taken {slot v : Nat} (hrod : beadRod v < 12) (hline : beadLine v < d.rodVtotal (beadRod v))
    (hfarg : fargOk v = true) (hser : seriesOk v (d.actionWord slot) = true)
    (hown : beadEn v = true → d.actionOwned (d.owner (blockId 10 slot)) (d.actionWord slot) = true)
    (hroom : beadEn v = true → isSeries (d.actionWord slot) = false → d.armedOn slot (beadRod v) (beadLine v) < 32) :
    beadWordVerdict slot v d = .ok (d.writePair slot (setBits (setBits v 60 3 0) 32 4 0) (d.actionWord slot)) := by
  have hrange : (decide (11 < beadRod v) || decide (d.rodVtotal (beadRod v) ≤ beadLine v) || !fargOk v
      || !seriesOk v (d.actionWord slot)) = false := by
    simp [hfarg, hser]; omega
  have howned : (beadEn v && !d.actionOwned (d.owner (blockId 10 slot)) (d.actionWord slot)) = false := by
    cases hen : beadEn v <;> simp [hown, hen]
  have hfits : (beadEn v && !isSeries (d.actionWord slot) && decide (32 ≤ d.armedOn slot (beadRod v) (beadLine v))) = false := by
    cases hen : beadEn v <;> cases hs : isSeries (d.actionWord slot) <;> simp [hroom, hen, hs]
  simp only [beadWordVerdict, hrange, howned, hfits, Bool.false_eq_true, if_false]

/-- The action word of a bead that is not armed is taken, when it is in range and belongs to the slot's owner (R27, R28). -/
theorem actionWordVerdict_taken {slot v : Nat} (hen : beadEn (d.beadWord slot) = false) (harg : argOk (setBits v 32 24 0) = true)
    (hown : d.actionOwned (d.owner (blockId 10 slot)) (setBits v 32 24 0) = true) :
    actionWordVerdict slot v d = .ok (d.writePair slot (d.beadWord slot) (setBits v 32 24 0)) := by
  simp [actionWordVerdict, hen, harg, hown]

/-! ### Pixel PLLs -/

/-- An output on its way out of Off shows Standby, starts its rod and follows its request (R69). -/
theorem pllLocked_releases {n hz : Nat} (hrun : d.pixelStopped n = false) (hlock : (d.output n).locking = true) :
    d.pllLocked n hz = (((((d.setO (outputIndex n + 2) 0x0F hz).setOutput n { d.output n with locking := false }).setOutState n
      1).startRod n).followRequest n).offerList n := by
  simp only [Dev.pllLocked, hrun, hlock, Bool.false_eq_true, if_false, if_true]
  rfl

/-- A rod held for a relock trains its port and starts again (R35, R72). -/
theorem pllLocked_relocks {n hz : Nat} (hrun : d.pixelStopped n = false) (hlock : (d.output n).locking = false)
    (hre : (d.rod n).relock = true) :
    d.pllLocked n hz = ((d.setO (outputIndex n + 2) 0x0F hz).relockState n).startRod n := by
  simp only [Dev.pllLocked, hrun, hlock, hre, Bool.false_eq_true, if_false, if_true]

/-! ### The commands, on a unit of the device -/

section
variable {q : List Instr} {who : Init}

/-- The advance of the rod's line, while the logic runs. -/
theorem exec_rodAdvanceLine_live (late : Nat) (hl : d.live = true) (hr : r < 12) :
    exec (.rodAdvanceLine r late) ⟨q, d⟩ = .next ⟨q, Dev.finish d (d.nextLine r late)⟩ := by
  rw [exec_rodAdvanceLine, execRodAdvanceLine, act_of_live _ hl, onUnit_lt hr]

/-- A write of the run object that passes the checks. -/
theorem exec_freeRunWrite_taken {v : Nat} (hl : d.live = true) (hs : d.serving = true) (hr : r < 12)
    (hc : d.checkWrite who (rodIndex r) 8 (numData (rodIndex r) 8 v) = none) :
    exec (.freeRunWrite who r v) ⟨q, d⟩ = .next ⟨q, Dev.finish d (d.freeRun r v).accept⟩ := by
  rw [exec_freeRunWrite, execFreeRunWrite, actServed_of_live _ hl hs, onUnit_lt hr, request_takes hc]

end

end Sys2Proof.Machine

open Sys2Proof Sys2Proof.Machine

/-- Settles O13: each command's meaning, at the branch that the clause names. -/
theorem rodsAndBeadsComplete : Obligations.rods_and_beads_complete := by
  refine ⟨?inside, ?freeFrame, ?outputFrame, ?stopped, ?release, ?starts, ?stops, ?timing, ?source, ?event, ?absent, ?expiry,
    ?beadWord, ?actionWord, ?locked, ?relocked⟩
  case inside =>
    intro q d r late hl hr hruns hline
    rw [exec_rodAdvanceLine_live late hl hr, nextLine_inside late hruns hline]
  case freeFrame =>
    intro q d r late hl h8 hr hruns hline
    rw [exec_rodAdvanceLine_live late hl hr, nextLine_frame_free late hruns h8 hline]
  case outputFrame =>
    intro q d r late hl h8 hruns hline hstill
    rw [exec_rodAdvanceLine_live late hl (by omega), nextLine_frame_output late rfl hruns h8 hline hstill]
  case stopped =>
    intro q d r late hl hr hst
    rw [exec_rodAdvanceLine_live late hl hr, nextLine_stopped late hst]
  case release =>
    intro q d ball hl hb hover
    rw [exec_syncOutRelease, execSyncOutRelease, act_of_live _ hl, onUnit_lt hb]
    simp only [pulses_left hover, pulses_other_free, Bool.false_eq_true, if_false]
  case starts =>
    intro q d who r hl hs _ hr hc hst
    rw [exec_freeRunWrite_taken hl hs hr hc, freeRun_starts hst]
  case stops =>
    intro q d who r hl hs _ hr hc
    rw [exec_freeRunWrite_taken hl hs hr hc, freeRun_stops]
  case timing =>
    intro q d who r sub v hl hs hr hsub hc
    rw [exec_freeRodTimingWrite, execFreeRodTimingWrite, actServed_of_live _ hl hs, onUnit_lt hr, if_pos hsub,
      request_accepts (t := d.setO (rodIndex r) sub v) hc rfl]
  case source =>
    intro q d who r v hl hs hr hc hloop hv
    rw [exec_lockSourceWrite, execLockSourceWrite, actServed_of_live _ hl hs, onUnit_lt hr,
      request_accepts hc (lockSourceVerdict_taken hloop hv)]
  case event =>
    intro q d r phase trim hl hr hst hsrc hsee hgood
    rw [exec_lockReferenceEvent, execLockReferenceEvent, act_of_live _ hl, onUnit_lt hr, lockEvent_first hst hsrc hsee hgood]
  case absent =>
    intro q d r hl hr hst
    rw [exec_lockReferenceAbsent, execLockReferenceAbsent, act_of_live _ hl, onUnit_lt hr, lockAbsent_holds hst]
  case expiry =>
    intro q d r hl hr hst
    rw [exec_holdoverExpiry, execHoldoverExpiry, act_of_live _ hl, onUnit_lt hr, lockExpired_frees hst]
  case beadWord =>
    intro q d who slot v hl hs hslot hc hrod hline hfarg hser hown hroom
    rw [exec_beadWordWrite, execBeadWordWrite, actServed_of_live _ hl hs, onUnit_lt hslot,
      request_accepts hc (beadWordVerdict_taken hrod hline hfarg hser hown hroom)]
  case actionWord =>
    intro q d who slot v hl hs hslot hc hen harg hown
    rw [exec_actionWordWrite, execActionWordWrite, actServed_of_live _ hl hs, onUnit_lt hslot,
      request_accepts hc (actionWordVerdict_taken hen harg hown)]
  case locked =>
    intro q d n hz hl ha hn hrun hlock
    rw [exec_pixelPllLocked, execPixelPllLocked, act_of_live _ hl, onUnit_lt hn, if_pos ha, pllLocked_releases hrun hlock]
  case relocked =>
    intro q d n hz hl ha hn hrun hlock hre
    rw [exec_pixelPllLocked, execPixelPllLocked, act_of_live _ hl, onUnit_lt hn, if_pos ha, pllLocked_relocks hrun hlock hre]
end

section
/-! PROOF. The queue of commands (R46): a command at its front runs, whatever it is, and the rest of the queue is as it was; and the
state after reset owes no end of an error (R59). -/

namespace Sys2Proof.Machine

/-- Whatever the command and the block, the answer is a next state, and no queued command is touched. -/
theorem exec_next (c : Instr) (q : List Instr) (d : Dev) : ∃ d' : Dev, exec c ⟨q, d⟩ = .next ⟨q, d'⟩ := by
  rcases exec_form c with ⟨_, f, hf⟩ | ⟨_, f, hf⟩
  · exact ⟨_, hf ⟨q, d⟩⟩
  · exact ⟨_, hf ⟨q, d⟩⟩

/-- A run goes on behind a step that answers a next state. -/
theorem run_succ_of_step {s t : State} (h : step s = .next t) (k : Nat) : core.run (k + 1) s = core.run k t := by
  have hcore : core.step s = .next t := h
  simp only [Host.Core.run, hcore]

/-- Where no EMCY has been sent, none has an end to report. -/
theorem errorsShown_of_unsent {d : Dev} (h : d.can.shown = false) : d.errorsShown := by
  intro _ hshown
  exact absurd (h.symm.trans hshown) Bool.false_ne_true

end Sys2Proof.Machine

open Sys2Proof Sys2Proof.Machine

/-- Settles O1: a step with a command at the front is, by its definition, that command's `exec`. -/
theorem stepRunsTheFrontCommand : Obligations.step_runs_the_front_command := by
  intro c rest d
  rfl

/-- Settles O4, by induction on the commands: each answers a next state (`exec_next`), from which the rest run. -/
theorem commandsRunToTheEndInOrder : Obligations.commands_run_to_the_end_in_order := by
  intro l q
  induction l with
  | nil => exact fun d => ⟨d, rfl⟩
  | cons c l ih =>
    intro d
    obtain ⟨d₁, hc⟩ := exec_next c (l ++ q) d
    obtain ⟨d₂, hl⟩ := ih d₁
    exact ⟨d₂, (run_succ_of_step ((stepRunsTheFrontCommand c (l ++ q) d).trans hc) l.length).trans hl⟩

/-- Settles O7: nothing has been sent at reset. -/
theorem errorsAreShownAtReset : Obligations.errors_are_shown_at_reset :=
  errorsShown_of_unsent rfl
end

section
/-! PROOF. Writes of plain objects, of the objects that answer for themselves, of the error history and of the store (R45, R48, R60,
R62, R63): each is its meaning, at the branch that a clause names. -/

namespace Sys2Proof.Machine

variable {d t : Dev} {who : Init} {data : List Byte}

/-! ### The paths of a write -/

/-- An index without a chapter of its own, beyond the communication objects, is a plain setting. -/
theorem objectVerdict_plain {i : Nat} (h : i / 256 = 0x50) (j : Nat) :
    objectVerdict who i j data d = .ok (d.setO i j (leNat data)) := by
  have hcomm : ¬ i < 0x2000 := by omega
  simp only [objectVerdict, h, hcomm, if_false, Dev.plain]

/-- A store to the slot of an object that is accepted is the write of the object. -/
theorem mappedStore_accepts {addr i j : Nat} (hc : onChip who = true) (hw : windowAt addr = none)
    (hf : d.mappedFits addr data.length = true) (ho : objectAt addr = (i, j, 0)) (hself : answersItself i j = false)
    (hcheck : d.checkWrite who i j data = none) (hv : objectVerdict who i j data d = .ok t) :
    d.mappedStore who addr data = t.accept := by
  simp only [Dev.mappedStore, hc, hw, hf, ho, Bool.not_true, Bool.false_eq_true, if_false, writeAny_accepts hself hcheck hv]
  exact if_pos rfl

/-! ### The objects that answer for themselves -/

theorem commitSubmit_size : ∀ n < 8, (objRow (0x2301 + n) 6).bind (fun r => r.ty.size) = some 8 := by decide

theorem copySubmit_size : ∀ c < 32, (objRow (0x2401 + c) 3).bind (fun r => r.ty.size) = some 8 := by decide

theorem gpuSubmit_size : ∀ m < 96, ∀ k < 4, (objRow (0x2511 + m) (0x12 + 8 * k)).bind (fun r => r.ty.size) = some 8 := by
  decide

theorem createSubmit_size : (objRow 0x25C0 2).bind (fun r => r.ty.size) = some 8 := by decide

theorem profile_size : (objRow 0x2002 1).bind (fun r => r.ty.size) = some 1 := by decide

theorem writeAny_commit {n : Nat} (hn : n < 8) (h : data.length = 8) :
    d.writeAny who (0x2301 + n) 6 data = d.submitCommit who n (leNat data) := by
  have hrecord : 0x2301 + n < 0x2309 := by omega
  simp [Dev.writeAny, answersItself, commitSubmit_size n hn, h, hrecord]

theorem writeAny_copy {c : Nat} (hc : c < 32) (h : data.length = 8) :
    d.writeAny who (0x2401 + c) 3 data = d.submitCopy who c (leNat data) := by
  have hrecord : 0x2401 + c < 0x2421 := by omega
  simp [Dev.writeAny, answersItself, copySubmit_size c hc, h, hrecord]

theorem writeAny_create (h : data.length = 8) : d.writeAny who 0x25C0 2 data = d.submitCreate who (leNat data) := by
  simp [Dev.writeAny, answersItself, createSubmit_size, h]

theorem writeAny_profile (h : data.length = 1) : d.writeAny who 0x2002 1 data = d.requestProfile who (leNat data) := by
  simp [Dev.writeAny, answersItself, profile_size, h]

theorem writeAny_gpuJob {i k : Nat} (hi : 0x2511 ≤ i) (hi' : i < 0x2571) (hk : k < 4) (h : data.length = 8) :
    d.writeAny who i (0x12 + 8 * k) data = d.submitGpuJob who (partitionOwner i) k (leNat data) := by
  obtain ⟨m, rfl⟩ := Nat.exists_eq_add_of_le hi
  have hcommit : ¬0x2511 + m < 0x2309 := by omega
  have hcopy : ¬0x2511 + m < 0x2421 := by omega
  have hqueue : 0x10 ≤ 0x12 + 8 * k ∧ (0x12 + 8 * k) % 8 = 2 ∧ (0x12 + 8 * k - 0x10) / 8 = k := by omega
  simp only [Dev.writeAny, answersItself, gpuSubmit_size m (by omega) k hk, h, hcommit, hcopy, hi, hi', hqueue, beq_self_eq_true,
    decide_true, decide_false, Bool.and_true, Bool.and_false, Bool.false_and, Bool.or_true, Bool.true_or, Bool.not_true, Bool.or_self,
    Bool.false_eq_true, false_and, and_false, and_self, if_true, if_false]

/-- Every partition record names an owner that has one. -/
theorem partOk_partitionOwner {i : Nat} (hi : 0x2511 ≤ i) (hi' : i < 0x2571) : partOk (partitionOwner i) = true := by
  unfold partOk partitionOwner
  split <;> simp <;> omega

/-! ### The store -/

/-- The slot that a save writes: not the one of the newest valid image (R63). -/
def Dev.saveSlot (d : Dev) : Nat :=
  match d.newestImage with
  | some (s, _) => 1 - s
  | none => 0

/-- The image that a save of range `r` writes: the other ranges are as the newest valid image has them (R62). -/
def Dev.saveImage (d : Dev) (r : Nat) : StoreImage :=
  d.snapshot r (match d.newestImage with
    | some (_, x) => x
    | none => {})

/-- While no save waits for its end, a save takes its snapshot into the slot without the newest image (R62, R63). -/
theorem storeVerdict_saves {r : Nat} (h : d.power.saving = none) :
    storeVerdict r d = .ok (((d.beginBlock (storeBase d.saveSlot) storeSize (d.saveImage r).generation (d.saveImage r).body).setPower
      { d.power with saving := some { range := r, slot := d.saveSlot, generation := (d.saveImage r).generation,
                                      dropComm := d.kept.noComm, dropApp := d.kept.noApp } }).setO 0x2000 9 1) := by
  unfold storeVerdict Dev.saveSlot Dev.saveImage
  rw [h]
  cases d.newestImage <;> rfl

/-- With no save on its way, a restore marks its range alone (R62). -/
theorem restoreVerdict_marks {r : Nat} (h : d.power.saving = none) :
    restoreVerdict r d = .ok (d.setKept { d.kept with
      noComm := d.kept.noComm || (r == 1 || r == 2), noApp := d.kept.noApp || (r == 1 || r == 3) }) := by
  have hpower : { d.power with saving := none } = d.power := by rw [← h]
  simp only [restoreVerdict, Dev.setKept, Dev.setPower, h, Option.map_none, hpower]

end Sys2Proof.Machine

open Sys2Proof Sys2Proof.Machine

/-- Settles O40: each path of a write, at the branch that the clause names. The blocks that a save
writes, and so what one that flash does not confirm leaves in its slot, are the model's choice (assumption log 11). -/
theorem storeCompletes : Obligations.store_completes := by
  refine ⟨?object, ?plain, ?mapped, ?commit, ?copy, ?create, ?profile, ?gpuJob, ?history, ?save, ?saved, ?failed, ?restore⟩
  case object =>
    intro q d who i j b t hl hs hself hc hv
    rw [exec_objectWrite_named hl hs, writeAny_accepts hself hc hv]
  case plain =>
    intro q d who j b hl hs hc
    rw [exec_objectWrite_named hl hs, writeAny_accepts rfl hc (objectVerdict_plain rfl j)]
  case mapped =>
    intro q d who a i j b t hl hs hon hw hf ho hself hc hv
    rw [exec_objectWrite_mapped hl hs, mappedStore_accepts hon hw hf ho hself hc hv]
  case commit =>
    intro q d who n b hl hs hb hn
    rw [exec_objectWrite_named hl hs, writeAny_commit hn hb, exec_commitSubmit, execCommitSubmit, actServed_of_live _ hl hs,
      onUnit_lt hn]
  case copy =>
    intro q d who n b hl hs hb hn
    rw [exec_objectWrite_named hl hs, writeAny_copy hn hb, exec_copyJobSubmit, execCopyJobSubmit, actServed_of_live _ hl hs,
      onUnit_lt hn]
  case create =>
    intro q d who b hb
    simp only [exec_objectWrite, execObjectWrite, exec_pipelineCreateSubmit, execPipelineCreateSubmit, writeAny_create hb]
  case profile =>
    intro q d who b hb
    simp only [exec_objectWrite, execObjectWrite, exec_profileRequest, execProfileRequest, writeAny_profile hb]
  case gpuJob =>
    intro q d who i k b hl hs hb hi hi' hk
    rw [exec_objectWrite_named hl hs, writeAny_gpuJob hi hi' hk hb, exec_gpuJobSubmit, execGpuJobSubmit, actServed_of_live _ hl hs]
    simp only [onQueue, partOk_partitionOwner hi hi', hk, decide_true, Bool.and_self, if_true]
  case history =>
    intro q d who hl hs hc
    rw [exec_errorHistoryClear, execErrorHistoryClear, actServed_of_live _ hl hs, request_accepts hc (t := d.clearIndex 0x1003 []) rfl]
  case save =>
    intro q d who r v hl hs hc hnone
    rw [exec_storeParameters, execStoreParameters, actServed_of_live _ hl hs,
      request_accepts hc (storeVerdict_saves hnone)]
    rfl
  case saved =>
    intro q d x hl hx
    rw [exec_storeSaveComplete, execStoreSaveComplete, act_of_live _ hl]
    simp only [Dev.saveEnds, hx, if_true]
  case failed =>
    intro q d x hl hx
    rw [exec_storeSaveComplete, execStoreSaveComplete, act_of_live _ hl]
    simp only [Dev.saveEnds, hx, Bool.false_eq_true, if_false]
  case restore =>
    intro q d who r v hl hs hc hnone
    rw [exec_restoreDefaults, execRestoreDefaults, actServed_of_live _ hl hs, request_accepts hc (restoreVerdict_marks hnone)]
end

section
/-! PROOF. The dictionary windows (R49 to R52, R450): a request that an idle window takes is the server's own operation on the
window with BUSY set, and its result waits in the window until the request ends. -/

namespace Sys2Proof.Machine

variable {d k t : Dev} {who : Init} {n i j : Nat}

/-! ### A window that takes a request

The start of a request sets BUSY and changes nothing else, so the checks, the transfers and the objects of `d.opened n` are, by
computation, those of `d`. -/

theorem opened_busy : ((d.opened n).window n).busy = true := by rw [opened_window]

/-- The registers that a DOMAIN request takes from its window. -/
theorem opened_len : ((d.opened n).window n).len = (d.window n).len := by rw [opened_window]
theorem opened_offset : ((d.opened n).window n).offset = (d.window n).offset := by rw [opened_window]
theorem opened_dlen : ((d.opened n).window n).dlen = (d.window n).dlen := by rw [opened_window]
theorem opened_dcrc : ((d.opened n).window n).dcrc = (d.window n).dcrc := by rw [opened_window]

/-- An idle window that is reached and may take a request, takes it. -/
theorem windowCommand_opens (f : Dev → Dev) (hr : d.reaches who n = true) (ht : d.takesCommand who = true)
    (hb : (d.window n).busy = false) : d.windowCommand who n f = f (d.opened n) := by
  simp only [Dev.windowCommand, hr, ht, hb, Bool.not_true, Bool.false_eq_true, if_false]

/-- A request through an idle window, while the island serves. -/
theorem windowRequest_opens (f : Dev → Dev) {q : List Instr} (hl : d.live = true) (hs : d.serving = true)
    (hr : d.reaches who n = true) (ht : d.takesCommand who = true) (hb : (d.window n).busy = false) :
    actServed (fun d => d.windowCommand who n f) ⟨q, d⟩ = .next ⟨q, Dev.finish d (f (d.opened n))⟩ := by
  rw [actServed_of_live _ hl hs, windowCommand_opens f hr ht hb]

/-! ### Reads, writes and describes -/

theorem windowReads_value (hb : (d.window n).busy = true) (hc : d.checkRead who i j false = none) :
    d.windowReads who n i j = ({ d with answer := { abort := 0, data := d.valueOf i j } } : Dev).setWindow n
      { d.window n with result := some { data := some (d.valueOf i j) } } := by
  simp only [Dev.windowReads, hc]
  exact windowAnswers_busy _ hb

theorem windowReads_refused {a : Nat} (hb : (d.window n).busy = true) (hc : d.checkRead who i j false = some a) :
    d.windowReads who n i j = ({ d with answer := { abort := a, data := [] } } : Dev).setWindow n
      { d.window n with result := some { abort := a } } := by
  simp only [Dev.windowReads, hc]
  exact windowAnswers_busy _ hb

/-- A write that is accepted waits in the window with its Registry entry `e`; a save alone waits for flash (R62, R372). -/
theorem windowWrites_accepted {e : Option Nat} {r : ObjRow} (hrow : objRow i j = some r)
    (hj : d.journal (writeEntry who n i j (d.window n).payload) = (e, k)) (hself : answersItself i j = false)
    (hc : (k.regIssue e).checkWrite who i j (d.window n).payload = none)
    (hv : objectVerdict who i j (d.window n).payload (k.regIssue e) = .ok t) (hb : (t.window n).busy = true) (hi : i ≠ 0x1010) :
    d.windowWrites who n i j = t.accept.setWindow n
      { t.window n with writes := true, wo := r.acc == .wo, entry := e, result := some {} } := by
  have hwindow : t.accept.window n = t.window n := rfl
  simp only [Dev.windowWrites, hj, writeAny_accepts hself hc hv, hwindow, hb, hrow, hi, Bool.not_true, Bool.false_eq_true, false_and,
    if_false]
  rfl

theorem windowDescribes_object {r : ObjRow} (hb : (d.window n).busy = true) (hrow : objRow i j = some r)
    (hi : d.hasIndex i = true) :
    d.windowDescribes n i j = ({ d with answer := { abort := 0, data := (defaultOf i j).take 2048 } } : Dev).setWindow n
      { d.window n with result := some { data := some ((defaultOf i j).take 2048), desc := some r.desc } } := by
  simp only [Dev.windowDescribes, hrow, hi, if_true]
  exact windowAnswers_busy _ hb

/-! ### DOMAIN transfers -/

section
variable {path : Path} {len off crc : Nat} {data : List Byte} {x : Transfer}

/-- The first segment of a read takes the content; the read stays open until a segment reaches its end (R51). -/
theorem readSegment_opens (hnone : d.transfer i j = none) (hc : d.checkRead who i j true = none)
    (hoff : off ≤ (d.valueOf i j).length) :
    d.readSegment path who i j off = (0, ((d.valueOf i j).drop off).take 2048, (d.valueOf i j).length,
      d.setTransfer i j (if (d.valueOf i j).length ≤ off + (((d.valueOf i j).drop off).take 2048).length then none
        else some { path := path, who := who, writing := false, data := d.valueOf i j, base := d.baseSeq })) := by
  simp only [Dev.readSegment, hnone, hc, Nat.not_lt.mpr hoff, if_false]

/-- A further segment comes from the content that the first one took. -/
theorem readSegment_continues (hx : d.transfer i j = some x) (hp : x.path = path) (hw : x.writing = false)
    (hbase : i ≠ 0x2F03 ∨ x.base = d.baseSeq) (hoff : off ≤ x.data.length) :
    d.readSegment path who i j off = (0, (x.data.drop off).take 2048, x.data.length,
      d.setTransfer i j (if x.data.length ≤ off + ((x.data.drop off).take 2048).length then none else some x)) := by
  have hsame : ¬(i = 0x2F03 ∧ x.base ≠ d.baseSeq) := by tauto
  simp only [Dev.readSegment, hx, hp, hw, hsame, Nat.not_lt.mpr hoff, ne_eq, not_true_eq_false, decide_false, Bool.or_self,
    Bool.false_eq_true, if_false]

theorem writeSegment_opens (hnone : d.transfer i j = none) (hc : d.checkDomain who i j = none) (h1 : 1 ≤ len) (h2 : len ≤ 2048)
    (hfree : d.domainFree i j = true) (hoff : off = 0) :
    d.writeSegment path who i j len off data = (0, d.openWrite path who i j data) := by
  simp [Dev.writeSegment, hnone, hc, h1, h2, hfree, hoff]

/-- A segment that follows the bytes sent so far is added to them; one of an image is programmed as it arrives (R412). -/
theorem writeSegment_continues (hx : d.transfer i j = some x) (hp : x.path = path) (hw : x.writing = true) (h1 : 1 ≤ len)
    (h2 : len ≤ 2048) (hoff : off = x.data.length) (h4 : x.data.length % 4 = 0) :
    d.writeSegment path who i j len off data = (0, (if isImage i j then d.programImage x.data.length data else d).setTransfer i j
      (some { x with data := x.data ++ data })) := by
  simp [Dev.writeSegment, hx, hp, hw, h1, h2, hoff, h4]

/-- The end of a write whose content passes: the object takes the content (R450). -/
theorem endTransfer_takes (ht : d.checkType i j = none) (hx : d.transfer i j = some x) (hp : x.path = path)
    (hw : x.writing = true) (hc : d.contentAbort i j len crc x.data = none) :
    d.endTransfer path i j len crc = (0, (d.setTransfer i j none).domainTakes i j x.data) := by
  simp [Dev.endTransfer, ht, hx, hp, hw, hc]

theorem endTransfer_closes (ht : d.checkType i j = none) (hx : d.transfer i j = some x) (hp : x.path = path)
    (hw : x.writing = false) : d.endTransfer path i j len crc = (0, d.setTransfer i j none) := by
  simp [Dev.endTransfer, ht, hx, hp, hw]

theorem abortTransfer_discards (ht : d.checkType i j = none) (hx : d.transfer i j = some x) (hp : x.path = path) :
    d.abortTransfer path i j = (0, d.discard i j) := by
  simp [Dev.abortTransfer, ht, hx, hp]

/-- The segment that the server gives waits in the window, with the total length. -/
theorem windowReadSeg_gives {total : Nat} (hoff : (d.window n).offset = off)
    (h : d.readSegment (.window n) who i j off = (0, data, total, k)) (hb : (k.window n).busy = true) :
    d.windowReadSeg who n i j = ({ k with answer := { abort := 0, data := data } } : Dev).setWindow n
      { k.window n with result := some { data := some data, dlen := some total } } := by
  simp only [Dev.windowReadSeg, hoff, h, if_true]
  exact windowAnswers_busy _ hb

theorem windowWriteSeg_accepted (hlen : (d.window n).len = len) (hoff : (d.window n).offset = off)
    (h : d.writeSegment (.window n) who i j len off (d.window n).payload = (0, k)) :
    d.windowWriteSeg who n i j = k.windowAnswers n {} := by
  simp only [Dev.windowWriteSeg, hlen, hoff, h]

theorem windowEndSeg_accepted (hlen : (d.window n).dlen = len) (hcrc : (d.window n).dcrc = crc)
    (h : d.endTransfer (.window n) i j len crc = (0, k)) : d.windowEndSeg n i j = k.windowAnswers n {} := by
  simp only [Dev.windowEndSeg, hlen, hcrc, h]

theorem windowAbortSeg_accepted (h : d.abortTransfer (.window n) i j = (0, k)) : d.windowAbortSeg n i j = k.windowAnswers n {} := by
  simp only [Dev.windowAbortSeg, h]

end

/-! ### The registers -/

/-- A write of WIN_CMD by a path that reaches the window makes the request that its opcode names (Table 3-5). -/
theorem exec_windowRegisterWrite_command {q : List Instr} {data : List Byte} {f : Dev → Dev} (hl : d.live = true)
    (hs : d.serving = true) (hr : d.reaches who n = true) (ho : oddAccess who 0 data.length = false) (h4 : data.length = 4)
    (hf : d.windowOp who n (bits (leNat data) 24 8) (leNat data % 65536) (bits (leNat data) 16 8) = d.windowCommand who n f) :
    exec (.windowRegisterWrite who n 0 data) ⟨q, d⟩ = actServed (fun d => d.windowCommand who n f) ⟨q, d⟩ := by
  rw [h4] at ho
  rw [exec_windowRegisterWrite, execWindowRegisterWrite, act_of_live _ hl, actServed_of_live _ hl hs, ← hf]
  simp only [Dev.windowStore, hr, ho, h4, hs, Bool.not_true, Bool.false_eq_true, and_self, if_true, if_false]

/-- A register of an idle window but WIN_CMD and WIN_STATUS is stored. -/
theorem windowStore_stores {off : Nat} {data : List Byte} (hr : d.reaches who n = true) (ho : oddAccess who off data.length = false)
    (hcmd : off ≠ 0 ∨ data.length ≠ 4) (hstatus : off ≠ 12 ∨ data.length ≠ 4) (hb : (d.window n).busy = false) :
    d.windowStore who n off data = d.setWindow n ((d.window n).store off data) := by
  have hcmd' : ¬(off = 0 ∧ data.length = 4) := by tauto
  have hstatus' : ¬(off = 12 ∧ data.length = 4) := by tauto
  simp only [Dev.windowStore, hr, ho, hcmd', hstatus', hb, Bool.not_true, Bool.false_eq_true, if_false]

/-- WIN_STATUS is written in any state of the window. -/
theorem windowStore_status {data : List Byte} (hr : d.reaches who n = true) (ho : oddAccess who 12 data.length = false)
    (h4 : data.length = 4) : d.windowStore who n 12 data = d.setWindow n ((d.window n).status (leNat data)) := by
  rw [h4] at ho
  simp [Dev.windowStore, hr, ho, h4]

end Sys2Proof.Machine

open Sys2Proof Sys2Proof.Machine

/-- Settles O41: each request is the server's operation on the window that took it. That a describe answers at most 2048 bytes of
a default (assumption log 18), and that a read segment has 2048 bytes whatever WIN_LEN holds (log 19), are the model's choice. -/
theorem windowsComplete : Obligations.windows_complete := by
  refine ⟨?read, ?readRefused, ?writeAccepted, ?write, ?describe, ?readOpens, ?readContinues, ?writeOpens, ?writeContinues, ?endWrite,
    ?endRead, ?abort, ?register, ?status, ?cmdRead, ?cmdWrite, ?cmdDescribe, ?cmdReadSegment, ?cmdWriteSegment, ?cmdEnd, ?cmdAbort,
    ?requestEnd⟩
  case read =>
    intro q d who n i j hl hs hr ht hb hc
    rw [exec_windowRead, execWindowRead, windowRequest_opens _ hl hs hr ht hb, windowReads_value opened_busy hc]
  case readRefused =>
    intro q d who n i j a hl hs hr ht hb hc
    rw [exec_windowRead, execWindowRead, windowRequest_opens _ hl hs hr ht hb, windowReads_refused opened_busy hc]
  case writeAccepted =>
    intro q d who n i j r k t hl hs hr ht hb hrow hk hself hc hv hbusy hi
    subst hk
    rw [exec_windowWrite, execWindowWrite, windowRequest_opens _ hl hs hr ht hb,
      windowWrites_accepted hrow Prod.mk.eta.symm hself hc hv hbusy hi]
  case write =>
    intro q d who n i j hl hs hr ht hb
    rw [exec_windowWrite, execWindowWrite, windowRequest_opens _ hl hs hr ht hb]
  case describe =>
    intro q d who n i j r hl hs hr ht hb hrow hi
    rw [exec_windowDescribe, execWindowDescribe, windowRequest_opens _ hl hs hr ht hb, windowDescribes_object opened_busy hrow hi]
  case readOpens =>
    intro q d who n i j hl hs hr ht hb hnone hc hoff
    rw [exec_domainReadSegment, execDomainReadSegment, windowRequest_opens _ hl hs hr ht hb,
      windowReadSeg_gives opened_offset (readSegment_opens hnone hc hoff) opened_busy]
    rfl
  case readContinues =>
    intro q d who n i j x hl hs hr ht hb hx hp hw hbase hoff
    rw [exec_domainReadSegment, execDomainReadSegment, windowRequest_opens _ hl hs hr ht hb,
      windowReadSeg_gives opened_offset (readSegment_continues hx hp hw hbase hoff) opened_busy]
    rfl
  case writeOpens =>
    intro q d who n i j hl hs hr ht hb hnone hc h1 h2 hfree hoff
    rw [exec_domainWriteSegment, execDomainWriteSegment, windowRequest_opens _ hl hs hr ht hb,
      windowWriteSeg_accepted opened_len opened_offset (writeSegment_opens hnone hc h1 h2 hfree hoff)]
  case writeContinues =>
    intro q d who n i j x hl hs hr ht hb hx hp hw h1 h2 hoff h4
    rw [exec_domainWriteSegment, execDomainWriteSegment, windowRequest_opens _ hl hs hr ht hb,
      windowWriteSeg_accepted opened_len opened_offset (writeSegment_continues hx hp hw h1 h2 hoff h4)]
  case endWrite =>
    intro q d who n i j x hl hs hr ht hb htype hx hp hw hc
    rw [exec_domainEnd, execDomainEnd, windowRequest_opens _ hl hs hr ht hb,
      windowEndSeg_accepted opened_dlen opened_dcrc (endTransfer_takes htype hx hp hw hc)]
  case endRead =>
    intro q d who n i j x hl hs hr ht hb htype hx hp hw
    rw [exec_domainEnd, execDomainEnd, windowRequest_opens _ hl hs hr ht hb,
      windowEndSeg_accepted opened_dlen opened_dcrc (endTransfer_closes htype hx hp hw)]
  case abort =>
    intro q d who n i j x hl hs hr ht hb htype hx hp
    rw [exec_domainAbort, execDomainAbort, windowRequest_opens _ hl hs hr ht hb,
      windowAbortSeg_accepted (d := d.opened n) (abortTransfer_discards htype hx hp)]
  case register =>
    intro q d who n x b hl hr ho hcmd hstatus hb
    rw [exec_windowRegisterWrite, execWindowRegisterWrite, act_of_live _ hl, windowStore_stores hr ho hcmd hstatus hb]
  case status =>
    intro q d who n b hl hr ho h4
    rw [exec_windowRegisterWrite, execWindowRegisterWrite, act_of_live _ hl, windowStore_status hr ho h4]
  case cmdRead =>
    intro q d who n b hl hs hr ho h4 hop
    exact exec_windowRegisterWrite_command hl hs hr ho h4 (by rw [hop]; rfl)
  case cmdWrite =>
    intro q d who n b hl hs hr ho h4 hop
    exact exec_windowRegisterWrite_command hl hs hr ho h4 (by rw [hop]; rfl)
  case cmdDescribe =>
    intro q d who n b hl hs hr ho h4 hop
    exact exec_windowRegisterWrite_command hl hs hr ho h4 (by rw [hop]; rfl)
  case cmdReadSegment =>
    intro q d who n b hl hs hr ho h4 hop
    exact exec_windowRegisterWrite_command hl hs hr ho h4 (by rw [hop]; rfl)
  case cmdWriteSegment =>
    intro q d who n b hl hs hr ho h4 hop
    exact exec_windowRegisterWrite_command hl hs hr ho h4 (by rw [hop]; rfl)
  case cmdEnd =>
    intro q d who n b hl hs hr ho h4 hop
    exact exec_windowRegisterWrite_command hl hs hr ho h4 (by rw [hop]; rfl)
  case cmdAbort =>
    intro q d who n b hl hs hr ho h4 hop
    exact exec_windowRegisterWrite_command hl hs hr ho h4 (by rw [hop]; rfl)
  case requestEnd =>
    intro q d n x hl hs hb hx he hirq
    rw [exec_windowRequestEnd, execWindowRequestEnd, actServed_of_live _ hl hs]
    simp only [Dev.windowEnds, hb, hx, he, hirq, Dev.regEnded, Bool.false_eq_true, if_false] <;> rfl
end

section
/-! PROOF. The CANopen node (R53 to R61): each command is its meaning, on the port or the PDO that it names and at the branch that
a clause names. -/

namespace Sys2Proof.Machine

variable {d k t : Dev} {p i j : Nat} {data : List Byte}

/-! ### USDO (R54) -/

/-- A request on a port that takes it, by the type of its object: a DOMAIN comes whole. -/
theorem exec_usdoDownload_domain {q : List Instr} {r : ObjRow} (hl : d.live = true) (hs : d.serving = true) (hp : p < 2)
    (hu : d.usdoTaken p = true) (hrow : objRow i j = some r) (hty : r.ty = .domain) (h : d.usdoDomain p i j data = (0, k)) :
    exec (.usdoDownload p i j data) ⟨q, d⟩ = .next ⟨q, Dev.finish d (k.usdoAnswer p i j 0 [])⟩ := by
  rw [exec_usdoDownload, execUsdoDownload, actServed_of_live _ hl hs, onUnit_lt hp]
  simp only [hu, hrow, hty, h, beq_self_eq_true, Bool.not_true, Bool.false_eq_true, if_true, if_false]

theorem exec_usdoDownload_object {q : List Instr} (hl : d.live = true) (hs : d.serving = true) (hp : p < 2)
    (hu : d.usdoTaken p = true) (hty : ∀ r, objRow i j = some r → r.ty ≠ .domain) :
    exec (.usdoDownload p i j data) ⟨q, d⟩ = .next ⟨q, Dev.finish d (d.usdoWrite p i j data)⟩ := by
  rw [exec_usdoDownload, execUsdoDownload, actServed_of_live _ hl hs, onUnit_lt hp]
  cases hrow : objRow i j with
  | none => simp only [hu, Bool.not_true, Bool.false_eq_true, if_false]
  | some r => simp only [hu, beq_eq_false_iff_ne.mpr (hty r hrow), Bool.not_true, Bool.false_eq_true, if_false]

/-- A write that is accepted frees its Registry entry `e` and is answered; a save alone waits for flash (R62, R372). -/
theorem usdoWrite_accepted {e : Option Nat} (hj : d.journal (writeEntry (.can p) (0x80 + p) i j data) = (e, k))
    (hself : answersItself i j = false) (hc : (k.regIssue e).checkWrite (.can p) i j data = none)
    (hv : objectVerdict (.can p) i j data (k.regIssue e) = .ok t) (hi : i ≠ 0x1010) :
    d.usdoWrite p i j data = (t.accept.regEnded e).usdoAnswer p i j 0 [] := by
  simp only [Dev.usdoWrite, hj, writeAny_accepts hself hc hv, hi, regEnded_answer, false_and, if_false]
  rfl

/-- A DOMAIN whose content passes is taken whole (R450). -/
theorem usdoDomain_takes (hc : d.checkDomain (.can p) i j = none) (hfree : d.domainFree i j = true)
    (hok : (d.openWrite (.can p) (.can p) i j data).contentAbort i j data.length (crc32c (256 * i + j) data) data = none) :
    d.usdoDomain p i j data = (0, ((d.openWrite (.can p) (.can p) i j data).setTransfer i j none).domainTakes i j data) := by
  simp only [Dev.usdoDomain, hc, hfree, hok, Bool.not_true, Bool.false_eq_true, if_false]

theorem usdoRead_value {r : ObjRow} (hrow : objRow i j = some r) (hfree : r.ty ≠ .domain ∨ d.transfer i j = none)
    (hc : d.checkRead (.can p) i j (r.ty == .domain) = none) : d.usdoRead p i j = d.usdoAnswer p i j 0 (d.valueOf i j) := by
  have hopen : ((r.ty == .domain) && (d.transfer i j).isSome) = false := by
    rcases hfree with h | h <;> simp [h]
  simp only [Dev.usdoRead, hrow, hc, hopen, Bool.false_eq_true, if_false]

theorem usdoRead_refused {r : ObjRow} {a : Nat} (hrow : objRow i j = some r)
    (hc : d.checkRead (.can p) i j (r.ty == .domain) = some a) : d.usdoRead p i j = d.usdoAnswer p i j a [] := by
  simp only [Dev.usdoRead, hrow, hc]

/-! ### Process data (R53, R56) -/

/-- An RPDO of an event-driven type writes at once, and is no longer late. -/
theorem rpdoTakes_writes {n : Nat} (ho : d.portOpen p = true) (hn : d.can.nmt = .operational)
    (hv : d.pdoValid (0x1400 + n) = true) (hlen : d.rpdoLength n ≤ data.length) (hty : 0xF0 < d.getO (0x1400 + n) 2) :
    d.rpdoTakes p n data =
      ({ d with can := { d.can with rpdoLate := tabSet false d.can.rpdoLate n false } } : Dev).rpdoWrites p n data := by
  have htaken : ¬(!(d.portOpen p) || decide (d.can.nmt ≠ .operational) || !(d.pdoValid (0x1400 + n))
      || decide (data.length < d.rpdoLength n)) = true := by simp [ho, hn, hv, hlen]
  exact (if_neg htaken).trans (if_neg (Nat.not_le.mpr hty))

/-! ### NMT (R55) -/

theorem nmtTakes_addressed {n : Nat} (ho : d.portOpen p = true) (hn : n = 0 ∨ n = d.nodeId) : d.nmtTakes p n = true := by
  rcases hn with h | h <;> simp [Dev.nmtTakes, ho, h]

end Sys2Proof.Machine

open Sys2Proof Sys2Proof.Machine

/-- Settles O42: each command's meaning, on an open port and at the branch that the clause names. That a USDO transfer brings a
DOMAIN whole (assumption log 19), and that the mirrors are refreshed before a TPDO of the event timer (log 20), are the model's choice. -/
theorem canopenCompletes : Obligations.canopen_completes := by
  refine ⟨?download, ?domain, ?missing, ?upload, ?uploadRefused, ?rpdo, ?rpdoLate, ?tpdoTimer, ?tpdoInhibit, ?sync, ?producer, ?heard,
    ?missed, ?emcy, ?overrun, ?recovery, ?passive, ?start, ?stop, ?preOperational, ?resetNode, ?resetCommunication⟩
  case download =>
    intro q d p i j b r k t hl hs hp hu hrow hty hk hself hc hv hi
    subst hk
    have hobject : ∀ x, objRow i j = some x → x.ty ≠ .domain := by
      rintro x hx
      rwa [Option.some.inj (hx.symm.trans hrow)]
    rw [exec_usdoDownload_object hl hs hp hu hobject, usdoWrite_accepted Prod.mk.eta.symm hself hc hv hi]
  case domain =>
    intro q d p i j b r hl hs hp hu hrow hty hc hfree hok
    exact exec_usdoDownload_domain hl hs hp hu hrow hty (usdoDomain_takes hc hfree hok)
  case missing =>
    intro q d p i j b hl hs hp hu hrow
    exact exec_usdoDownload_object hl hs hp hu (by simp [hrow])
  case upload =>
    intro q d p i j r hl hs hp hu hrow hfree hc
    rw [exec_usdoUpload, execUsdoUpload, actServed_of_live _ hl hs, onUnit_lt hp, if_pos hu, usdoRead_value hrow hfree hc]
  case uploadRefused =>
    intro q d p i j a r hl hs hp hu hrow hc
    rw [exec_usdoUpload, execUsdoUpload, actServed_of_live _ hl hs, onUnit_lt hp, if_pos hu, usdoRead_refused hrow hc]
  case rpdo =>
    intro q d p n b hl hs hp hn ho hnmt hv hlen hty
    rw [exec_rpdoReceived, execRpdoReceived, actServed_of_live _ hl hs, onUnit_lt hp, onUnit_lt hn,
      rpdoTakes_writes ho hnmt hv hlen hty]
  case rpdoLate =>
    intro q d n hl hs hn _ _ _
    rw [exec_rpdoTimeout, execRpdoTimeout, actServed_of_live _ hl hs, onUnit_lt hn]
  case tpdoTimer =>
    intro q d n hl hs hn hnmt hv hty htimer hfree
    rw [exec_tpdoEventTimerExpiry, execTpdoEventTimerExpiry, actServed_of_live _ hl hs, onUnit_lt hn]
    simp [hnmt, hv, hty, htimer, hfree]
  case tpdoInhibit =>
    intro q d n hl hs hn hwaits
    rw [exec_tpdoInhibitExpiry, execTpdoInhibitExpiry, actServed_of_live _ hl hs, onUnit_lt hn]
    simp only [hwaits, Bool.and_false, Bool.false_and, Bool.false_eq_true, if_false]
  case sync =>
    intro q d p hl hs hp _ _
    rw [exec_syncReceived, execSyncReceived, actServed_of_live _ hl hs, onUnit_lt hp]
  case producer =>
    intro q d hl hs htime hnmt
    rw [exec_heartbeatProducerTimer, execHeartbeatProducerTimer, actServed_of_live _ hl hs]
    simp only [htime, hnmt, decide_false, Bool.or_self, Bool.false_eq_true, if_false]
  case heard =>
    intro q d p n hl hs hp ho
    rw [exec_heartbeatReceived, execHeartbeatReceived, actServed_of_live _ hl hs, onUnit_lt hp]
    simp only [Dev.heartbeatTakes, ho, Bool.not_true, Bool.false_eq_true, if_false]
  case missed =>
    intro q d e hl hs h1 h8 _ _
    rw [exec_heartbeatConsumerTimeout, execHeartbeatConsumerTimeout, actServed_of_live _ hl hs, onUnit_lt (by omega),
      if_neg (by omega)]
  case emcy =>
    intro q d x l hl hs hw
    rw [exec_emcyInhibitExpiry, execEmcyInhibitExpiry, actServed_of_live _ hl hs]
    simp only [hw, List.head?_cons, List.tail_cons]
  case overrun =>
    intro q d p hl hs hp ho
    rw [exec_canReceiveOverrun, execCanReceiveOverrun, actServed_of_live _ hl hs, onUnit_lt hp, if_pos ho]
  case recovery =>
    intro q d p hl hs hp hen hoff
    rw [exec_canBusOffRecovery, execCanBusOffRecovery, actServed_of_live _ hl hs, onUnit_lt hp]
    simp only [hen, hoff, decide_true, Bool.and_self, if_true]
  case passive =>
    intro q d p hl hp hen hst
    rw [exec_canPortStateChange, execCanPortStateChange, act_of_live _ hl, onUnit_lt hp]
    simp [Dev.portChanges, hen, hst]
  case start =>
    intro q d p n hl hs hp ho hn
    rw [exec_nmtStartRemoteNode, execNmtStartRemoteNode, actServed_of_live _ hl hs, onUnit_lt hp, if_pos (nmtTakes_addressed ho hn),
      Dev.setNmt]
  case stop =>
    intro q d p n hl hs hp ho hn
    rw [exec_nmtStopRemoteNode, execNmtStopRemoteNode, actServed_of_live _ hl hs, onUnit_lt hp, if_pos (nmtTakes_addressed ho hn),
      Dev.setNmt]
  case preOperational =>
    intro q d p n hl hs hp ho hn
    rw [exec_nmtEnterPreOperational, execNmtEnterPreOperational, actServed_of_live _ hl hs, onUnit_lt hp,
      if_pos (nmtTakes_addressed ho hn), Dev.setNmt]
  case resetNode =>
    intro q d p n hl hs hp ho hn
    rw [exec_nmtResetNode, execNmtResetNode, actServed_of_live _ hl hs, onUnit_lt hp, if_pos (nmtTakes_addressed ho hn)]
  case resetCommunication =>
    intro q d p n hl hs hp ho hn
    rw [exec_nmtResetCommunication, execNmtResetCommunication, actServed_of_live _ hl hs, onUnit_lt hp,
      if_pos (nmtTakes_addressed ho hn)]
end

section
/-! PROOF. The events of an output (R73, R75, R76, R81, R82): each writes the output's own objects and the recorder's alone, and of
what stands behind the objects the output's own record. -/

namespace Sys2Proof.Machine

/-! ### What an event of an output may change -/

/-- The index is one of output `o`'s own objects (Tables 4-1 to 4-10). -/
def ownsOutput (o i : Nat) : Bool := 0x2200 + 16 * o ≤ i && i < 0x2210 + 16 * o

/-- The block `b` is `a` but for the record and the objects of output `o`, the recorder and its objects, the answer and what
was sent. -/
structure OutputOnly (o : Nat) (a b : Dev) : Prop where
  fields : ∃ objs blobs outputs recorder answer sent, b = { a with
    objs := objs, blobs := blobs, comp := { a.comp with outputs := outputs }, recorder := recorder, answer := answer, sent := sent }
  outputs : ∀ n, n ≠ o → b.output n = a.output n
  bytes : ∀ i j, j < 256 → ownsOutput o i = false → b.getB i j = a.getB i j
  objects : ∀ i j, j < 256 → ownsOutput o i = false → logIndex i = false → b.getO i j = a.getO i j

variable {o : Nat} {a b c : Dev}

theorem ownsOutput_eq_false_iff {i : Nat} : ownsOutput o i = false ↔ i < 0x2200 + 16 * o ∨ 0x2210 + 16 * o ≤ i := by
  simp only [ownsOutput, Bool.and_eq_false_iff, decide_eq_false_iff_not]
  omega

theorem ne_outputIndex_add {i k : Nat} (hk : k < 16) (h : ownsOutput o i = false) : i ≠ outputIndex o + k := by
  rw [ownsOutput_eq_false_iff] at h
  unfold outputIndex
  omega

namespace OutputOnly

theorem refl (o : Nat) (a : Dev) : OutputOnly o a a where
  fields := ⟨a.objs, a.blobs, a.comp.outputs, a.recorder, a.answer, a.sent, rfl⟩
  outputs _ _ := rfl
  bytes _ _ _ _ := rfl
  objects _ _ _ _ _ := rfl

theorem trans (h : OutputOnly o a b) (g : OutputOnly o b c) : OutputOnly o a c where
  fields := by
    obtain ⟨_, _, _, _, _, _, rfl⟩ := h.fields
    obtain ⟨_, _, _, _, _, _, rfl⟩ := g.fields
    exact ⟨_, _, _, _, _, _, rfl⟩
  outputs n hn := (g.outputs n hn).trans (h.outputs n hn)
  bytes i j hj hi := (g.bytes i j hj hi).trans (h.bytes i j hj hi)
  objects i j hj hi hl := (g.objects i j hj hi hl).trans (h.objects i j hj hi hl)

/-- An object of the output takes a value. -/
theorem setO (h : OutputOnly o a b) (k j v : Nat) (hk : k < 16 := by decide) (hj : j < 256 := by decide) :
    OutputOnly o a (b.setO (outputIndex o + k) j v) :=
  h.trans
    { fields := ⟨_, b.blobs, b.comp.outputs, b.recorder, b.answer, b.sent, rfl⟩
      outputs := fun _ _ => rfl
      bytes := fun _ _ _ _ => rfl
      objects := fun _ _ hj' hi _ => getO_setO_other b (objKey_ne hj hj' (.inl (ne_outputIndex_add hk hi))) v }

/-- A tally of the output counts. -/
theorem count (h : OutputOnly o a b) (k j : Nat) (hk : k < 16 := by decide) (hj : j < 256 := by decide) :
    OutputOnly o a (b.count (outputIndex o + k) j) :=
  h.setO k j _ hk hj

/-- A DOMAIN or string of the output takes its content. -/
theorem setB (h : OutputOnly o a b) (k j : Nat) (v : List Byte) (hk : k < 16 := by decide) (hj : j < 256 := by decide) :
    OutputOnly o a (b.setB (outputIndex o + k) j v) :=
  h.trans
    { fields := ⟨b.objs, _, b.comp.outputs, b.recorder, b.answer, b.sent, rfl⟩
      outputs := fun _ _ => rfl
      bytes := fun _ _ hj' hi => tabGet_set_other _ _ _ (objKey_ne hj hj' (.inl (ne_outputIndex_add hk hi))) v
      objects := fun _ _ _ _ _ => rfl }

theorem setOutput (h : OutputOnly o a b) (x : Output) : OutputOnly o a (b.setOutput o x) :=
  h.trans
    { fields := ⟨b.objs, b.blobs, _, b.recorder, b.answer, b.sent, rfl⟩
      outputs := fun _ hn => tabGet_set_other _ _ _ hn x
      bytes := fun _ _ _ _ => rfl
      objects := fun _ _ _ _ _ => rfl }

/-- A record in the log (R365). -/
theorem log (h : OutputOnly o a b) {cls : Nat} (hc : cls < 256) (what owner unit : Nat) (facts : List Nat) :
    OutputOnly o a (b.log cls what owner unit facts) :=
  h.trans
    { fields := by
        obtain ⟨objs, recorder, hb⟩ := log_only b cls what owner unit facts
        exact ⟨objs, b.blobs, b.comp.outputs, recorder, b.answer, b.sent, hb⟩
      outputs := fun n _ => by simp [Dev.output]
      bytes := fun i j _ _ => getB_of_blobs (log_blobs ..) i j
      objects := fun _ _ hj _ hl => log_getO b hc hl hj what owner unit facts }

theorem send (h : OutputOnly o a b) (m : Sent) : OutputOnly o a (b.send m) :=
  h.trans
    { fields := ⟨b.objs, b.blobs, b.comp.outputs, b.recorder, b.answer, _, rfl⟩
      outputs := fun _ _ => rfl
      bytes := fun _ _ _ _ => rfl
      objects := fun _ _ _ _ _ => rfl }

theorem answer (h : OutputOnly o a b) (x : Answer) : OutputOnly o a { b with answer := x } :=
  h.trans
    { fields := ⟨b.objs, b.blobs, b.comp.outputs, b.recorder, _, b.sent, rfl⟩
      outputs := fun _ _ => rfl
      bytes := fun _ _ _ _ => rfl
      objects := fun _ _ _ _ _ => rfl }

/-- A command that acts only under a condition. -/
theorem ite {p : Prop} [Decidable p] (h : OutputOnly o a b) (g : OutputOnly o a c) : OutputOnly o a (if p then b else c) := by
  split
  · exact h
  · exact g

/-- A command that names the output, or a number that no output has. -/
theorem unit {f : Dev → Dev} (h : OutputOnly o a (f a)) : OutputOnly o a (onUnit o 8 f a) :=
  h.ite (.refl o a)

end OutputOnly

/-! ### The events -/

variable {d : Dev}

theorem trainingFailed_only (o cause : Nat) : OutputOnly o d (d.trainingFailed o cause) :=
  .ite ((((((OutputOnly.refl o d).setO 0 7 0).setO 0 8 0).setO 0 2 6).count 3 3).setO 0 9 cause |>.log (by decide) _ _ _ _)
    (.refl o d)

theorem underruns_only (o first count : Nat) : OutputOnly o d (d.underruns o first count) := by
  unfold Dev.underruns
  dsimp only
  have counted (x : Output) {p : Prop} [Decidable p] : OutputOnly o d
      (if p then d.setOutput o x else (d.setOutput o x).count (outputIndex o + 3) 1) :=
    .ite ((OutputOnly.refl o d).setOutput x) (((OutputOnly.refl o d).setOutput x).count 3 1)
  exact .ite (counted _) ((counted _).log (by decide) _ _ _ _)

/-- A request that is refused leaves its answer, and one that is accepted what its chapter says. -/
theorem request_only {who : Init} {i j : Nat} {data : List Byte} {f : Dev → Verdict} (hi : i ≠ 0x2002)
    (hf : ∀ t, f d = .ok t → OutputOnly o d t) : OutputOnly o d (d.request who i j data f) := by
  unfold Dev.request Dev.noteRefusal
  split
  next a _ =>
    rw [if_neg (fun h => hi h.1)]
    exact (OutputOnly.refl o d).answer { abort := a }
  next t ht =>
    unfold Dev.tryWrite at ht
    split at ht
    · cases ht
    · exact (hf t ht).answer {}

/-- An AUX transaction that starts (R82). -/
theorem auxVerdict_only {r : List Byte} {t : Dev} (h : auxVerdict o r d = .ok t) : OutputOnly o d t := by
  unfold auxVerdict at h
  dsimp only at h
  split_ifs at h
  obtain rfl := Except.ok.inj h
  exact (((OutputOnly.refl o d).setOutput _).setO 6 3 1).send _

/-! ### After a command -/

/-- A command of the running logic touches no queued command, and what it leaves is its effect, up to what follows every
command, or the block as it was. -/
theorem act_next {f : Dev → Dev} {s t : State} (h : act f s = .next t) :
    t.pending = s.pending ∧ (SameBut (f s.dev) t.dev ∨ t.dev = s.dev) := by
  cases hl : s.dev.live with
  | true =>
    rw [act_live f s hl] at h
    cases h
    exact ⟨rfl, .inl (finish_same ..)⟩
  | false =>
    rw [act_off f s hl] at h
    cases h
    exact ⟨rfl, .inr rfl⟩

theorem act_outputOnly {f : Dev → Dev} {s t : State} (h : OutputOnly o s.dev (f s.dev)) (ht : act f s = .next t) :
    t.pending = s.pending ∧ (∀ n, n ≠ o → t.dev.output n = s.dev.output n) ∧
      (∀ i j, j < 256 → (i < 0x2200 + 16 * o ∨ 0x2210 + 16 * o ≤ i) → t.dev.getB i j = s.dev.getB i j) ∧
      Dev.objectsOnly (ownsOutput o)
        { s.dev with blobs := t.dev.blobs, comp := { s.dev.comp with outputs := t.dev.comp.outputs } } t.dev := by
  obtain ⟨hq, hdev⟩ := act_next ht
  obtain ⟨b, hb, hsame⟩ : ∃ b, OutputOnly o s.dev b ∧ SameBut b t.dev := by
    rcases hdev with hdev | hdev
    · exact ⟨_, h, hdev⟩
    · exact ⟨_, .refl o _, hdev ▸ .refl _⟩
  obtain ⟨⟨objs, can, sent, hc⟩, hobjs⟩ := hsame
  rw [hc] at hobjs ⊢
  refine ⟨hq, hb.outputs, fun i j hj hi => hb.bytes i j hj (ownsOutput_eq_false_iff.mpr hi), ?_, fun i j hj hi hl hh => ?_⟩
  · obtain ⟨_, _, _, _, _, _, rfl⟩ := hb.fields
    rfl
  · exact (hobjs i j hh hj).trans (hb.objects i j hj hi hl)

end Sys2Proof.Machine

open Sys2Proof Sys2Proof.Machine

/-- Settles O52: each event writes the output's own record and objects, and the recorder's, alone (`OutputOnly`); and what
follows every command adds the CAN node, what was sent and the error history (`SameBut`). -/
theorem frameOfTheOutputEvents : Obligations.frame_of_the_output_events := by
  intro who o v u b
  simp only [List.forall_mem_cons]
  refine ⟨?auxRequest, ?auxTransactionEnd, ?auxTimeout, ?edidReadComplete, ?trainingPass, ?trainingFail, ?trainingTimeout,
    ?pixelUnderrun, List.forall_mem_nil _⟩
  all_goals intro s t ht
  case auxRequest =>
    refine act_outputOnly (.ite (.unit ?_) (.refl o _)) ht
    exact request_only (by unfold outputIndex; omega) fun _ => auxVerdict_only
  case auxTransactionEnd =>
    refine act_outputOnly (.unit (.ite ?_ (.refl o _))) ht
    exact (((OutputOnly.refl o s.dev).setOutput _).setB 6 2 _).setO 6 3 2
  case auxTimeout =>
    refine act_outputOnly (.unit (.ite ?_ (.refl o _))) ht
    exact (((OutputOnly.refl o s.dev).setOutput _).setO 6 3 3).count 3 5
  case edidReadComplete =>
    refine act_outputOnly (.unit (.ite ?_ (.refl o _))) ht
    exact ((((OutputOnly.refl o s.dev).setOutput _).setB 5 1 _).setO 5 2 _).count 5 3
  case trainingPass =>
    refine act_outputOnly (.unit (.ite ?_ (.refl o _))) ht
    exact (((((OutputOnly.refl o s.dev).setO 0 7 _).setO 0 8 _).setO 0 9 0).setO 0 0x0A v).setO 0 2 4
  case trainingFail => exact act_outputOnly (.unit (.ite (trainingFailed_only o v) (.refl o _))) ht
  case trainingTimeout => exact act_outputOnly (.unit (trainingFailed_only o 5)) ht
  case pixelUnderrun => exact act_outputOnly (.unit (.ite (underruns_only o v u) (.refl o _))) ht
end

section
/-! PROOF. The commands of the display outputs (R70, R73 to R76, R79, R81, R82, R453): each is its meaning, at the branch that a
clause names. -/

namespace Sys2Proof.Machine

variable {d : Dev} {n : Nat}

/-! ### The states of an output -/

/-- The state of an output stands apart from its other objects. -/
theorem outState_setO {i j : Nat} (hj : j < 256) (h : i ≠ outputIndex n ∨ j ≠ 2) (v : Nat) :
    (d.setO i j v).outState n = d.outState n :=
  getO_setO_other d (objKey_ne hj (by decide) (by tauto)) v

@[simp] theorem outState_setOutput (m : Nat) (x : Output) : (d.setOutput m x).outState n = d.outState n := rfl
@[simp] theorem output_setO (i j v : Nat) : (d.setO i j v).output n = d.output n := rfl
@[simp] theorem pixelStopped_setO (i j v : Nat) : (d.setO i j v).pixelStopped n = d.pixelStopped n := rfl

@[simp] theorem seamless_setOutput (m : Nat) (x : Output) (p : Nat → Nat) : (d.setOutput m x).seamless n p = d.seamless n p := rfl

/-! ### The requested state (R73, R79, R453) -/

theorem requestedState_modulus : ∀ n < 8, objModulus (outputIndex n) 1 = 256 := by decide

/-- A request for a state other than On is followed as it stands (R399). -/
theorem wantState_setO (hn : n < 8) {v : Nat} (hv : v < 2) : (d.setO (outputIndex n) 1 v).wantState n = v := by
  have hval : (d.setO (outputIndex n) 1 v).getO (outputIndex n) 1 = v := by
    rw [getO_setO_same, requestedState_modulus n hn]
    omega
  have hon : ¬v = 2 := by omega
  simp only [Dev.wantState, hval, hon, false_and, if_false]

/-- From Off, an output that is wanted starts its PLL. -/
theorem followRequest_starts (hst : d.outState n = 0) (hwant : d.wantState n ≠ 0) (hrun : d.pixelStopped n = false) :
    d.followRequest n = d.setOutput n { d.output n with locking := true } := by
  simp [Dev.followRequest, hst, hwant, hrun]

theorem requestedStateVerdict_starts (hn : n < 8) (hst : d.outState n = 0) (hdis : (d.output n).disable = none)
    (hcool : d.coolExceeded n = false) (hrun : d.pixelStopped n = false) :
    requestedStateVerdict n 1 d = .ok ((d.setO (outputIndex n) 1 1).setOutput n { d.output n with locking := true }) := by
  have hwant : (d.setO (outputIndex n) 1 1).wantState n = 1 := wantState_setO hn (by decide)
  have hoff : (d.setO (outputIndex n) 1 1).outState n = 0 := (outState_setO (by decide) (.inr (by decide)) 1).trans hst
  have hfollow := followRequest_starts hoff (by omega) hrun
  simp [requestedStateVerdict, hcool, hdis, hwant, hoff, hfollow]

/-- With no frame in progress, a request for Off ends the disable at once. -/
theorem requestedStateVerdict_ends (hn : n < 8) (hdis : (d.output n).disable = none) (hframe : d.frameRuns n = false) :
    requestedStateVerdict n 0 d = .ok ((d.setO (outputIndex n) 1 0).disableOutput n 0) := by
  have hwant : (d.setO (outputIndex n) 1 0).wantState n = 0 := wantState_setO hn (by decide)
  have hstill : (d.setO (outputIndex n) 1 0).frameRuns n = false := by
    unfold Dev.frameRuns at hframe ⊢
    rwa [outState_setO (by decide) (.inr (by decide))]
  simp [requestedStateVerdict, hdis, hwant, hstill]

theorem endDisable_of_some {target : Nat} (h : (d.output n).disable = some target) : d.endDisable n = d.disableOutput n target := by
  simp only [Dev.endDisable, h]

/-! ### Timing (R70) -/

/-- A staged set that every check of R70 lets pass, in a profile other than Cool and with no apply pending. -/
structure ApplyPasses (d : Dev) (n : Nat) : Prop where
  fits : linkFits (d.staged n) (d.trimPpm n) = true
  valid : timingValid (d.staged n) = true
  noDisable : (d.output n).disable = none
  reserved : d.outDemand d.comp.commits (d.staged n) n ≤ d.getO (0x2301 + n) 1
  records : ((List.range 6).map (fun k => d.layerRec (6 * n + k)) ++ (d.comp.commits.filter (fun c => c.output == n)).flatMap
    (fun c => c.records.map (fun q => q.2))).any (d.recBreaks n (d.staged n)) = false
  notCool : d.getO 0x2002 2 ≠ 2
  noApply : (d.output n).apply = none

/-- In Off the timing is in force at once; in any other state it waits for the next latch. -/
theorem timingApplyVerdict_passes (h : ApplyPasses d n) :
    timingApplyVerdict n d = .ok (if d.outState n = 0 then
        ((d.putTiming n (d.stagedSet n)).moveBeads n (vtotalOf (d.staged n))).setO (outputIndex n + 1) 0x10 0
      else
        (d.setOutput n { d.output n with apply := some (d.stagedSet n), applyFrom := d.nextLatchFrame n }).setO
          (outputIndex n + 1) 0x10 (if d.seamless n (d.staged n) then 1 else 2)) := by
  obtain ⟨hfits, hvalid, hdisable, hreserved, hrecords, hcool, happly⟩ := h
  have hnone : (d.output n).disable.isSome = false ∧ (d.output n).apply.isSome = false := by simp [hdisable, happly]
  simp only [timingApplyVerdict, hfits, hvalid, hnone, Nat.not_lt.mpr hreserved, hrecords, hcool, seamless_setOutput, Bool.not_true,
    Bool.or_self, Bool.false_eq_true, false_and, if_false]
  split <;> rfl

/-! ### HPD and training (R74, R75) -/

/-- Outside eDP mode the level is the debounced one. -/
theorem hpdHigh_of_low (he : d.edp n = false) : (d.setO (outputIndex n) 6 0).hpdHigh n = false := by
  have hmode : (d.setO (outputIndex n) 6 0).edp n = d.edp n := by
    unfold Dev.edp Dev.force
    rw [getO_setO_other d (objKey_ne (by decide) (by decide) (.inr (by decide)))]
  simp [Dev.hpdHigh, hmode, he]

theorem trainingFailed_of_training {cause : Nat} (h : d.outState n = 3) :
    d.trainingFailed n cause = ((((d.untrained n).setOutState n 6).count (outputIndex n + 3) 3).setO (outputIndex n) 9 cause).log
      0x11 0x1101 0xFF n [n, cause] :=
  if_pos h

/-! ### AUX (R82) -/

/-- A request in form, outside Training and with no other in hand, starts a transaction. -/
theorem auxVerdict_starts {r : List Byte} (hform : auxFormOk r = true) (hman : auxManaged r = false)
    (haux : (d.output n).aux = none) (hst : d.outState n ≠ 3) (hdis : (d.output n).disable = none) :
    auxVerdict n r d = .ok (((d.setOutput n { d.output n with aux := some r }).setO (outputIndex n + 6) 3 1).send (.aux n r)) := by
  have hlen : ¬(r.length < 5 ∨ 21 < r.length) := by
    simp only [auxFormOk, Bool.and_eq_true, decide_eq_true_eq] at hform
    omega
  simp [auxVerdict, hlen, hform, hman, haux, hst, hdis]

/-! ### Underrun (R76) -/

/-- The first underrun of a frame, on a line that has shown none: the pixels leave as the one before them. -/
theorem underruns_first {first count : Nat} (hfirst : 0 < first) (hfit : first + count ≤ (d.output n).line.length)
    (hframe : (d.output n).underrun = false) (hline : (d.output n).lineUnder = false) :
    d.underruns n first count =
      ((d.setOutput n { d.output n with
        line := (d.output n).line.take first ++ List.replicate count ((d.output n).line.getD (first - 1) 0)
          ++ (d.output n).line.drop (first + count)
        lineUnder := true, underrun := true }).count (outputIndex n + 3) 1).log 0x11 0x1102 0xFF n [n] := by
  have hcount : min count ((d.output n).line.length - first) = count := by omega
  have hne : first ≠ 0 := by omega
  simp only [Dev.underruns, hcount, hne, hframe, hline, Bool.false_eq_true, if_false]

/-! ### The writes of an output, served and accepted -/

section
variable {q : List Instr} {who : Init} {v : Nat} {t : Dev}

theorem exec_outputRequestedStateWrite_takes (hl : d.live = true) (hs : d.serving = true) (hn : n < 8)
    (hc : d.checkWrite who (outputIndex n) 1 (numData (outputIndex n) 1 v) = none) (hv : requestedStateVerdict n v d = .ok t) :
    exec (.outputRequestedStateWrite who n v) ⟨q, d⟩ = .next ⟨q, Dev.finish d t.accept⟩ := by
  rw [exec_outputRequestedStateWrite, execOutputRequestedStateWrite, actServed_of_live _ hl hs, onUnit_lt hn, request_accepts hc hv]

theorem exec_timingApply_takes (hl : d.live = true) (hs : d.serving = true) (hn : n < 8)
    (hc : d.checkWrite who (outputIndex n + 1) 0x0F (numData (outputIndex n + 1) 0x0F v) = none)
    (hv : timingApplyVerdict n d = .ok t) : exec (.timingApply who n v) ⟨q, d⟩ = .next ⟨q, Dev.finish d t.accept⟩ := by
  rw [exec_timingApply, execTimingApply, actServed_of_live _ hl hs, onUnit_lt hn, request_accepts hc hv]

end

end Sys2Proof.Machine

open Sys2Proof Sys2Proof.Machine

/-- Settles O15: each command's meaning, at the branch that the clause names. -/
theorem outputsComplete : Obligations.outputs_complete := by
  refine ⟨?starts, ?ends, ?disable, ?applyOff, ?applyPending, ?rise, ?fall, ?irqLost, ?irq, ?pass, ?fail, ?timeout, ?retry, ?edid,
    ?auxStart, ?auxEnd, ?auxTimeout, ?underrun⟩
  case starts =>
    intro q d who n hl hs hn hc hst hdis hcool hrun
    rw [exec_outputRequestedStateWrite_takes hl hs hn hc (requestedStateVerdict_starts hn hst hdis hcool hrun)]
  case ends =>
    intro q d who n hl hs hn hc hdis hframe
    rw [exec_outputRequestedStateWrite_takes hl hs hn hc (requestedStateVerdict_ends hn hdis hframe)]
  case disable =>
    intro q d n target hl hn hline hdis
    have hlast : (d.rodRuns n && decide (d.rodLine n + 1 < d.rodLines n)) = false := by
      cases hr : d.rodRuns n with
      | false => rfl
      | true => simpa using hline hr
    rw [exec_outputDisableComplete, execOutputDisableComplete, act_of_live _ hl, onUnit_lt hn, hlast, if_neg Bool.false_ne_true,
      endDisable_of_some hdis]
  case applyOff =>
    intro q d who n hl hs hn hc hfits hvalid hdis hres hrec hcool happ hst
    rw [exec_timingApply_takes hl hs hn hc (timingApplyVerdict_passes ⟨hfits, hvalid, hdis, hres, hrec, hcool, happ⟩), if_pos hst]
  case applyPending =>
    intro q d who n hl hs hn hc hfits hvalid hdis hres hrec hcool happ hst
    rw [exec_timingApply_takes hl hs hn hc (timingApplyVerdict_passes ⟨hfits, hvalid, hdis, hres, hrec, hcool, happ⟩), if_neg hst]
  case rise =>
    intro q d n hl hn hst
    have hst' : (d.setO (outputIndex n) 6 1).outState n = 2 := (outState_setO (by decide) (.inr (by decide)) _).trans hst
    rw [exec_hpdDebouncedRise, execHpdDebouncedRise, act_of_live _ hl, onUnit_lt hn]
    simp [Dev.readEdid, hst']
  case fall =>
    intro q d n hl hn hst hedp
    have hst' : 3 ≤ (d.setO (outputIndex n) 6 0).outState n := (outState_setO (by decide) (.inr (by decide)) 0).ge.trans' hst
    rw [exec_hpdDebouncedFall, execHpdDebouncedFall, act_of_live _ hl, onUnit_lt hn]
    simp [hpdHigh_of_low hedp, hst']
  case irqLost =>
    intro q d n hl hn hst
    have hst' : (d.count (outputIndex n + 3) 4).outState n = 5 := (outState_setO (by decide) (.inr (by decide)) _).trans hst
    rw [exec_hpdIrq, execHpdIrq, act_of_live _ hl, onUnit_lt hn]
    simp [hst']
  case irq =>
    intro q d n hl hn
    rw [exec_hpdIrq, execHpdIrq, act_of_live _ hl, onUnit_lt hn]
    simp
  case pass =>
    intro q d n revision hl hn hst
    rw [exec_trainingPass, execTrainingPass, act_of_live _ hl, onUnit_lt hn, if_pos hst]
  case fail =>
    intro q d n cause hl hn h1 h4 hst
    rw [exec_trainingFail, execTrainingFail, act_of_live _ hl, onUnit_lt hn, if_pos ⟨h1, h4⟩, trainingFailed_of_training hst]
  case timeout =>
    intro q d n hl hn hst
    rw [exec_trainingTimeout, execTrainingTimeout, act_of_live _ hl, onUnit_lt hn, trainingFailed_of_training hst]
  case retry =>
    intro q d n hl hn hst hhigh
    rw [exec_retryIntervalExpiry, execRetryIntervalExpiry, act_of_live _ hl, onUnit_lt hn, if_pos ⟨hst, hhigh⟩]
  case edid =>
    intro q d n edid hl hn hbusy hlen
    rw [exec_edidReadComplete, execEdidReadComplete, act_of_live _ hl, onUnit_lt hn, if_pos hbusy, List.take_of_length_le hlen]
  case auxStart =>
    intro q d who n r hl hs hn hc hform hman haux hst hdis
    rw [exec_auxRequest, execAuxRequest, actServed_of_live _ hl hs, onUnit_lt hn,
      request_accepts hc (auxVerdict_starts hform hman haux hst hdis)]
  case auxEnd =>
    intro q d n reply hl hn haux hlen
    rw [exec_auxTransactionEnd, execAuxTransactionEnd, act_of_live _ hl, onUnit_lt hn, if_pos haux, List.take_of_length_le hlen]
  case auxTimeout =>
    intro q d n hl hn haux
    rw [exec_auxTimeout, execAuxTimeout, act_of_live _ hl, onUnit_lt hn, if_pos haux]
  case underrun =>
    intro q d n first count hl hn hst hactive hfirst hcount hfit hlen hframe hline
    have hinside : first < d.force n 2 := by omega
    rw [exec_pixelUnderrun, execPixelUnderrun, act_of_live _ hl, onUnit_lt hn, if_pos ⟨hst, hactive, hcount, hinside⟩,
      underruns_first hfirst (hfit.trans_eq hlen.symm) hframe hline]
end

section
/-! PROOF. The commands of composition (R96 to R98, R102, R103, R106, R457): each is its meaning, at the branch that a clause
names. -/

namespace Sys2Proof.Machine

variable {d d1 d2 d3 : Dev}

/-! ### The submit of a commit (R102, R103) -/

/-- The Registry's item of a commit block, as its submitter and its header name it. -/
def commitItem (code addr : Nat) (b : List Byte) : Item :=
  { block := addr, code := code, seq := field b 4 4, replay := hdrReplay b }

/-- The bytes that the journal keeps of a commit (Table 20-2). -/
def commitExtra (d : Dev) (b : List Byte) (demand : Nat) : List Byte :=
  leBytes 8 (hdrTarget b) ++ leBytes 1 (hdrMask b) ++ leBytes 1 (hdrFlags b) ++ leBytes 4 demand ++ leBytes 8 d.clock.ns

/-- Pending commits of the block's output that hold a record for a layer of the block. -/
def Commit.replacedBy (b : List Byte) (c : Commit) : Bool :=
  c.output == hdrOutput b && c.records.any (fun p => ((commitRecords b).map (fun p => p.1)).contains p.1)

/-- The pending commit of a block that is admitted now. -/
def Dev.commitOf (d : Dev) (it : Item) (b : List Byte) (demand : Nat) : Commit :=
  { item := it, output := hdrOutput b, records := commitRecords b
    atFrame := if hdrAtFrame b then some (hdrTarget b) else none
    from_ := d.nextLatchFrame (hdrOutput b), demand := demand }

/-- A journaled commit becomes pending, after the pending commits that it replaces have ended. -/
def Dev.pendCommit (d : Dev) (it : Item) (b : List Byte) (demand : Nat) : Dev :=
  let d := if hdrReplace b then d.endCommits (Commit.replacedBy b) 0x21 else d
  { d with comp := { d.comp with commits := d.comp.commits ++ [d.commitOf it b demand] } }

/-- The Registry issues a pending commit, and its block shows status 0001h. -/
def Dev.admitCommit (d : Dev) (it : Item) (b : List Byte) (demand : Nat) : Dev :=
  ((d.pendCommit it b demand).regIssue it.entry).writeBlock it 16 (leBytes 2 1 ++ leBytes 2 0xFFFF ++ leBytes 4 demand)

/-- A commit that every check of Table 5-5 lets pass is journaled and admitted. -/
theorem takeCommit_admits {code addr : Nat} {at_ : Option Nat} {b : List Byte} {x : CommitCheck} {it : Item}
    (hx : d.checkCommit code addr at_ b = x) (hpass : x.status = 1)
    (hj : d.journalItem 1 (commitItem code addr b) (hdrOutput b) (commitLength b) (commitExtra d b x.demand) = (it, d3)) :
    d.takeCommit { block := addr, code := code } at_ b = d3.admitCommit it b x.demand := by
  unfold commitItem commitExtra at hj
  simp only [Dev.takeCommit, hx, hj, hpass, if_true]
  rfl

/-- A block that its submitter may read and write, and that finds a free entry, is taken. -/
theorem submitCommit_takes {who : Init} {n addr : Nat} {h b : List Byte}
    (hc : d.checkWrite who (0x2301 + n) 6 (numData (0x2301 + n) 6 addr) = none)
    (hh : d.readSubmitted (initCode who) addr 32 = (some h, d1))
    (hb : d1.readSubmitted (initCode who) addr (commitLength h) = (some b, d2)) (hroom : d.submitRoom (initCode who) = true) :
    d.submitCommit who n addr = (d2.takeCommit { block := addr, code := initCode who } (some n) b).accept := by
  simp only [Dev.submitCommit, hc, hh, hb, hroom, Bool.not_true, Bool.false_eq_true, if_false]

/-! ### Reservations (R98) -/

/-- A reservation that keeps the sum in what there is, and covers the demand of its output. -/
theorem reservationVerdict_takes {n v : Nat}
    (hsum : ((List.range 8).filter (fun m => m != n)).foldl (fun acc m => acc + d.getO (0x2301 + m) 1) 0 + v ≤ 48000)
    (hdemand : d.outDemand d.comp.commits (d.force n) n ≤ v) : reservationVerdict n v d = .ok (d.setO (0x2301 + n) 1 v) := by
  simp [reservationVerdict, Nat.not_lt.mpr hsum, Nat.not_lt.mpr hdemand]

/-! ### The enable of a layer (R106, R457) -/

/-- The state of a layer stands apart from its other objects. -/
theorem layerState_setO {layer i j : Nat} (hj : j < 256) (h : i ≠ layerIndex layer ∨ j ≠ 1) (v : Nat) :
    (d.setO i j v).layerState layer = d.layerState layer :=
  getO_setO_other d (objKey_ne hj (by decide) (by tauto)) v

/-- The objects of the layers are none of the outputs' own. -/
theorem layerIndex_ne_outputIndex {layer : Nat} (hn : layer < 48) (other : Nat) : layerIndex other ≠ outputIndex (outputOf layer) := by
  unfold layerIndex outputIndex outputOf
  omega

/-- With no commit pending none ends. -/
theorem endCommits_of_nil (h : d.comp.commits = []) (p : Commit → Bool) (status : Nat) : d.endCommits p status = d := by
  simp [Dev.endCommits, h]

/-- On a running output, a layer that no pending commit touches waits in Disabling for the next latch. -/
theorem disableLayer_waits {layer : Nat} (hn : layer < 48) (hst : 1 ≤ d.layerState layer) (hst' : d.layerState layer ≤ 3)
    (hout : d.outState (outputOf layer) ≠ 0) (hnone : d.comp.commits = []) :
    d.disableLayer layer = d.setLayerState layer 4 := by
  have hon : ¬(d.layerState layer = 0 ∨ d.layerState layer = 4) := by omega
  have hstill : (d.setLayerState layer 4).outState (outputOf layer) = d.outState (outputOf layer) :=
    outState_setO (by decide) (.inl (layerIndex_ne_outputIndex hn layer)) 4
  have hframe : (d.setLayerState layer 4).noFrame (outputOf layer) = false := by simpa [Dev.noFrame, hstill] using hout
  have hpending : (d.setLayerState layer 4).comp.commits = [] := hnone
  simp only [Dev.disableLayer, hon, endCommits_of_nil hpending, hframe, Bool.false_eq_true, if_false]

theorem layerEnableVerdict_empties {layer : Nat} (hst : d.layerState layer = 0) :
    layerEnableVerdict layer 1 d = .ok ((d.setO (layerIndex layer) 2 1).setLayerState layer 1) := by
  have hoff : (d.setO (layerIndex layer) 2 1).layerState layer = 0 := (layerState_setO (by decide) (.inr (by decide)) 1).trans hst
  simp [layerEnableVerdict, hoff]

theorem layerEnableVerdict_disables {layer : Nat} (hn : layer < 48) (hst : 1 ≤ d.layerState layer) (hst' : d.layerState layer ≤ 3)
    (hout : d.outState (outputOf layer) ≠ 0) (hnone : d.comp.commits = []) :
    layerEnableVerdict layer 0 d = .ok ((d.setO (layerIndex layer) 2 0).setLayerState layer 4) := by
  have hlayer : (d.setO (layerIndex layer) 2 0).layerState layer = d.layerState layer :=
    layerState_setO (by decide) (.inr (by decide)) 0
  have houtput : (d.setO (layerIndex layer) 2 0).outState (outputOf layer) = d.outState (outputOf layer) :=
    outState_setO (by decide) (.inl (layerIndex_ne_outputIndex hn layer)) 0
  have hpending : (d.setO (layerIndex layer) 2 0).comp.commits = [] := hnone
  rw [layerEnableVerdict, if_pos rfl,
    disableLayer_waits hn (hst.trans_eq hlayer.symm) (hlayer.trans_le hst') (houtput.trans_ne hout) hpending]

end Sys2Proof.Machine

open Sys2Proof Sys2Proof.Machine

/-- Settles O16: each command's meaning, at the branch that the clause names. The corners of the checks, among them the demand
that a block shows while an apply is pending, are the model's choice (assumption log 24). -/
theorem compositionCompletes : Obligations.composition_completes := by
  refine ⟨?commit, ?reservation, ?empties, ?disables, ?halt, ?mismatch⟩
  case commit =>
    intro q d who n addr h b d1 d2 d3 x it hl hs hn hc hh hb hroom hx hpass hj
    rw [exec_commitSubmit, execCommitSubmit, actServed_of_live _ hl hs, onUnit_lt hn, submitCommit_takes hc hh hb hroom,
      takeCommit_admits hx hpass hj]
    rfl
  case reservation =>
    intro q d who n v hl hs hn hc hsum hdemand
    rw [exec_reservationWrite, execReservationWrite, actServed_of_live _ hl hs, onUnit_lt hn,
      request_accepts hc (reservationVerdict_takes hsum hdemand)]
  case empties =>
    intro q d who layer hl hs hn hc hst
    rw [exec_layerEnableWrite, execLayerEnableWrite, actServed_of_live _ hl hs, onUnit_lt hn,
      request_accepts hc (layerEnableVerdict_empties hst), Dev.setLayerState]
  case disables =>
    intro q d who layer hl hs hn hc hst hst' hout hnone
    rw [exec_layerEnableWrite, execLayerEnableWrite, actServed_of_live _ hl hs, onUnit_lt hn,
      request_accepts hc (layerEnableVerdict_disables hn hst hst' hout hnone), Dev.setLayerState]
  case halt =>
    intro q d layer addr line hl hn hshow hout hline
    rw [exec_layerFetchHalt, execLayerFetchHalt, act_of_live _ hl, onUnit_lt hn]
    simp only [hshow, hout, hline, beq_self_eq_true, Bool.and_self, if_true]
  case mismatch =>
    intro q d layer line hl hn hshow hcheck hout hfirst hlast
    rw [exec_checkedLineMismatch, execCheckedLineMismatch, act_of_live _ hl, onUnit_lt hn]
    simp only [hshow, hcheck, hout, hfirst, hlast, beq_self_eq_true, decide_true, Bool.and_self, if_true]
end

section
/-! PROOF. Packed tiles (R114 to R117): the residuals fit their widths, the bits of a channel stand in the stream where the decoder
looks for them, and so each of the three forms that the encoder writes decodes to its tile. -/

namespace Sys2Proof.Machine

/-! ### Digits -/

/-- Values weighed by the powers of a base, as the model writes the width word and a byte of the stream, are the digits of
a number. -/
theorem foldl_zip_weights (b : Nat) : ∀ (l : List Nat) (s n acc : Nat), l.length ≤ n →
    (l.zip (List.range' s n)).foldl (fun acc p => acc + p.1 * b ^ p.2) acc = acc + b ^ s * Nat.ofDigits b l
  | [], _, _, _, _ => by simp
  | v :: l, s, n + 1, acc, h => by
    rw [List.range'_succ, List.zip_cons_cons, List.foldl_cons, foldl_zip_weights b l _ _ _ (Nat.le_of_succ_le_succ h),
      Nat.ofDigits_cons, Nat.pow_succ]
    ring

/-- A stretch of the digits of a number is the number shifted and cut. -/
theorem ofDigits_div_mod {b : Nat} (hb : 0 < b) {l : List Nat} (hl : ∀ v ∈ l, v < b) (lo w : Nat) :
    Nat.ofDigits b l / b ^ lo % b ^ w = Nat.ofDigits b ((l.drop lo).take w) := by
  rw [Nat.ofDigits_div_pow_eq_ofDigits_drop lo hb l hl,
    Nat.ofDigits_mod_pow_eq_ofDigits_take w hb _ fun v h => hl v (List.mem_of_mem_drop h)]

/-- The number that bits spell, bit 0 first. -/
def bitsNat (bs : List Bool) : Nat := Nat.ofDigits 2 (bs.map Bool.toNat)

@[simp] theorem bitsNat_nil : bitsNat [] = 0 := rfl

@[simp] theorem bitsNat_cons (x : Bool) (bs : List Bool) : bitsNat (x :: bs) = x.toNat + 2 * bitsNat bs := by
  simp [bitsNat, Nat.ofDigits_cons]

theorem bitDigit_lt {bs : List Bool} : ∀ v ∈ bs.map Bool.toNat, v < 2 := by
  simp only [List.mem_map, forall_exists_index, and_imp, forall_apply_eq_imp_iff₂]
  exact fun x _ => x.toNat_lt

theorem bitsNat_lt (bs : List Bool) : bitsNat bs < 2 ^ bs.length := by
  simpa [bitsNat] using Nat.ofDigits_lt_base_pow_length (by decide) (bitDigit_lt (bs := bs))

/-- A bit field of a number is the number of a stretch of its bits. -/
theorem bits_bitsNat (bs : List Bool) (lo w : Nat) : bits (bitsNat bs) lo w = bitsNat ((bs.drop lo).take w) := by
  rw [bits, bitsNat, ofDigits_div_mod (by decide) bitDigit_lt, bitsNat, List.map_take, List.map_drop]

theorem bitsNat_lowBits : ∀ w v : Nat, bitsNat (lowBits w v) = v % 2 ^ w
  | 0, v => by simp [lowBits, Nat.mod_one]
  | w + 1, v => by
    have htail : lowBits (w + 1) v = v.testBit 0 :: lowBits w (v / 2) := by
      simp [lowBits, List.range_succ_eq_map, Nat.testBit_succ]
    rw [htail, bitsNat_cons, bitsNat_lowBits w, Nat.pow_succ', Nat.mod_mul, Nat.toNat_testBit]
    simp

@[simp] theorem lowBits_length (w v : Nat) : (lowBits w v).length = w := by simp [lowBits]

/-! ### The stream as bytes -/

/-- The byte that the model packs of at most 8 bits. -/
theorem packedByte_eq (bs : List Bool) (h : bs.length ≤ 8) :
    (bs.zip (List.range 8)).foldl (fun acc p => acc + (if p.1 then 2 ^ p.2 else 0)) 0 = bitsNat bs := by
  have hw := foldl_zip_weights 2 (bs.map Bool.toNat) 0 8 0 (by simpa using h)
  rw [List.zip_map_left, List.foldl_map, ← List.range_eq_range'] at hw
  have hstep : (fun (acc : Nat) (p : Bool × Nat) => acc + (if p.1 then 2 ^ p.2 else 0)) =
      fun acc p => acc + p.1.toNat * 2 ^ p.2 := by
    funext acc p
    cases p.1 <;> simp
  simpa [hstep, bitsNat] using hw

@[simp] theorem packBits_length : ∀ (n : Nat) (bs : List Bool), (packBits n bs).length = n
  | 0, _ => rfl
  | n + 1, bs => by simp [packBits, packBits_length n]

/-- A number's bits, of which the first eight are taken off. -/
theorem bitsNat_split (bs : List Bool) : bitsNat bs = bitsNat (bs.take 8) + 256 * bitsNat (bs.drop 8) := by
  have hlow := bits_bitsNat bs 0 8
  have hhigh := bits_bitsNat bs 8 bs.length
  simp only [bits, List.drop_zero, pow_zero, Nat.div_one] at hlow hhigh
  rw [List.take_of_length_le (by simp),
    Nat.mod_eq_of_lt ((Nat.div_le_self _ _).trans_lt (bitsNat_lt bs))] at hhigh
  omega

theorem leNat_packBits : ∀ (n : Nat) (bs : List Bool), bs.length ≤ 8 * n → leNat (packBits n bs) = bitsNat bs
  | 0, bs, h => by
    obtain rfl : bs = [] := List.length_eq_zero_iff.mp (by omega)
    rfl
  | n + 1, bs, h => by
    have hbyte : bitsNat (bs.take 8) < 2 ^ 8 :=
      (bitsNat_lt _).trans_le (Nat.pow_le_pow_right (by decide) (List.length_take_le 8 bs))
    rw [packBits, leNat, packedByte_eq _ (List.length_take_le 8 bs), BitVec.toNat_ofNat, Nat.mod_eq_of_lt hbyte,
      leNat_packBits n _ (by simp only [List.length_drop]; omega), ← bitsNat_split]

@[simp] theorem leNat_zeroBytes : ∀ n : Nat, leNat (zeroBytes n) = 0
  | 0 => rfl
  | n + 1 => by
    calc leNat (zeroBytes (n + 1)) = 0 + 256 * leNat (zeroBytes n) := rfl
      _ = 0 := by rw [leNat_zeroBytes n]

/-- Zeros behind the bytes of a number leave it as it is. -/
@[simp] theorem leNat_append_zeroBytes (n : Nat) : ∀ b : List Byte, leNat (b ++ zeroBytes n) = leNat b
  | [] => leNat_zeroBytes n
  | x :: b => by simp [leNat, leNat_append_zeroBytes n b]

theorem padTo_of_length_le {n : Nat} {l : List Byte} (h : l.length ≤ n) : padTo n l = l ++ zeroBytes (n - l.length) :=
  List.take_of_length_le (by simp [zeroBytes]; omega)

theorem padTo_length (n : Nat) (l : List Byte) : (padTo n l).length = n := by
  simp [padTo, zeroBytes]
  omega

/-! ### Blocks in a row -/

/-- Past the blocks before it, a row of blocks begins with the block itself. -/
theorem drop_flatMap_take {α β : Type} (f : α → List β) (l : List α) {i : Nat} (hi : i < l.length) :
    (l.flatMap f).drop ((l.take i).flatMap f).length = f l[i] ++ (l.drop (i + 1)).flatMap f := by
  conv_lhs => rw [← List.take_append_drop i l, List.flatMap_append, List.take_append_drop, List.drop_left]
  rw [List.drop_eq_getElem_cons hi, List.flatMap_cons]

/-- Blocks of one length. -/
theorem length_flatMap_const {α β : Type} {f : α → List β} {l : List α} {n : Nat} (h : ∀ a ∈ l, (f a).length = n) :
    (l.flatMap f).length = l.length * n := by
  simp [List.length_flatMap, List.map_congr_left h]

/-- Among blocks of one length, block `i` begins at `i` lengths. -/
theorem drop_flatMap_const {α β : Type} {f : α → List β} {l : List α} {n i : Nat} (h : ∀ a ∈ l, (f a).length = n)
    (hi : i < l.length) : (l.flatMap f).drop (i * n) = f l[i] ++ (l.drop (i + 1)).flatMap f := by
  have hbefore := length_flatMap_const fun a ha => h a (List.mem_of_mem_take (i := i) ha)
  rw [List.length_take_of_le hi.le] at hbefore
  rw [← hbefore, drop_flatMap_take f l hi]

/-! ### Residuals and their widths -/

theorem unzig_zigzag (d : Int) : unzig (zigzag d) = d := by
  unfold unzig zigzag
  split <;> split <;> omega

theorem asSigned_toNat (x : Byte) : asSigned 8 x.toNat = x.toInt := by
  rw [asSigned, Nat.mod_eq_of_lt x.isLt, BitVec.toInt]
  split <;> split <;> omega

/-- R115: the predictor and the residual give the pixel. -/
theorem add_unzig_residual (pixel pred : Byte) : pred + BitVec.ofInt 8 (unzig (residual pixel pred)) = pixel := by
  rw [residual, unzig_zigzag, asSigned_toNat, BitVec.ofInt_toInt, BitVec.add_comm, BitVec.sub_add_cancel]

theorem residual_lt (pixel pred : Byte) : residual pixel pred < 2 ^ 8 := by
  have h := (pixel - pred).isLt
  unfold residual zigzag asSigned
  split <;> split <;> omega

theorem bitsNeeded_le : ∀ n v : Nat, bitsNeeded n v ≤ n
  | 0, _ => Nat.le_refl 0
  | n + 1, v => by
    have h := bitsNeeded_le n (v / 2)
    unfold bitsNeeded
    split <;> omega

theorem lt_two_pow_bitsNeeded : ∀ n v : Nat, v < 2 ^ n → v < 2 ^ bitsNeeded n v
  | 0, _, h => h
  | n + 1, v, h => by
    unfold bitsNeeded
    split
    next hz => simp [hz]
    next =>
      have hhalf := lt_two_pow_bitsNeeded n (v / 2) (by omega)
      rw [Nat.add_comm, Nat.pow_succ]
      omega

/-- A running maximum bounds its start and every value it met. -/
theorem le_foldl_max {α : Type} (f : α → Nat) : ∀ (l : List α) (m : Nat),
    m ≤ l.foldl (fun m a => max m (f a)) m ∧ ∀ a ∈ l, f a ≤ l.foldl (fun m a => max m (f a)) m
  | [], _ => by simp
  | x :: l, m => by
    obtain ⟨hstart, hall⟩ := le_foldl_max f l (max m (f x))
    simp only [List.foldl_cons, List.forall_mem_cons]
    exact ⟨(le_max_left ..).trans hstart, (le_max_right ..).trans hstart, hall⟩

/-- A running maximum of values within a bound stays within it. -/
theorem foldl_max_le {α : Type} {f : α → Nat} {n : Nat} (hf : ∀ a, f a ≤ n) : ∀ (l : List α) (m : Nat), m ≤ n →
    l.foldl (fun m a => max m (f a)) m ≤ n
  | [], _, h => h
  | x :: l, m, h => foldl_max_le hf l (max m (f x)) (max_le h (hf x))

theorem channelWidth_le (rs : List (List Nat)) (c : Nat) : channelWidth rs c ≤ 8 :=
  foldl_max_le (fun _ => bitsNeeded_le 8 _) rs 0 (Nat.zero_le 8)

/-- R116: every value of a channel is below 2 to its width. -/
theorem lt_two_pow_channelWidth {rs : List (List Nat)} {r : List Nat} {c : Nat} (hr : r ∈ rs) (h : r.getD c 0 < 2 ^ 8) :
    r.getD c 0 < 2 ^ channelWidth rs c :=
  (lt_two_pow_bitsNeeded 8 _ h).trans_le
    (Nat.pow_le_pow_right (by decide) ((le_foldl_max (fun r => bitsNeeded 8 (r.getD c 0)) rs 0).2 r hr))

/-! ### A compressed tile as it lies in its slot (R114) -/

/-- The widths that the encoder chooses (R116). -/
def tileWidths (bpp : Nat) (tile : List Pixel) : List Nat := (List.range bpp).map (channelWidth (tileResiduals bpp tile))

/-- The bits of one pixel's residuals, each in the width of its channel. -/
def pixelBits (widths r : List Nat) : List Bool := (r.zip widths).flatMap (fun p => lowBits p.2 p.1)

/-- The residual stream of a tile. -/
def tileBits (bpp : Nat) (tile : List Pixel) : List Bool := (tileResiduals bpp tile).flatMap (pixelBits (tileWidths bpp tile))

/-- The bytes of a compressed tile: base pixel, width word and stream. -/
def packedTile (bpp : Nat) (tile : List Pixel) : List Byte :=
  tilePixel tile 0 ++ leBytes 2 (Nat.ofDigits 16 (tileWidths bpp tile)) ++
    packBits (ceilDiv (63 * (tileWidths bpp tile).sum) 8) (tileBits bpp tile)

@[simp] theorem tileWidths_length (bpp : Nat) (tile : List Pixel) : (tileWidths bpp tile).length = bpp := by simp [tileWidths]

theorem tileWidths_le {bpp : Nat} {tile : List Pixel} : ∀ w ∈ tileWidths bpp tile, w ≤ 8 := by
  simp only [tileWidths, List.mem_map, forall_exists_index, and_imp, forall_apply_eq_imp_iff₂]
  exact fun c _ => channelWidth_le _ c

@[simp] theorem tileResiduals_length (bpp : Nat) (tile : List Pixel) : (tileResiduals bpp tile).length = 63 := by
  simp [tileResiduals]

theorem tileResiduals_row_length {bpp : Nat} {tile : List Pixel} : ∀ r ∈ tileResiduals bpp tile, r.length = bpp := by
  simp only [tileResiduals, List.mem_map, forall_exists_index, and_imp, forall_apply_eq_imp_iff₂, List.length_map,
    List.length_range, implies_true]

/-- The bits of a pixel are as many as its widths together. -/
theorem pixelBits_length {widths r : List Nat} (h : r.length = widths.length) : (pixelBits widths r).length = widths.sum := by
  simp [pixelBits, List.length_flatMap, List.map_snd_zip h.ge]

/-- The bits of channel `c` stand behind those of the channels before it. -/
theorem drop_pixelBits {widths r : List Nat} {c : Nat} (h : r.length = widths.length) (hc : c < widths.length) :
    ∃ rest, (pixelBits widths r).drop (widths.take c).sum = lowBits widths[c] r[c] ++ rest := by
  have hbefore : (((r.zip widths).take c).flatMap fun p => lowBits p.2 p.1).length = (widths.take c).sum := by
    simp [List.length_flatMap, List.map_take, List.map_snd_zip h.ge]
  have hdrop := drop_flatMap_take (fun p : Nat × Nat => lowBits p.2 p.1) (r.zip widths) (i := c) (by simp; omega)
  rw [hbefore, List.getElem_zip] at hdrop
  exact ⟨_, hdrop⟩

theorem tileBits_length (bpp : Nat) (tile : List Pixel) : (tileBits bpp tile).length = 63 * (tileWidths bpp tile).sum := by
  rw [tileBits, length_flatMap_const fun r hr => pixelBits_length (by simpa using tileResiduals_row_length r hr),
    tileResiduals_length]

section
variable {bpp : Nat} {tile : List Pixel} {i c : Nat}

theorem tileResiduals_getD (hi : i < (tileResiduals bpp tile).length) (hc : c < bpp) :
    (tileResiduals bpp tile)[i].getD c 0 =
      residual (byteAt (tilePixel tile (i + 1)) c) (byteAt (tilePixel tile (predictor (i + 1))) c) := by
  simp [tileResiduals, hc]

/-- Every residual fits the width of its channel. -/
theorem residual_lt_width (hi : i < (tileResiduals bpp tile).length) (hc : c < bpp) :
    (tileResiduals bpp tile)[i].getD c 0 < 2 ^ (tileWidths bpp tile).getD c 0 := by
  have hwidth : (tileWidths bpp tile).getD c 0 = channelWidth (tileResiduals bpp tile) c := by simp [tileWidths, hc]
  have hbyte : (tileResiduals bpp tile)[i].getD c 0 < 2 ^ 8 := tileResiduals_getD hi hc ▸ residual_lt _ _
  rw [hwidth]
  exact lt_two_pow_channelWidth (List.getElem_mem hi) hbyte

/-- In the stream, a residual stands behind the pixels before its own and the channels before its own. -/
theorem drop_tileBits (hi : i < (tileResiduals bpp tile).length) (hc : c < bpp) :
    ∃ rest, (tileBits bpp tile).drop (i * (tileWidths bpp tile).sum + ((tileWidths bpp tile).take c).sum) =
      lowBits ((tileWidths bpp tile).getD c 0) ((tileResiduals bpp tile)[i].getD c 0) ++ rest := by
  have hrows : ∀ r ∈ tileResiduals bpp tile, r.length = (tileWidths bpp tile).length := by
    simpa using tileResiduals_row_length
  have hrow := hrows _ (List.getElem_mem hi)
  have hwidth : c < (tileWidths bpp tile).length := by simpa using hc
  have hbefore : ((tileWidths bpp tile).take c).sum ≤ (pixelBits (tileWidths bpp tile) (tileResiduals bpp tile)[i]).length := by
    rw [pixelBits_length hrow]
    exact List.Sublist.sum_le_sum (List.take_sublist c _) (by simp)
  obtain ⟨rest, hpixel⟩ := drop_pixelBits hrow hwidth
  rw [← List.drop_drop, tileBits, drop_flatMap_const (fun r hr => pixelBits_length (hrows r hr)) hi,
    List.drop_append_of_le_length hbefore, hpixel, List.append_assoc, List.getD_eq_getElem _ _ hwidth,
    List.getD_eq_getElem _ _ (hrow ▸ hwidth)]
  exact ⟨_, rfl⟩

/-- Where the decoder looks for a residual, it finds it. -/
theorem bits_tileBits (hi : i < 63) (hc : c < bpp) :
    bits (bitsNat (tileBits bpp tile)) (i * (tileWidths bpp tile).sum + ((tileWidths bpp tile).take c).sum)
      ((tileWidths bpp tile).getD c 0) =
    residual (byteAt (tilePixel tile (i + 1)) c) (byteAt (tilePixel tile (predictor (i + 1))) c) := by
  have hi' : i < (tileResiduals bpp tile).length := by simpa using hi
  obtain ⟨rest, hstream⟩ := drop_tileBits hi' hc
  rw [bits_bitsNat, hstream, List.take_left' (lowBits_length ..), bitsNat_lowBits, Nat.mod_eq_of_lt (residual_lt_width hi' hc),
    tileResiduals_getD hi' hc]

end

/-! ### What the decoder makes of it (R117) -/

/-- The widths that a decoder reads from a slot. -/
def slotWidths (bpp : Nat) (slot : List Byte) : List Nat :=
  (List.range bpp).map (fun c => min 8 (bits (field slot bpp 2) (4 * c) 4))

/-- The decoder's step: pixel i + 1 from the pixels before it. -/
def decodeNext (bpp : Nat) (widths : List Nat) (stream : Nat) (px : List Pixel) (i : Nat) : List Pixel :=
  px ++ [(List.range bpp).map (fun c => byteAt (tilePixel px (predictor (i + 1))) c + BitVec.ofInt 8 (unzig
    (bits stream (i * widths.sum + (widths.take c).sum) (widths.getD c 0))))]

/-- The SIZE of raw tiles in a format (Table 6-2). -/
def rawSize (format : Nat) : Nat := if format = 8 then 4 else 16

theorem decodeTile_compressed {format size clear : Nat} {slot : List Byte} (h0 : 0 < size) (h1 : size < rawSize format) :
    decodeTile format size clear slot =
      (List.range 63).foldl (decodeNext (ptsBpp format) (slotWidths (ptsBpp format) slot) (leNat (slot.drop (ptsBpp format + 2))))
        [slot.take (ptsBpp format)] := by
  unfold rawSize at h1
  have hsize : size % 32 = size ∧ ¬128 ≤ size % 256 := by split at h1 <;> omega
  have hraw : ¬((ptsBpp format = 4 ∧ 16 ≤ size) ∨ (ptsBpp format = 1 ∧ 4 ≤ size)) := by
    unfold ptsBpp
    split at h1 <;> simp [*]
  simp only [decodeTile, hsize.1, hsize.2, h0.ne', hraw, if_false, ← List.sum_eq_foldl_nat]
  rfl

section
variable {bpp : Nat} {tile : List Pixel} (hpix : ∀ p ∈ tile, p.length = bpp) (hlen : tile.length = 64)
include hpix hlen

theorem tilePixel_length {k : Nat} (hk : k < 64) : (tilePixel tile k).length = bpp := by
  rw [tilePixel, List.getD_eq_getElem _ _ (hlen ▸ hk)]
  exact hpix _ (List.getElem_mem _)

/-- The decoder's step gives the next pixel of the tile. -/
theorem decodeNext_tile {i : Nat} (hi : i < 63) :
    decodeNext bpp (tileWidths bpp tile) (bitsNat (tileBits bpp tile)) (tile.take (i + 1)) i = tile.take (i + 2) := by
  have hpred : tilePixel (tile.take (i + 1)) (predictor (i + 1)) = tilePixel tile (predictor (i + 1)) := by
    have hp : predictor (i + 1) < i + 1 := by unfold predictor; split <;> omega
    simp [tilePixel, hp]
  have hk : i + 1 < tile.length := by omega
  have hpixel : tile[i + 1] = tilePixel tile (i + 1) := (List.getD_eq_getElem _ _ hk).symm
  rw [List.take_succ_eq_append_getElem hk, decodeNext, hpred, hpixel]
  congr 2
  apply List.ext_getElem
  · simp [tilePixel_length hpix hlen (show i + 1 < 64 by omega)]
  · intro c hc hc'
    rw [List.length_map, List.length_range] at hc
    rw [List.getElem_map, List.getElem_range, bits_tileBits hi hc, add_unzig_residual, byteAt, List.getD_eq_getElem _ _ hc']

theorem foldl_decodeNext_tile : ∀ n : Nat, n ≤ 63 →
    (List.range n).foldl (decodeNext bpp (tileWidths bpp tile) (bitsNat (tileBits bpp tile))) (tile.take 1) = tile.take (n + 1)
  | 0, _ => rfl
  | n + 1, h => by
    rw [List.range_succ, List.foldl_append, foldl_decodeNext_tile n (by omega), List.foldl_cons, List.foldl_nil,
      decodeNext_tile hpix hlen (by omega)]

end

/-! ### The fields of a slot that holds a compressed tile -/

/-- The size S of a compressed tile in bytes (R116). -/
def packedSize (bpp : Nat) (tile : List Pixel) : Nat := bpp + 2 + ceilDiv (63 * (tileWidths bpp tile).sum) 8

theorem packedTile_length {bpp : Nat} {tile : List Pixel} (hbase : (tilePixel tile 0).length = bpp) :
    (packedTile bpp tile).length = packedSize bpp tile := by
  simp only [packedTile, packedSize, List.length_append, leBytes_length, packBits_length, hbase]

section
variable {bpp : Nat} {tile : List Pixel} (hbase : (tilePixel tile 0).length = bpp) (pad : Nat)
include hbase

theorem packedTile_take : (packedTile bpp tile ++ zeroBytes pad).take bpp = tilePixel tile 0 := by
  rw [packedTile, List.append_assoc, List.append_assoc, List.take_left' hbase]

theorem packedTile_word (hbpp : bpp ≤ 4) :
    field (packedTile bpp tile ++ zeroBytes pad) bpp 2 = Nat.ofDigits 16 (tileWidths bpp tile) := by
  have hword : Nat.ofDigits 16 (tileWidths bpp tile) < 16 ^ 4 := by
    calc Nat.ofDigits 16 (tileWidths bpp tile) < 16 ^ (tileWidths bpp tile).length :=
          Nat.ofDigits_lt_base_pow_length (by decide) fun w hw => (tileWidths_le w hw).trans_lt (by decide)
      _ ≤ 16 ^ 4 := Nat.pow_le_pow_right (by decide) (by simpa using hbpp)
  rw [field, packedTile, List.append_assoc, List.append_assoc, List.drop_left' hbase, List.take_left' (leBytes_length ..),
    leNat_leBytes]
  exact Nat.mod_eq_of_lt hword

theorem slotWidths_packedTile (hbpp : bpp ≤ 4) :
    slotWidths bpp (packedTile bpp tile ++ zeroBytes pad) = tileWidths bpp tile := by
  apply List.ext_getElem
  · simp [slotWidths]
  · intro c hc hc'
    have hle := tileWidths_le _ (List.getElem_mem hc')
    have hnibble : bits (Nat.ofDigits 16 (tileWidths bpp tile)) (4 * c) 4 = (tileWidths bpp tile)[c] := by
      have h := ofDigits_div_mod (b := 16) (by decide) (fun w hw => (tileWidths_le w hw).trans_lt (by decide)) c 1
        (l := tileWidths bpp tile)
      rw [List.drop_eq_getElem_cons hc', List.take_succ_cons, List.take_zero, Nat.ofDigits_singleton] at h
      rw [bits, Nat.pow_mul]
      exact h
    simp only [slotWidths, List.getElem_map, List.getElem_range, packedTile_word hbase pad hbpp, hnibble, min_eq_right hle]

theorem leNat_packedTile_stream :
    leNat ((packedTile bpp tile ++ zeroBytes pad).drop (bpp + 2)) = bitsNat (tileBits bpp tile) := by
  have hhead : (tilePixel tile 0 ++ leBytes 2 (Nat.ofDigits 16 (tileWidths bpp tile))).length = bpp + 2 := by simp [hbase]
  rw [packedTile, List.append_assoc, List.drop_left' hhead, leNat_append_zeroBytes, leNat_packBits]
  rw [tileBits_length]
  unfold ceilDiv
  omega

end

/-! ### The three forms that the encoder writes (R116) -/

/-- The encoder does not keep the compressed form: it is too long, or erratum B0-02 stands against it. -/
abbrev writesRaw (bpp : Nat) (tile : List Pixel) : Prop :=
  (bpp = 4 ∧ 240 < packedSize bpp tile) ∨ (bpp = 1 ∧ (48 < packedSize bpp tile ∨ (tileWidths bpp tile).sum = 5))

theorem encodeTile_solid {format : Nat} {tile : List Pixel} (h : ∀ p ∈ tile, p = tilePixel tile 0) :
    encodeTile format tile = (0, padTo 16 (tilePixel tile 0)) := by
  have hall : tile.all (fun p => p == tilePixel tile 0) = true := by simpa using h
  simp only [encodeTile, hall, if_true]

/-- The width word is the widths as digits of base 16. -/
theorem widthWord_eq {widths : List Nat} {bpp : Nat} (h : widths.length = bpp) :
    (widths.zip (List.range bpp)).foldl (fun acc p => acc + p.1 * 16 ^ p.2) 0 = Nat.ofDigits 16 widths := by
  simpa [List.range_eq_range'] using foldl_zip_weights 16 widths 0 bpp 0 h.le

theorem encodeTile_mixed {format : Nat} {tile : List Pixel} (h : ¬∀ p ∈ tile, p = tilePixel tile 0) :
    encodeTile format tile =
      if writesRaw (ptsBpp format) tile then (16, tile.flatMap fun p => p)
      else (ceilDiv (packedSize (ptsBpp format) tile) 16,
        padTo (16 * ceilDiv (packedSize (ptsBpp format) tile) 16) (packedTile (ptsBpp format) tile)) := by
  have hall : tile.all (fun p => p == tilePixel tile 0) = false := by simpa using h
  have hword := widthWord_eq (tileWidths_length (ptsBpp format) tile)
  unfold tileWidths at hword
  simp only [encodeTile, hall, Bool.false_eq_true, if_false, ← List.sum_eq_foldl_nat, hword]
  rfl

/-- In no format does the limit let a compressed tile reach the SIZE of a raw one. -/
theorem packedSize_bounds {format : Nat} {tile : List Pixel} (h : ¬writesRaw (ptsBpp format) tile) :
    0 < ceilDiv (packedSize (ptsBpp format) tile) 16 ∧ ceilDiv (packedSize (ptsBpp format) tile) 16 < rawSize format ∧
    packedSize (ptsBpp format) tile ≤ 16 * ceilDiv (packedSize (ptsBpp format) tile) 16 := by
  have hpos : 2 < packedSize (ptsBpp format) tile := by
    unfold packedSize ptsBpp
    split <;> omega
  have hlimit : packedSize (ptsBpp format) tile ≤ 16 * (rawSize format - 1) := by
    unfold writesRaw ptsBpp at h
    unfold ptsBpp rawSize
    split at h <;> simp_all
  have hraw : 0 < rawSize format := by unfold rawSize; split <;> decide
  unfold ceilDiv
  omega

/-! ### Each form decodes to its tile -/

variable {format clear : Nat} {tile : List Pixel}

/-- What a reader that fetches the header and the slot of a tile must find (R116, R117, Table 6-2). -/
def decodesTo (format clear : Nat) (tile : List Pixel) (e : Nat × List Byte) : Prop :=
  decodeTile format e.1 clear e.2 = tile ∧ e.2.length = tileBytes format e.1 ∧ e.1 ≤ 16

theorem solid_decodesTo (hbase : (tilePixel tile 0).length = ptsBpp format) (hlen : tile.length = 64)
    (h : ∀ p ∈ tile, p = tilePixel tile 0) : decodesTo format clear tile (0, padTo 16 (tilePixel tile 0)) := by
  have hfits : (tilePixel tile 0).length ≤ 16 := by rw [hbase]; unfold ptsBpp; split <;> decide
  refine ⟨?_, padTo_length .., Nat.zero_le _⟩
  calc decodeTile format 0 clear (padTo 16 (tilePixel tile 0))
      = List.replicate 64 ((padTo 16 (tilePixel tile 0)).take (ptsBpp format)) := rfl
    _ = List.replicate 64 (tilePixel tile 0) := by rw [padTo_of_length_le hfits, List.take_left' hbase]
    _ = tile := (List.eq_replicate_iff.mpr ⟨hlen, h⟩).symm

theorem raw_decodesTo (hpix : ∀ p ∈ tile, p.length = ptsBpp format) (hlen : tile.length = 64) :
    decodesTo format clear tile (16, tile.flatMap fun p => p) := by
  have hbpp : ptsBpp format = 4 ∨ ptsBpp format = 1 := by unfold ptsBpp; split <;> simp
  refine ⟨?_, ?_, Nat.le_refl 16⟩
  · have hdec : decodeTile format 16 clear (tile.flatMap fun p => p) =
        (List.range 64).map fun k => ((tile.flatMap fun p => p).drop (ptsBpp format * k)).take (ptsBpp format) := by
      rcases hbpp with h | h <;> simp [decodeTile, h]
    rw [hdec]
    apply List.ext_getElem
    · simp [hlen]
    · intro k hk hk'
      rw [List.getElem_map, List.getElem_range, Nat.mul_comm, drop_flatMap_const hpix hk',
        List.take_left' (hpix _ (List.getElem_mem _))]
  · rw [length_flatMap_const hpix, hlen]
    unfold tileBytes ptsBpp
    split <;> rfl

theorem packed_decodesTo {size : Nat} (hpix : ∀ p ∈ tile, p.length = ptsBpp format) (hlen : tile.length = 64) (h0 : 0 < size)
    (hraw : size < rawSize format) (hfits : packedSize (ptsBpp format) tile ≤ 16 * size) :
    decodesTo format clear tile (size, padTo (16 * size) (packedTile (ptsBpp format) tile)) := by
  have hbpp : ptsBpp format ≤ 4 := by unfold ptsBpp; split <;> decide
  have hbase : (tilePixel tile 0).length = ptsBpp format := tilePixel_length hpix hlen (by decide)
  have hsize : size < 16 := hraw.trans_le (by unfold rawSize; split <;> decide)
  refine ⟨?_, ?_, hsize.le⟩
  · have hfirst : [tilePixel tile 0] = tile.take 1 := by
      rw [tilePixel, List.getD_eq_getElem _ _ (by omega), List.take_succ_eq_append_getElem (by omega)]
      rfl
    rw [decodeTile_compressed h0 hraw, padTo_of_length_le ((packedTile_length hbase).trans_le hfits), packedTile_take hbase,
      slotWidths_packedTile hbase _ hbpp, leNat_packedTile_stream hbase, hfirst, foldl_decodeNext_tile hpix hlen 63 (by decide),
      List.take_of_length_le hlen.le]
  · unfold rawSize at hraw
    rw [padTo_length]
    simp [tileBytes, show ¬128 ≤ size % 256 by omega, show size % 32 = size by omega, h0.ne', hraw]

end Sys2Proof.Machine

open Sys2Proof Sys2Proof.Machine

/-- Settles O46: solid, raw or compressed, what the encoder writes decodes to the tile. That an A8 tile of width 5 is written
raw is erratum B0-02. -/
theorem packedTilesDecodeToWhatWasEncoded : Obligations.packed_tiles_decode_to_what_was_encoded := by
  intro format clear tile hformat hlen hpix
  by_cases hsolid : ∀ p ∈ tile, p = tilePixel tile 0
  · rw [encodeTile_solid hsolid]
    exact solid_decodesTo (tilePixel_length hpix hlen (by decide)) hlen hsolid
  · rw [encodeTile_mixed hsolid]
    split
    next => exact raw_decodesTo hpix hlen
    next hpacked =>
      obtain ⟨hpos, hraw, hfits⟩ := packedSize_bounds hpacked
      exact packed_decodesTo hpix hlen hpos hraw hfits
end

section
/-! PROOF. The commands of the copy engine (R121 to R123): each is its meaning, at the branch that a clause names. -/

namespace Sys2Proof.Machine

variable {d d1 d2 d3 : Dev} {c : Nat}

/-! ### The submit of a job (R121) -/

/-- A job that the checks of R121 let pass joins its channel's queue, and its block shows status 0001h. -/
theorem takeCopy_joins {code addr : Nat} {b x : List Byte} {it : Item}
    (hcheck : d.checkCopy { block := addr, code := code, seq := field b 4 4, replay := (field b 1 1).testBit 0 } c b = (1, x, d2))
    (hj : d2.journalItem 2 { block := addr, code := code, seq := field b 4 4, replay := (field b 1 1).testBit 0 } c 64 [] =
      (it, d3)) :
    d.takeCopy { block := addr, code := code } c b =
      ((d3.setChan c { d3.chan c with jobs := (d3.chan c).jobs ++ [{ item := it, body := b ++ x }] }).setChanState c 2).writeBlock
        it 48 (leBytes 2 1) := by
  simp only [Dev.takeCopy, hcheck, hj, if_true]
  rfl

/-- A block that its submitter may read and write is taken, by a channel with room for it. -/
theorem submitCopy_takes {who : Init} {addr : Nat} {b : List Byte}
    (hc : d.checkWrite who (copyIndex c) 3 (numData (copyIndex c) 3 addr) = none)
    (hb : d.readSubmitted (initCode who) addr 64 = (some b, d1)) (hfree : (d.chan c).jobs.length < 16)
    (hroom : d.submitRoom (initCode who) = true) :
    d.submitCopy who c addr = (d1.takeCopy { block := addr, code := initCode who } c b).accept := by
  have hfull : d.chanFull c = false := decide_eq_false (Nat.not_le.mpr hfree)
  simp only [Dev.submitCopy, hc, hb, hfull, hroom, Bool.not_true, Bool.false_eq_true, if_false]

/-! ### Segments (R122) -/

/-- A channel whose job in hand has another segment to move. -/
structure SegmentDue (d : Dev) (c op : Nat) (j : CopyJob) (rest : List CopyJob) : Prop where
  jobs : (d.chan c).jobs = j :: rest
  operation : jobOp j.body = op
  busy : d.chanState c = 2
  kept : d.ringCancels j.item = false
  noHalt : j.halt = none
  unfinished : j.pos < jobEnd j.body

variable {j : CopyJob} {rest : List CopyJob} {op : Nat}

/-- The segment of a job, once the Registry has issued its entry, leaves the rest of the queue behind it. -/
theorem copySegment_moves (h : SegmentDue d c op j rest) :
    d.copySegment c op =
      let m := (d.regIssue j.item.entry).segmentOf j
      m.2.setChan c { m.2.chan c with jobs := m.1 :: rest } := by
  obtain ⟨hjobs, hop, hbusy, hkept, hhalt, hpos⟩ := h
  simp [Dev.copySegment, hjobs, hop, hbusy, hkept, hhalt, Nat.not_le.mpr hpos]

/-- A segment of a copy or of a fill goes by pieces of rows. -/
theorem segmentOf_rows (h : jobOp j.body = 1 ∨ jobOp j.body = 4) :
    d.segmentOf j =
      let stop := min (j.pos + 65536) (jobEnd j.body)
      let m := (rowPieces (jobWidth j.body) 65536 j.pos stop).foldl
        (if jobOp j.body = 1 then Dev.copyPiece else Dev.fillPiece) (j, d)
      ({ m.1 with pos := stop }, m.2) := by
  simp only [Dev.segmentOf, h, if_true]
  rfl

/-- A segment of an encode, a decode or a clear goes tile by tile. -/
theorem segmentOf_tiles {x : PtsDesc} (hx : ptsDesc (j.body.drop 64) = some x) (h1 : jobOp j.body ≠ 1)
    (h4 : jobOp j.body ≠ 4) :
    d.segmentOf j =
      let stop := min (j.pos + tilesPerSegment j.body x) (jobEnd j.body)
      let m := ((List.range (stop - j.pos)).map (fun k => j.pos + k)).foldl (if jobOp j.body = 2 then Dev.encodePiece x
        else if jobOp j.body = 3 then Dev.decodePiece x else Dev.clearPiece x) (j, d)
      ({ m.1 with pos := stop }, m.2) := by
  simp only [Dev.segmentOf, h1, h4, hx, or_self, if_false]

/-! ### The enable of a channel (R123) -/

/-- A channel's state stands apart from its other objects. -/
theorem chanState_setO {s : Nat} (hs : s < 256) (h : s ≠ 1) (v : Nat) :
    (d.setO (copyIndex c) s v).chanState c = d.chanState c :=
  getO_setO_other d (objKey_ne hs (by decide) (.inr h.symm)) v

/-- While everything runs, the enable returns a disabled channel to idle. -/
theorem copyEnableVerdict_idles (hst : d.chanState c = 0) (hr : d.running = true) :
    copyEnableVerdict c 1 d = .ok ((d.setO (copyIndex c) 2 1).setChanState c 1) := by
  have hst' : (d.setO (copyIndex c) 2 1).chanState c = 0 := (chanState_setO (by decide) (by decide) 1).trans hst
  have hr' : (d.setO (copyIndex c) 2 1).running = true := hr
  simp [copyEnableVerdict, hst', hr']

/-- A channel with jobs is disabling until the segment in hand has finished. -/
theorem disableChan_waits (hst : d.chanState c = 1 ∨ d.chanState c = 2) (hjobs : (d.chan c).jobs ≠ []) :
    d.disableChan c = (d.setChan c { d.chan c with disableAt := d.clock.ns }).setChanState c 3 := by
  have hon : ¬(d.chanState c = 0 ∨ d.chanState c = 3) := by omega
  have hkept : ((d.setChan c { d.chan c with disableAt := d.clock.ns }).chan c).jobs = (d.chan c).jobs := by
    simp [Dev.chan, Dev.setChan]
  simp [Dev.disableChan, hon, hkept, hjobs]

theorem copyEnableVerdict_disables (hst : d.chanState c = 1 ∨ d.chanState c = 2) (hjobs : (d.chan c).jobs ≠ []) :
    copyEnableVerdict c 0 d =
      .ok (((d.setO (copyIndex c) 2 0).setChan c { d.chan c with disableAt := d.clock.ns }).setChanState c 3) := by
  have hst' : (d.setO (copyIndex c) 2 0).chanState c = d.chanState c := chanState_setO (by decide) (by decide) 0
  have hjobs' : ((d.setO (copyIndex c) 2 0).chan c).jobs ≠ [] := hjobs
  rw [copyEnableVerdict, if_pos rfl, disableChan_waits (hst' ▸ hst) hjobs']
  rfl

/-- The segment commands, while the logic runs. -/
theorem onChannel_moves {q : List Instr} (hl : d.live = true) (hn : c < 32) (h : SegmentDue d c op j rest) :
    act (onUnit c 32 fun d => d.copySegment c op) ⟨q, d⟩ = .next ⟨q, Dev.finish d (
      let m := (d.regIssue j.item.entry).segmentOf j
      m.2.setChan c { m.2.chan c with jobs := m.1 :: rest })⟩ := by
  rw [act_of_live _ hl, onUnit_lt hn, copySegment_moves h]

end Sys2Proof.Machine

open Sys2Proof Sys2Proof.Machine

/-- Settles O17: each command's meaning, at the branch that the clause names. -/
theorem copyEngineCompletes : Obligations.copy_engine_completes := by
  refine ⟨?submit, ?copy, ?fill, ?encode, ?decode, ?clear, ?complete, ?halt, ?enable, ?disable, ?disabled⟩
  case submit =>
    intro q d who c addr b x d1 d2 d3 it hl hs hn hc hb hfree hroom hcheck hj
    rw [exec_copyJobSubmit, execCopyJobSubmit, actServed_of_live _ hl hs, onUnit_lt hn, submitCopy_takes hc hb hfree hroom,
      takeCopy_joins hcheck hj]
  case copy =>
    intro q d c j rest hl hn hjobs hop hbusy hkept hhalt hpos
    rw [exec_copyJobCopy, execCopyJobCopy, onChannel_moves hl hn ⟨hjobs, hop, hbusy, hkept, hhalt, hpos⟩,
      segmentOf_rows (.inl hop), if_pos hop]
  case fill =>
    intro q d c j rest hl hn hjobs hop hbusy hkept hhalt hpos
    rw [exec_fill, execFill, onChannel_moves hl hn ⟨hjobs, hop, hbusy, hkept, hhalt, hpos⟩,
      segmentOf_rows (.inr hop), if_neg (by omega)]
  case encode =>
    intro q d c j rest x hl hn hjobs hop hbusy hkept hhalt hpos hx
    rw [exec_encode, execEncode, onChannel_moves hl hn ⟨hjobs, hop, hbusy, hkept, hhalt, hpos⟩,
      segmentOf_tiles hx (by omega) (by omega), if_pos hop]
  case decode =>
    intro q d c j rest x hl hn hjobs hop hbusy hkept hhalt hpos hx
    rw [exec_decode, execDecode, onChannel_moves hl hn ⟨hjobs, hop, hbusy, hkept, hhalt, hpos⟩,
      segmentOf_tiles hx (by omega) (by omega), if_neg (by omega), if_pos hop]
  case clear =>
    intro q d c j rest x hl hn hjobs hop hbusy hkept hhalt hpos hx
    rw [exec_clear, execClear, onChannel_moves hl hn ⟨hjobs, hop, hbusy, hkept, hhalt, hpos⟩,
      segmentOf_tiles hx (by omega) (by omega), if_neg (by omega), if_neg (by omega)]
  case complete =>
    intro q d c j rest hl hn hjobs hhalt hend
    rw [exec_copyJobComplete, execCopyJobComplete, act_of_live _ hl, onUnit_lt hn]
    simp only [hjobs, hhalt, hend, Option.isNone_none, decide_true, Bool.and_self, if_true]
  case halt =>
    intro q d c j rest status hl hn hjobs hhalt
    rw [exec_copyJobHalt, execCopyJobHalt, act_of_live _ hl, onUnit_lt hn]
    simp only [hjobs, hhalt]
  case enable =>
    intro q d who c hl hs hn hc hst hr
    rw [exec_copyChannelEnableWrite, execCopyChannelEnableWrite, actServed_of_live _ hl hs, onUnit_lt hn,
      request_accepts hc (copyEnableVerdict_idles hst hr), Dev.setChanState]
  case disable =>
    intro q d who c hl hs hn hc hst hjobs
    rw [exec_copyChannelEnableWrite, execCopyChannelEnableWrite, actServed_of_live _ hl hs, onUnit_lt hn,
      request_accepts hc (copyEnableVerdict_disables hst hjobs), Dev.setChanState]
  case disabled =>
    intro q d c hl hn hst
    rw [exec_copyChannelDisableComplete, execCopyChannelDisableComplete, act_of_live _ hl, onUnit_lt hn]
    simp only [hst, beq_self_eq_true, if_true]
end

section
/-! PROOF. The commands of the GPU's queues and cores (R129, R134 to R136, R143, R144, R159, R161): each is its meaning, at the
branch that a clause names. -/

namespace Sys2Proof.Machine

variable {q : List Instr} {d d1 d2 d3 t : Dev} {o k : Nat} {f : Dev → Dev}

/-! ### Commands that name a queue, a partition or a core -/

theorem onQueue_named (ho : partOk o = true) (hk : k < 4) (f : Dev → Dev) (d : Dev) : onQueue o k f d = f d := by
  simp [onQueue, ho, hk]

theorem onPartition_named (ho : partOk o = true) (f : Dev → Dev) (d : Dev) : onPartition o f d = f d := if_pos ho

/-- A command of a queue, by the block that it comes to. -/
theorem onQueue_acts (hl : d.live = true) (ho : partOk o = true) (hk : k < 4) (h : f d = t) :
    act (onQueue o k f) ⟨q, d⟩ = .next ⟨q, Dev.finish d t⟩ := by
  rw [act_of_live _ hl, onQueue_named ho hk, h]

/-- The same of a partition. -/
theorem onPartition_acts (hl : d.live = true) (ho : partOk o = true) (h : f d = t) :
    act (onPartition o f) ⟨q, d⟩ = .next ⟨q, Dev.finish d t⟩ := by
  rw [act_of_live _ hl, onPartition_named ho, h]

/-- The same of a request that names a queue. -/
theorem onQueue_serves (hl : d.live = true) (hs : d.serving = true) (ho : partOk o = true) (hk : k < 4) (h : f d = t) :
    actServed (onQueue o k f) ⟨q, d⟩ = .next ⟨q, Dev.finish d t⟩ := by
  rw [actServed_of_live _ hl hs, onQueue_named ho hk, h]

/-- The same of a command that names a unit. -/
theorem onUnit_acts {n limit : Nat} (hl : d.live = true) (hn : n < limit) (h : f d = t) :
    act (onUnit n limit f) ⟨q, d⟩ = .next ⟨q, Dev.finish d t⟩ := by
  rw [act_of_live _ hl, onUnit_lt hn, h]

/-- The same in a domain that stops in Keep-alive. -/
theorem onUnit_wakes {n limit : Nat} (hl : d.live = true) (ha : d.awake = true) (hn : n < limit) (h : f d = t) :
    actAwake (onUnit n limit f) ⟨q, d⟩ = .next ⟨q, Dev.finish d t⟩ := by
  rw [actAwake_eq, act_of_live _ hl, if_pos ha, onUnit_lt hn, h]

/-! ### Partitions -/

@[simp] theorem part_setPart_same (x : Partition) : (d.setPart o x).part o = x := tabGet_set_same ..

/-- A partition whose queues stay keeps the jobs of each. -/
theorem gq_setPart {x : Partition} (h : x.queues = (d.part o).queues) (k : Nat) : (d.setPart o x).gq o k = d.gq o k := by
  simp only [Dev.gq, part_setPart_same, h]

/-! ### From submit to completion (R134 to R136) -/

/-- A descriptor that its submitter may read is taken, by a queue with room for it. -/
theorem submitGpuJob_takes {who : Init} {addr : Nat} {b : List Byte}
    (hc : d.checkWrite who (partIndex o) (queueSub k 2) (numData (partIndex o) (queueSub k 2) addr) = none)
    (hb : d.readSubmitted o addr 64 = (some b, d1)) (hfull : d.gqFull o b = false) (hroom : d.submitRoom o = true)
    (ht : d1.takeGpuJob { block := addr, code := o } b = t) : d.submitGpuJob who o k addr = t.accept := by
  simp only [Dev.submitGpuJob, hc, hb, hfull, hroom, ht, Bool.not_true, Bool.false_eq_true, if_false]

/-- A job that passes the checks of Table 7-4 joins the queue that it names, and its descriptor shows status 0001h. -/
theorem takeGpuJob_joins {addr : Nat} {b : List Byte} {it : Item} {j : GpuJob} (hcheck : d1.checkGpuJob o addr b = 1)
    (hj : d1.journalItem 3 { block := addr, code := o, seq := field b 4 4, replay := (field b 1 1).testBit 0 }
      (gjQueue b % 4 + 256 * o) 64 [] = (it, d2))
    (hbands : d2.countBands { item := it, number := d2.gpu.accepted + 1, body := b } = (j, d3)) :
    d1.takeGpuJob { block := addr, code := o } b =
      (((({ d3 with gpu := { d3.gpu with accepted := d2.gpu.accepted + 1 } } : Dev).setGq o (gjQueue b)
        { d3.gq o (gjQueue b) with jobs := (d3.gq o (gjQueue b)).jobs ++ [j] }).setGqState o (gjQueue b) 2).writeBlock it 24
          (leBytes 2 1)) := by
  simp only [Dev.takeGpuJob, hcheck, hj, hbands, if_true]

section
variable {j : GpuJob} {rest : List GpuJob}

theorem gpuStart_starts (hjobs : (d.gq o k).jobs = j :: rest) (hnew : j.started = false) (hheld : j.held = false)
    (hcores : (if k = 1 then d.computeCores o else d.members o) ≠ []) (hbusy : d.gqState o k = 2) (hruns : d.gpuRuns = true) :
    d.gpuStart o k = ((((d.freshMap o k).invalidateL2 o).regIssue j.item.entry).setHead o k
      { j with started := true, startAt := d.clock.ns }).writeBlock j.item 24 (leBytes 2 2) := by
  have hgo : (j.started || j.held || (if k = 1 then d.computeCores o else d.members o).isEmpty || d.gqState o k != 2
      || !d.gpuRuns) = false := by
    simp only [hnew, hheld, hbusy, hruns, List.isEmpty_eq_false_iff.mpr hcores]
    rfl
  simp only [Dev.gpuStart, hjobs, hgo, Bool.false_eq_true, if_false]

theorem gpuComplete_ends (hjobs : (d.gq o k).jobs = j :: rest) (hruns : j.runs = true) (hend : j.atEnd = true)
    (hband : j.band = none) (hhere : j.awaySince = none) :
    d.gpuComplete o k = d.endGpuJob o k j (if j.overran then 3 else 0) := by
  simp [Dev.gpuComplete, hjobs, hruns, hend, hband, hhere]

/-- A job that a packet has halted ends with the status of its halt. -/
theorem gpuHalts_ends {status : Nat} (hjobs : (d.gq o k).jobs = j :: rest) (hst : j.started = true) (hheld : j.held = false)
    (hhalt : j.halt = some status) : d.gpuHalts o k = d.endGpuJob o k j status := by
  have hs : d.haltStatus o k j = some (j, status, d) := by simp only [Dev.haltStatus, hhalt]
  simp [Dev.gpuHalts, hjobs, hst, hheld, hs]

/-- The job in hand of a disabling queue is stopped; a compute job is preempted first (R144). -/
theorem graceExpires_ends (hjobs : (d.gq o k).jobs = j :: rest) (hst : j.started = true) (hdis : d.gqState o k = 3) :
    d.graceExpires o k =
      d.endGpuJob o k (if k = 1 ∧ j.awaySince = none then { j with preempts := j.preempts + 1 } else j) 0x20 := by
  simp [Dev.graceExpires, hjobs, hst, hdis]

/-- Once the bands that held it are Ready, the compute job resumes, and the time that it was away counts (R161). -/
theorem holdEnds_resumes {away : Nat} (hreq : (d.part o).request = none)
    (hready : (d.part o).hold.all (fun h => d.bandState h.1 h.2 == 2) = true) (hjobs : (d.gq o 1).jobs = j :: rest)
    (haway : j.awaySince = some away) :
    d.holdEnds o = (d.setPart o { d.part o with hold := [] }).setHead o 1
      { j with awaySince := none, away := j.away + (d.clock.ns - away) } := by
  simp [Dev.holdEnds, hreq, hready, gq_setPart, hjobs, haway]

end

/-! ### Cores (R129, R143) -/

section
variable {c : Nat}

/-- A Member that fails is Faulted, counted and logged, and the jobs that had work on it are held (R143). -/
theorem gpuFault_holds (hc : d.gpuCore c = 2) (had : Nat) :
    d.gpuFault c had = ((List.range 4).filter (fun k => had.testBit k)).foldl
      (fun x k => x.holdGpuJob (d.ownerByte (blockId 6 c)) k)
      (((((d.setGpuCore c 5).count 0x2500 9).count (0x2501 + c) 4).transientFault 0x8101 c).flushL2
        (d.ownerByte (blockId 6 c))) :=
  if_neg (not_not.mpr hc)

/-- A Faulted core is a Member again, and the jobs that its fault stopped are issued again. -/
theorem gpuResetDone_returns (hc : d.gpuCore c = 5) (ho : partOk (d.ownerByte (blockId 6 c)) = true) :
    d.gpuResetDone c =
      (List.range 4).foldl (fun x k => x.reissueGpuJob (d.ownerByte (blockId 6 c)) k) (d.setGpuCore c 2) := by
  simp only [Dev.gpuResetDone, hc, ho, true_or, if_true]

/-- The core of a hand-over is Unowned until its new owner shows. -/
theorem gpuResetDone_frees (hc : d.gpuCore c = 4) (ho : partOk (d.ownerByte (blockId 6 c)) = false) :
    d.gpuResetDone c = d.setGpuCore c 0 := by
  simp [Dev.gpuResetDone, hc, ho]

/-- A core that leaves others behind is reset, and the partition is reshaped. -/
theorem coreDrained_reshapes (hc : d.gpuCore c = 3) (hwork : d.workLeft (d.ownerByte (blockId 6 c)) = false)
    (hstay : d.staying (d.ownerByte (blockId 6 c)) ≠ []) :
    d.coreDrained c = (((d.flushL2 (d.ownerByte (blockId 6 c))).invalidateL2 (d.ownerByte (blockId 6 c))).setGpuCore c
      4).reshape (d.ownerByte (blockId 6 c)) := by
  have hlast : (d.staying (d.ownerByte (blockId 6 c))).isEmpty = false := List.isEmpty_eq_false_iff.mpr hstay
  simp [Dev.coreDrained, hc, hwork, hlast]

/-- With the last core the partition's disabling queues end, and its map is empty. -/
theorem coreDrained_empties (hc : d.gpuCore c = 3) (hwork : d.workLeft (d.ownerByte (blockId 6 c)) = false)
    (hstay : d.staying (d.ownerByte (blockId 6 c)) = []) (ho : partOk (d.ownerByte (blockId 6 c)) = true) :
    d.coreDrained c =
      let o := d.ownerByte (blockId 6 c)
      let x := (List.range 4).foldl (fun b k => if b.gqState o k = 3 then b.gqDisabled o k else b) d
      let y := ((x.flushL2 o).invalidateL2 o).setGpuCore c 4
      y.setPart o { y.part o with map := [] } := by
  simp [Dev.coreDrained, hc, hwork, hstay, ho]

theorem reshape_at_point (hidle : d.drawing o = false) (hcores : d.coresOf o ≠ []) :
    d.reshape o =
      let x := (d.flushL2 o).invalidateL2 o
      let y := ((x.coresOf o).filter (fun c => x.gpuCore c == 1)).foldl (fun b c => b.setGpuCore c 2) x
      (y.setPart o { y.part o with map := y.members o }).count (partIndex o) 9 := by
  simp [Dev.reshape, hidle, hcores]

end

/-! ### The enable of a queue, and the end of a preemption (R144, R159) -/

/-- While everything runs, the enable returns a disabled queue to idle. -/
theorem gqEnableVerdict_idles (hst : (d.setO (partIndex o) (queueSub k 0) 1).gqState o k = 0) (hr : d.running = true) :
    gqEnableVerdict o k 1 d = .ok ((d.setO (partIndex o) (queueSub k 0) 1).setGqState o k 1) := by
  have hr' : (d.setO (partIndex o) (queueSub k 0) 1).running = true := hr
  simp [gqEnableVerdict, hst, hr']

theorem gqEnableVerdict_disables :
    gqEnableVerdict o k 0 d = .ok ((d.setO (partIndex o) (queueSub k 0) 0).disableGq o k) := rfl

/-- A preemption within its bound, and no longer than the longest yet, shows its time alone, and its waves are spilled. -/
theorem preempted_records {at_ layer : Nat} (hreq : (d.part o).request = some (at_, layer))
    (hmost : d.clock.ns - at_ ≤ d.getO 0x25B0 5)
    (hbound : 1000 * ((d.setPart o { d.part o with request := none }).setO (bandIndex layer) 0x13
      (d.clock.ns - at_)).preemptionBound ≥ d.clock.ns - at_) :
    d.preempted o = ((d.setPart o { d.part o with request := none }).setO (bandIndex layer) 0x13
      (d.clock.ns - at_)).spillWaves o := by
  have hmost' : ¬(d.setPart o { d.part o with request := none }).getO 0x25B0 5 < d.clock.ns - at_ := Nat.not_lt.mpr hmost
  simp only [Dev.preempted, hreq, hmost', Nat.not_lt.mpr hbound, if_false]

end Sys2Proof.Machine

open Sys2Proof Sys2Proof.Machine

/-- Settles O18: each command's meaning, at the branch that the clause names. -/
theorem gpuQueuesComplete : Obligations.gpu_queues_complete := by
  refine ⟨?submit, ?start, ?complete, ?halt, ?overrun, ?fault, ?freed, ?returned, ?drained, ?emptied, ?reshape, ?enable,
    ?disable, ?grace, ?disabled, ?preempted, ?resumed⟩
  case submit =>
    intro q d who o k addr b d1 d2 d3 it j hl hs ho hk hc hb hfull hroom hcheck hj hbands
    exact onQueue_serves hl hs ho hk (submitGpuJob_takes hc hb hfull hroom (takeGpuJob_joins hcheck hj hbands))
  case start =>
    intro q d o k j rest hl ho hk hjobs hnew hheld hcores hbusy hruns
    exact onQueue_acts hl ho hk (gpuStart_starts hjobs hnew hheld hcores hbusy hruns)
  case complete =>
    intro q d o k j rest hl ho hk hjobs hruns hend hband hhere
    exact onQueue_acts hl ho hk (gpuComplete_ends hjobs hruns hend hband hhere)
  case halt =>
    intro q d o k j rest status hl ho hk hjobs hst hheld hhalt
    exact onQueue_acts hl ho hk (gpuHalts_ends hjobs hst hheld hhalt)
  case overrun =>
    intro q d o j rest hl ho hjobs hst hbudget hfirst hhere hover
    rw [exec_budgetOverrun, execBudgetOverrun, act_of_live _ hl, onPartition_named ho]
    simp [hjobs, hst, hbudget, hfirst, hhere, hover]
  case fault =>
    intro q d c had hl ha hn hc
    exact onUnit_wakes hl ha hn (gpuFault_holds hc had)
  case freed =>
    intro q d c hl ha hn hc ho
    exact onUnit_wakes hl ha hn (gpuResetDone_frees hc ho)
  case returned =>
    intro q d c hl ha hn hc ho
    exact onUnit_wakes hl ha hn (gpuResetDone_returns hc ho)
  case drained =>
    intro q d c hl hn hc hwork hstay
    exact onUnit_acts hl hn (coreDrained_reshapes hc hwork hstay)
  case emptied =>
    intro q d c hl hn hc hwork hstay ho
    exact onUnit_acts hl hn (coreDrained_empties hc hwork hstay ho)
  case reshape =>
    intro q d o hl ho hidle hcores
    exact onPartition_acts hl ho (reshape_at_point hidle hcores)
  case enable =>
    intro q d who o k hl hs ho hk hc hst hr
    exact onQueue_serves hl hs ho hk (request_accepts hc (gqEnableVerdict_idles hst hr))
  case disable =>
    intro q d who o k hl hs ho hk hc
    exact onQueue_serves hl hs ho hk (request_accepts hc gqEnableVerdict_disables)
  case grace =>
    intro q d o k j rest hl ho hk hjobs hst hdis
    exact onQueue_acts hl ho hk (graceExpires_ends hjobs hst hdis)
  case disabled =>
    intro q d o k hl ho hk hdis hnone
    rw [exec_gpuQueueDisableComplete, execGpuQueueDisableComplete, act_of_live _ hl, onQueue_named ho hk]
    simp only [hdis, hnone, Bool.not_false, and_self, if_true]
  case preempted =>
    intro q d o at_ layer hl ho hreq hmost hbound
    exact onPartition_acts hl ho (preempted_records hreq hmost hbound)
  case resumed =>
    intro q d o j rest away hl ho hreq hready hjobs haway
    exact onPartition_acts hl ho (holdEnds_resumes hreq hready hjobs haway)
end

section
/-! PROOF. The packets of a command buffer that draw, dispatch and move (R137 to R139, R141, R161, R186): the effect of each on a
job that it does not halt for its form, and the job that goes on or halts with the status of an access. -/

namespace Sys2Proof.Machine

variable {d d1 d2 : Dev} {o k op : Nat} {j : GpuJob} {p : Packet} {x : Pipeline} {r : Halted}

/-! ### The job at a packet -/

/-- A job that stands at a packet has met no halt and waits for nothing. -/
theorem atPacket_free (h : d.atPacket o k op j p d1) : j.halt = none ∧ j.wait = none ∧ j.rodWait = none := by
  obtain ⟨_, hruns, _⟩ := h
  exact runs_free hruns

/-- A packet that leaves its job as it stands after it: the job goes on. -/
theorem packet_past {f : Effect} (h : d.atPacket o k op j p d1) (hf : f p (j.past p) d1 = some (j.past p, d2)) :
    d.packet o k op f = d2.setHead o k (j.past p).norm := by
  have hfree := atPacket_free h
  exact packet_goes h f hf hfree

/-- A packet with an access that may stop it: the job goes on, or halts there with the status of that access (R138). -/
theorem packet_halting {f : Effect} (h : d.atPacket o k op j p d1) (hf : f p (j.past p) d1 = halting (j.past p) r) :
    d.packet o k op f = r.2.setHead o k (j.outcome p r.1) := by
  obtain ⟨status, d2⟩ := r
  cases status with
  | none => exact packet_past h hf
  | some status => exact packet_at h f hf

/-! ### What each packet does -/

/-- SET_PIPELINE binds a pipeline of the queue's kind (R186). -/
theorem setPipelineEffect_binds (hx : d.pipeline o (p.pair 1) j.number = some x) (hkind : x.kind = 2 ↔ k = 1) :
    setPipelineEffect o k p j d = some ({ j with pipeline := p.pair 1 }, d) := by
  simp only [setPipelineEffect, hx]
  exact if_pos (propext hkind)

/-- SET_STATE writes registers inside one row of Table 7-7 (R139). -/
theorem setStateEffect_writes (hfirst : p.word 1 < 65536)
    (hrow : registerRows.any (fun r => r.1 ≤ p.word 1 && p.word 1 + (p.words.drop 1).length - 1 ≤ r.2) = true) :
    setStateEffect p j d = some ({ j with
      regs := ((p.words.drop 1).zip (List.range (p.words.drop 1).length)).foldl (fun t x => tabSet 0 t (p.word 1 + x.2) x.1)
        j.regs }, d) := by
  simp only [setStateEffect, Nat.mod_eq_of_lt hfirst, hrow, Nat.not_le.mpr hfirst, Bool.not_true, Bool.false_eq_true, or_self,
    if_false]

/-- CALL starts an aligned buffer from the job's own. -/
theorem callEffect_calls (htop : j.called = none) (haddr : addrOk (p.pair 1) = true) (halign : p.pair 1 % 64 = 0)
    (hwords : p.word 3 % 4 = 0) (hmin : 4 ≤ p.word 3) (hmax : p.word 3 ≤ 16777216) :
    callEffect p j d = some ({ j with called := some (p.pair 1, p.word 3), back := j.pc, pc := 0 }, d) := by
  simp [callEffect, htop, haddr, halign, hwords, Nat.not_lt.mpr hmin, Nat.not_lt.mpr hmax]

/-- A draw or dispatch of a job with a pipeline bound runs it. -/
theorem withPipeline_bound (hx : d.pipeline o j.pipeline j.number = some x) (f : Pipeline → Option (GpuJob × Dev)) :
    withPipeline o j d f = f x := by
  simp only [withPipeline, hx]

theorem drawEffect_runs (hx : d.pipeline o j.pipeline j.number = some x)
    (hr : d.drawCall o j x (plainCall (p.word 1) (p.word 2) (p.word 3) (p.word 4)) = some r) :
    drawEffect o p j d = halting j r := by
  rw [drawEffect, withPipeline_bound hx, hr]
  rfl

/-- DRAW_INDEXED reads its indices, and then draws the vertices that they name. -/
theorem drawIndexedEffect_runs {l : List Nat} (hres : bits (p.word 7) 8 23 = 0) (hx : d.pipeline o j.pipeline j.number = some x)
    (hl : d.readIndices o (p.pair 6 % 2 ^ 40) (if (p.word 7).testBit 31 then 4 else 2) (p.word 8) (p.word 3) (p.word 1) =
      (.ok l, d2))
    (hr : d2.drawCall o j x
      { vertices := l.map (fun (i : Nat) => (((i : Int) + asSigned 32 (p.word 4)) % (2 ^ 32 : Int)).toNat)
        instances := p.word 2
        firstInst := p.word 5 } = some r) :
    drawIndexedEffect o p j d = halting j r := by
  simp only [drawIndexedEffect, hres, withPipeline_bound hx, hl, hr, ne_eq, not_true_eq_false, if_false]
  rfl

/-- DRAW_INDIRECT draws the records at an address of the partition's. -/
theorem drawIndirectEffect_runs (haddr : addrOk (p.pair 1) = true) (hstride : p.word 4 % 4 = 0) (hmin : 16 ≤ p.word 4)
    (hx : d.pipeline o j.pipeline j.number = some x)
    (hr : d.drawRecords o j x (p.pair 1) (p.word 4) (p.word 3) = some r) : drawIndirectEffect o p j d = halting j r := by
  simp only [drawIndirectEffect, haddr, hstride, Nat.not_lt.mpr hmin, withPipeline_bound hx, hr, Bool.not_true, Bool.false_eq_true,
    ne_eq, not_true_eq_false, or_self, if_false]
  rfl

/-- A count of workgroups with which a dispatch runs (Table 7-6). -/
abbrev runsGroups (n : Nat) : Prop := 1 ≤ n ∧ n ≤ 65535

theorem dispatchCounts_runs {a b c : Nat} (ha : runsGroups a) (hb : runsGroups b) (hc : runsGroups c)
    (hx : d.pipeline o j.pipeline j.number = some x) (hr : d.dispatchCall o j x [a, b, c] = some r) :
    dispatchCounts o j d a b c = halting j r := by
  have hfits : ¬(65535 < a ∨ 65535 < b ∨ 65535 < c) := by omega
  have hsome : ¬(a = 0 ∨ b = 0 ∨ c = 0) := by omega
  rw [dispatchCounts, if_neg hfits, withPipeline_bound hx, if_neg hsome, hr]
  rfl

theorem dispatchEffect_counts (hheld : d.computeHeld o = false) :
    dispatchEffect o p j d = dispatchCounts o j d (p.word 1) (p.word 2) (p.word 3) := by
  simp only [dispatchEffect, hheld, Bool.false_eq_true, if_false]

/-- DISPATCH_INDIRECT takes its counts from memory. -/
theorem dispatchIndirectEffect_counts {b : List Byte} (hheld : d.computeHeld o = false) (haddr : addrOk (p.pair 1) = true)
    (hb : d.gpuRead o (p.pair 1) 12 = (.ok b, d2)) :
    dispatchIndirectEffect o p j d = dispatchCounts o j d2 (field b 0 4) (field b 4 4) (field b 8 4) := by
  simp only [dispatchIndirectEffect, hheld, haddr, hb, Bool.not_true, Bool.false_eq_true, if_false]

/-- COPY moves its rows, from a source or from a fill word. -/
theorem copyEffect_moves (hmode : p.word 1 ≤ 2) (hdst : addrOk (p.pair 4) = true) (hfill : p.word 1 = 2 → p.word 3 = 0)
    (hsrc : p.word 1 ≠ 2 → addrOk (p.pair 2) = true) :
    copyEffect o p j d =
      halting j ((List.range (if p.word 1 = 0 then 1 else p.word 7)).foldl (gpuCopyRow o p) (none, d)) := by
  have hfrom : (if p.word 1 = 2 then p.word 3 != 0 else !(addrOk (p.pair 2))) = false := by
    split
    next h => simp [hfill h]
    next h => simp [hsrc h]
  simp only [copyEffect, Nat.not_lt.mpr hmode, hdst, hfrom, Bool.not_true, Bool.false_eq_true, or_self, if_false]

end Sys2Proof.Machine

open Sys2Proof Sys2Proof.Machine

/-- Settles O19: each packet's effect, on the job that stands at it; where the access that may stop a packet stopped nothing, the
job goes on. -/
theorem gpuPacketsComplete : Obligations.gpu_packets_complete := by
  refine ⟨?nop, ?bind, ?state, ?call, ?draw, ?drawGoes, ?indexed, ?indexedGoes, ?indirect, ?indirectGoes, ?dispatch,
    ?dispatchGoes, ?dispatchIndirect, ?dispatchIndirectGoes, ?copy, ?copyGoes⟩
  case nop =>
    intro q d o k j p d1 hl ho hk hp
    exact onQueue_acts hl ho hk (packet_past hp rfl)
  case bind =>
    intro q d o k j p d1 x hl ho hk hp hx hkind
    have hfree := atPacket_free hp
    exact onQueue_acts hl ho hk (packet_goes hp _ (setPipelineEffect_binds hx hkind) hfree)
  case state =>
    intro q d o k j p d1 hl ho hk hp hfirst hrow
    have hfree := atPacket_free hp
    exact onQueue_acts hl ho hk (packet_goes hp _ (setStateEffect_writes hfirst hrow) hfree)
  case call =>
    intro q d o k j p d1 hl ho hk hp htop haddr halign hwords hmin hmax
    have hfree := atPacket_free hp
    exact onQueue_acts hl ho hk
      (packet_goes hp _ (callEffect_calls htop haddr halign hwords hmin hmax) hfree)
  case draw =>
    intro q d o k j p d1 x r hl ho hk hp hx hr
    exact onQueue_acts hl ho hk (packet_halting hp (drawEffect_runs hx hr))
  case drawGoes =>
    intro q d o k j p d1 x dr hl ho hk hp hx hr
    exact onQueue_acts hl ho hk (packet_halting (r := (none, dr)) hp (drawEffect_runs hx hr))
  case indexed =>
    intro q d o k j p d1 x l d2 r hl ho hk hp hres hx hread hr
    exact onQueue_acts hl ho hk (packet_halting hp (drawIndexedEffect_runs hres hx hread hr))
  case indexedGoes =>
    intro q d o k j p d1 x l d2 dr hl ho hk hp hres hx hread hr
    exact onQueue_acts hl ho hk (packet_halting (r := (none, dr)) hp (drawIndexedEffect_runs hres hx hread hr))
  case indirect =>
    intro q d o k j p d1 x r hl ho hk hp haddr hstride hmin hx hr
    exact onQueue_acts hl ho hk (packet_halting hp (drawIndirectEffect_runs haddr hstride hmin hx hr))
  case indirectGoes =>
    intro q d o k j p d1 x dr hl ho hk hp haddr hstride hmin hx hr
    exact onQueue_acts hl ho hk (packet_halting (r := (none, dr)) hp (drawIndirectEffect_runs haddr hstride hmin hx hr))
  case dispatch =>
    intro q d o k j p d1 x r hl ho hk hp hheld h1 h1' h2 h2' h3 h3' hx hr
    exact onQueue_acts hl ho hk (packet_halting hp
      ((dispatchEffect_counts hheld).trans (dispatchCounts_runs ⟨h1, h1'⟩ ⟨h2, h2'⟩ ⟨h3, h3'⟩ hx hr)))
  case dispatchGoes =>
    intro q d o k j p d1 x dr hl ho hk hp hheld h1 h1' h2 h2' h3 h3' hx hr
    exact onQueue_acts hl ho hk (packet_halting (r := (none, dr)) hp
      ((dispatchEffect_counts hheld).trans (dispatchCounts_runs ⟨h1, h1'⟩ ⟨h2, h2'⟩ ⟨h3, h3'⟩ hx hr)))
  case dispatchIndirect =>
    intro q d o k j p d1 x b d2 r hl ho hk hp hheld haddr hb h1 h1' h2 h2' h3 h3' hx hr
    exact onQueue_acts hl ho hk (packet_halting hp
      ((dispatchIndirectEffect_counts hheld haddr hb).trans (dispatchCounts_runs ⟨h1, h1'⟩ ⟨h2, h2'⟩ ⟨h3, h3'⟩ hx hr)))
  case dispatchIndirectGoes =>
    intro q d o k j p d1 x b d2 dr hl ho hk hp hheld haddr hb h1 h1' h2 h2' h3 h3' hx hr
    exact onQueue_acts hl ho hk (packet_halting (r := (none, dr)) hp
      ((dispatchIndirectEffect_counts hheld haddr hb).trans (dispatchCounts_runs ⟨h1, h1'⟩ ⟨h2, h2'⟩ ⟨h3, h3'⟩ hx hr)))
  case copy =>
    intro q d o k j p d1 hl ho hk hp hmode hdst hfill hsrc
    exact onQueue_acts hl ho hk (packet_halting hp (copyEffect_moves hmode hdst hfill hsrc))
  case copyGoes =>
    intro q d o k j p d1 dr hl ho hk hp hmode hdst hfill hsrc hr
    exact onQueue_acts hl ho hk (packet_halting (r := (none, dr)) hp
      ((copyEffect_moves hmode hdst hfill hsrc).trans (congrArg _ hr)))
end

section
/-! PROOF. The packets of fences, waits, bands, beads and the time (R140, R141, R154, R155): the effect of each on a job that it
does not halt, and the end of each wait. -/

namespace Sys2Proof.Machine

variable {d d1 d2 d3 : Dev} {o k : Nat} {j : GpuJob} {p : Packet}

/-! ### Fences (R140) -/

/-- FENCE_WRITE without a post writes back, then the fence record, and wakes the waits on it. -/
theorem fenceWriteEffect_writes (haddr : addrOk (p.pair 1) = true) (halign : p.pair 1 % 16 = 0)
    (hres : bits (p.word 5) 11 20 = 0) (hpost : (p.word 5).testBit 31 = false)
    (hw : (d.flushL2 o).gpuWrite o (p.pair 1) (leBytes 8 (p.pair 3) ++ leBytes 8 (d.flushL2 o).clock.ns) = (true, d2)) :
    fenceWriteEffect o p j d = some (j, (d2.flushL2 o).fenceWritten (p.pair 1)) := by
  simp [fenceWriteEffect, haddr, halign, hres, hpost, hw]

/-- With a source of its owner, the post comes last. -/
theorem fenceWriteEffect_posts (haddr : addrOk (p.pair 1) = true) (halign : p.pair 1 % 16 = 0)
    (hres : bits (p.word 5) 11 20 = 0) (hpost : (p.word 5).testBit 31 = true)
    (hw : (d.flushL2 o).gpuWrite o (p.pair 1) (leBytes 8 (p.pair 3) ++ leBytes 8 (d.flushL2 o).clock.ns) = (true, d2))
    (hsource : ((d2.flushL2 o).fenceWritten (p.pair 1)).sourceFor o (p.word 5 % 2048) = true) :
    fenceWriteEffect o p j d = some (j, ((d2.flushL2 o).fenceWritten (p.pair 1)).post (p.word 5 % 2048)) := by
  have hnamed : p.word 5 % 2048 ≠ 0xFFFF := by omega
  simp [fenceWriteEffect, haddr, halign, hres, hpost, hw, hsource, hnamed]

/-- FENCE_WAIT at a value that has been reached sees memory as it is now. -/
theorem fenceWaitEffect_reached (haddr : addrOk (p.pair 1) = true) (halign : p.pair 1 % 8 = 0)
    (hf : d.fenceReached o (p.pair 1) (p.pair 3) = (.ok true, d2)) :
    fenceWaitEffect o p j d = some (j, d2.invalidateL2 o) := by
  simp [fenceWaitEffect, haddr, halign, hf]

theorem fenceWaitEffect_waits (haddr : addrOk (p.pair 1) = true) (halign : p.pair 1 % 8 = 0)
    (hf : d.fenceReached o (p.pair 1) (p.pair 3) = (.ok false, d2)) :
    fenceWaitEffect o p j d = some ({ j with wait := some (p.pair 1, p.pair 3), timeout := p.word 5 != 0 }, d2) := by
  simp [fenceWaitEffect, haddr, halign, hf]

/-! ### Rods and the time (R141) -/

theorem rodWaitEffect_passed (hrod : p.word 1 < 12) (hpos : p.pair 2 ≤ d.rodPosition (p.word 1)) :
    rodWaitEffect p j d = some (j, d) := by
  rw [rodWaitEffect, if_neg (by omega), if_pos hpos]

theorem rodWaitEffect_waits (hrod : p.word 1 < 12) (hpos : d.rodPosition (p.word 1) < p.pair 2) :
    rodWaitEffect p j d = some ({ j with rodWait := some (p.word 1, p.pair 2), timeout := p.word 4 != 0 }, d) := by
  rw [rodWaitEffect, if_neg (by omega), if_neg (Nat.not_le.mpr hpos)]

/-- BEAD_ARM makes two writes as its owner: the action word, then the bead word. -/
theorem beadArmEffect_arms (hslot : p.word 1 < 512)
    (haction : d.tryWrite (initOf o) (beadIndex (p.word 1)) (wordSub (p.word 1) + 1) (leBytes 8 (p.pair 4))
      (actionWordVerdict (p.word 1) (p.pair 4)) = .ok d2)
    (hbead : d2.tryWrite (initOf o) (beadIndex (p.word 1)) (wordSub (p.word 1)) (leBytes 8 (p.pair 2))
      (beadWordVerdict (p.word 1) (p.pair 2)) = .ok d3) :
    beadArmEffect o p j d = some (j, d3) := by
  simp only [beadArmEffect, Nat.not_le.mpr hslot, haction, hbead, if_false]

theorem timestampEffect_writes (haddr : addrOk (p.pair 1) = true) (halign : p.pair 1 % 16 = 0) (hrod : p.word 3 < 12)
    (hw : d.gpuWrite o (p.pair 1) (leBytes 8 d.clock.ns ++ leBytes 8 (d.rodPosition (p.word 3))) = (true, d2)) :
    timestampEffect o p j d = some (j, d2) := by
  have hform : ¬((!addrOk (p.pair 1)) = true ∨ p.pair 1 % 16 ≠ 0 ∨ 11 < p.word 3) := by
    simp [haddr, halign]; omega
  rw [timestampEffect, if_neg hform, hw]
  rfl

/-! ### Bands (R154, R155) -/

/-- BAND_BEGIN opens a band of a layer of its owner that no swap holds, and takes the job's count of it back. -/
theorem bandBeginEffect_opens {l b : Nat} (hword : p.word 1 = l + 256 * b) (hl : l < 48) (hb : b < 256) (hone : j.band = none)
    (htop : j.called = none) (hon : (d.band l).on = true) (hown : d.owner (blockId 2 l) = o) (hcount : b < d.bandCount l)
    (hswap : tabGet false (d.band l).deferred b = false) (hnamed : j.named.contains (l, b) = true) :
    bandBeginEffect o p j d = some ({ j with band := some (l, b), named := j.named.erase (l, b) },
      (d.setBandPending l b (d.bandPending l b - 1)).setBandState l b 1) := by
  have hlayer : (l + 256 * b) % 64 = l := by omega
  have hband : bits (l + 256 * b) 8 8 = b := by unfold bits; omega
  simp only [bandBeginEffect, hword, hlayer, hband, hone, htop, hon, hown, hswap, hnamed, Nat.not_le.mpr hl, Nat.not_le.mpr hcount,
    Option.isSome_none, Bool.not_true, Bool.false_eq_true, ne_eq, not_true_eq_false, or_self, if_false, if_true]

theorem bandEndEffect_closes (h : j.band.isSome = true) : bandEndEffect p j d = some ({ j with closing := true }, d) := by
  simp [bandEndEffect, Option.ne_none_iff_isSome.mpr h]

/-! ### What ends a wait -/

section
variable {rest : List GpuJob}

theorem fenceSatisfied_goes {a v : Nat} (hjobs : (d.gq o k).jobs = j :: rest) (hwait : j.wait = some (a, v))
    (hf : d.fenceReached o a v = (.ok true, d2)) :
    d.fenceSatisfied o k = (d2.invalidateL2 o).setHead o k ({ j with wait := none } : GpuJob).norm := by
  simp only [Dev.fenceSatisfied, hjobs, hwait, hf]

theorem rodSatisfied_goes {r v : Nat} (hjobs : (d.gq o k).jobs = j :: rest) (hwait : j.rodWait = some (r, v))
    (hpos : v ≤ d.rodPosition r) : d.rodSatisfied o k = d.setHead o k ({ j with rodWait := none } : GpuJob).norm := by
  simp only [Dev.rodSatisfied, hjobs, hwait, hpos, if_true]

/-- A wait with a timeout halts at its packet with status 0034h when it has passed. -/
theorem waitTimeout_halts {fence : Bool} (hjobs : (d.gq o k).jobs = j :: rest) (htime : j.timeout = true)
    (hwait : (if fence then j.wait.isSome else j.rodWait.isSome) = true) :
    d.waitTimeout o k fence = d.setHead o k
      { j.halted 0x34 with wait := none, rodWait := none, packet := j.pc - (if fence then 24 else 20) } := by
  simp only [Dev.waitTimeout, hjobs, htime, hwait, Bool.and_self, if_true]

/-- The band whose write-back is done is Ready. -/
theorem bandWritten_readies {l b : Nat} (hjobs : (d.gq o k).jobs = j :: rest) (hclosing : j.closing = true)
    (hband : j.band = some (l, b)) (hst : (d.writeBack o (d.inBand l b)).bandState l b = 1) :
    d.bandWritten o k =
      ((d.writeBack o (d.inBand l b)).setBandState l b 2).setHead o k { j with band := none, closing := false } := by
  simp only [Dev.bandWritten, hjobs, hclosing, hband, hst, if_true]

end

end Sys2Proof.Machine

open Sys2Proof Sys2Proof.Machine

/-- Settles O20: each packet's effect, on the job that stands at it, and the end of each wait, on the job in hand. -/
theorem gpuWaitsAndFencesComplete : Obligations.gpu_waits_and_fences_complete := by
  refine ⟨?fence, ?fencePost, ?reached, ?waits, ?satisfied, ?timeout, ?rodSatisfied, ?rodTimeout, ?rodPassed, ?rodWaits,
    ?bandBegin, ?bandEnd, ?bandWritten, ?beadArm, ?timestamp⟩
  case fence =>
    intro q d o k j p d1 d2 hl ho hk hp haddr halign hres hpost hw
    exact onQueue_acts hl ho hk (packet_past hp (fenceWriteEffect_writes haddr halign hres hpost hw))
  case fencePost =>
    intro q d o k j p d1 d2 hl ho hk hp haddr halign hres hpost hw hsource
    exact onQueue_acts hl ho hk (packet_past hp (fenceWriteEffect_posts haddr halign hres hpost hw hsource))
  case reached =>
    intro q d o k j p d1 d2 hl ho hk hp haddr halign hf
    exact onQueue_acts hl ho hk (packet_past hp (fenceWaitEffect_reached haddr halign hf))
  case waits =>
    intro q d o k j p d1 d2 hl ho hk hp haddr halign hf
    obtain ⟨hhalt, _⟩ := atPacket_free hp
    exact onQueue_acts hl ho hk (packet_waits hp _ (fenceWaitEffect_waits haddr halign hf) hhalt rfl)
  case satisfied =>
    intro q d o k j rest a v d2 hl ho hk hjobs hwait hf
    exact onQueue_acts hl ho hk (fenceSatisfied_goes hjobs hwait hf)
  case timeout =>
    intro q d o k j rest hl ho hk hjobs htime hwait
    exact onQueue_acts hl ho hk (waitTimeout_halts (fence := true) hjobs htime hwait)
  case rodSatisfied =>
    intro q d o k j rest r v hl ho hk hjobs hwait hpos
    exact onQueue_acts hl ho hk (rodSatisfied_goes hjobs hwait hpos)
  case rodTimeout =>
    intro q d o k j rest hl ho hk hjobs htime hwait
    exact onQueue_acts hl ho hk (waitTimeout_halts (fence := false) hjobs htime hwait)
  case rodPassed =>
    intro q d o k j p d1 hl ho hk hp hrod hpos
    exact onQueue_acts hl ho hk (packet_past hp (rodWaitEffect_passed hrod hpos))
  case rodWaits =>
    intro q d o k j p d1 hl ho hk hp hrod hpos
    obtain ⟨hhalt, _⟩ := atPacket_free hp
    exact onQueue_acts hl ho hk (packet_waits hp _ (rodWaitEffect_waits hrod hpos) hhalt (Bool.or_true _))
  case bandBegin =>
    intro q d o k j p d1 l b hl ho hk hp hword hlayer hb hone htop hon hown hcount hswap hnamed
    have hfree := atPacket_free hp
    exact onQueue_acts hl ho hk (packet_goes hp _
      (bandBeginEffect_opens hword hlayer hb hone htop hon hown hcount hswap hnamed) hfree)
  case bandEnd =>
    intro q d o k j p d1 hl ho hk hp hband
    have hfree := atPacket_free hp
    exact onQueue_acts hl ho hk (packet_goes hp _ (bandEndEffect_closes hband) hfree)
  case bandWritten =>
    intro q d o k j rest l b hl ho hk hjobs hclosing hband hst
    exact onQueue_acts hl ho hk (bandWritten_readies hjobs hclosing hband hst)
  case beadArm =>
    intro q d o k j p d1 d2 d3 hl ho hk hp hslot haction hbead
    exact onQueue_acts hl ho hk (packet_past hp (beadArmEffect_arms hslot haction hbead))
  case timestamp =>
    intro q d o k j p d1 d2 hl ho hk hp haddr halign hrod hw
    exact onQueue_acts hl ho hk (packet_past hp (timestampEffect_writes haddr halign hrod hw))
end

section
/-! PROOF. Pipelines and the service cores (R180, R181, R185, R186): a create block from its submit to its handle, the end of a
pipeline, and a service core that faults. -/

namespace Sys2Proof.Machine

variable {d d0 d1 d2 : Dev} {c : Nat} {x : Compile}

/-! ### Submit (R180, R181) -/

/-- A block that passes the checks of Table 9-7 waits, and shows status 0001h. -/
theorem takeCreate_waits {code addr : Nat} {b : List Byte} {it : Item}
    (hcheck : d.checkCreate { block := addr, code := code, seq := field b 4 4 } b = 1)
    (hj : d.journalItem 4 { block := addr, code := code, seq := field b 4 4 } 0 160 [] = (it, d2)) :
    d.takeCreate { block := addr, code := code } b =
      (d2.setWaiting (d2.gpu.waiting ++ [{ item := it, body := b }])).writeBlock it 44 (leBytes 2 1) := by
  simp only [Dev.takeCreate, hcheck, hj, if_true]

/-- A block that its submitter may read and write is taken, by a queue with room for it. -/
theorem submitCreate_takes {who : Init} {addr : Nat} {b : List Byte}
    (hc : d.checkWrite who 0x25C0 2 (numData 0x25C0 2 addr) = none)
    (hb : d.readSubmitted (initCode who) addr 160 = (some b, d1)) (hfree : d.createFull (initCode who) = false)
    (hroom : d.submitRoom (initCode who) = true) :
    d.submitCreate who addr = (d1.takeCreate { block := addr, code := initCode who } b).accept := by
  simp only [Dev.submitCreate, hc, hb, hfree, hroom, Bool.not_true, Bool.false_eq_true, if_false]

/-! ### The service cores (R185) -/

@[simp] theorem setCompiling_clock (y : Option Compile) : (d.setCompiling c y).clock = d.clock := rfl
@[simp] theorem setCompiling_getO (y : Option Compile) (i j : Nat) : (d.setCompiling c y).getO i j = d.getO i j := rfl

/-- A fault that is counted and logged leaves the service cores as they were. -/
@[simp] theorem transientFault_compiling (what unit : Nat) : (d.transientFault what unit).compiling c = d.compiling c := by
  simp only [Dev.compiling, transientFault_gpu]

/-- A service core with nothing in hand takes the request that is next by rotation, and the rotation goes on after its owner. -/
theorem startCompile_takes (hidle : d.compiling c = none) (hnext : nextCreate d.gpu.waiting d.gpu.turn = some x) :
    d.startCompile c =
      (({ d.setWaiting (d.gpu.waiting.erase x) with
          gpu := { (d.setWaiting (d.gpu.waiting.erase x)).gpu with turn := x.item.code } } : Dev).setCompiling c
        (some { x with startAt := d.clock.ns })).regIssue x.item.entry := by
  simp only [Dev.startCompile, hidle, hnext]
  rfl

/-- A service core that faults loses its request, with status 0022h (assumption log 34). -/
theorem loseCompile_loses (hx : d.compiling c = some x) :
    d.loseCompile c =
      (((((d.transientFault 0x8105 c).setCompiling c none).regHold x.item.entry).2.regReissue
        x.item.entry false false).2).finishCreate x.item x.body [] 0x22 0 := by
  simp only [Dev.loseCompile, transientFault_compiling, hx]

/-! ### The end of a compilation (R181) -/

/-- The time that a compilation has taken, in whole microseconds. -/
def Compile.micros (x : Compile) (d : Dev) : Nat := (d.clock.ns - x.startAt) / 1000

/-- The code of a compilation is written at the code area: free bytes (assumption log 34). -/
def Dev.withCode (d : Dev) (x : Compile) (bytes : Nat) : Dev :=
  (d.nextFree.2.memWrite x.item.code (pcCode x.body) ((List.range bytes).map (Config.freeByte d.free))).2

/-- The handle that the next successful compilation for an owner gives. -/
def Dev.nextHandle (d : Dev) (o : Nat) : Nat := o * 2 ^ 56 + (d.gpu.serial + 1)

/-- The pipeline of a compilation joins those of its owner, under the next handle. -/
def Dev.withPipe (d : Dev) (x : Compile) (bytes : Nat) (first second : List Nat) (spec : List (Nat × Nat)) : Dev :=
  { d with gpu := { d.gpu with
      serial := d.gpu.serial + 1
      pipes := d.gpu.pipes ++ [{
        handle := d.nextHandle x.item.code, owner := x.item.code, kind := field x.body 0 1, body := x.body, used := bytes
        first := first, second := second, constants := spec }] } }

section
variable {bytes : Nat} {first second : List Nat} {spec : List (Nat × Nat)} (hx : d.compiling c = some x)
include hx

/-- A compilation whose modules pass and whose code fits leaves its code and a pipeline, and counts. -/
theorem endCompile_succeeds (hm : d.readModules x.item.code x.body = ((first, second, spec, 0), d0))
    (hfits : bytes ≤ field x.body 40 4) (hlongest : x.micros d0 ≤ d0.getO 0x25C0 7) :
    d.endCompile c bytes =
      let coded := (d0.setCompiling c none).withCode x bytes
      ((coded.withPipe x bytes first second spec).count 0x25C0 5).finishCreate x.item x.body
        [(48, leBytes 8 (coded.nextHandle x.item.code)), (56, leBytes 4 bytes), (60, leBytes 4 (x.micros d0))] 0
        (coded.nextHandle x.item.code) := by
  have hmax : ¬d0.getO 0x25C0 7 < (d0.clock.ns - x.startAt) / 1000 := Nat.not_lt.mpr hlongest
  simp only [Dev.endCompile, hx, hm, Nat.not_lt.mpr hfits, and_false, setCompiling_clock, setCompiling_getO, hmax,
    if_false, if_true]
  rfl

/-- One whose modules fail a check counts its failure, and ends with the status of that check. -/
theorem endCompile_fails {status : Nat} (hm : d.readModules x.item.code x.body = ((first, second, spec, status), d0))
    (hfail : status ≠ 0) (hlongest : x.micros d0 ≤ d0.getO 0x25C0 7) :
    d.endCompile c bytes = ((d0.setCompiling c none).count 0x25C0 6).finishCreate x.item x.body
      (if status = 0x44 then [(56, leBytes 4 bytes), (60, leBytes 4 (x.micros d0))] else [(60, leBytes 4 (x.micros d0))])
      status 0 := by
  have hmax : ¬d0.getO 0x25C0 7 < (d0.clock.ns - x.startAt) / 1000 := Nat.not_lt.mpr hlongest
  simp only [Dev.endCompile, hx, hm, hfail, setCompiling_clock, setCompiling_getO, hmax, false_and, if_false]
  rfl

end

/-! ### The end of a pipeline (R186) -/

/-- The owner of a pipeline ends it for the jobs that are accepted from now on. -/
theorem destroyVerdict_ends {who : Init} {handle : Nat}
    (h : d.gpu.pipes.any (fun p => p.handle == handle && p.owner == initCode who && p.destroyed.isNone) = true) :
    destroyVerdict who handle d = .ok { d with gpu := { d.gpu with
      pipes := d.gpu.pipes.map (fun p =>
        if p.handle = handle ∧ p.owner = initCode who then { p with destroyed := some d.gpu.accepted } else p) } } := by
  simp only [destroyVerdict, Dev.destroyPipe, h, if_true]

end Sys2Proof.Machine

open Sys2Proof Sys2Proof.Machine

/-- Settles O21: each command's meaning, at the branch that the clause names. A compilation that passes leaves its pipeline; one
that fails ends with what the first failing check found. -/
theorem pipelinesComplete : Obligations.pipelines_complete := by
  refine ⟨?submit, ?start, ?complete, ?fails, ?destroy, ?fault⟩
  case submit =>
    intro q d who addr b d1 d2 it hl hs hc hb hfree hroom hcheck hj
    rw [exec_pipelineCreateSubmit, execPipelineCreateSubmit, actServed_of_live _ hl hs, submitCreate_takes hc hb hfree hroom,
      takeCreate_waits hcheck hj]
  case start =>
    intro q d c x hl ha hc hidle hnext
    exact onUnit_wakes hl ha hc (startCompile_takes hidle hnext)
  case complete =>
    intro q d c first second status x f l spec d0 hl ha hc hx hm hfits hlongest
    by_cases hpass : status = 0
    · subst hpass
      exact onUnit_wakes hl ha hc (endCompile_succeeds hx hm hfits hlongest)
    · rw [if_neg hpass]
      exact onUnit_wakes hl ha hc (endCompile_fails hx hm hpass hlongest)
  case fails =>
    intro q d c first second status x f l spec d0 hl ha hc hx hm hfail hsize hlongest
    exact onUnit_wakes hl ha hc ((endCompile_fails hx hm hfail hlongest).trans (by rw [if_neg hsize, Compile.micros]))
  case destroy =>
    intro q d who handle hl hs hc h
    rw [exec_pipelineDestroy, execPipelineDestroy, actServed_of_live _ hl hs, request_accepts hc (destroyVerdict_ends h)]
  case fault =>
    intro q d c x hl ha hc hx
    exact onUnit_wakes hl ha hc (loseCompile_loses hx)
end

section
/-! PROOF. The touch panels: the end of a scan (R192, R204), a touch at rest and the commands that take it in (R202), a saved
reference (R201), and the states of a panel (R188, R204, R211, R213). -/

namespace Sys2Proof.Machine

variable {q : List Instr} {d t : Dev} {p : Nat}

/-- A request that names a unit, that passes the checks, and that its chapter takes. -/
theorem onUnit_request {n limit i j : Nat} {who : Init} {data : List Byte} {f : Dev → Verdict} (hl : d.live = true)
    (hs : d.serving = true) (hn : n < limit) (hc : d.checkWrite who i j data = none) (hf : f d = .ok t) :
    actServed (onUnit n limit (fun d => d.request who i j data f)) ⟨q, d⟩ = .next ⟨q, Dev.finish d t.accept⟩ := by
  rw [actServed_of_live _ hl hs, onUnit_lt hn, request_accepts hc hf]

/-! ### Panels beside their objects -/

@[simp] theorem setPanel_baseState (x : Panel) : (d.setPanel p x).baseState p = d.baseState p := rfl
@[simp] theorem setPanel_owner (x : Panel) (id : Nat) : (d.setPanel p x).owner id = d.owner id := rfl
@[simp] theorem setO_panel (i j v : Nat) : (d.setO i j v).panel p = d.panel p := rfl

/-! ### The end of a scan (R192) -/

/-- A scan that no longer waits for its line start leaves the panel, its deferred edges are counted (R194), and what follows is
that of its kind. -/
theorem scanComplete_ends {raw : List Nat} {edges : Nat} {sc : Scan} (hl : d.live = true) (hp : p < 8)
    (hscan : (d.panel p).scan = some sc) (hran : (sc.waiting && d.rodRuns sc.rod) = false) :
    exec (.scanComplete p ⟨raw, edges⟩) ⟨q, d⟩ = .next ⟨q, Dev.finish d
      (let ended := (d.setPanel p { d.panel p with scan := none }).countBy 0x2600 7 edges
       if sc.ganged then ended.gangedScan p raw sc else ended.fullScan p raw sc)⟩ :=
  onUnit_acts hl hp (by simp only [hscan, hran, Bool.false_eq_true, if_false])

/-! ### Saved references (R201) -/

/-- The sector that the next save is written to, and its generation: those after the newest. -/
def Dev.nextReference (d : Dev) : Nat × Nat :=
  match d.newestReferences with
  | some (k, g, _) => ((k + 1) % 16, (g + 1) % 2 ^ 32)
  | none => (0, 1)

/-- The references stored now, with the panel's own of the band in force in place of the one that it saved before. -/
def Dev.referencesWith (d : Dev) (p : Nat) : List (Nat × List Byte) :=
  (d.savedReferences.filter (fun e => e.1 != 8 * p + d.touchBand)) ++
    [(8 * p + d.touchBand, d.refHead p ++ bytes16 (d.baselines p) ++ (d.codes p).map (fun c => BitVec.ofNat 8 c))]

/-- A save writes all references to the next sector and seals it under the next generation. -/
theorem storeReference_eq (d : Dev) (p : Nat) :
    d.storeReference p =
      (d.beginBlock (referenceArea + d.nextReference.1 * referenceSector) referenceSector d.nextReference.2
        ((d.referencesWith p).flatMap (fun e => leBytes 1 e.1 ++ leBytes 2 e.2.length ++ e.2))).sealBlock
          (referenceArea + d.nextReference.1 * referenceSector) d.nextReference.2 := rfl

/-- A panel in Tracking without a suspect node saves its reference. -/
theorem saveReferenceVerdict_stores (hbase : d.baseState p = 3) (hclean : d.suspects p = 0) :
    saveReferenceVerdict p d = .ok (d.storeReference p) := by
  simp [saveReferenceVerdict, Dev.mayStore, hbase, hclean]

/-! ### Re-baseline, recalibrate, enable and disable (R188, R202, R211) -/

/-- A panel that is not Off takes in the touches held: 1 re-baselines it, any other command recalibrates it. -/
theorem rebaseVerdict_absorbs (hon : d.baseState p ≠ 0) (v : Nat) :
    rebaseVerdict p v d =
      let absorbing := d.setPanel p { d.panel p with absorb := true }
      .ok (if v = 1 then absorbing.setBaseState p 6 else absorbing.calibrate p) := if_neg hon

/-- A disabled panel whose balls and slices fit starts Calibrating; it keeps the time of its last scan alone. -/
theorem panelEnableVerdict_enables (hoff : d.panelState p = 0) (hfits : d.panelFits p = true) :
    panelEnableVerdict p 1 d = .ok ((((d.setO (panelIndex p) 2 1).setPanel p { lastStart := (d.panel p).lastStart }).setO
      (panelIndex p) 1 1).calibrate p) := by
  simp [panelEnableVerdict, Dev.panelOn, hoff, hfits, Dev.enablePanel, Dev.setPanelState]

/-! ### A fault of the node memory (R213) -/

/-- The objects of a panel are none of the recorder's. -/
theorem logIndex_panelIndex (hp : p < 8) : logIndex (panelIndex p) = false :=
  Bool.and_eq_false_iff.mpr (.inl (decide_eq_false (by unfold panelIndex; omega)))

/-- A tally of the touch block, and a record in the log, leave the state of a panel. -/
theorem panelState_count_log (hp : p < 8) {j cls : Nat} (hj : j < 256) (hc : cls < 256) (what owner unit : Nat)
    (facts : List Nat) : ((d.count 0x2600 j).log cls what owner unit facts).panelState p = d.panelState p :=
  calc ((d.count 0x2600 j).log cls what owner unit facts).panelState p
      = (d.count 0x2600 j).panelState p := log_getO _ hc (logIndex_panelIndex hp) (by decide) what owner unit facts
    _ = d.panelState p := getO_count_other d (objKey_ne hj (by decide) (.inl (by unfold panelIndex; omega)))

/-- The panel is still on after the fault has been counted and logged, so its zones are released and it calibrates. -/
theorem nodeMemoryFault_calibrates (hp : p < 8) (hon : d.panelState p ≠ 0) :
    d.nodeMemoryFault p =
      (((d.count 0x2600 8).log 0x31 0x3101 (d.owner (blockId 3 p)) p [p]).setZones p []).calibrate p := by
  simp only [Dev.nodeMemoryFault, Dev.panelOn, panelState_count_log hp (by decide : 8 < 256) (by decide : 0x31 < 256),
    bne_iff_ne.mpr hon, if_true]

end Sys2Proof.Machine

open Sys2Proof Sys2Proof.Machine

/-- Settles O22: each command's meaning, at the branch that the clause names. That a re-baseline is refused while the panel is Off
is the model's choice (assumption log 35), and so is how the band in force follows the temperature (log 36). -/
theorem touchCompletes : Obligations.touch_completes := by
  refine ⟨?full, ?ganged, ?rest, ?idle, ?rebaseline, ?recalibrate, ?save, ?enable, ?disable, ?disabled, ?band, ?fault⟩
  case full =>
    intro q d p edges raw sc hl hp hscan hran hfull
    rw [scanComplete_ends hl hp hscan hran, hfull]
    rfl
  case ganged =>
    intro q d p edges raw sc hl hp hscan hran hganged
    rw [scanComplete_ends hl hp hscan hran, hganged]
    rfl
  case rest =>
    intro q d p identity hl hp htouch hbase
    exact onUnit_acts hl hp (by simp only [htouch, if_true, setPanel_baseState, hbase, if_false, setPanel_owner])
  case idle =>
    intro q d p hl hp hactive htime hreported happroach
    exact onUnit_acts hl hp (if_pos (by simp [hactive, htime, hreported, happroach]))
  case rebaseline =>
    intro q d who p hl hs hp hc hon
    exact onUnit_request hl hs hp hc (rebaseVerdict_absorbs hon 1)
  case recalibrate =>
    intro q d who p hl hs hp hc hon
    exact onUnit_request hl hs hp hc (rebaseVerdict_absorbs hon 2)
  case save =>
    intro q d who p value k gen hl hs hp hc hbase hclean hnext
    have hsector : d.nextReference = (k, gen) := hnext
    rw [exec_saveReference, execSaveReference, onUnit_request hl hs hp hc (saveReferenceVerdict_stores hbase hclean),
      storeReference_eq, hsector]
    rfl
  case enable =>
    intro q d who p hl hs hp hc hoff hfits
    exact onUnit_request hl hs hp hc (panelEnableVerdict_enables hoff hfits)
  case disable =>
    intro q d who p hl hs hp hc
    exact onUnit_request hl hs hp hc (if_pos rfl)
  case disabled =>
    intro q d p hl hp hstate hscan
    exact onUnit_acts hl hp (if_pos ⟨hstate, by rw [hscan]; rfl⟩)
  case band =>
    intro q d t hl
    rw [exec_temperatureBandChange, execTemperatureBandChange, act_of_live _ hl, Dev.touchBand]
  case fault =>
    intro q d p hl hp hon
    exact onUnit_acts hl hp (nodeMemoryFault_calibrates hp hon)
end

section
/-! PROOF. What a command on a haptic channel may change (R219, R221, R222, R225 to R227, R230): the channel's record and objects,
its model's, and the ledger's. -/

namespace Sys2Proof.Machine

/-- The index is the ledger's, or that of channel `n`'s record or of its model (Tables 11-4 to 11-6). -/
def ownsHaptic (n i : Nat) : Bool := i == 0x2700 || i == 0x2701 + n || i == 0x2710 + n

theorem ownsHaptic_ledger (n : Nat) : ownsHaptic n 0x2700 = true := by simp [ownsHaptic]
theorem ownsHaptic_hapticIndex (n : Nat) : ownsHaptic n (hapticIndex n) = true := by simp [ownsHaptic, hapticIndex]
theorem ownsHaptic_modelIndex (n : Nat) : ownsHaptic n (modelIndex n) = true := by simp [ownsHaptic, modelIndex]

/-- The block `b` is `a` but for the record of channel `n`, the objects that it owns, and the answer. -/
structure HapticOnly (n : Nat) (a b : Dev) : Prop where
  fields : ∃ objs haptics answer, b = { a with objs := objs, haptics := haptics, answer := answer }
  channels : ∀ m, m ≠ n → b.haptic m = a.haptic m
  objects : ∀ i j, j < 256 → ownsHaptic n i = false → b.getO i j = a.getO i j

namespace HapticOnly

variable {n : Nat} {a b c : Dev}

theorem refl (n : Nat) (a : Dev) : HapticOnly n a a where
  fields := ⟨a.objs, a.haptics, a.answer, rfl⟩
  channels _ _ := rfl
  objects _ _ _ _ := rfl

theorem trans (h : HapticOnly n a b) (g : HapticOnly n b c) : HapticOnly n a c where
  fields := by
    obtain ⟨_, _, _, rfl⟩ := h.fields
    obtain ⟨_, _, _, rfl⟩ := g.fields
    exact ⟨_, _, _, rfl⟩
  channels m hm := (g.channels m hm).trans (h.channels m hm)
  objects i j hj hi := (g.objects i j hj hi).trans (h.objects i j hj hi)

/-- An object that the channel owns takes a value. -/
theorem setO (h : HapticOnly n a b) {i : Nat} (hi : ownsHaptic n i = true) (j v : Nat) (hj : j < 256) :
    HapticOnly n a (b.setO i j v) :=
  h.trans
    { fields := ⟨_, b.haptics, b.answer, rfl⟩
      channels := fun _ _ => rfl
      objects := fun _ _ hj' hi' =>
        getO_setO_other b (objKey_ne hj hj' (.inl fun e => by simp [e, hi] at hi')) v }

theorem setChannel (h : HapticOnly n a b) (j v : Nat) (hj : j < 256 := by decide) :
    HapticOnly n a (b.setO (hapticIndex n) j v) :=
  h.setO (ownsHaptic_hapticIndex n) j v hj

theorem setModel (h : HapticOnly n a b) (j v : Nat) (hj : j < 256 := by decide) :
    HapticOnly n a (b.setO (modelIndex n) j v) :=
  h.setO (ownsHaptic_modelIndex n) j v hj

theorem setLedger (h : HapticOnly n a b) (j v : Nat) (hj : j < 256 := by decide) : HapticOnly n a (b.setO 0x2700 j v) :=
  h.setO (ownsHaptic_ledger n) j v hj

/-- A tally of the channel counts. -/
theorem count (h : HapticOnly n a b) (j : Nat) (hj : j < 256 := by decide) : HapticOnly n a (b.count (hapticIndex n) j) :=
  h.setChannel j _ hj

theorem setHaptic (h : HapticOnly n a b) (x : Haptic) : HapticOnly n a (b.setHaptic n x) :=
  h.trans
    { fields := ⟨b.objs, _, b.answer, rfl⟩
      channels := fun _ hm => tabGet_set_other _ _ _ hm x
      objects := fun _ _ _ _ => rfl }

theorem answer (h : HapticOnly n a b) (x : Answer) : HapticOnly n a { b with answer := x } :=
  h.trans
    { fields := ⟨b.objs, b.haptics, _, rfl⟩
      channels := fun _ _ => rfl
      objects := fun _ _ _ _ => rfl }

/-- A command that acts only under a condition. -/
theorem ite {p : Prop} [Decidable p] (h : HapticOnly n a b) (g : HapticOnly n a c) : HapticOnly n a (if p then b else c) := by
  split
  · exact h
  · exact g

/-- A command that names the channel, or a number that no channel has. -/
theorem unit {f : Dev → Dev} (h : HapticOnly n a (f a)) : HapticOnly n a (onUnit n 8 f a) :=
  h.ite (.refl n a)

/-! ### The operations of a channel -/

theorem setHapticPhase (h : HapticOnly n a b) (st : Nat) : HapticOnly n a (b.setHapticPhase n st) :=
  (h.setHaptic _).ite (h.setChannel 1 st)

theorem setGrant (h : HapticOnly n a b) (g : Nat) : HapticOnly n a (b.setGrant n g) :=
  (h.setChannel 7 g).setLedger 5 _

/-- A waiting trigger that is dropped counts. -/
theorem countDropped (h : HapticOnly n a b) {p : Prop} [Decidable p] :
    HapticOnly n a (if p then b.count (hapticIndex n) 0x0D else b) :=
  (h.count 0x0D).ite h

theorem hapticArrive (h : HapticOnly n a b) (arg : Nat) : HapticOnly n a (b.hapticArrive n arg) :=
  h.countDropped.setHaptic _

theorem startDrive (h : HapticOnly n a b) (fresh : Bool) : HapticOnly n a (b.startDrive n fresh) :=
  ((h.setHaptic _).setHapticPhase 3).setChannel 0x14 _

theorem startEffect (h : HapticOnly n a b) (arg : Nat) (fresh : Bool) : HapticOnly n a (b.startEffect n arg fresh) :=
  ((h.setChannel 0x0A arg).count 0x0B).startDrive fresh

theorem startFromRest (h : HapticOnly n a b) (arg : Nat) : HapticOnly n a (b.startFromRest n arg) := by
  have limited : HapticOnly n a (if b.hapticLeft n < b.hap n 5 then b.count 0x2700 8 else b) := (h.setLedger 8 _).ite h
  have granted := ((limited.setGrant (min (b.hap n 5) (b.hapticLeft n))).setChannel 0x0A arg).count 0x0B
  exact .ite ((h.setLedger 9 _).count 0x0C) ((granted.setHaptic _).setChannel 1 2)

theorem waitTrigger (h : HapticOnly n a b) (arg : Nat) : HapticOnly n a (b.waitTrigger n arg) :=
  h.countDropped.setHaptic _

theorem takeTrigger (h : HapticOnly n a b) (arg : Nat) : HapticOnly n a (b.takeTrigger n arg) := by
  unfold Dev.takeTrigger
  refine .ite (h.count 0x0C) ?_
  dsimp only
  split
  case h_1 => exact h.startFromRest arg
  case h_2 => exact .ite (h.count 0x0C) ((h.setChannel 0x0A arg).count 0x0D)
  case h_3 => exact .ite (h.startEffect arg false) (((h.waitTrigger arg).setChannel 1 4).setHaptic _)
  case h_4 => exact .ite ((h.countDropped.setHaptic _).startEffect arg false) (h.waitTrigger arg)
  case h_5 => exact h.count 0x0C

theorem hapticRest (h : HapticOnly n a b) : HapticOnly n a (b.hapticRest n) :=
  (((h.setHaptic _).setHapticPhase 1).setGrant 0).setChannel 0x0A 0

theorem endBrake (h : HapticOnly n a b) : HapticOnly n a (b.endBrake n) := by
  unfold Dev.endBrake
  dsimp only
  split
  · exact .ite ((h.setHaptic _).startEffect _ false) (((h.setHaptic _).count 0x0C).hapticRest)
  · exact h.hapticRest

theorem hapticLoop (h : HapticOnly n a b) (i u slope : Int) : HapticOnly n a (b.hapticLoop n i u slope) :=
  ((h.count 0x0F).ite h).setHaptic _

theorem disableHaptic (h : HapticOnly n a b) : HapticOnly n a (b.disableHaptic n) :=
  .ite h ((h.countDropped.setHaptic _).setChannel 1 7)

theorem hapticOff (h : HapticOnly n a b) : HapticOnly n a (b.hapticOff n) :=
  ((((h.setGrant 0).setChannel 0x0A 0).setChannel 0x15 _).setHaptic _).setChannel 1 0

end HapticOnly

/-! ### The channel's writes -/

variable {n v : Nat} {d t : Dev}

theorem triggerVerdict_only (h : triggerVerdict n v d = .ok t) : HapticOnly n d t := by
  unfold triggerVerdict at h
  split_ifs at h
  obtain rfl := Except.ok.inj h
  exact (HapticOnly.refl n d).hapticArrive v

theorem clearFaultVerdict_only (h : clearFaultVerdict n d = .ok t) : HapticOnly n d t := by
  unfold clearFaultVerdict at h
  split_ifs at h
  obtain rfl := Except.ok.inj h
  exact ((HapticOnly.refl n d).setHaptic _).setChannel 1 2

/-- A write of the model's state leaves the model's values. -/
theorem modelVerdict_only (h : modelVerdict n 1 v d = .ok t) : HapticOnly n d t := by
  unfold modelVerdict at h
  rw [if_pos rfl] at h
  split_ifs at h
  obtain rfl := Except.ok.inj h
  exact (HapticOnly.refl n d).setModel 1 v

theorem hapticEnableVerdict_only (h : hapticEnableVerdict n v d = .ok t) : HapticOnly n d t := by
  unfold hapticEnableVerdict at h
  dsimp only at h
  split_ifs at h
  all_goals obtain rfl := Except.ok.inj h
  · exact ((HapticOnly.refl n d).setChannel 2 0).disableHaptic
  · exact ((HapticOnly.refl n d).setChannel 2 1).setChannel 1 1
  · exact (HapticOnly.refl n d).setChannel 2 1

theorem identifyVerdict_only (h : identifyVerdict n d = .ok t) : HapticOnly n d t := by
  unfold identifyVerdict at h
  split_ifs at h
  obtain rfl := Except.ok.inj h
  exact (((HapticOnly.refl n d).setGrant 300).setChannel 1 6).setModel 0x0A 1

/-- A request leaves the answer of its refusal, or what its chapter says. -/
theorem request_ends {who : Init} {i j : Nat} {data : List Byte} {f : Dev → Verdict} (hi : i ≠ 0x2002) :
    (∃ abort, d.request who i j data f = d.refuse abort) ∨ ∃ t, f d = .ok t ∧ d.request who i j data f = t.accept := by
  cases hc : d.checkWrite who i j data with
  | some abort => exact .inl ⟨abort, request_refused f hc⟩
  | none =>
    cases hf : f d with
    | ok t => exact .inr ⟨t, rfl, request_accepts hc hf⟩
    | error abort => exact .inl ⟨abort, by simp [Dev.request, Dev.tryWrite, hc, hf, Dev.noteRefusal, hi]⟩

/-- A request that names the channel, served or not. -/
theorem request_hapticOnly {who : Init} {i j : Nat} {data : List Byte} {f : Dev → Verdict} (hi : i ≠ 0x2002)
    (hf : ∀ t, f d = .ok t → HapticOnly n d t) :
    HapticOnly n d (if d.serving then onUnit n 8 (fun d => d.request who i j data f) d else d) := by
  have request : HapticOnly n d (d.request who i j data f) := by
    rcases request_ends (d := d) (who := who) (data := data) (f := f) hi with ⟨abort, h⟩ | ⟨t, ht, h⟩
    · exact h ▸ (HapticOnly.refl n d).answer _
    · exact h ▸ (hf t ht).answer _
  exact .ite (.unit request) (.refl n d)

/-! ### After a command -/

theorem act_hapticOnly {f : Dev → Dev} {s t : State} (h : HapticOnly n s.dev (f s.dev)) (ht : act f s = .next t) :
    t.pending = s.pending ∧ (∀ m, m ≠ n → t.dev.haptic m = s.dev.haptic m) ∧
      Dev.objectsOnly (ownsHaptic n) { s.dev with haptics := t.dev.haptics, free := t.dev.free } t.dev := by
  obtain ⟨hq, hdev⟩ := act_next ht
  obtain ⟨b, hb, hsame⟩ : ∃ b, HapticOnly n s.dev b ∧ SameBut b t.dev := by
    rcases hdev with hdev | hdev
    · exact ⟨_, h, hdev⟩
    · exact ⟨_, .refl n _, hdev ▸ .refl _⟩
  obtain ⟨⟨objs, can, sent, hc⟩, hobjs⟩ := hsame
  rw [hc] at hobjs ⊢
  refine ⟨hq, hb.channels, ?_, fun i j hj hi _ hh => (hobjs i j hh hj).trans (hb.objects i j hj hi)⟩
  obtain ⟨_, _, _, rfl⟩ := hb.fields
  rfl

end Sys2Proof.Machine

open Sys2Proof Sys2Proof.Machine

/-- Settles O53: each command writes the channel's record, its objects, its model's and the ledger's alone (`HapticOnly`); and
what follows every command adds the CAN node, what was sent and the error history (`SameBut`). -/
theorem frameOfTheHapticChannels : Obligations.frame_of_the_haptic_channels := by
  intro who n v x y z
  have hchannel : hapticIndex n ≠ 0x2002 := by unfold hapticIndex; omega
  have hmodel : modelIndex n ≠ 0x2002 := by unfold modelIndex; omega
  simp only [List.forall_mem_cons]
  refine ⟨?hapticTrigger, ?triggerTaken, ?hapticLoopPeriod, ?brakeEnd, ?brakeTimeout, ?clearFault, ?modelStateWrite,
    ?hapticEnableWrite, ?hapticDisableComplete, ?identify, List.forall_mem_nil _⟩
  all_goals
    intro s t ht
    have same := HapticOnly.refl n s.dev
  case hapticTrigger => exact act_hapticOnly (request_hapticOnly hchannel fun _ => triggerVerdict_only) ht
  case triggerTaken =>
    refine act_hapticOnly (.unit ?_) ht
    split
    · exact (same.setHaptic _).takeTrigger _
    · exact same
  case hapticLoopPeriod => exact act_hapticOnly (.unit (.ite (same.hapticLoop x y z) same)) ht
  case brakeEnd => exact act_hapticOnly (.unit (.ite same.endBrake same)) ht
  case brakeTimeout => exact act_hapticOnly (.unit (.ite (same.count 0x0E).endBrake same)) ht
  case clearFault => exact act_hapticOnly (request_hapticOnly hchannel fun _ => clearFaultVerdict_only) ht
  case modelStateWrite => exact act_hapticOnly (request_hapticOnly hmodel fun _ => modelVerdict_only) ht
  case hapticEnableWrite => exact act_hapticOnly (request_hapticOnly hchannel fun _ => hapticEnableVerdict_only) ht
  case hapticDisableComplete => exact act_hapticOnly (.unit (.ite same.hapticOff same)) ht
  case identify => exact act_hapticOnly (request_hapticOnly hmodel fun _ => identifyVerdict_only) ht
end

section
/-! PROOF. The commands of the haptic channels (R219, R221 to R223, R225 to R230): each is its meaning, at the branch that a
clause names. -/

namespace Sys2Proof.Machine

variable {d : Dev} {n r bl : Nat}

/-! ### Triggers (R226) -/

/-- A trigger for the channel arrives where none has arrived before it. -/
theorem triggerVerdict_arrives {arg : Nat} (hchannel : arg % 8 = n) (harg : argOk (3 * 2 ^ 56 + arg) = true)
    (hnone : (d.haptic n).arrived = none) :
    triggerVerdict n arg d = .ok (d.setHaptic n { d.haptic n with arrived := some arg }) := by
  have htaken : ¬(arg % 8 ≠ n ∨ !(argOk (3 * 2 ^ 56 + arg))) := by rw [hchannel, harg]; simp
  rw [triggerVerdict, if_neg htaken]
  simp only [Dev.hapticArrive, hnone, Option.isSome_none, Bool.false_eq_true, if_false]

/-! ### Checks (R228) -/

theorem checkActuator_passes (h : d.checkCause n r bl = 0) : d.checkActuator n r bl = (true, d.recordCheck n r bl) := if_pos h

theorem checkActuator_fails (h : d.checkCause n r bl ≠ 0) :
    d.checkActuator n r bl = (false, (d.recordCheck n r bl).hapticFault n (d.checkCause n r bl)) := if_neg h

/-- Brake that ends with no trigger waiting comes to Rest. -/
theorem endBrake_rests (h : (d.haptic n).waiting = none) : d.endBrake n = d.hapticRest n := by
  simp only [Dev.endBrake, h]

/-! ### Identification (R222) -/

theorem identifyVerdict_starts (hrest : d.hap n 1 = 1) (hrun : d.running = true) (hlimit : 300 ≤ d.hap n 5)
    (hleft : 300 ≤ d.hapticLeft n) :
    identifyVerdict n d = .ok (((d.setGrant n 300).setO (hapticIndex n) 1 6).setO (modelIndex n) 0x0A 1) := by
  simp [identifyVerdict, hrest, hrun, hlimit, hleft]

/-- The temperature of the analog die in °C; how a tenth is rounded is a free value. -/
def Dev.dieDegrees (d : Dev) : Int :=
  d.getI 0x3400 6 16 / 10 + (if d.getI 0x3400 6 16 % 10 = 0 then 0 else Config.freeNat d.nextFree.1 % 2 : Nat)

/-- The model's values are those of the fit, at a temperature. -/
def Dev.fitted (d : Dev) (n : Nat) (fit : Fit) (degrees : Int) : Dev :=
  ((((((d.setO (modelIndex n) 2 fit.bl).setO (modelIndex n) 3 fit.mass).setO (modelIndex n) 4 fit.stiffness).setO
    (modelIndex n) 5 fit.resistance).setO (modelIndex n) 6 fit.inductance).setO (modelIndex n) 7 (ofSigned 8 degrees))

/-- Every value of the fit lies in its range (Table 11-6). -/
def fitValuesOk (fit : Fit) : Bool :=
  [(2, fit.bl), (3, fit.mass), (4, fit.stiffness), (5, fit.resistance), (6, fit.inductance)].all (fun x => fitValueOk x.1 x.2)

/-- An open or shorted coil is a fault. -/
theorem identified_faults {fit : Fit} {cause : Nat} (h : fit.openOrShort = some cause) :
    d.identified n fit = (d.nextFree.2.setO (modelIndex n) 0x0A 5).hapticFault n (if cause = 1 then 1 else 2) := by
  simp only [Dev.identified, h]

/-- A residual over 10 % refuses the fit. -/
theorem identified_residual {fit : Fit} (hcoil : fit.openOrShort = none) (h : 100 < fit.residual) :
    d.identified n fit = (((d.nextFree.2.setO (modelIndex n) 0x0B (min fit.residual 65535)).setO
      (modelIndex n) 0x0A 3).setHapticPhase n 1).setGrant n 0 := by
  simp only [Dev.identified, hcoil, h, true_or, if_true]

/-- A fit in range is taken, and the channel comes to Rest. -/
theorem identified_takes {fit : Fit} (hcoil : fit.openOrShort = none) (hres : fit.residual ≤ 100) (hvalues : fitValuesOk fit = true)
    (hcold : -40 ≤ d.dieDegrees) (hhot : d.dieDegrees ≤ 125) (hreson : resonanceOk fit.stiffness fit.mass = true) :
    d.identified n fit = ((((((d.nextFree.2.setO (modelIndex n) 0x0B fit.residual).fitted n fit d.dieDegrees).setResonance n).setO
      (modelIndex n) 1 1).setO (modelIndex n) 0x0A 2).setHapticPhase n 1).setGrant n 0 := by
  have hok : ¬(100 < fit.residual ∨ !fitValuesOk fit ∨ d.dieDegrees < -40 ∨ 125 < d.dieDegrees) := by
    simp [hvalues]; omega
  have hmin : min fit.residual 65535 = fit.residual := by omega
  simp only [Dev.identified, hcoil, hmin]
  exact (if_neg hok).trans (if_neg (by simp [hreson]))

/-! ### Clear-fault, the model's state and the enable (R221, R227, R230) -/

theorem clearFaultVerdict_probes (hfault : d.hap n 1 = 5) (hrun : d.running = true) :
    clearFaultVerdict n d =
      .ok ((d.setHaptic n { d.haptic n with probing := true, clearing := true }).setO (hapticIndex n) 1 2) := by
  simp [clearFaultVerdict, hfault, hrun]

theorem modelVerdict_takesState {v : Nat} (hrange : v = 1 → d.modelInRange n = true) :
    modelVerdict n 1 v d = .ok (d.setO (modelIndex n) 1 v) :=
  (if_pos rfl).trans (if_neg (by rintro ⟨hv, hout⟩; simp [hrange hv] at hout))

theorem hapticEnableVerdict_enables (hoff : d.hap n 1 = 0) :
    hapticEnableVerdict n 1 d = .ok ((d.setO (hapticIndex n) 2 1).setO (hapticIndex n) 1 1) := by
  simp [hapticEnableVerdict, hoff]

theorem hapticEnableVerdict_disables (d : Dev) (n : Nat) :
    hapticEnableVerdict n 0 d = .ok ((d.setO (hapticIndex n) 2 0).disableHaptic n) :=
  rfl

end Sys2Proof.Machine

open Sys2Proof Sys2Proof.Machine

/-- Settles O23: each command's meaning, at the branch that the clause names. The law of the loop's voltage, the tallies of a
replaced trigger, the grant of an identification, the rounding of the die's temperature, and that clear-fault and identification
need the rail are the model's choices (assumption log 38). -/
theorem hapticsComplete : Obligations.haptics_complete := by
  refine ⟨?trigger, ?taken, ?loop, ?checkDrives, ?checkFaults, ?driveEnds, ?driveFaults, ?inDrive, ?brakeEnds, ?brakeTimeout,
    ?trip, ?identify, ?fitFaults, ?fitResidual, ?fitTaken, ?clearFault, ?modelState, ?enable, ?disable, ?disabled⟩
  case trigger =>
    intro q d who n a hl hs hn hc hchannel harg hnone
    exact onUnit_request hl hs hn hc (triggerVerdict_arrives hchannel harg hnone)
  case taken =>
    intro q d n a hl hn harrived
    exact onUnit_acts hl hn (by simp only [harrived])
  case loop =>
    intro q d n i u slope hl hn hphase
    exact onUnit_acts hl hn (if_pos hphase)
  case checkDrives =>
    intro q d n r bl hl hn hphase hprobing hclearing
    exact onUnit_acts hl hn (by simp [hphase, hprobing, hclearing])
  case checkFaults =>
    intro q d n r bl hl hn hphase hprobing hcause
    exact onUnit_acts hl hn (by simp [hphase, hprobing, checkActuator_fails hcause])
  case driveEnds =>
    intro q d n r bl hl hn hphase hcause
    exact onUnit_acts hl hn (by simp [hphase, checkActuator_passes hcause])
  case driveFaults =>
    intro q d n r bl hl hn hphase hcause
    exact onUnit_acts hl hn (by simp [hphase, checkActuator_fails hcause])
  case inDrive =>
    intro q d n r bl hl hn hphase hcause
    exact onUnit_acts hl hn ((if_pos (.inl hphase)).trans (by rw [checkActuator_passes hcause]))
  case brakeEnds =>
    intro q d n hl hn hphase hstill hnone
    exact onUnit_acts hl hn ((if_pos ⟨hphase, hstill⟩).trans (endBrake_rests hnone))
  case brakeTimeout =>
    intro q d n hl hn hphase
    exact onUnit_acts hl hn (if_pos hphase)
  case trip =>
    intro q d n hot hl hn hlow hhigh
    have hruns : 1 ≤ d.hapticPhase n ∧ d.hapticPhase n ≤ 6 ∧ d.hapticPhase n ≠ 5 := by omega
    have hfits : d.hapticPhase n ≠ 6 := by omega
    exact onUnit_acts hl hn ((if_pos hruns).trans (by simp only [hfits, if_false]))
  case identify =>
    intro q d who n hl hs hn hc hrest hrun hlimit hleft
    exact onUnit_request hl hs hn hc (identifyVerdict_starts hrest hrun hlimit hleft)
  case fitFaults =>
    intro q d n fit hl hn hphase hcoil
    exact onUnit_acts hl hn ((if_pos hphase).trans (identified_faults hcoil))
  case fitResidual =>
    intro q d n fit hl hn hphase hcoil hres
    exact onUnit_acts hl hn ((if_pos hphase).trans (identified_residual hcoil hres))
  case fitTaken =>
    intro q d n fit t hl hn hphase hcoil hres hvalues htemp hcold hhot hreson
    subst htemp
    exact onUnit_acts hl hn ((if_pos hphase).trans (identified_takes hcoil hres hvalues hcold hhot hreson))
  case clearFault =>
    intro q d who n value hl hs hn hc hfault hrun
    exact onUnit_request hl hs hn hc (clearFaultVerdict_probes hfault hrun)
  case modelState =>
    intro q d who n value hl hs hn hc hrange
    exact onUnit_request hl hs hn hc (modelVerdict_takesState hrange)
  case enable =>
    intro q d who n hl hs hn hc hoff
    exact onUnit_request hl hs hn hc (hapticEnableVerdict_enables hoff)
  case disable =>
    intro q d who n hl hs hn hc
    exact onUnit_request hl hs hn hc (hapticEnableVerdict_disables d n)
  case disabled =>
    intro q d n hl hn hoff hphase
    exact onUnit_acts hl hn (if_pos ⟨hoff, hphase⟩)
end

section
/-! PROOF. The commands of the headset ports (R251 to R253): each is its meaning on the audio core's clock, at the branch that a
clause names. -/

namespace Sys2Proof.Machine

variable {q : List Instr} {d t : Dev} {n : Nat} {f : Dev → Dev}

/-! ### Commands of the audio domain -/

/-- A command of the audio domain, while it runs, by the block that it comes to. -/
theorem onAudio_acts (hl : d.live = true) (hr : (d.awake && d.domainRuns 15) = true) (h : f d = t) :
    onAudio f ⟨q, d⟩ = .next ⟨q, Dev.finish d t⟩ := by
  rw [onAudio_eq, act_of_live _ hl, if_pos hr, h]

/-- The same of a command that names a unit. -/
theorem onAudio_unit {limit : Nat} (hl : d.live = true) (hr : (d.awake && d.domainRuns 15) = true) (hn : n < limit)
    (h : f d = t) : onAudio (onUnit n limit f) ⟨q, d⟩ = .next ⟨q, Dev.finish d t⟩ :=
  onAudio_acts hl hr ((onUnit_lt hn f d).trans h)

/-! ### Plug and unplug (R251) -/

@[simp] theorem setPlug_getO (x : Plug) (i j : Nat) : (d.setPlug n x).getO i j = d.getO i j := rfl

/-- DET shows a plug to an Empty port. -/
theorem detEdge_plugs (hempty : d.getO (headsetIndex n) 1 = 0) :
    d.detEdge n true = (d.setPlug n { d.plug n with present := true }).setHeadset n 1 := by
  simp [Dev.detEdge, hempty]

/-- DET shows none to a port in Debounce. -/
theorem detEdge_empties (hdebounce : d.getO (headsetIndex n) 1 = 1) :
    d.detEdge n false = (d.setPlug n { d.plug n with present := false }).headsetEmpty n := by
  simp [Dev.detEdge, hdebounce]

/-! ### Classification (R252) -/

/-- Table 12-7: with both orientations measured, two contacts below 70 Ω are a three-pole plug. -/
theorem classify_threePole {za zb : Nat} (hza : za < 70) (hzb : zb < 70) : classify 0 za zb = 1 := if_pos ⟨hza, hzb⟩

/-- A three-pole plug is shown with the resistance of orientation B. -/
theorem classified_threePole {za zb : Nat} (hmode : d.getO (headsetIndex n) 4 = 0) (hza : za < 70) (hzb : zb < 70) :
    d.classified n za zb = ((d.setO (headsetIndex n) 3 1).setO (headsetIndex n) 0x0A zb).setHeadset n 3 := by
  have hshown : min 65535 zb = zb := by omega
  simp [Dev.classified, hmode, classify_threePole hza hzb, hshown]

/-! ### Buttons (R253) -/

/-- A resistance inside the window of a button that is not shown presses it, and the port's microphone ramps to mute. -/
theorem buttons_press {z k : Nat} (hwindow : d.buttonAt n z = some k)
    (hnew : ((d.setO (headsetIndex n) 0x0A (min 65535 z)).muteMic n).getO (headsetIndex n) 7 ≠ 2 ^ k) :
    d.buttons n z = ((((d.setO (headsetIndex n) 0x0A (min 65535 z)).muteMic n).setO (headsetIndex n) 7 (2 ^ k)).count
      (headsetIndex n) 0x0C).postNamed (headsetIndex n) 9 := by
  have hbutton : (2 : Nat) ^ k ≠ 0 := (Nat.two_pow_pos k).ne'
  simp only [Dev.buttons, hwindow, hbutton, hnew.symm, if_false]

end Sys2Proof.Machine

open Sys2Proof Sys2Proof.Machine

/-- Settles O25: each command's meaning, at the branch that the clause names. R251 says that plug events are counted; that an
unplug counts among them, that in detection mode 0 the resistance shown is that of orientation B, that the limits of a button's
window belong to it, and that a press mutes its own port's capture at once are the model's choices (assumption log 42). -/
theorem headsetCompletes : Obligations.headset_completes := by
  refine ⟨?plug, ?bounce, ?debounced, ?measured, ?remeasure, ?watch, ?absent, ?button⟩
  case plug =>
    intro q d n hl hr hn hempty
    exact onUnit_acts hl hn ((if_pos hr).trans (detEdge_plugs hempty))
  case bounce =>
    intro q d n hl hr hn hdebounce
    exact onUnit_acts hl hn ((if_pos hr).trans (detEdge_empties hdebounce))
  case debounced =>
    intro q d n hl hr hn hdebounce hpresent
    exact onAudio_unit hl hr hn (if_pos ⟨hdebounce, hpresent⟩)
  case measured =>
    intro q d n za zb hl hr hn hmeasuring hmode hza hzb
    exact onAudio_unit hl hr hn ((if_pos hmeasuring).trans (classified_threePole hmode hza hzb))
  case remeasure =>
    intro q d n hl hr hn hstate honce
    exact onAudio_unit hl hr hn (if_pos ⟨hstate, by simp [honce]⟩)
  case watch =>
    intro q d n za hl hr hn hthree hopen
    exact onAudio_unit hl hr hn ((if_pos hthree).trans (if_pos hopen))
  case absent =>
    intro q d n hl hr hn hlow hhigh hgone
    have hplugged : d.getO (headsetIndex n) 1 ≠ 1 := by omega
    have hstate : 1 ≤ d.getO (headsetIndex n) 1 ∧ d.getO (headsetIndex n) 1 ≤ 5 ∧ !(d.plug n).present :=
      ⟨by omega, hhigh, by simp [hgone]⟩
    exact onAudio_unit hl hr hn ((if_pos hstate).trans (by rw [if_neg hplugged]))
  case button =>
    intro q d n z k hl hr hn hfour hwindow hnew
    exact onAudio_unit hl hr hn ((if_pos hfour).trans (buttons_press hwindow hnew))
end

section
/-! PROOF. The commands of the mixer and its units (R237, R238, R242, R244, R245, R248 to R250, R254): each is its meaning, at the
branch that a clause names. -/

namespace Sys2Proof.Machine

variable {q : List Instr} {d : Dev} {who : Init} {i j g s v : Nat}

/-! ### Blocks (R244) -/

/-- A block that began at a core frame ends eight later, and no record is silenced any longer. -/
def Dev.endBlock (d : Dev) (frame : Nat) : Dev :=
  { d with audio := { d.audio with frames := frame + 8, zeroed := [] } }

/-- Whatever the inputs, the buses and the sinks make of a block, it ends so. -/
theorem audioBlock_ends (d : Dev) : ∃ mixed : Dev, d.audioBlock = mixed.endBlock d.audio.frames := by
  unfold Dev.audioBlock
  extract_lets
  split
  split
  exact ⟨_, rfl⟩

/-! ### Run and ring positions (R238, R242) -/

theorem runVerdict_starts (hidle : d.inp i 1 = 1) : runVerdict i 1 d = .ok (d.startInput i) := by
  simp [runVerdict, hidle]

/-- A ring or a capture stops at once; a tone or a chime falls first. -/
theorem runVerdict_stops (hrun : d.inp i 1 = 2) (hkind : d.inKind i = 1 ∨ d.inKind i = 2) :
    runVerdict i 0 d = .ok (d.inputStops i) := by
  have hcut : ¬(d.inKind i = 0 ∨ d.inKind i = 3) := by omega
  simp only [runVerdict, hrun, hcut]
  rfl

/-- A write position that leaves no more than the ring holds, and takes none back. -/
theorem writePosVerdict_moves (hon : d.inp i 1 = 1 ∨ d.inp i 1 = 2)
    (hfits : (v + 2 ^ 32 - d.inp i 0x13) % 2 ^ 32 ≤ d.inp i 0x0B)
    (hkeeps : d.available i ≤ (v + 2 ^ 32 - d.inp i 0x13) % 2 ^ 32) :
    writePosVerdict i v d = .ok (d.setO (inIndex i) 0x12 v) :=
  (if_neg (by omega)).trans (if_neg (not_or.mpr ⟨hfits.not_gt, hkeeps.not_gt⟩))

theorem readPosVerdict_moves (hkeeps : (d.snk s 0x14 + 2 ^ 32 - v) % 2 ^ 32 ≤ d.recorded s) :
    readPosVerdict s v d = .ok (d.setO (sinkIndex s) 0x15 v) :=
  if_neg hkeeps.not_gt

/-! ### Gains (R245) -/

/-- A gain that is one number stands in /01h of a bus and in /05h of an input or a sink. -/
theorem gainOf_sub (h : gainOf i j = some g) : j = 1 ∨ j = 5 := by
  unfold gainOf at h
  split at h
  next hinput => exact .inr hinput.2.2
  split at h
  next hbus => exact .inl hbus.2.2
  split at h
  next hsink => exact .inr hsink.2.2
  cases h

/-- It is none of an input's sends (/08h). -/
theorem gainOf_no_send (h : gainOf i j = some g) : ¬(0x2801 ≤ i ∧ i ≤ 0x2820 ∧ j = 8) := by
  have := gainOf_sub h; omega

/-- It is no bus's duck (/04h). -/
theorem gainOf_no_duck (h : gainOf i j = some g) : ¬(0x2821 ≤ i ∧ i ≤ 0x2830 ∧ j = 4) := by
  have := gainOf_sub h; omega

/-- A gain in its range ramps from the level that it asked for before to the one that it asks for now. -/
theorem gainVerdict_ramps (hok : gainOk (asSigned 16 v) = true) :
    gainVerdict g i j v d = .ok ((d.setO i j v).startRamp g (d.gainLevel g) ((d.setO i j v).gainLevel g)) :=
  if_neg (by simp [hok])

/-! ### Stages (R249, R250) -/

/-- One more fault of a stage: the times of the last three are kept. -/
def Dev.noteFault (d : Dev) (s : Nat) : Dev :=
  d.setSink s { d.sink s with faults := (d.clock.ns :: (d.sink s).faults).take 3 }

/-- A stage that is up or in standby stops in Fault; the fault is counted, noted and logged. -/
theorem stageFault_stops (hon : d.snk s 1 = 1 ∨ d.snk s 1 = 2) :
    d.stageFault s = ((((d.setO (sinkIndex s) 1 3).count (sinkIndex s) 0x18).count 0x2800 9).noteFault s).log 0x41 0x1704
      (d.sinkOwner s) (32 + s) [s] :=
  if_pos hon

/-! ### Enables (R254) -/

/-- Inputs, sinks, and the headset ports, TDM ports and PDM lines have an enable. -/
theorem hasEnable_iff : hasEnable i = true ↔
    (0x2801 ≤ i ∧ i ≤ 0x2820) ∨ (0x2831 ≤ i ∧ i ≤ 0x283C) ∨ (0x2840 ≤ i ∧ i ≤ 0x2847) := by
  simp [hasEnable, or_assoc]

theorem audioEnableVerdict_enables (hdisabling : d.audioDisabling i = false) :
    audioEnableVerdict i 1 d = .ok ((d.setO i 2 1).enableAudio i) := by
  simp [audioEnableVerdict, hdisabling]

theorem audioEnableVerdict_disables (d : Dev) (i : Nat) : audioEnableVerdict i 0 d = .ok ((d.setO i 2 0).disableAudio i) :=
  rfl

/-- A write of an enable that passes the checks, and that the unit takes. -/
theorem enableWrite_accepts {t : Dev} (hl : d.live = true) (hs : d.serving = true) (hunit : hasEnable i = true)
    (hc : d.checkWrite who i 2 (numData i 2 v) = none) (hf : audioEnableVerdict i v d = .ok t) :
    exec (.audioUnitEnableWrite who i v) ⟨q, d⟩ = .next ⟨q, Dev.finish d t.accept⟩ := by
  rw [exec_audioUnitEnableWrite, execAudioUnitEnableWrite, actServed_of_live _ hl hs, if_pos hunit, request_accepts hc hf]

/-- The disable of a unit is over, and is timed no longer. -/
def Dev.disableOver (d : Dev) (i : Nat) : Dev :=
  { d with audio := { d.audio with disableAt := tabDrop i d.audio.disableAt } }

/-- The time since the unit's disable began, in µs. -/
def Dev.disableTime (d : Dev) (i : Nat) : Nat := (d.clock.ns - tabGet 0 d.audio.disableAt i) / 1000

/-- The disable of an input ends: it stops, is disabled, and shows the time. -/
theorem audioDisabled_input (hi : i ≤ 0x2820) (hst : d.getO i 1 = 3) :
    d.audioDisabled i =
      (((d.disableOver i).inputStops (i - 0x2801)).setO i 1 0).setO i 0x1C (d.disableTime i) :=
  (if_pos hi).trans (if_pos hst)

/-- A sink that is disabled gives nothing out, has no faults behind it, and shows the time. -/
def Dev.sinkDisabled (d : Dev) (i us : Nat) : Dev :=
  let d := (d.setO i 1 0).setO i 0x19 us
  (d.setSink (i - 0x2831) { d.sink (i - 0x2831) with out := [], faults := [] }).recordStream (i - 0x2831)

theorem audioDisabled_sink (hlow : 0x2831 ≤ i) (hhigh : i ≤ 0x283C) (hst : d.getO i 1 = 4) :
    d.audioDisabled i = (d.disableOver i).sinkDisabled i (d.disableTime i) :=
  (if_neg (by omega)).trans ((if_pos ⟨hlow, hhigh⟩).trans (if_pos hst))

/-- The disable of a TDM port or a PDM line ends. -/
theorem audioDisabled_port (hlow : 0x2842 ≤ i) (hhigh : i ≤ 0x2847) (hst : d.getO i 1 = 2) :
    d.audioDisabled i = (d.disableOver i).setO i 1 0 :=
  (if_neg (by omega)).trans ((if_neg (by omega)).trans ((if_pos ⟨hlow, hhigh⟩).trans (if_pos hst)))

/-- The end of the disable of a unit that has an enable. -/
theorem disableComplete_ends {t : Dev} (hl : d.live = true) (hr : (d.awake && d.domainRuns 15) = true)
    (hunit : hasEnable i = true) (ht : d.audioDisabled i = t) :
    exec (.audioDisableComplete i) ⟨q, d⟩ = .next ⟨q, Dev.finish d t⟩ :=
  onAudio_acts hl hr ((if_pos hunit).trans ht)

end Sys2Proof.Machine

open Sys2Proof Sys2Proof.Machine

/-- Settles O24: each command's meaning, at the branch that the clause names. How the mixer rounds,
the law of its limiter and the samples of a disable's fade, and that a gain's timeout comes as a command are the model's choices
(assumption logs 39, 40 and 41). -/
theorem audioCompletes : Obligations.audio_completes := by
  refine ⟨?block, ?lowLatency, ?frames, ?runs, ?stops, ?writePosition, ?readPosition, ?gain, ?gainTimeout, ?silence, ?fault,
    ?retry, ?enable, ?disable, ?inputOff, ?sinkOff, ?portOff, ?off⟩
  case block =>
    intro q d hl hr
    exact onAudio_acts hl hr rfl
  case lowLatency =>
    intro q d hl hr
    exact onAudio_acts hl hr rfl
  case frames =>
    intro q d hl hr
    obtain ⟨mixed, hends⟩ := audioBlock_ends d
    refine ⟨_, onAudio_acts hl hr hends, rfl, ?_, ?_⟩ <;> (rw [finish_audio]; rfl)
  case runs =>
    intro q d who i hl hs hi hc hidle
    exact onUnit_request hl hs hi hc (runVerdict_starts hidle)
  case stops =>
    intro q d who i hl hs hi hc hrun hkind
    exact onUnit_request hl hs hi hc (runVerdict_stops hrun hkind)
  case writePosition =>
    intro q d who i v hl hs hi hc hon hfits hkeeps
    exact onUnit_request hl hs hi hc (writePosVerdict_moves hon hfits hkeeps)
  case readPosition =>
    intro q d who s v hl hs hn hc hkeeps
    exact onUnit_request hl hs hn hc (readPosVerdict_moves hkeeps)
  case gain =>
    intro q d who g i j data hl hs hc hg hok _
    rw [exec_gainWrite, execGainWrite, actServed_of_live _ hl hs, if_neg (gainOf_no_send hg)]
    simp only [hg, request_accepts hc (gainVerdict_ramps hok)]
  case gainTimeout =>
    intro q d i j g hl hr hg
    rw [exec_gainStepTimeout, execGainStepTimeout]
    exact onAudio_acts hl hr ((if_neg (gainOf_no_send hg)).trans ((if_neg (gainOf_no_duck hg)).trans (by simp only [hg])))
  case silence =>
    intro q d s hl hr hn hup hquiet hhold hroute
    exact onAudio_unit hl hr hn (if_pos ⟨hup, hquiet, hhold, by simp [hroute]⟩)
  case fault =>
    intro q d s hl hr hn hon
    exact onAudio_unit hl hr hn (stageFault_stops hon)
  case retry =>
    intro q d s hl hr hn hfault hfew hvin
    exact onAudio_unit hl hr hn (if_pos ⟨hfault, hfew, by simp [hvin]⟩)
  case enable =>
    intro q d who i hl hs hunit hc hdisabling
    exact enableWrite_accepts hl hs hunit hc (audioEnableVerdict_enables hdisabling)
  case disable =>
    intro q d who i hl hs hunit hc
    exact enableWrite_accepts hl hs hunit hc (audioEnableVerdict_disables d i)
  case inputOff =>
    intro q d i hl hr hlow hhigh hst
    exact disableComplete_ends hl hr (hasEnable_iff.mpr (by omega)) (audioDisabled_input hhigh hst)
  case sinkOff =>
    intro q d i hl hr hlow hhigh hst
    exact disableComplete_ends hl hr (hasEnable_iff.mpr (by omega)) (audioDisabled_sink hlow hhigh hst)
  case portOff =>
    intro q d i hl hr hlow hhigh hst
    exact disableComplete_ends hl hr (hasEnable_iff.mpr (by omega)) (audioDisabled_port hlow hhigh hst)
  case off =>
    intro q d i hl hr hunit
    exact disableComplete_ends hl hr hunit rfl
end

section
/-! PROOF. Code S (R334, R338): multiplication in GF(2^8) is bilinear, associative and without zero divisors; the check bytes make
the four syndromes of a sector 0; the syndromes of a word with an error are those of the error, and one wrong byte at locator x
with error e has the syndromes e, ex, ex², ex³, which no other locator and no poison pattern gives. -/

namespace Sys2Proof.Machine

/-! ### The field -/

theorem two_mul_xor (a b : Nat) : 2 * (a ^^^ b) = 2 * a ^^^ 2 * b := by
  simpa only [Nat.shiftLeft_eq, pow_one, Nat.mul_comm] using Nat.shiftLeft_xor_distrib (i := 1) (a := a) (b := b)

theorem xor_lt_256 {a b : Nat} (ha : a < 256) (hb : b < 256) : a ^^^ b < 256 :=
  Nat.xor_lt_two_pow (n := 8) ha hb

/-- The reduction by 11Dh, told by bit 7 alone. -/
theorem gfDouble_eq {a : Nat} (h : a < 256) : gfDouble a = 2 * a ^^^ a / 128 * 0x11D := by
  unfold gfDouble
  split
  · rw [show a / 128 = 0 by omega, Nat.zero_mul, Nat.xor_zero]
  · rw [show a / 128 = 1 by omega, Nat.one_mul]

theorem gfDouble_lt {a : Nat} (h : a < 256) : gfDouble a < 256 :=
  (by decide +kernel : ∀ a < 256, gfDouble a < 256) a h

theorem gfDouble_xor {a b : Nat} (ha : a < 256) (hb : b < 256) : gfDouble (a ^^^ b) = gfDouble a ^^^ gfDouble b := by
  have reduction : ∀ x < 2, ∀ y < 2, (x ^^^ y) * 0x11D = x * 0x11D ^^^ y * 0x11D := by decide
  have htop : (a ^^^ b) / 128 = a / 128 ^^^ b / 128 := Nat.xor_div_two_pow (n := 7)
  rw [gfDouble_eq (xor_lt_256 ha hb), gfDouble_eq ha, gfDouble_eq hb, two_mul_xor, htop,
    reduction _ (by omega) _ (by omega)]
  ac_rfl

theorem gfMulBits_lt {a : Nat} (h : a < 256) : ∀ n b, gfMulBits n a b < 256 := by
  intro n
  induction n generalizing a with
  | zero => exact fun _ => Nat.zero_lt_succ 255
  | succ n ih =>
    intro b
    refine xor_lt_256 ?_ (ih (gfDouble_lt h) _)
    split
    · exact h
    · exact Nat.zero_lt_succ 255

theorem gfMul_lt {a : Nat} (h : a < 256) (b : Nat) : gfMul a b < 256 := gfMulBits_lt h 8 b

theorem gfMulBits_xor_left (n : Nat) {a b : Nat} (c : Nat) (ha : a < 256) (hb : b < 256) :
    gfMulBits n (a ^^^ b) c = gfMulBits n a c ^^^ gfMulBits n b c := by
  induction n generalizing a b c with
  | zero => exact (Nat.xor_self 0).symm
  | succ n ih =>
    simp only [gfMulBits, gfDouble_xor ha hb, ih _ (gfDouble_lt ha) (gfDouble_lt hb)]
    split
    · ac_rfl
    · simp only [Nat.zero_xor]

theorem gfMulBits_xor_right (n a b c : Nat) : gfMulBits n a (b ^^^ c) = gfMulBits n a b ^^^ gfMulBits n a c := by
  induction n generalizing a b c with
  | zero => exact (Nat.xor_self 0).symm
  | succ n ih =>
    have hbit : (if (b ^^^ c) % 2 = 1 then a else 0) = (if b % 2 = 1 then a else 0) ^^^ (if c % 2 = 1 then a else 0) := by
      rw [Nat.xor_mod_two_eq]
      rcases Nat.mod_two_eq_zero_or_one b with hb | hb <;> rcases Nat.mod_two_eq_zero_or_one c with hc | hc <;>
        simp [Nat.add_mod, hb, hc]
    simp only [gfMulBits, Nat.xor_div_two, ih, hbit]
    ac_rfl

theorem gfMulBits_zero_right (n a : Nat) : gfMulBits n a 0 = 0 := by
  induction n generalizing a with
  | zero => rfl
  | succ n ih => simp [gfMulBits, ih]

theorem gfMulBits_double_left (n : Nat) {a : Nat} (b : Nat) (h : a < 256) :
    gfMulBits n (gfDouble a) b = gfDouble (gfMulBits n a b) := by
  induction n generalizing a b with
  | zero => rfl
  | succ n ih =>
    rw [gfMulBits, gfMulBits, ih _ (gfDouble_lt h)]
    split
    · rw [gfDouble_xor h (gfMulBits_lt (gfDouble_lt h) n _)]
    · rw [Nat.zero_xor, Nat.zero_xor]

/-- A factor of one bit fewer than the loop looks at. -/
theorem gfMulBits_succ_of_lt (n a b : Nat) (h : b < 2 ^ n) : gfMulBits (n + 1) a b = gfMulBits n a b := by
  induction n generalizing a b with
  | zero =>
    obtain rfl : b = 0 := by omega
    exact gfMulBits_zero_right 1 a
  | succ n ih =>
    have hhalf : b / 2 < 2 ^ n := by omega
    calc gfMulBits (n + 2) a b = (if b % 2 = 1 then a else 0) ^^^ gfMulBits (n + 1) (gfDouble a) (b / 2) := rfl
      _ = (if b % 2 = 1 then a else 0) ^^^ gfMulBits n (gfDouble a) (b / 2) := by rw [ih _ _ hhalf]

theorem gfMul_xor_left {a b : Nat} (c : Nat) (ha : a < 256) (hb : b < 256) : gfMul (a ^^^ b) c = gfMul a c ^^^ gfMul b c :=
  gfMulBits_xor_left 8 c ha hb

theorem gfMul_xor_right (a b c : Nat) : gfMul a (b ^^^ c) = gfMul a b ^^^ gfMul a c := gfMulBits_xor_right 8 a b c

@[simp] theorem gfMul_one (a : Nat) : gfMul a 1 = a := by
  simp [gfMul, gfMulBits]

@[simp] theorem gfMul_zero (a : Nat) : gfMul a 0 = 0 := gfMulBits_zero_right 8 a

@[simp] theorem zero_gfMul (b : Nat) : gfMul 0 b = 0 := by
  have h := gfMul_xor_left (a := 0) (b := 0) b (by decide) (by decide)
  rwa [Nat.xor_self, Nat.xor_self] at h

/-- While the factor has no bit 7, doubling it takes one more turn of the loop. -/
theorem gfMul_two_mul {a b : Nat} (ha : a < 256) (hb : b < 128) : gfMul a (2 * b) = gfDouble (gfMul a b) := by
  have heven : ¬2 * b % 2 = 1 := by omega
  have hhalf : 2 * b / 2 = b := by omega
  calc gfMul a (2 * b) = gfMulBits 7 (gfDouble a) b := by rw [gfMul, gfMulBits, if_neg heven, hhalf, Nat.zero_xor]
    _ = gfDouble (gfMulBits 7 a b) := gfMulBits_double_left 7 b ha
    _ = gfDouble (gfMul a b) := by rw [gfMul, gfMulBits_succ_of_lt 7 a b hb]

/-- The reduction on the right is that on the left: x⁸ = 1Dh. -/
theorem gfMul_top {a : Nat} (ha : a < 256) : gfMul a 0x1D = gfDouble (gfMul a 128) :=
  (by decide +kernel : ∀ a < 256, gfMul a 0x1D = gfDouble (gfMul a 128)) a ha

theorem gfMul_double_right {a b : Nat} (ha : a < 256) (hb : b < 256) : gfMul a (gfDouble b) = gfDouble (gfMul a b) := by
  by_cases hlow : b < 128
  · rw [gfDouble, if_pos hlow, gfMul_two_mul ha hlow]
  · obtain ⟨c, hc, rfl⟩ : ∃ c < 128, b = c ^^^ 128 :=
      ⟨b % 128, by omega, (by decide +kernel : ∀ b < 256, ¬b < 128 → b = b % 128 ^^^ 128) b hb hlow⟩
    have htop : gfDouble 128 = 0x1D := rfl
    have hlowdouble : gfDouble c = 2 * c := if_pos hc
    rw [gfDouble_xor (by omega) (by decide), gfMul_xor_right, htop, gfMul_top ha, hlowdouble, gfMul_two_mul ha hc, gfMul_xor_right,
      gfDouble_xor (gfMul_lt ha c) (gfMul_lt ha 128)]

theorem gfMul_gfMulBits (n : Nat) {a b : Nat} (c : Nat) (ha : a < 256) (hb : b < 256) :
    gfMul a (gfMulBits n b c) = gfMulBits n (gfMul a b) c := by
  induction n generalizing b c with
  | zero => exact gfMul_zero a
  | succ n ih =>
    simp only [gfMulBits, gfMul_xor_right, ih _ (gfDouble_lt hb), gfMul_double_right ha hb]
    split
    · rfl
    · rw [gfMul_zero]

theorem gfMul_assoc {a b : Nat} (c : Nat) (ha : a < 256) (hb : b < 256) : gfMul (gfMul a b) c = gfMul a (gfMul b c) :=
  (gfMul_gfMulBits 8 c ha hb).symm

theorem gfMul_gfInv : ∀ a < 256, a ≠ 0 → gfMul a (gfInv a) = 1 := by decide +kernel

/-- A product with a nonzero factor keeps the other factor apart from 0. -/
theorem eq_zero_of_gfMul {a b : Nat} (ha : a < 256) (hb : b < 256) (hne : b ≠ 0) (h : gfMul a b = 0) : a = 0 := by
  calc a = gfMul a (gfMul b (gfInv b)) := by rw [gfMul_gfInv b hb hne, gfMul_one]
    _ = gfMul (gfMul a b) (gfInv b) := (gfMul_assoc _ ha hb).symm
    _ = 0 := by rw [h, zero_gfMul]

theorem eq_of_gfMul_eq {a b c : Nat} (ha : a < 256) (hb : b < 256) (hc : c < 256) (hne : a ≠ 0) (h : gfMul a b = gfMul a c) :
    b = c := by
  by_contra hbc
  refine hne (eq_zero_of_gfMul ha (xor_lt_256 hb hc) (by simpa [Nat.xor_eq_zero_iff] using hbc) ?_)
  rw [gfMul_xor_right, h, Nat.xor_self]

theorem gfPow_lt (n : Nat) : gfPow n < 256 := by
  induction n with
  | zero => decide
  | succ n ih => exact gfDouble_lt ih

theorem gfPow_add (m n : Nat) : gfPow (m + n) = gfMul (gfPow m) (gfPow n) := by
  induction n with
  | zero => exact (gfMul_one _).symm
  | succ n ih => rw [← Nat.add_assoc, gfPow, ih, gfPow, gfMul_double_right (gfPow_lt m) (gfPow_lt n)]

/-! ### Syndromes -/

/-- The value at `x` of the polynomial that bytes spell behind a value `acc`. -/
def horner (x acc : Nat) (bytes : List Byte) : Nat := bytes.foldl (fun acc b => gfMul acc x ^^^ b.toNat) acc

theorem rsSyndrome_eq_horner (bytes : List Byte) (j : Nat) : rsSyndrome bytes j = horner (gfPow j) 0 bytes := rfl

variable {x : Nat}

theorem horner_append (acc : Nat) (a b : List Byte) : horner x acc (a ++ b) = horner x (horner x acc a) b :=
  List.foldl_append

theorem horner_lt {acc : Nat} (h : acc < 256) (a : List Byte) : horner x acc a < 256 := by
  induction a generalizing acc with
  | nil => exact h
  | cons b a ih => exact ih (xor_lt_256 (gfMul_lt h x) b.isLt)

theorem horner_xor {s t : Nat} (hs : s < 256) (ht : t < 256) : ∀ {a b : List Byte}, a.length = b.length →
    horner x (s ^^^ t) (xorBytes a b) = horner x s a ^^^ horner x t b
  | [], [], _ => rfl
  | p :: a, r :: b, h => by
    have hstep : gfMul (s ^^^ t) x ^^^ (p ^^^ r).toNat = (gfMul s x ^^^ p.toNat) ^^^ (gfMul t x ^^^ r.toNat) := by
      rw [gfMul_xor_left x hs ht, BitVec.toNat_xor]
      ac_rfl
    have ih := horner_xor (s := gfMul s x ^^^ p.toNat) (t := gfMul t x ^^^ r.toNat)
      (xor_lt_256 (gfMul_lt hs x) p.isLt) (xor_lt_256 (gfMul_lt ht x) r.isLt) (Nat.succ.inj h)
    rw [← hstep] at ih
    exact ih

/-- Zeros behind a value multiply it. -/
theorem horner_zeroBytes {s : Nat} (hs : s < 256) (j n : Nat) : horner (gfPow j) s (zeroBytes n) = gfMul s (gfPow (j * n)) := by
  induction n generalizing s with
  | zero => exact (gfMul_one s).symm
  | succ n ih =>
    have hstep : horner (gfPow j) s (zeroBytes (n + 1)) = horner (gfPow j) (gfMul s (gfPow j)) (zeroBytes n) := by
      rw [← Nat.xor_zero (gfMul s (gfPow j))]
      rfl
    rw [hstep, ih (gfMul_lt hs _), gfMul_assoc _ hs (gfPow_lt j), ← gfPow_add]
    congr 2
    ring

theorem rsSyndrome_xor {a b : List Byte} (h : a.length = b.length) (j : Nat) :
    rsSyndrome (xorBytes a b) j = rsSyndrome a j ^^^ rsSyndrome b j :=
  horner_xor (s := 0) (t := 0) (by decide) (by decide) h

/-! ### The check bytes -/

/-- The value at `x` of the polynomial of four coefficients, the highest first. -/
def cubicAt (x : Nat) (c : Nat × Nat × Nat × Nat) : Nat :=
  gfMul (gfMul (gfMul c.1 x ^^^ c.2.1) x ^^^ c.2.2.1) x ^^^ c.2.2.2

/-- The four coefficients are bytes. -/
def cubicOk (c : Nat × Nat × Nat × Nat) : Prop := c.1 < 256 ∧ c.2.1 < 256 ∧ c.2.2.1 < 256 ∧ c.2.2.2 < 256

/-- Multiplication by x⁴, one x at a time. -/
def timesFour (x s : Nat) : Nat := gfMul (gfMul (gfMul (gfMul s x) x) x) x

theorem cubicAt_lt {c : Nat × Nat × Nat × Nat} (h : cubicOk c) : cubicAt x c < 256 := by
  obtain ⟨h0, h1, h2, h3⟩ := h
  exact xor_lt_256 (gfMul_lt (xor_lt_256 (gfMul_lt (xor_lt_256 (gfMul_lt h0 x) h1) x) h2) x) h3

theorem cubicAt_xor {a b : Nat × Nat × Nat × Nat} (ha : cubicOk a) (hb : cubicOk b) :
    cubicAt x (a.1 ^^^ b.1, a.2.1 ^^^ b.2.1, a.2.2.1 ^^^ b.2.2.1, a.2.2.2 ^^^ b.2.2.2) = cubicAt x a ^^^ cubicAt x b := by
  obtain ⟨ha0, ha1, ha2, -⟩ := ha
  obtain ⟨hb0, hb1, hb2, -⟩ := hb
  have pair {s t u v : Nat} (hs : s < 256) (ht : t < 256) :
      gfMul (s ^^^ t) x ^^^ (u ^^^ v) = (gfMul s x ^^^ u) ^^^ (gfMul t x ^^^ v) := by
    rw [gfMul_xor_left x hs ht]
    ac_rfl
  have ha' := xor_lt_256 (gfMul_lt ha0 x) ha1
  have hb' := xor_lt_256 (gfMul_lt hb0 x) hb1
  simp only [cubicAt]
  rw [pair ha0 hb0, pair ha' hb', pair (xor_lt_256 (gfMul_lt ha' x) ha2) (xor_lt_256 (gfMul_lt hb' x) hb2)]

theorem timesFour_eq_cubicAt (x s : Nat) : timesFour x s = gfMul (cubicAt x (s, 0, 0, 0)) x := by
  simp only [timesFour, cubicAt, Nat.xor_zero]

theorem cubicAt_shift (x c1 c2 c3 : Nat) : cubicAt x (c1, c2, c3, 0) = gfMul (cubicAt x (0, c1, c2, c3)) x := by
  simp only [cubicAt, zero_gfMul, Nat.zero_xor, Nat.xor_zero]

/-- The generator x⁴ + 0Fh x³ + 36h x² + 78h x + 40h has the roots 1, α, α² and α³. -/
theorem generator_root : ∀ j < 4, cubicAt (gfPow j) (0x0F, 0x36, 0x78, 0x40) = timesFour (gfPow j) 1 := by
  decide

theorem gfMul_cubicAt {f : Nat} (hf : f < 256) {c : Nat × Nat × Nat × Nat} (h : cubicOk c) :
    gfMul f (cubicAt x c) = cubicAt x (gfMul f c.1, gfMul f c.2.1, gfMul f c.2.2.1, gfMul f c.2.2.2) := by
  obtain ⟨h0, h1, h2, -⟩ := h
  have h01 := xor_lt_256 (gfMul_lt h0 x) h1
  simp only [cubicAt, gfMul_xor_right]
  rw [← gfMul_assoc x hf (xor_lt_256 (gfMul_lt h01 x) h2), gfMul_xor_right, ← gfMul_assoc x hf h01, gfMul_xor_right,
    ← gfMul_assoc x hf h0]

theorem timesFour_xor {s t : Nat} (hs : s < 256) (ht : t < 256) : timesFour x (s ^^^ t) = timesFour x s ^^^ timesFour x t := by
  simp only [timesFour]
  rw [gfMul_xor_left x hs ht, gfMul_xor_left x (gfMul_lt hs x) (gfMul_lt ht x),
    gfMul_xor_left x (gfMul_lt (gfMul_lt hs x) x) (gfMul_lt (gfMul_lt ht x) x),
    gfMul_xor_left x (gfMul_lt (gfMul_lt (gfMul_lt hs x) x) x) (gfMul_lt (gfMul_lt (gfMul_lt ht x) x) x)]

theorem gfMul_timesFour {f : Nat} (hf : f < 256) : gfMul f (timesFour x 1) = timesFour x f := by
  have hone : cubicOk (1, 0, 0, 0) := ⟨by decide, by decide, by decide, by decide⟩
  rw [timesFour_eq_cubicAt, ← gfMul_assoc x hf (cubicAt_lt hone), gfMul_cubicAt hf hone, timesFour_eq_cubicAt]
  simp only [gfMul_one, gfMul_zero]

theorem rsStep_ok {c : Nat × Nat × Nat × Nat} (h : cubicOk c) {b : Nat} (hb : b < 256) : cubicOk (rsStep c b) := by
  obtain ⟨h0, h1, h2, h3⟩ := h
  have hf := xor_lt_256 hb h0
  exact ⟨xor_lt_256 h1 (gfMul_lt hf _), xor_lt_256 h2 (gfMul_lt hf _), xor_lt_256 h3 (gfMul_lt hf _), gfMul_lt hf _⟩

/-- One byte more: at every root of the generator the remainder takes the value of x⁴ times the data. -/
theorem cubicAt_rsStep {j b : Nat} {c : Nat × Nat × Nat × Nat} (hj : j < 4) (h : cubicOk c) (hb : b < 256) :
    cubicAt (gfPow j) (rsStep c b) = gfMul (cubicAt (gfPow j) c) (gfPow j) ^^^ timesFour (gfPow j) b := by
  obtain ⟨c0, c1, c2, c3⟩ := c
  obtain ⟨h0, h1, h2, h3⟩ := h
  have hf : b ^^^ c0 < 256 := xor_lt_256 hb h0
  have hzero : 0 < 256 := by decide
  have hfeedback : cubicAt (gfPow j) (gfMul (b ^^^ c0) 0x0F, gfMul (b ^^^ c0) 0x36, gfMul (b ^^^ c0) 0x78, gfMul (b ^^^ c0) 0x40) =
      timesFour (gfPow j) (b ^^^ c0) := by
    rw [← gfMul_timesFour hf, ← generator_root j hj, gfMul_cubicAt hf ⟨by decide, by decide, by decide, by decide⟩]
  have hshift := cubicAt_xor (x := gfPow j) (a := (c1, c2, c3, 0))
    (b := (gfMul (b ^^^ c0) 0x0F, gfMul (b ^^^ c0) 0x36, gfMul (b ^^^ c0) 0x78, gfMul (b ^^^ c0) 0x40))
    ⟨h1, h2, h3, hzero⟩ ⟨gfMul_lt hf _, gfMul_lt hf _, gfMul_lt hf _, gfMul_lt hf _⟩
  have hsplit := cubicAt_xor (x := gfPow j) (a := (0, c1, c2, c3)) (b := (c0, 0, 0, 0)) ⟨hzero, h1, h2, h3⟩ ⟨h0, hzero, hzero, hzero⟩
  simp only [Nat.zero_xor, Nat.xor_zero] at hshift hsplit
  have hlow : cubicAt (gfPow j) (0, c1, c2, c3) < 256 := cubicAt_lt ⟨hzero, h1, h2, h3⟩
  have hhigh : cubicAt (gfPow j) (c0, 0, 0, 0) < 256 := cubicAt_lt ⟨h0, hzero, hzero, hzero⟩
  calc cubicAt (gfPow j) (rsStep (c0, c1, c2, c3) b)
      = cubicAt (gfPow j) (c1, c2, c3, 0) ^^^ timesFour (gfPow j) (b ^^^ c0) := by rw [← hfeedback, ← hshift]; rfl
    _ = gfMul (cubicAt (gfPow j) (0, c1, c2, c3)) (gfPow j) ^^^ gfMul (cubicAt (gfPow j) (c0, 0, 0, 0)) (gfPow j) ^^^
        timesFour (gfPow j) b := by
      rw [cubicAt_shift, timesFour_xor hb h0, timesFour_eq_cubicAt _ c0]
      ac_rfl
    _ = gfMul (cubicAt (gfPow j) (c0, c1, c2, c3)) (gfPow j) ^^^ timesFour (gfPow j) b := by
      rw [hsplit, gfMul_xor_left _ hlow hhigh]

/-- The remainder over the bytes of a sector, at every root of the generator: x⁴ times the data. -/
theorem cubicAt_foldl {j : Nat} (hj : j < 4) (data : List Byte) : ∀ (c : Nat × Nat × Nat × Nat) (s : Nat), cubicOk c → s < 256 →
    cubicAt (gfPow j) c = timesFour (gfPow j) s →
    cubicOk (data.foldl (fun c b => rsStep c b.toNat) c) ∧
    cubicAt (gfPow j) (data.foldl (fun c b => rsStep c b.toNat) c) = timesFour (gfPow j) (horner (gfPow j) s data) := by
  induction data with
  | nil => exact fun _ _ hc _ h => ⟨hc, h⟩
  | cons b data ih =>
    intro c s hc hs h
    refine ih _ _ (rsStep_ok hc b.isLt) (xor_lt_256 (gfMul_lt hs _) b.isLt) ?_
    rw [cubicAt_rsStep hj hc b.isLt, h, timesFour_xor (gfMul_lt hs _) b.isLt]
    rfl

theorem horner_four {h : Nat} (hh : h < 256) {c : Nat × Nat × Nat × Nat} (hc : cubicOk c) :
    horner x h [BitVec.ofNat 8 c.1, BitVec.ofNat 8 c.2.1, BitVec.ofNat 8 c.2.2.1, BitVec.ofNat 8 c.2.2.2] =
      timesFour x h ^^^ cubicAt x c := by
  have hzero : 0 < 256 := by decide
  have hsplit := cubicAt_xor (x := x) (a := (gfMul h x, 0, 0, 0)) (b := c) ⟨gfMul_lt hh x, hzero, hzero, hzero⟩ hc
  obtain ⟨h0, h1, h2, h3⟩ := hc
  simp only [Nat.zero_xor] at hsplit
  have hfour : cubicAt x (gfMul h x, 0, 0, 0) = timesFour x h := by simp only [cubicAt, timesFour, Nat.xor_zero]
  rw [← hfour, ← hsplit]
  simp only [horner, List.foldl_cons, List.foldl_nil, BitVec.toNat_ofNat, Nat.reducePow, Nat.mod_eq_of_lt h0, Nat.mod_eq_of_lt h1,
    Nat.mod_eq_of_lt h2, Nat.mod_eq_of_lt h3, cubicAt]

/-- With its own check bytes a sector has the syndromes 0. -/
theorem rsSyndrome_check (data : List Byte) {j : Nat} (hj : j < 4) : rsSyndrome (data ++ rsCheck data) j = 0 := by
  have hok : cubicOk (0, 0, 0, 0) := ⟨by decide, by decide, by decide, by decide⟩
  obtain ⟨hc, h⟩ := cubicAt_foldl hj data (0, 0, 0, 0) 0 hok (by decide) (by simp [cubicAt, timesFour])
  rw [rsSyndrome_eq_horner, horner_append, rsCheck, horner_four (horner_lt (by decide) data) hc, h, Nat.xor_self]

theorem rsSyndromes_check (data : List Byte) : rsSyndromes (data ++ rsCheck data) = [0, 0, 0, 0] := by
  simp only [rsSyndromes, List.map_cons, List.map_nil, rsSyndrome_check data (j := 0) (by decide),
    rsSyndrome_check data (j := 1) (by decide), rsSyndrome_check data (j := 2) (by decide), rsSyndrome_check data (j := 3) (by decide)]

@[simp] theorem rsCheck_length (data : List Byte) : (rsCheck data).length = 4 := rfl

/-! ### One wrong byte -/

/-- Flipping a byte changes the list at that place alone. -/
theorem getElem_flipByte {bytes : List Byte} {k e i : Nat} (h : i < (flipByte bytes k e).length) :
    (flipByte bytes k e)[i] =
      if i = k then bytes[i]'(by simpa [flipByte] using h) ^^^ BitVec.ofNat 8 e else bytes[i]'(by simpa [flipByte] using h) := by
  simp [flipByte]

@[simp] theorem flipByte_length (bytes : List Byte) (k e : Nat) : (flipByte bytes k e).length = bytes.length := by
  simp [flipByte]

/-- The same error once more takes itself out. -/
@[simp] theorem flipByte_flipByte (bytes : List Byte) (k e : Nat) : flipByte (flipByte bytes k e) k e = bytes := by
  refine List.ext_getElem (by simp) fun i _ _ => ?_
  simp only [getElem_flipByte]
  split <;> simp

theorem flipByte_append_left {a : List Byte} {k : Nat} (h : k < a.length) (e : Nat) (b : List Byte) :
    flipByte a k e ++ b = flipByte (a ++ b) k e := by
  refine List.ext_getElem (by simp) fun i _ _ => ?_
  simp only [getElem_flipByte, List.getElem_append, flipByte_length]
  by_cases hi : i < a.length
  · simp only [hi, dite_true]
  · have hne : i ≠ k := by omega
    simp only [hi, hne, dite_false, if_false]

theorem flipByte_append_right (a b : List Byte) (k e : Nat) : a ++ flipByte b k e = flipByte (a ++ b) (a.length + k) e := by
  refine List.ext_getElem (by simp) fun i _ _ => ?_
  simp only [getElem_flipByte, List.getElem_append]
  by_cases hi : i < a.length
  · have hne : i ≠ a.length + k := by omega
    simp only [hi, hne, dite_true, if_false]
  · have hiff : i - a.length = k ↔ i = a.length + k := by omega
    simp only [hi, hiff, dite_false]

/-- The word that has `e` at byte `k` alone. -/
def errorWord (n k e : Nat) : List Byte := zeroBytes k ++ BitVec.ofNat 8 e :: zeroBytes (n - 1 - k)

theorem flipByte_eq_xorBytes {bytes : List Byte} {k : Nat} (hk : k < bytes.length) (e : Nat) :
    flipByte bytes k e = xorBytes bytes (errorWord bytes.length k e) := by
  refine List.ext_getElem (by simp [xorBytes, errorWord, zeroBytes]; omega) fun i _ _ => ?_
  have herror (h : i < (errorWord bytes.length k e).length) :
      (errorWord bytes.length k e)[i] = if i = k then BitVec.ofNat 8 e else 0 := by
    simp only [errorWord, zeroBytes, List.getElem_append, List.length_replicate, List.getElem_replicate, List.getElem_cons]
    grind
  simp only [getElem_flipByte, xorBytes, List.getElem_map, List.getElem_zip, herror]
  split
  · rfl
  · exact (BitVec.xor_zero).symm

theorem rsSyndrome_errorWord {n k e : Nat} (he : e < 256) (j : Nat) :
    rsSyndrome (errorWord n k e) j = gfMul e (gfPow (j * (n - 1 - k))) := by
  have hbefore : horner (gfPow j) 0 (zeroBytes k) = 0 := by rw [horner_zeroBytes (by decide), zero_gfMul]
  calc rsSyndrome (errorWord n k e) j = horner (gfPow j) (gfMul 0 (gfPow j) ^^^ (BitVec.ofNat 8 e).toNat) (zeroBytes (n - 1 - k)) := by
        rw [rsSyndrome_eq_horner, errorWord, horner_append, hbefore]; rfl
    _ = horner (gfPow j) e (zeroBytes (n - 1 - k)) := by
      rw [zero_gfMul, Nat.zero_xor, BitVec.toNat_ofNat, Nat.mod_eq_of_lt he]
    _ = _ := horner_zeroBytes he j _

/-- One error `e` at the locator `x` has the syndromes e, ex, ex² and ex³. -/
theorem rsSyndromes_flipByte {code : List Byte} {k e : Nat} (hlen : code.length = 36) (hcode : rsSyndromes code = [0, 0, 0, 0])
    (hk : k < 36) (he : e < 256) :
    rsSyndromes (flipByte code k e) = [e, gfMul e (rsLocator k), gfMul (gfMul e (rsLocator k)) (rsLocator k),
      gfMul (gfMul (gfMul e (rsLocator k)) (rsLocator k)) (rsLocator k)] := by
  have herror (j : Nat) (hj : rsSyndrome code j = 0) :
      rsSyndrome (flipByte code k e) j = gfMul e (gfPow (j * (35 - k))) := by
    rw [flipByte_eq_xorBytes (hk.trans_eq hlen.symm), rsSyndrome_xor (by simp [errorWord, zeroBytes]; omega), hj, Nat.zero_xor,
      rsSyndrome_errorWord he, hlen]
  have hnext (j : Nat) : gfMul e (gfPow ((j + 1) * (35 - k))) = gfMul (gfMul e (gfPow (j * (35 - k)))) (rsLocator k) := by
    rw [gfMul_assoc _ he (gfPow_lt _), rsLocator, ← gfPow_add, Nat.succ_mul]
  simp only [rsSyndromes, List.map_cons, List.map_nil, List.cons.injEq, and_true] at hcode ⊢
  obtain ⟨h0, h1, h2, h3⟩ := hcode
  have hfirst : gfMul e (gfPow (0 * (35 - k))) = e := by rw [Nat.zero_mul]; exact gfMul_one e
  rw [herror 0 h0, herror 1 h1, herror 2 h2, herror 3 h3, hnext 2, hnext 1, hnext 0, hfirst]
  exact ⟨rfl, rfl, rfl, rfl⟩

/-- With the poison pattern in its check bytes a sector has the syndromes of the pattern. -/
theorem rsSyndromes_poison (data : List Byte) (h : data.length = 32) :
    rsSyndromes (data ++ xorBytes (rsCheck data) poisonS) = rsSyndromes (zeroBytes 32 ++ poisonS) := by
  have hdata : xorBytes data (zeroBytes 32) = data := by
    refine List.ext_getElem (by simp [xorBytes, zeroBytes, h]) fun i _ _ => ?_
    simp only [xorBytes, zeroBytes, List.getElem_map, List.getElem_zip, List.getElem_replicate]
    exact BitVec.xor_zero
  have hword : data ++ xorBytes (rsCheck data) poisonS = xorBytes (data ++ rsCheck data) (zeroBytes 32 ++ poisonS) := by
    conv_lhs => rw [← hdata]
    rw [xorBytes, xorBytes, xorBytes, List.zip_append (by simp [zeroBytes, h]), List.map_append, ← xorBytes, hdata]
  have hlen : (data ++ rsCheck data).length = (zeroBytes 32 ++ poisonS).length := by simp [h, zeroBytes, poisonS]
  have hxor (j : Nat) (hj : j < 4) :
      rsSyndrome (xorBytes (data ++ rsCheck data) (zeroBytes 32 ++ poisonS)) j = rsSyndrome (zeroBytes 32 ++ poisonS) j := by
    rw [rsSyndrome_xor hlen, rsSyndrome_check data hj, Nat.zero_xor]
  rw [hword, rsSyndromes, rsSyndromes]
  exact List.map_congr_left fun j hj => hxor j (by simp at hj; omega)

/-- No error in a single byte has the syndromes of the poison pattern. -/
theorem poison_is_no_single_error : ∀ k < 36, gfMul (rsSyndrome (zeroBytes 32 ++ poisonS) 0) (rsLocator k) ≠
    rsSyndrome (zeroBytes 32 ++ poisonS) 1 := by decide +kernel

theorem rsLocator_lt (k : Nat) : rsLocator k < 256 := gfPow_lt _

theorem rsLocator_injective : ∀ k < 36, ∀ j < k, rsLocator j ≠ rsLocator k := by decide +kernel

/-- The decoder finds the byte of a single error: no byte before it has a locator that fits. -/
theorem rsOne_single {k e : Nat} (hk : k < 36) (h0 : 0 < e) (he : e < 256) :
    rsOne e (gfMul e (rsLocator k)) (gfMul (gfMul e (rsLocator k)) (rsLocator k))
      (gfMul (gfMul (gfMul e (rsLocator k)) (rsLocator k)) (rsLocator k)) = some (k, e) := by
  have hne : e ≠ 0 := h0.ne'
  have hfind : (List.range 36).find? (fun j => e ≠ 0 && gfMul e (rsLocator k) = gfMul e (rsLocator j) &&
      gfMul (gfMul e (rsLocator k)) (rsLocator k) = gfMul (gfMul e (rsLocator k)) (rsLocator j) &&
      gfMul (gfMul (gfMul e (rsLocator k)) (rsLocator k)) (rsLocator k) =
        gfMul (gfMul (gfMul e (rsLocator k)) (rsLocator k)) (rsLocator j)) = some k := by
    refine List.find?_range_eq_some.mpr ⟨by simp [hne], List.mem_range.mpr hk, fun j hj => ?_⟩
    have hlocator : gfMul e (rsLocator k) ≠ gfMul e (rsLocator j) := fun h =>
      rsLocator_injective k hk j hj (eq_of_gfMul_eq he (rsLocator_lt k) (rsLocator_lt j) hne h).symm
    simp [hlocator]
  simp only [rsOne, hfind, Option.map_some]

/-- A word with the syndromes of one error is corrected. -/
theorem rsDecode_single {data check code : List Byte} {k e : Nat} (hlen : code.length = 36) (hcode : rsSyndromes code = [0, 0, 0, 0])
    (hk : k < 36) (h0 : 0 < e) (he : e < 256) (hbytes : data ++ check = flipByte code k e) :
    rsDecode data check = .corrected (code.take 32) := by
  have hsyndromes := rsSyndromes_flipByte hlen hcode hk he
  have hpoison : rsSyndromes (flipByte code k e) ≠ rsSyndromes (zeroBytes 32 ++ poisonS) := by
    intro h
    rw [hsyndromes] at h
    simp only [rsSyndromes, List.map_cons, List.map_nil, List.cons.injEq] at h
    obtain ⟨hzeroth, hfirst, -⟩ := h
    exact poison_is_no_single_error k hk (by rw [← hzeroth, hfirst])
  have hnotpoison : (rsSyndromes (flipByte code k e) == rsSyndromes (zeroBytes 32 ++ poisonS)) = false := beq_eq_false_iff_ne.mpr hpoison
  have hbad : (rsSyndromes (flipByte code k e)).all (· == 0) = false := by rw [hsyndromes]; simp [h0.ne']
  simp only [rsDecode, hbytes, hbad, hnotpoison, Bool.false_eq_true, if_false]
  simp only [hsyndromes, List.getD_cons_zero, List.getD_cons_succ, rsOne_single hk h0 he, flipByte_flipByte]

end Sys2Proof.Machine

open Sys2Proof Sys2Proof.Machine

/-- Settles O48: the sector with its check bytes has the syndromes 0 (`rsSyndromes_check`), one wrong byte has those of its error
alone (`rsDecode_single`), and the poison pattern those that the decoder knows it by. -/
theorem codeSCorrectsAnyOneByte : Obligations.code_s_corrects_any_one_byte := by
  intro data hdata
  have hcode := rsSyndromes_check data
  have hlen : (data ++ rsCheck data).length = 36 := by rw [List.length_append, hdata, rsCheck_length]
  have htake : (data ++ rsCheck data).take 32 = data := by rw [← hdata, List.take_left]
  refine ⟨?clean, ?dataByte, ?checkByte, ?poison⟩
  case clean => simp only [rsDecode, hcode]; rfl
  case dataByte =>
    intro k e hk h0 he
    rw [rsDecode_single hlen hcode (by omega) h0 he (flipByte_append_left (hk.trans_eq hdata.symm) e _), htake]
  case checkByte =>
    intro k e hk h0 he
    rw [rsDecode_single hlen hcode (by omega) h0 he (flipByte_append_right data _ k e), htake]
  case poison =>
    have hbad : (rsSyndromes (zeroBytes 32 ++ poisonS)).all (· == 0) = false := by decide +kernel
    simp only [rsDecode, rsSyndromes_poison data hdata, hbad, beq_self_eq_true, Bool.false_eq_true, if_false, if_true]
end

section
/-! PROOF. Code L (R335, R338): the syndrome and the parity of a line are linear, so an error has its own. A bit of the check word
shows at most one bit of syndrome, a marker bit none, and a data bit its column, which has two bits and no other bit of the line. -/

namespace Sys2Proof.Machine

/-! ### Numbers of ones -/

theorem popCount_xor_mod_two (n a b : Nat) : popCount n (a ^^^ b) % 2 = (popCount n a + popCount n b) % 2 := by
  induction n generalizing a b with
  | zero => rfl
  | succ n ih =>
    have hbit : (a ^^^ b) % 2 = (a + b) % 2 := Nat.xor_mod_two_eq
    have hrest := ih (a / 2) (b / 2)
    simp only [popCount, Nat.xor_div_two]
    omega

theorem popCount_add (m n v : Nat) : popCount (m + n) v = popCount m (v % 2 ^ m) + popCount n (v / 2 ^ m) := by
  induction m generalizing v with
  | zero => simp [popCount]
  | succ m ih =>
    have hlow : v % 2 ^ (m + 1) % 2 = v % 2 := Nat.mod_mod_of_dvd v (Dvd.intro_left (2 ^ m) rfl)
    have hhalf : v % 2 ^ (m + 1) / 2 = v / 2 % 2 ^ m := by
      rw [Nat.pow_succ', Nat.mod_mul_right_div_self]
    rw [Nat.add_right_comm, popCount, ih, popCount, hlow, hhalf, Nat.div_div_eq_div_mul, Nat.pow_succ', Nat.add_assoc]

/-! ### The columns -/

theorem columns_nodup : columns.Nodup := List.nodup_range.filter _

theorem columns_length : 512 ≤ columns.length := by decide +kernel

theorem column_two_ones {c : Nat} (h : c ∈ columns) : 2 ≤ popCount 10 c ∧ c < 1024 := by
  obtain ⟨hrange, hones⟩ := List.mem_filter.mp h
  exact ⟨of_decide_eq_true hones, (List.mem_range.mp hrange).trans (by decide)⟩

/-- Every data bit of a line has a column. -/
theorem exists_column {i : Nat} (h : i < 512) : ∃ c, columns[i]? = some c :=
  ⟨_, List.getElem?_eq_getElem (Nat.lt_of_lt_of_le h columns_length)⟩

/-- Where a list has no value twice, the value at a place is found there. -/
theorem findIdx?_take_of_nodup {l : List Nat} (hl : l.Nodup) {n i c : Nat} (hi : i < n) (hc : l[i]? = some c) :
    (l.take n).findIdx? (· == c) = some i := by
  obtain ⟨hlen, rfl⟩ := List.getElem?_eq_some_iff.mp hc
  have htake : i < (l.take n).length := by rw [List.length_take]; exact lt_min hi hlen
  refine List.findIdx?_eq_some_iff_getElem.mpr ⟨htake, by simp, fun j hj h => ?_⟩
  rw [beq_iff_eq, List.getElem_take, hl.getElem_inj_iff] at h
  exact hj.ne h

/-! ### A flipped data bit -/

theorem flipByte_cons_zero (b : Byte) (bytes : List Byte) (e : Nat) :
    flipByte (b :: bytes) 0 e = (b ^^^ BitVec.ofNat 8 e) :: bytes := by
  refine List.ext_getElem (by simp) fun i _ _ => ?_
  cases i <;> simp [getElem_flipByte]

theorem flipByte_cons_succ (b : Byte) (bytes : List Byte) (k e : Nat) :
    flipByte (b :: bytes) (k + 1) e = b :: flipByte bytes k e := by
  refine List.ext_getElem (by simp) fun i _ _ => ?_
  cases i <;> simp [getElem_flipByte]

theorem flipLineBit_low (b : Byte) (data : List Byte) {i : Nat} (h : i < 8) :
    flipLineBit (b :: data) i = (b ^^^ BitVec.ofNat 8 (2 ^ i)) :: data := by
  rw [flipLineBit, Nat.div_eq_of_lt h, Nat.mod_eq_of_lt h, flipByte_cons_zero]

theorem flipLineBit_next (b : Byte) (data : List Byte) (i : Nat) :
    flipLineBit (b :: data) (i + 8) = b :: flipLineBit data i := by
  rw [flipLineBit, Nat.add_div_right i (by decide), Nat.add_mod_right, flipByte_cons_succ, ← flipLineBit]

theorem modify_append_left {α : Type} (f : α → α) (b : List α) :
    ∀ {a : List α} {i : Nat}, i < a.length → (a ++ b).modify i f = a.modify i f ++ b
  | _ :: _, 0, _ => rfl
  | x :: _, _ + 1, h => congrArg (x :: ·) (modify_append_left f b (Nat.lt_of_succ_lt_succ h))

theorem modify_append_right {α : Type} (f : α → α) (b : List α) (i : Nat) :
    ∀ a : List α, (a ++ b).modify (i + a.length) f = a ++ b.modify i f
  | [] => rfl
  | x :: a => congrArg (x :: ·) (modify_append_right f b i a)

/-- The bits of a byte, bit 0 first. -/
def byteBits (b : Byte) : List Bool := (List.range 8).map (fun k => b.toNat.testBit k)

@[simp] theorem byteBits_length (b : Byte) : (byteBits b).length = 8 := by simp [byteBits]

theorem lineBits_cons (b : Byte) (data : List Byte) : lineBits (b :: data) = byteBits b ++ lineBits data := rfl

theorem lineBits_length (data : List Byte) : (lineBits data).length = 8 * data.length := by
  induction data with
  | nil => rfl
  | cons b data ih => simp only [lineBits_cons, List.length_append, byteBits_length, ih, List.length_cons]; omega

theorem byteBits_flip (b : Byte) {i : Nat} (h : i < 8) :
    byteBits (b ^^^ BitVec.ofNat 8 (2 ^ i)) = (byteBits b).modify i (!·) := by
  refine List.ext_getElem (by simp) fun k hk _ => ?_
  have hpow : 2 ^ i % 256 = 2 ^ i := Nat.mod_eq_of_lt (Nat.pow_lt_pow_right (by decide) h)
  simp only [byteBits, List.getElem_map, List.getElem_range, List.getElem_modify, BitVec.toNat_xor, BitVec.toNat_ofNat, Nat.reducePow,
    hpow, Nat.testBit_xor, Nat.testBit_two_pow]
  by_cases hik : i = k <;> simp [hik]

/-- Flipping bit `i` of a line turns the bit over in its list of bits. -/
theorem lineBits_flip (data : List Byte) {i : Nat} (h : i < 8 * data.length) :
    lineBits (flipLineBit data i) = (lineBits data).modify i (!·) := by
  induction data generalizing i with
  | nil => exact absurd h (Nat.not_lt_zero i)
  | cons b data ih =>
    by_cases hlow : i < 8
    · rw [flipLineBit_low b data hlow, lineBits_cons, lineBits_cons, byteBits_flip b hlow, modify_append_left _ _ (by rwa [byteBits_length])]
    · obtain ⟨i, rfl⟩ := Nat.exists_eq_add_of_le' (Nat.le_of_not_lt hlow)
      rw [flipLineBit_next, lineBits_cons, lineBits_cons, ih (by simp at h; omega), ← modify_append_right, byteBits_length]

/-- The XOR of the columns of the ones, behind a value. -/
def xorColumns (acc : Nat) (ones : List (Bool × Nat)) : Nat :=
  ones.foldl (fun acc p => if p.1 then acc ^^^ p.2 else acc) acc

theorem xorColumns_xor (acc x : Nat) (ones : List (Bool × Nat)) : xorColumns (acc ^^^ x) ones = xorColumns acc ones ^^^ x := by
  induction ones generalizing acc with
  | nil => rfl
  | cons p ones ih =>
    have hstep : (if p.1 then acc ^^^ x ^^^ p.2 else acc ^^^ x) = (if p.1 then acc ^^^ p.2 else acc) ^^^ x := by
      split
      · ac_rfl
      · rfl
    calc xorColumns (acc ^^^ x) (p :: ones) = xorColumns (if p.1 then acc ^^^ x ^^^ p.2 else acc ^^^ x) ones := rfl
      _ = xorColumns (if p.1 then acc ^^^ p.2 else acc) ones ^^^ x := by rw [hstep, ih]

/-- A bit that turns over adds its column. -/
theorem xorColumns_flip {acc i c : Nat} {bits : List Bool} {cols : List Nat} (hi : i < bits.length) (hc : cols[i]? = some c) :
    xorColumns acc ((bits.modify i (!·)).zip cols) = xorColumns acc (bits.zip cols) ^^^ c := by
  induction bits generalizing acc i cols with
  | nil => exact absurd hi (Nat.not_lt_zero i)
  | cons b bits ih =>
    cases cols with
    | nil => cases hc
    | cons c' cols =>
      cases i with
      | zero =>
        obtain rfl : c' = c := Option.some.inj hc
        show xorColumns (if !b then acc ^^^ c' else acc) (bits.zip cols) = xorColumns (if b then acc ^^^ c' else acc) (bits.zip cols) ^^^ c'
        rw [← xorColumns_xor]
        cases b <;> simp
      | succ i => exact ih (Nat.lt_of_succ_lt_succ hi) hc

theorem lineColumns_eq (data : List Byte) : lineColumns data = xorColumns 0 ((lineBits data).zip columns) := rfl

theorem lineColumns_flip {data : List Byte} {i c : Nat} (hi : i < 8 * data.length) (hc : columns[i]? = some c) :
    lineColumns (flipLineBit data i) = lineColumns data ^^^ c := by
  rw [lineColumns_eq, lineBits_flip data hi, xorColumns_flip (by rwa [lineBits_length]) hc, ← lineColumns_eq]

theorem xorColumns_lt {acc : Nat} {ones : List (Bool × Nat)} (hacc : acc < 1024) (h : ∀ p ∈ ones, p.2 < 1024) :
    xorColumns acc ones < 1024 := by
  induction ones generalizing acc with
  | nil => exact hacc
  | cons p ones ih =>
    refine ih (acc := if p.1 then acc ^^^ p.2 else acc) ?_ fun r hr => h r (List.mem_cons_of_mem p hr)
    split
    · exact Nat.xor_lt_two_pow (n := 10) hacc (h p List.mem_cons_self)
    · exact hacc

theorem lineColumns_lt (data : List Byte) : lineColumns data < 1024 :=
  xorColumns_lt (by decide) fun _ hp => (column_two_ones (List.of_mem_zip hp).2).2

theorem popCount_flip (b : Byte) {i : Nat} (h : i < 8) :
    popCount 8 (b ^^^ BitVec.ofNat 8 (2 ^ i)).toNat % 2 = (popCount 8 b.toNat + 1) % 2 := by
  have hone : popCount 8 (2 ^ i % 256) = 1 := (by decide : ∀ i < 8, popCount 8 (2 ^ i % 256) = 1) i h
  rw [BitVec.toNat_xor, BitVec.toNat_ofNat, popCount_xor_mod_two, hone]

theorem lineParity_eq (data : List Byte) : lineParity data = (data.map (fun b => popCount 8 b.toNat)).sum % 2 := by
  rw [lineParity, List.sum_eq_foldl, List.foldl_map]

theorem lineParity_flip {data : List Byte} {i : Nat} (h : i < 8 * data.length) :
    lineParity (flipLineBit data i) = (lineParity data + 1) % 2 := by
  simp only [lineParity_eq]
  induction data generalizing i with
  | nil => exact absurd h (Nat.not_lt_zero i)
  | cons b data ih =>
    by_cases hlow : i < 8
    · have hb := popCount_flip b hlow
      simp only [flipLineBit_low b data hlow, List.map_cons, List.sum_cons]
      omega
    · obtain ⟨i, rfl⟩ := Nat.exists_eq_add_of_le' (Nat.le_of_not_lt hlow)
      have hdata := ih (i := i) (by simp at h; omega)
      simp only [flipLineBit_next, List.map_cons, List.sum_cons]
      omega

/-! ### The decoder by syndrome and parity -/

/-- The syndrome of a line and a check word. -/
def lineSyndrome (data : List Byte) (w : Nat) : Nat := (w % 1024) ^^^ lineColumns data

/-- The parity of a line and a check word. -/
def lineOdd (data : List Byte) (w : Nat) : Nat := (lineParity data + popCount 11 (w % 2048)) % 2

theorem lineSyndrome_xor (data : List Byte) (w e : Nat) : lineSyndrome data (w ^^^ e) = lineSyndrome data w ^^^ e % 1024 := by
  have hmod : (w ^^^ e) % 1024 = w % 1024 ^^^ e % 1024 := Nat.xor_mod_two_pow (n := 10)
  simp only [lineSyndrome, hmod]
  ac_rfl

theorem lineOdd_xor (data : List Byte) (w e : Nat) :
    lineOdd data (w ^^^ e) = (lineOdd data w + popCount 11 (e % 2048)) % 2 := by
  have hmod : (w ^^^ e) % 2048 = w % 2048 ^^^ e % 2048 := Nat.xor_mod_two_pow (n := 11)
  have hones := popCount_xor_mod_two 11 (w % 2048) (e % 2048)
  simp only [lineOdd, hmod]
  omega

section
variable {data check : List Byte}

/-- A marker of three ones or more is poison, whatever the line. -/
theorem lineDecode_poisoned (h : 3 ≤ popCount 5 (leNat check / 2048)) : lineDecode data check = .poisoned := by
  simp only [lineDecode, h, if_true]

theorem lineDecode_clean (hmarker : popCount 5 (leNat check / 2048) < 3) (hs : lineSyndrome data (leNat check) = 0)
    (hp : lineOdd data (leNat check) = 0) :
    lineDecode data check = if popCount 5 (leNat check / 2048) = 0 then .good else .corrected data := by
  simp only [lineSyndrome, lineOdd] at hs hp
  simp only [lineDecode, Nat.not_le.mpr hmarker, hs, hp, and_self, if_true, if_false]

/-- An odd error with at most one bit of syndrome lies in the check word. -/
theorem lineDecode_check (hmarker : popCount 5 (leNat check / 2048) < 3) (hp : lineOdd data (leNat check) = 1)
    (hs : popCount 10 (lineSyndrome data (leNat check)) ≤ 1) : lineDecode data check = .corrected data := by
  simp only [lineSyndrome, lineOdd] at hs hp
  simp [lineDecode, Nat.not_le.mpr hmarker, hs, hp]

/-- An odd error with a syndrome of two bits or more lies in the data bit whose column it is. -/
theorem lineDecode_data {i : Nat} (hmarker : popCount 5 (leNat check / 2048) < 3) (hp : lineOdd data (leNat check) = 1)
    (hs : 2 ≤ popCount 10 (lineSyndrome data (leNat check)))
    (hi : (columns.take 512).findIdx? (· == lineSyndrome data (leNat check)) = some i) :
    lineDecode data check = .corrected (flipLineBit data i) := by
  have hs' : ¬popCount 10 (lineSyndrome data (leNat check)) ≤ 1 := by omega
  simp only [lineSyndrome, lineOdd] at hs' hp hi
  simp [lineDecode, Nat.not_le.mpr hmarker, hs', hp, hi]

/-! ### The check word -/

/-- The check word as a number: the columns, the parity and the marker. -/
theorem leNat_lineCheck (data : List Byte) {marker : Nat} (h : marker < 32) :
    leNat (lineCheck data marker) = lineColumns data + 1024 * ((lineParity data + popCount 10 (lineColumns data)) % 2) + 2048 * marker := by
  have hc := lineColumns_lt data
  have hp := Nat.mod_lt (lineParity data + popCount 10 (lineColumns data)) (by decide : 2 > 0)
  simp only [lineCheck, leNat_leBytes]
  omega

theorem lineMarker_lineCheck (data : List Byte) {marker : Nat} (h : marker < 32) :
    leNat (lineCheck data marker) / 2048 = marker := by
  have hc := lineColumns_lt data
  have hp := Nat.mod_lt (lineParity data + popCount 10 (lineColumns data)) (by decide : 2 > 0)
  rw [leNat_lineCheck data h]
  omega

theorem lineSyndrome_lineCheck (data : List Byte) : lineSyndrome data (leNat (lineCheck data 0)) = 0 := by
  have hc := lineColumns_lt data
  have hlow : leNat (lineCheck data 0) % 1024 = lineColumns data := by
    rw [leNat_lineCheck data (by decide)]; omega
  rw [lineSyndrome, hlow, Nat.xor_self]

theorem lineOdd_lineCheck (data : List Byte) : lineOdd data (leNat (lineCheck data 0)) = 0 := by
  have hc := lineColumns_lt data
  have hp := Nat.mod_lt (lineParity data + popCount 10 (lineColumns data)) (by decide : 2 > 0)
  have hword := leNat_lineCheck data (marker := 0) (by decide)
  have hlow : leNat (lineCheck data 0) % 2048 % 2 ^ 10 = lineColumns data := by omega
  have hhigh : leNat (lineCheck data 0) % 2048 / 2 ^ 10 = (lineParity data + popCount 10 (lineColumns data)) % 2 := by omega
  have hbit (b : Nat) : popCount 1 b = b % 2 := Nat.add_zero _
  have hones : popCount 11 (leNat (lineCheck data 0) % 2048) =
      popCount 10 (lineColumns data) + (lineParity data + popCount 10 (lineColumns data)) % 2 % 2 := by
    rw [popCount_add 10 1, hlow, hhigh, hbit]
  rw [lineOdd, hones]
  generalize popCount 10 (lineColumns data) = n
  omega

/-! ### One flipped bit -/

/-- A flipped bit of the check word: in the columns it shows itself, in the parity no column, in the marker one of two ones. -/
theorem checkBit_shows : ∀ k < 16, (2 ^ k / 2048 = 0 ∧ popCount 11 (2 ^ k % 2048) % 2 = 1 ∧ popCount 10 (2 ^ k % 1024) ≤ 1) ∨
    (popCount 5 (2 ^ k / 2048) = 1 ∧ popCount 11 (2 ^ k % 2048) = 0 ∧ 2 ^ k % 1024 = 0) := by decide

theorem lineDecode_checkBit (data : List Byte) {k : Nat} (hk : k < 16) :
    lineDecode data (leBytes 2 (leNat (lineCheck data 0) ^^^ 2 ^ k)) = .corrected data := by
  have hword : leNat (leBytes 2 (leNat (lineCheck data 0) ^^^ 2 ^ k)) = leNat (lineCheck data 0) ^^^ 2 ^ k := by
    rw [leNat_leBytes]
    have hlt := leNat_lt (lineCheck data 0)
    rw [show (lineCheck data 0).length = 2 from leBytes_length 2 _] at hlt
    exact Nat.mod_eq_of_lt (Nat.xor_lt_two_pow (n := 16) hlt (Nat.pow_lt_pow_right (by decide) hk))
  have hmarker : leNat (leBytes 2 (leNat (lineCheck data 0) ^^^ 2 ^ k)) / 2048 = 2 ^ k / 2048 := by
    have hdiv : (leNat (lineCheck data 0) ^^^ 2 ^ k) / 2048 = leNat (lineCheck data 0) / 2048 ^^^ 2 ^ k / 2048 :=
      Nat.xor_div_two_pow (n := 11)
    rw [hword, hdiv, lineMarker_lineCheck data (by decide), Nat.zero_xor]
  have hs : lineSyndrome data (leNat (leBytes 2 (leNat (lineCheck data 0) ^^^ 2 ^ k))) = 2 ^ k % 1024 := by
    rw [hword, lineSyndrome_xor, lineSyndrome_lineCheck, Nat.zero_xor]
  have hp : lineOdd data (leNat (leBytes 2 (leNat (lineCheck data 0) ^^^ 2 ^ k))) = popCount 11 (2 ^ k % 2048) % 2 := by
    rw [hword, lineOdd_xor, lineOdd_lineCheck, Nat.zero_add]
  rcases checkBit_shows k hk with ⟨hm, hodd, hone⟩ | ⟨hm, heven, hzero⟩
  · exact lineDecode_check (by rw [hmarker, hm]; decide) (hp.trans hodd) (by rwa [hs])
  · rw [lineDecode_clean (by rw [hmarker, hm]; decide) (hs.trans hzero) (by rw [hp, heven]), hmarker, hm, if_neg (by decide)]

theorem lineDecode_dataBit (hlen : data.length = 64) {i : Nat} (hi : i < 512) :
    lineDecode (flipLineBit data i) (lineCheck data 0) = .corrected data := by
  have hbit : i < 8 * data.length := by omega
  obtain ⟨c, hc⟩ := exists_column hi
  have hs : lineSyndrome (flipLineBit data i) (leNat (lineCheck data 0)) = c := by
    have hclean := lineSyndrome_lineCheck data
    rw [lineSyndrome] at hclean
    rw [lineSyndrome, lineColumns_flip hbit hc, ← Nat.xor_assoc, hclean, Nat.zero_xor]
  have hp : lineOdd (flipLineBit data i) (leNat (lineCheck data 0)) = 1 := by
    have hclean := lineOdd_lineCheck data
    have hflip := lineParity_flip hbit
    rw [lineOdd] at hclean ⊢
    generalize popCount 11 _ = n at hclean ⊢
    omega
  obtain ⟨hones, -⟩ := column_two_ones (List.mem_of_getElem? hc)
  have hmarker : popCount 5 (leNat (lineCheck data 0) / 2048) < 3 := by rw [lineMarker_lineCheck data (by decide)]; decide
  rw [lineDecode_data hmarker hp (by rwa [hs]) (by rw [hs]; exact findIdx?_take_of_nodup columns_nodup hi hc), flipLineBit,
    flipLineBit, flipByte_flipByte]

end

end Sys2Proof.Machine

open Sys2Proof Sys2Proof.Machine

/-- Settles O47: the line's own check word leaves neither syndrome nor parity, a flipped bit leaves its own
(`lineDecode_dataBit`, `lineDecode_checkBit`), and the marker alone makes poison. -/
theorem codeLCorrectsAnySingleBit : Obligations.code_l_corrects_any_single_bit := by
  intro data hlen
  refine ⟨?clean, ?dataBit, ?checkBit, ?poison⟩
  case clean =>
    have hmarker : popCount 5 (leNat (lineCheck data 0) / 2048) = 0 := by rw [lineMarker_lineCheck data (by decide)]; rfl
    rw [lineDecode_clean (by omega) (lineSyndrome_lineCheck data) (lineOdd_lineCheck data), if_pos hmarker]
  case dataBit => exact fun i hi => lineDecode_dataBit hlen hi
  case checkBit => exact fun k hk => lineDecode_checkBit data hk
  case poison => exact lineDecode_poisoned (by rw [lineMarker_lineCheck data (by decide)]; decide)
end

section
/-! PROOF. Which commands act (R311, R383, R403, R405, R415): those of the running logic while it runs, and requests while the island
serves. -/

namespace Sys2Proof.Machine

/-- A request waits for the island: its meaning acts on a served block alone (R383). -/
theorem request_form {c : Instr} (h : c.request = true) : ∃ f : Dev → Dev, ∀ s, exec c s = actServed f s := by
  cases c with
  | freeRunWrite who rod value => exact ⟨_, exec_freeRunWrite who rod value⟩
  | freeRodTimingWrite who rod sub value => exact ⟨_, exec_freeRodTimingWrite who rod sub value⟩
  | lockSourceWrite who rod value => exact ⟨_, exec_lockSourceWrite who rod value⟩
  | beadWordWrite who slot value => exact ⟨_, exec_beadWordWrite who slot value⟩
  | actionWordWrite who slot value => exact ⟨_, exec_actionWordWrite who slot value⟩
  | clockOffsetWrite who value => exact ⟨_, exec_clockOffsetWrite who value⟩
  | rateTrimWrite who value => exact ⟨_, exec_rateTrimWrite who value⟩
  | timeReceived port days ms => exact ⟨_, exec_timeReceived port days ms⟩
  | objectWrite who target place data => exact ⟨_, exec_objectWrite who target place data⟩
  | windowRead who win index sub => exact ⟨_, exec_windowRead who win index sub⟩
  | windowWrite who win index sub => exact ⟨_, exec_windowWrite who win index sub⟩
  | windowDescribe who win index sub => exact ⟨_, exec_windowDescribe who win index sub⟩
  | domainReadSegment who win index sub => exact ⟨_, exec_domainReadSegment who win index sub⟩
  | domainWriteSegment who win index sub => exact ⟨_, exec_domainWriteSegment who win index sub⟩
  | domainEnd who win index sub => exact ⟨_, exec_domainEnd who win index sub⟩
  | domainAbort who win index sub => exact ⟨_, exec_domainAbort who win index sub⟩
  | windowRequestEnd win => exact ⟨_, exec_windowRequestEnd win⟩
  | usdoDownload port index sub data => exact ⟨_, exec_usdoDownload port index sub data⟩
  | usdoUpload port index sub => exact ⟨_, exec_usdoUpload port index sub⟩
  | rpdoReceived port pdo data => exact ⟨_, exec_rpdoReceived port pdo data⟩
  | rpdoTimeout pdo => exact ⟨_, exec_rpdoTimeout pdo⟩
  | tpdoEventTimerExpiry pdo => exact ⟨_, exec_tpdoEventTimerExpiry pdo⟩
  | syncReceived port => exact ⟨_, exec_syncReceived port⟩
  | heartbeatProducerTimer => exact ⟨_, exec_heartbeatProducerTimer⟩
  | heartbeatReceived port node => exact ⟨_, exec_heartbeatReceived port node⟩
  | heartbeatConsumerTimeout entry => exact ⟨_, exec_heartbeatConsumerTimeout entry⟩
  | emcyInhibitExpiry => exact ⟨_, exec_emcyInhibitExpiry⟩
  | canReceiveOverrun port => exact ⟨_, exec_canReceiveOverrun port⟩
  | canBusOffRecovery port => exact ⟨_, exec_canBusOffRecovery port⟩
  | nmtStartRemoteNode port node => exact ⟨_, exec_nmtStartRemoteNode port node⟩
  | nmtStopRemoteNode port node => exact ⟨_, exec_nmtStopRemoteNode port node⟩
  | nmtEnterPreOperational port node => exact ⟨_, exec_nmtEnterPreOperational port node⟩
  | nmtResetNode port node => exact ⟨_, exec_nmtResetNode port node⟩
  | nmtResetCommunication port node => exact ⟨_, exec_nmtResetCommunication port node⟩
  | errorHistoryClear who value => exact ⟨_, exec_errorHistoryClear who value⟩
  | storeParameters who sub value => exact ⟨_, exec_storeParameters who sub value⟩
  | restoreDefaults who sub value => exact ⟨_, exec_restoreDefaults who sub value⟩
  | profileRequest who value => exact ⟨_, exec_profileRequest who value⟩
  | keepAliveRequest who => exact ⟨_, exec_keepAliveRequest who⟩
  | keepAliveExit cause =>
    cases cause with
    | profile who value => exact ⟨_, exec_keepAliveExit _⟩
    | _ => cases h
  | sleepRequest who => exact ⟨_, exec_sleepRequest who⟩
  | outputRequestedStateWrite who output value => exact ⟨_, exec_outputRequestedStateWrite who output value⟩
  | timingApply who output value => exact ⟨_, exec_timingApply who output value⟩
  | auxRequest who output request => exact ⟨_, exec_auxRequest who output request⟩
  | commitSubmit who output address => exact ⟨_, exec_commitSubmit who output address⟩
  | reservationWrite who output value => exact ⟨_, exec_reservationWrite who output value⟩
  | layerEnableWrite who layer value => exact ⟨_, exec_layerEnableWrite who layer value⟩
  | copyJobSubmit who channel address => exact ⟨_, exec_copyJobSubmit who channel address⟩
  | copyChannelEnableWrite who channel value => exact ⟨_, exec_copyChannelEnableWrite who channel value⟩
  | gpuJobSubmit who partition queue address => exact ⟨_, exec_gpuJobSubmit who partition queue address⟩
  | gpuQueueEnableWrite who partition queue value => exact ⟨_, exec_gpuQueueEnableWrite who partition queue value⟩
  | pipelineCreateSubmit who address => exact ⟨_, exec_pipelineCreateSubmit who address⟩
  | pipelineDestroy who handle => exact ⟨_, exec_pipelineDestroy who handle⟩
  | rebaseline who panel => exact ⟨_, exec_rebaseline who panel⟩
  | recalibrate who panel => exact ⟨_, exec_recalibrate who panel⟩
  | saveReference who panel value => exact ⟨_, exec_saveReference who panel value⟩
  | panelEnableWrite who panel value => exact ⟨_, exec_panelEnableWrite who panel value⟩
  | hapticTrigger who channel argument => exact ⟨_, exec_hapticTrigger who channel argument⟩
  | identify who channel => exact ⟨_, exec_identify who channel⟩
  | clearFault who channel value => exact ⟨_, exec_clearFault who channel value⟩
  | modelStateWrite who channel value => exact ⟨_, exec_modelStateWrite who channel value⟩
  | hapticEnableWrite who channel value => exact ⟨_, exec_hapticEnableWrite who channel value⟩
  | inputRunWrite who input value => exact ⟨_, exec_inputRunWrite who input value⟩
  | writePositionWrite who input value => exact ⟨_, exec_writePositionWrite who input value⟩
  | readPositionWrite who sink value => exact ⟨_, exec_readPositionWrite who sink value⟩
  | gainWrite who index sub data => exact ⟨_, exec_gainWrite who index sub data⟩
  | audioUnitEnableWrite who index value => exact ⟨_, exec_audioUnitEnableWrite who index value⟩
  | ringEnableWrite who inst ring value => exact ⟨_, exec_ringEnableWrite who inst ring value⟩
  | quiesce who inst => exact ⟨_, exec_quiesce who inst⟩
  | resume who inst => exact ⟨_, exec_resume who inst⟩
  | regionRecordWrite who index sub value => exact ⟨_, exec_regionRecordWrite who index sub value⟩
  | enclaveBuild who enclave => exact ⟨_, fun s => (exec_enclaveBuild who enclave s).trans (enclaveCommand_eq ..)⟩
  | enclaveSeal who enclave => exact ⟨_, fun s => (exec_enclaveSeal who enclave s).trans (enclaveCommand_eq ..)⟩
  | enclaveDestroy who enclave => exact ⟨_, fun s => (exec_enclaveDestroy who enclave s).trans (enclaveCommand_eq ..)⟩
  | handoverRequest who word => exact ⟨_, exec_handoverRequest who word⟩
  | handoverRelease who block => exact ⟨_, exec_handoverRelease who block⟩
  | run who block => exact ⟨_, exec_run who block⟩
  | stopClock who block => exact ⟨_, exec_stopClock who block⟩
  | powerOff who block => exact ⟨_, exec_powerOff who block⟩
  | programKeySlot who data => exact ⟨_, exec_programKeySlot who data⟩
  | revokeKeySlot who slot => exact ⟨_, exec_revokeKeySlot who slot⟩
  | retire who value => exact ⟨_, exec_retire who value⟩
  | drawNonce who value => exact ⟨_, exec_drawNonce who value⟩
  | sourceEntryWrite who source value => exact ⟨_, exec_sourceEntryWrite who source value⟩
  | takeOutOfService who rank value => exact ⟨_, exec_takeOutOfService who rank value⟩
  | remap who region value => exact ⟨_, exec_remap who region value⟩
  | wayMaskWrite who partition value => exact ⟨_, exec_wayMaskWrite who partition value⟩
  | lockWrite who partition value => exact ⟨_, exec_lockWrite who partition value⟩
  | clearRetiredList who value => exact ⟨_, exec_clearRetiredList who value⟩
  | catalogueLoad who engine code => exact ⟨_, exec_catalogueLoad who engine code⟩
  | selfCheck who engine value => exact ⟨_, exec_selfCheck who engine value⟩
  | streamOpen who engine => exact ⟨_, exec_streamOpen who engine⟩
  | streamClose who engine => exact ⟨_, exec_streamClose who engine⟩
  | streamAbort who engine => exact ⟨_, exec_streamAbort who engine⟩
  | feedWord who engine value => exact ⟨_, exec_feedWord who engine value⟩
  | directData who engine data => exact ⟨_, exec_directData who engine data⟩
  | ninesEnableWrite who engine value => exact ⟨_, exec_ninesEnableWrite who engine value⟩
  | logClear who value => exact ⟨_, exec_logClear who value⟩
  | postEvent who data => exact ⟨_, exec_postEvent who data⟩
  | islandSwitch who value => exact ⟨_, exec_islandSwitch who value⟩
  | watchdogKick who watchdog value => exact ⟨_, exec_watchdogKick who watchdog value⟩
  | softwareReset who value => exact ⟨_, exec_softwareReset who value⟩
  | updateActivate who => exact ⟨_, exec_updateActivate who⟩
  | updateAbandon who => exact ⟨_, exec_updateAbandon who⟩
  | updateCommit who => exact ⟨_, exec_updateCommit who⟩
  | tpdoInhibitExpiry pdo => exact ⟨_, exec_tpdoInhibitExpiry pdo⟩
  | _ => cases h

/-- Nobody serves the request: the block keeps its own state, and what follows every command follows. -/
theorem actServed_unserved (f : Dev → Dev) {s : State} (hl : s.dev.live = true) (hs : s.dev.serving = false) :
    actServed f s = .next (s.after s.dev) := by
  rw [actServed_eq, act_live _ s hl]
  simp only [hs, Bool.false_eq_true, if_false]

end Sys2Proof.Machine

open Sys2Proof Sys2Proof.Machine

/-- Settles O3: the decoder is constant, as the table gives no row bits. -/
theorem noWordSpellsACommand : Obligations.no_word_spells_a_command :=
  ⟨fun _ _ => rfl, fun _ _ _ => rfl⟩

/-- Settles O5: every other command has the form `act` (`exec_form`), which does nothing while the logic is off. Which commands
belong to the always-on domain is the model's choice (assumption log 70). -/
theorem nothingActsWhileTheLogicIsOff : Obligations.nothing_acts_while_the_logic_is_off := by
  intro c s hoff hc
  rcases exec_form c with ⟨_, f, hf⟩ | ⟨halways, _⟩
  · exact (hf s).trans (act_off f s hoff)
  · exact absurd (hc.symm.trans halways) Bool.false_ne_true

/-- Settles O6: each request is served or has no effect of its own (`request_form`); that it waits unserved is a deduction from
R383 (assumption log 59). -/
theorem aHaltedIslandServesNoRequest : Obligations.a_halted_island_serves_no_request := by
  intro c s hl hs hc
  obtain ⟨f, hf⟩ := request_form hc
  exact (hf s).trans (actServed_unserved f hl hs)
end

section
/-! PROOF. The commands of the Letterbox (R301 to R309, R311): each is its meaning, at the branch that a clause names. -/

namespace Sys2Proof.Machine

variable {d : Dev} {core page s v : Nat}

/-! ### Doorbells (R303) -/

/-- The island may ring for any source above the fixed ones, on the page of its target. -/
theorem doorbell_posts {word : Nat} (hpage : doorbellPage page = true) (hlow : 256 ≤ word) (hhigh : word < 2048)
    (ht : entryTarget (d.entry word) = page) : d.doorbell .island page word = d.post word := by
  have hself : word % 2048 = word := Nat.mod_eq_of_lt hhigh
  simp [Dev.doorbell, hpage, hself, hlow, hhigh, ht]

theorem doorbell_counts {who : Init} {word : Nat} (hpage : doorbellPage page = true) (hhigh : 2048 ≤ word) :
    d.doorbell who page word = d.count 0x2B00 0x05 := by
  simp [Dev.doorbell, hpage, Nat.not_lt.mpr hhigh]

/-! ### Claims and completions (R304, R305) -/

/-- A core that claims is out of WFI. -/
def Dev.leftWfi (d : Dev) (core : Nat) : Dev :=
  { d with letter := { d.letter with wfi := tabSet false d.letter.wfi core false } }

/-- The source becomes active, and the core's. -/
def Dev.claimed (d : Dev) (core s : Nat) : Dev :=
  let d := (d.setSourceState s 2).setReleased s false
  { d with letter := { d.letter with
      claimedBy := tabSet 0 d.letter.claimedBy s (core + 1)
      woken := tabSet false d.letter.woken s false } }

/-- Leaving WFI changes nothing that a claim looks at. -/
theorem leftWfi_serves (d : Dev) (k core page : Nat) : (d.leftWfi k).serves core page = d.serves core page := rfl
theorem leftWfi_bestSource (d : Dev) (k core page : Nat) : (d.leftWfi k).bestSource page core = d.bestSource page core := rfl

theorem claim_unserved (h : d.serves core page = false) : d.claim core page = (d.leftWfi core).reply (leBytes 4 0) := by
  rw [← leftWfi_serves d core] at h
  have hno : (!(d.leftWfi core).serves core page) = true := by rw [h]; rfl
  exact if_pos hno

theorem claim_served (h : d.serves core page = true) : d.claim core page =
    match d.bestSource page core with
    | none => (d.leftWfi core).reply (leBytes 4 0x80000000)
    | some s => ((d.leftWfi core).claimed core s).reply (leBytes 4 s) := by
  rw [← leftWfi_serves d core] at h
  rw [← leftWfi_bestSource d core]
  have hyes : ¬(!(d.leftWfi core).serves core page) = true := by rw [h]; decide
  exact if_neg hyes

theorem claim_none (h : d.serves core page = true) (hbest : d.bestSource page core = none) :
    d.claim core page = (d.leftWfi core).reply (leBytes 4 0x80000000) := by
  rw [claim_served h, hbest]

theorem claim_best (h : d.serves core page = true) (hbest : d.bestSource page core = some s) :
    d.claim core page = ((d.leftWfi core).claimed core s).reply (leBytes 4 s) := by
  rw [claim_served h, hbest]

theorem complete_ends (h : d.serves core page = true) (hactive : entryState (d.entry s) = 2)
    (hclaimed : tabGet 0 d.letter.claimedBy s = core + 1) :
    d.complete core page s =
      ({ d with letter := { d.letter with claimedBy := tabSet 0 d.letter.claimedBy s 0 } } : Dev).setSourceState s 0 := by
  simp [Dev.complete, h, hactive, hclaimed]

theorem putThreshold_takes (h : d.serves core page = true) :
    d.putThreshold core page v = (Dev.withdrawn d { d with letter := { d.letter with
      thresholds := tabSet 0 d.letter.thresholds (256 * page + core) (v % 16) } } (d.sourcesOf page)).offerAll page := by
  simp only [Dev.putThreshold, h, Bool.not_true, Bool.false_eq_true, if_false]

/-! ### Entries (R301, R302) -/

/-- The entry `old` with the writable fields of `v`; STATE and the reserved fields keep their values (R449). -/
def entryWritten (old v : Nat) : Nat :=
  setBits (setBits (setBits (setBits (setBits (setBits old 63 1 (bits v 63 1)) 56 4 (entryPrio v)) 52 4 (entryClass v)) 40 8
    (entryPoster v)) 16 8 (entryRoute v)) 8 8 (entryTarget v)

/-- The island's write of an entry in range, which keeps TARGET and EN set, is taken. -/
theorem entryVerdict_takes (hsource : sourceReserved s = false) (htarget : ownerCodeOk (entryTarget v) = true)
    (hposter : ownerCodeOk (entryPoster v) = true) (hroute : routeOk (entryTarget v) (entryRoute v) = true)
    (hkeep : entryTarget v = entryTarget (d.entry s)) (hen : entryEn v = true) :
    entryVerdict .island s v d = .ok ((Dev.withdrawn d (d.setEntry s (entryWritten (d.entry s) v)) [s]).offer s) := by
  have hroute' := hroute
  rw [hkeep] at htarget hroute'
  simp [entryVerdict, entryWritten, hsource, htarget, hposter, hroute', hkeep, hen]

/-! ### Idle targets, vectors and latches (R306, R307, R309, R311) -/

theorem enterWfi_waits (h : d.requestRaised core = false) :
    d.enterWfi core = (d.corePages core).foldl (fun d page => d.releaseTo page core)
      { d with letter := { d.letter with wfi := tabSet false d.letter.wfi core true } } := by
  rw [Dev.enterWfi, h]
  rfl

theorem msixIssue_writes {i v : Nat} (hopen : d.vectorBlocked i v = false) (hsome : (d.vectorSources i v).isEmpty = false) :
    d.msixIssue i v = d.msixWrite i v := by
  simp only [Dev.msixIssue, hopen, hsome, Bool.or_self, Bool.false_eq_true, if_false]

theorem latchPost_posts {pin : Nat} (hset : tabGet false d.kept.latched pin = true) (hen : entryEn (d.entry (160 + pin)) = true) :
    d.latchPost pin = ({ d with kept := { d.kept with latched := tabSet false d.kept.latched pin false } } : Dev).post (160 + pin) := by
  simp only [Dev.latchPost, hset, hen, Bool.and_self, if_true]

end Sys2Proof.Machine

open Sys2Proof Sys2Proof.Machine

/-- Settles O31: each command's meaning, at the branch that the clause names. -/
theorem letterboxCompletes : Obligations.letterbox_completes := by
  refine ⟨?doorbell, ?refused, ?claim, ?complete, ?threshold, ?entry, ?timer, ?wfi, ?msix, ?mask, ?latch⟩
  case doorbell =>
    intro q d p w hl hpage hhigh hlow ht
    rw [exec_doorbell, execDoorbell, act_of_live _ hl, ← doorbell_posts hpage hlow hhigh ht]
    rfl
  case refused =>
    intro q d p w hl hpage hhigh
    rw [exec_doorbell, execDoorbell, act_of_live _ hl, ← doorbell_counts (who := .island) hpage hhigh]
    rfl
  case claim =>
    intro q d k p s hl hserves hbest hruns
    rw [exec_claim, execClaim, act_of_live _ hl, if_pos hruns, claim_best hserves hbest]
    rfl
  case complete =>
    intro q d k p s hl hs hserves hactive hclaimed hruns
    rw [exec_complete, execComplete, act_of_live _ hl, if_pos hruns, Nat.mod_eq_of_lt hs, complete_ends hserves hactive hclaimed]
  case threshold =>
    intro q d k p v hl hserves hruns
    rw [exec_thresholdWrite, execThresholdWrite, act_of_live _ hl, if_pos hruns, putThreshold_takes hserves]
    rfl
  case entry =>
    intro q d s v hl hserving hs hc hsource htarget hposter hroute hkeep hen
    exact onUnit_request hl hserving hs hc (entryVerdict_takes hsource htarget hposter hroute hkeep hen)
  case timer =>
    intro q d o k hl hk htimer
    exact onUnit_acts hl hk (if_pos htimer)
  case wfi =>
    intro q d k hl hk hidle hruns
    exact onUnit_acts hl hk ((if_pos hruns).trans (enterWfi_waits hidle))
  case msix =>
    intro q d i v hl hi hv hopen hsome
    exact onUnit_acts hl hi ((onUnit_lt hv _ d).trans (msixIssue_writes hopen hsome))
  case mask =>
    intro q d i x m hl hi
    exact onUnit_acts hl hi rfl
  case latch =>
    intro q d n hl hn hset hen
    exact onUnit_acts hl hn (latchPost_posts hset hen)
end

section
/-! PROOF. What a claim returns (R304, R305): the fold over the deliverable sources keeps one that no source so far beats, by PRIO and
then by number; and the source that it returns is active afterwards. -/

namespace Sys2Proof.Machine

variable {d : Dev} {core page s b : Nat}

/-! ### The best source -/

/-- Source `r` does not beat source `s`: lower PRIO, or the same PRIO and no lower number. -/
def Dev.unbeaten (d : Dev) (s r : Nat) : Prop :=
  entryPrio (d.entry r) < entryPrio (d.entry s) ∨ (entryPrio (d.entry r) = entryPrio (d.entry s) ∧ s ≤ r)

theorem unbeaten_refl (d : Dev) (s : Nat) : d.unbeaten s s := .inr ⟨rfl, le_rfl⟩

theorem unbeaten_trans {r : Nat} (h : d.unbeaten s b) (g : d.unbeaten b r) : d.unbeaten s r := by
  unfold Dev.unbeaten at *
  omega

/-- The better of the best source so far and the next one. -/
def Dev.better (d : Dev) (best : Option Nat) (s : Nat) : Option Nat :=
  match best with
  | none => some s
  | some b =>
    let p := entryPrio (d.entry s)
    let q := entryPrio (d.entry b)
    if q < p ∨ (q = p ∧ s < b) then some s else best

theorem bestSource_eq (d : Dev) (page core : Nat) : d.bestSource page core = (d.takeable page core).foldl d.better none := rfl

/-- The better of two is one of them, and neither beats it. -/
theorem better_some (d : Dev) (b s : Nat) :
    ∃ c, d.better (some b) s = some c ∧ (c = b ∨ c = s) ∧ d.unbeaten c b ∧ d.unbeaten c s := by
  simp only [Dev.better]
  split
  next h => exact ⟨s, rfl, .inr rfl, by unfold Dev.unbeaten; omega, unbeaten_refl d s⟩
  next h => exact ⟨b, rfl, .inl rfl, unbeaten_refl d b, by unfold Dev.unbeaten; omega⟩

theorem foldl_better (d : Dev) (l : List Nat) : ∀ b, ∃ s, l.foldl d.better (some b) = some s ∧ (s = b ∨ s ∈ l) ∧
    d.unbeaten s b ∧ ∀ r ∈ l, d.unbeaten s r := by
  induction l with
  | nil => exact fun b => ⟨b, rfl, .inl rfl, unbeaten_refl d b, List.forall_mem_nil _⟩
  | cons x l ih =>
    intro b
    obtain ⟨c, hc, hmem, hb, hx⟩ := better_some d b x
    obtain ⟨s, hs, hsmem, hsc, hall⟩ := ih c
    refine ⟨s, by rw [List.foldl_cons, hc, hs], ?_, unbeaten_trans hsc hb, List.forall_mem_cons.mpr ⟨unbeaten_trans hsc hx, hall⟩⟩
    rcases hsmem with rfl | hsmem
    · exact hmem.imp_right fun h : s = x => h ▸ List.mem_cons_self
    · exact .inr (List.mem_cons_of_mem x hsmem)

theorem bestSource_none (h : d.takeable page core = []) : d.bestSource page core = none := by
  rw [bestSource_eq, h]
  rfl

theorem exists_bestSource (h : d.takeable page core ≠ []) :
    ∃ s, d.bestSource page core = some s ∧ s ∈ d.takeable page core ∧ ∀ r ∈ d.takeable page core, d.unbeaten s r := by
  rw [bestSource_eq]
  obtain ⟨x, l, hl⟩ := List.exists_cons_of_ne_nil h
  rw [hl]
  obtain ⟨s, hs, hmem, hx, hall⟩ := foldl_better d l x
  exact ⟨s, hs, List.mem_cons.mpr hmem, List.forall_mem_cons.mpr ⟨hx, hall⟩⟩

/-! ### Entries -/

/-- The sources in use are among the 2048 of Table 15-2. -/
theorem usedSources_lt (h : s ∈ d.usedSources) : s < 2048 := by
  obtain ⟨p, _, hp⟩ := List.mem_filterMap.mp h
  dsimp only at hp
  split at hp
  next hrange =>
    simp only [Bool.and_eq_true, decide_eq_true_eq] at hrange
    have := Option.some.inj hp
    omega
  · cases hp

theorem takeable_lt (h : s ∈ d.takeable page core) : s < 2048 :=
  usedSources_lt (List.mem_of_mem_filter h)

/-- The row of an object, found among the rows of its index. -/
theorem objRow_eq (i j : Nat) : objRow i j = ((cataloguePage (i / 256)).filter (·.hasIndex i)).find? (·.hasSub j) := by
  simp only [objRow, List.find?_filter, Bool.decide_and, Bool.decide_eq_true]

/-- The rows of an index of source entries (Table 15-8). -/
def entryRows : List ObjRow := (cataloguePage 0x2B).filter (·.hasIndex 0x2B10)

theorem entryRows_eq : ∀ k < 16, (cataloguePage ((0x2B10 + k) / 256)).filter (·.hasIndex (0x2B10 + k)) = entryRows := by
  decide +kernel

theorem entryRows_size : ∀ j < 128, (entryRows.find? (·.hasSub (j + 1))).bind (fun r => r.ty.size) = some 8 := by
  decide +kernel

/-- An entry is a 64-bit word. -/
theorem entry_modulus (h : s < 2048) : objModulus (0x2B10 + s / 128) (s % 128 + 1) = 2 ^ 64 := by
  rw [objModulus, objRow_eq, entryRows_eq _ (by omega), entryRows_size _ (Nat.mod_lt s (by decide))]
  rfl

theorem entry_setEntry_same (h : s < 2048) (e : Nat) : (d.setEntry s e).entry s = e % 2 ^ 64 := by
  rw [Dev.entry, Dev.setEntry, getO_setO_same, entry_modulus h]

/-- STATE of an entry that has been given one. -/
theorem entryState_setBits (e st : Nat) : entryState (setBits e 60 2 st % 2 ^ 64) = st % 4 := by
  simp only [entryState, bits, setBits]
  omega

theorem finish_entry (before d : Dev) (s : Nat) : (Dev.finish before d).entry s = d.entry s :=
  finish_getO before d (by omega) (by omega)

/-- A source that is active is not deliverable. -/
theorem not_deliverable_of_active (h : entryState (d.entry s) = 2) : d.deliverable s = false := by
  simp [Dev.deliverable, h]

/-- A claim writes the source's entry and no other object. -/
theorem claimed_objs (d : Dev) (core s : Nat) (x : List Byte) : ((d.claimed core s).reply x).objs = (d.setSourceState s 2).objs := rfl

/-- The claimed source is active, whatever follows the command. -/
theorem claimed_entry (before d : Dev) (core : Nat) (hs : s < 2048) (x : List Byte) :
    (Dev.finish before ((d.claimed core s).reply x)).entry s = setBits (d.entry s) 60 2 2 % 2 ^ 64 := by
  have hobjs : ((d.claimed core s).reply x).entry s = (d.setSourceState s 2).entry s := getO_of_objs (claimed_objs d core s x) _ _
  rw [finish_entry, hobjs, Dev.setSourceState, entry_setEntry_same hs]

/-- CLAIM by a core that runs. -/
theorem exec_claim_runs {q : List Instr} {t : Dev} (hl : d.live = true) (hruns : d.coreRuns core = true) (h : d.claim core page = t) :
    exec (.claim core page) ⟨q, d⟩ = .next ⟨q, Dev.finish d t⟩ := by
  rw [exec_claim, execClaim, act_of_live _ hl, if_pos hruns, h]

end Sys2Proof.Machine

open Sys2Proof Sys2Proof.Machine

/-- Settles O49: a claim returns the source that the fold over the deliverable ones keeps, which none of them beats
(`exists_bestSource`). -/
theorem aClaimReturnsTheBestSource : Obligations.a_claim_returns_the_best_source := by
  intro q d core page hl
  refine ⟨?stopped, fun hruns => ⟨?unserved, ?none, ?best⟩⟩
  case stopped =>
    intro hstopped
    rw [exec_claim, execClaim, act_of_live _ hl, if_neg (by rw [hstopped]; decide)]
  case unserved =>
    intro hserves
    exact ⟨_, exec_claim_runs hl hruns (claim_unserved hserves), by rw [finish_answer]; rfl⟩
  case none =>
    intro hserves hnone
    exact ⟨_, exec_claim_runs hl hruns (claim_none hserves (bestSource_none hnone)), by rw [finish_answer]; rfl⟩
  case best =>
    intro hserves hsome
    obtain ⟨s, hbest, hmem, hall⟩ := exists_bestSource hsome
    have hentry := claimed_entry d (d.leftWfi core) core (takeable_lt hmem) (leBytes 4 s)
    refine ⟨_, s, exec_claim_runs hl hruns (claim_best hserves hbest), by rw [finish_answer]; rfl, hmem, hall, ?_, ?_⟩
    · rw [hentry, Nat.mod_mod]
      rfl
    · exact not_deliverable_of_active (by rw [hentry, entryState_setBits])
end

section
/-! PROOF. What a post and the other commands of the Letterbox may change (R302 to R309): the Letterbox itself, its tallies and its
source entries. -/

namespace Sys2Proof.Machine

/-- The block `b` is `a` but for the Letterbox, its tallies and entries, and the answer. -/
structure LetterOnly (a b : Dev) : Prop where
  fields : ∃ objs letter answer, b = { a with objs := objs, letter := letter, answer := answer }
  objects : ∀ i j, j < 256 → letterIndex i = false → b.getO i j = a.getO i j

namespace LetterOnly

variable {a b c : Dev} {s : Nat}

theorem refl (a : Dev) : LetterOnly a a where
  fields := ⟨a.objs, a.letter, a.answer, rfl⟩
  objects _ _ _ _ := rfl

theorem trans (h : LetterOnly a b) (g : LetterOnly b c) : LetterOnly a c where
  fields := by
    obtain ⟨_, _, _, rfl⟩ := h.fields
    obtain ⟨_, _, _, rfl⟩ := g.fields
    exact ⟨_, _, _, rfl⟩
  objects i j hj hi := (g.objects i j hj hi).trans (h.objects i j hj hi)

/-- A tally or an entry takes a value. -/
theorem setO (h : LetterOnly a b) {i : Nat} (hi : letterIndex i = true) (j v : Nat) (hj : j < 256) : LetterOnly a (b.setO i j v) :=
  h.trans
    { fields := ⟨_, b.letter, b.answer, rfl⟩
      objects := fun _ _ hj' hi' => getO_setO_other b (objKey_ne hj hj' (.inl fun e => by simp [e, hi] at hi')) v }

theorem count (h : LetterOnly a b) (j : Nat) (hj : j < 256 := by decide) : LetterOnly a (b.count 0x2B00 j) := h.setO rfl j _ hj

theorem setEntry (h : LetterOnly a b) (hs : s < 2048) (e : Nat) : LetterOnly a (b.setEntry s e) := by
  refine h.setO ?_ _ _ (by omega)
  simp only [letterIndex, Bool.or_eq_true, Bool.and_eq_true, decide_eq_true_eq]
  omega

theorem letter (h : LetterOnly a b) (x : Letter) : LetterOnly a { b with letter := x } :=
  h.trans
    { fields := ⟨b.objs, _, b.answer, rfl⟩
      objects := fun _ _ _ _ => rfl }

theorem answer (h : LetterOnly a b) (x : Answer) : LetterOnly a { b with answer := x } :=
  h.trans
    { fields := ⟨b.objs, b.letter, _, rfl⟩
      objects := fun _ _ _ _ => rfl }

/-- A command that acts only under a condition. -/
theorem ite {p : Prop} [Decidable p] (h : LetterOnly a b) (g : LetterOnly a c) : LetterOnly a (if p then b else c) := by
  split
  · exact h
  · exact g

/-- One operation after another, over a list. -/
theorem foldl {α : Type} {f : Dev → α → Dev} (hf : ∀ d x, LetterOnly d (f d x)) (l : List α) : ∀ {b}, LetterOnly a b →
    LetterOnly a (l.foldl f b) := by
  induction l with
  | nil => exact fun h => h
  | cons x l ih => exact fun h => ih (h.trans (hf _ x))

/-! ### The operations of the Letterbox -/

theorem setSourceState (h : LetterOnly a b) (hs : s < 2048) (st : Nat) : LetterOnly a (b.setSourceState s st) := h.setEntry hs _

theorem setReleased (h : LetterOnly a b) (s : Nat) (x : Bool) : LetterOnly a (b.setReleased s x) := h.letter _

theorem setPba (h : LetterOnly a b) (i v : Nat) (x : Bool) : LetterOnly a (b.setPba i v x) := h.letter _

theorem withdraw (h : LetterOnly a b) (s : Nat) : LetterOnly a (b.withdraw s) :=
  .ite ((LetterOnly.ite (h.setPba _ _ _) h).count 8) h

theorem withdrawn (h : LetterOnly a b) (before : Dev) (l : List Nat) : LetterOnly a (Dev.withdrawn before b l) :=
  foldl (fun d _ => (LetterOnly.ite ((refl d).setPba _ _ _) (refl d)).count 8) _ h

theorem releaseClass (h : LetterOnly a b) (owner cls : Nat) : LetterOnly a (b.releaseClass owner cls) :=
  (foldl (fun d s => (refl d).setReleased s true) _ h).letter _

/-- A post that a class holds, counted; the class releases when its count is reached. -/
theorem postCore (h : LetterOnly a b) (hs : s < 2048) : LetterOnly a (b.postCore s) := by
  unfold Dev.postCore
  dsimp only
  have posted := h.setSourceState hs (if entryState (b.entry s) = 0 then 1 else 3)
  have held := (posted.setReleased s false).letter
  exact .ite (h.count 6) (.ite (posted.setReleased s _) (.ite ((held _).releaseClass _ _) (held _)))

/-- A source that Table 15-2 lists is one of the 2048. -/
theorem lt_of_listed (h : sourceReserved s = false) : s < 2048 := by
  simp only [sourceReserved, Bool.or_eq_false_iff, decide_eq_false_iff_not] at h
  omega

/-- An offer may post the wake source of an enclave, which Table 15-2 lists. -/
theorem offer (h : LetterOnly a b) (s : Nat) : LetterOnly a (b.offer s) := by
  unfold Dev.offer
  dsimp only
  refine .ite (.ite (.ite (h.withdraw s) h) (.ite ?_ (h.letter _))) h
  split
  · exact h.letter _
  next hlisted => exact ((h.letter _).postCore (lt_of_listed (by simpa using hlisted))).count 9

theorem offerAll (h : LetterOnly a b) (owner : Nat) : LetterOnly a (b.offerAll owner) :=
  foldl (fun d s => (refl d).offer s) _ h

theorem post (h : LetterOnly a b) (s : Nat) : LetterOnly a (b.post s) := by
  unfold Dev.post
  split
  · exact h
  next hlisted => exact (h.postCore (lt_of_listed (by simpa using hlisted))).offerAll _

theorem releaseTo (h : LetterOnly a b) (owner core : Nat) : LetterOnly a (b.releaseTo owner core) :=
  (foldl (fun d cls => LetterOnly.ite ((refl d).releaseClass owner cls) (refl d)) _
    (foldl (fun d s => (refl d).setReleased s true) _ h)).offerAll owner

end LetterOnly

/-! ### The commands -/

variable {d t : Dev} {who : Init} {core page s v : Nat}

theorem doorbell_letterOnly (d : Dev) (who : Init) (page word : Nat) : LetterOnly d (d.doorbell who page word) :=
  .ite (.refl d) (.ite ((LetterOnly.refl d).post _) ((LetterOnly.refl d).count 5))

theorem claim_letterOnly (d : Dev) (core page : Nat) : LetterOnly d (d.claim core page) := by
  have left := (LetterOnly.refl d).letter { d.letter with wfi := tabSet false d.letter.wfi core false }
  cases hserves : d.serves core page with
  | false => exact claim_unserved hserves ▸ left.answer _
  | true =>
    cases hbest : d.bestSource page core with
    | none => exact claim_none hserves hbest ▸ left.answer _
    | some s =>
      have hsome : d.takeable page core ≠ [] := fun hnil => by rw [bestSource_none hnil] at hbest; cases hbest
      obtain ⟨s', hs', hmem, -⟩ := exists_bestSource hsome
      obtain rfl : s' = s := Option.some.inj (hs'.symm.trans hbest)
      exact claim_best hserves hbest ▸ (((left.setSourceState (takeable_lt hmem) 2).setReleased s' false).letter _).answer _

theorem complete_letterOnly (d : Dev) (core page : Nat) (hs : s < 2048) : LetterOnly d (d.complete core page s) := by
  have freed := (LetterOnly.refl d).letter { d.letter with claimedBy := tabSet 0 d.letter.claimedBy s 0 }
  exact .ite (.refl d) (.ite ((LetterOnly.refl d).count 7)
    (.ite (freed.setSourceState hs 0) (((freed.setSourceState hs 1).setReleased s true).offer s)))

theorem putThreshold_letterOnly (d : Dev) (core page v : Nat) : LetterOnly d (d.putThreshold core page v) :=
  .ite (.refl d) ((((LetterOnly.refl d).letter _).withdrawn d _).offerAll page)

theorem enterWfi_letterOnly (d : Dev) (core : Nat) : LetterOnly d (d.enterWfi core) :=
  .ite (.refl d) (LetterOnly.foldl (fun d page => (LetterOnly.refl d).releaseTo page core) _ ((LetterOnly.refl d).letter _))

theorem entryVerdict_letterOnly (hs : s < 2048) (h : entryVerdict who s v d = .ok t) : LetterOnly d t := by
  unfold entryVerdict at h
  dsimp only at h
  split_ifs at h
  all_goals
    obtain rfl := Except.ok.inj h
  · exact (((LetterOnly.refl d).setEntry hs _).withdrawn d _).offer s
  · exact ((((LetterOnly.refl d).setEntry hs _).letter _).withdrawn d _).offer s

/-! ### After a command -/

theorem act_letterOnly {f : Dev → Dev} {s t : State} (h : LetterOnly s.dev (f s.dev)) (ht : act f s = .next t) :
    t.pending = s.pending ∧ Dev.objectsOnly letterIndex { s.dev with letter := t.dev.letter } t.dev := by
  obtain ⟨hq, hdev⟩ := act_next ht
  obtain ⟨b, hb, hsame⟩ : ∃ b, LetterOnly s.dev b ∧ SameBut b t.dev := by
    rcases hdev with hdev | hdev
    · exact ⟨_, h, hdev⟩
    · exact ⟨_, .refl _, hdev ▸ .refl _⟩
  obtain ⟨⟨objs, can, sent, hc⟩, hobjs⟩ := hsame
  rw [hc] at hobjs ⊢
  refine ⟨hq, ?_, fun i j hj hi _ hh => (hobjs i j hh hj).trans (hb.objects i j hj hi)⟩
  obtain ⟨_, _, _, rfl⟩ := hb.fields
  rfl

end Sys2Proof.Machine

open Sys2Proof Sys2Proof.Machine

/-- Settles O54: each command writes the Letterbox, its tallies and its entries alone (`LetterOnly`); and what follows every command
adds the CAN node, what was sent and the error history (`SameBut`). -/
theorem frameOfTheLetterbox : Obligations.frame_of_the_letterbox := by
  intro who k p v
  simp only [List.forall_mem_cons]
  refine ⟨?doorbell, ?claim, ?complete, ?threshold, ?entry, ?timer, ?wfi, List.forall_mem_nil _⟩
  all_goals
    intro s t ht
    have same := LetterOnly.refl s.dev
  case doorbell => exact act_letterOnly (.ite (doorbell_letterOnly s.dev who p v) same) ht
  case claim => exact act_letterOnly (.ite (claim_letterOnly s.dev k p) same) ht
  case complete => exact act_letterOnly (.ite (complete_letterOnly s.dev k p (Nat.mod_lt v (by decide))) same) ht
  case threshold => exact act_letterOnly (.ite (putThreshold_letterOnly s.dev k p v) same) ht
  case entry =>
    refine act_letterOnly (.ite ?_ same) ht
    unfold onUnit
    split
    next hk =>
      show LetterOnly s.dev (s.dev.request who (0x2B10 + k / 128) (k % 128 + 1) (numData (0x2B10 + k / 128) (k % 128 + 1) v)
        (entryVerdict who k v))
      rcases request_ends (d := s.dev) (who := who) (data := numData (0x2B10 + k / 128) (k % 128 + 1) v)
        (f := entryVerdict who k v) (i := 0x2B10 + k / 128) (j := k % 128 + 1) (by omega) with ⟨abort, h⟩ | ⟨x, hx, h⟩
      · exact h ▸ same.answer _
      · exact h ▸ (entryVerdict_letterOnly hk hx).answer _
    · exact same
  case timer => exact act_letterOnly (.ite (.ite ((same.releaseClass p k).offerAll p) same) same) ht
  case wfi => exact act_letterOnly (.ite (.ite (enterWfi_letterOnly s.dev k) same) same) ht
end

section
/-! PROOF. The commands of the Nines units (R350 to R355, R357): each is its meaning, at the branch that a clause names. -/

namespace Sys2Proof.Machine

variable {d : Dev} {n k v : Nat}

@[simp] theorem setEngine_getO (x : Engine) (i j : Nat) : (d.setEngine n x).getO i j = d.getO i j := rfl
@[simp] theorem setEngine_engState (x : Engine) (m : Nat) : (d.setEngine n x).engState m = d.engState m := rfl
@[simp] theorem engine_setEngine_same (x : Engine) : (d.setEngine n x).engine n = x := tabGet_set_same ..

/-! ### Settings (R352) -/

/-- Word 03h of an engine with the setting of a row: TAG and CMP are those of the word before. -/
def cfgLoaded (old w : Nat) (ref : Bool) : Nat :=
  w + (if ref then 0x300 else 0) + 1024 * cfgTag old + (if cfgCmp old then 32768 else 0)

/-- The setting of a row of Table 18-2 in objects 03h to 06h of an engine. -/
def Dev.settingLoaded (d : Dev) (n w poly init out : Nat) (ref : Bool) : Dev :=
  let i := ninesIndex n
  (((d.setO i 3 (cfgLoaded (d.getO i 3) w ref)).setO i 4 poly).setO i 5 init).setO i 6 out

/-- A code of Table 18-2 loads its row. -/
theorem catalogueVerdict_loads {w poly init out : Nat} {ref : Bool} (hstill : d.engStill n = true) (hk : k ≠ 0)
    (hrow : catalogue[k - 1]? = some (w, poly, init, ref, out)) :
    catalogueVerdict n k d = .ok (d.settingLoaded n w poly init out ref) := by
  simp only [catalogueVerdict, if_neg hk, hrow, hstill, Bool.not_true, Bool.false_eq_true, if_false]
  rfl

/-- A code that Table 18-2 does not list is out of range. -/
theorem catalogueVerdict_unlisted (hk : k = 0 ∨ 10 < k) : catalogueVerdict n k d = .error abortRange := by
  have hnone : (if k = 0 then none else catalogue[k - 1]?) = none := by
    split
    · rfl
    · exact List.getElem?_eq_none (show 10 ≤ k - 1 by omega)
  simp only [catalogueVerdict, hnone]

theorem selfCheckVerdict_takes (hstill : d.engStill n = true) : selfCheckVerdict n d =
    .ok (d.setO (ninesIndex n) 9 (d.engResult n (d.engTake n (d.getO (ninesIndex n) 5) nineDigits))) :=
  if_pos hstill

/-! ### Streams and feeds (R353, R354) -/

theorem controlVerdict_opens (h : d.engState n = 1) : controlVerdict n 1 d = .ok (d.engOpen n) := by simp [controlVerdict, h]

theorem controlVerdict_closes (h : d.engState n = 2) : controlVerdict n 2 d = .ok (d.engClose n) := by simp [controlVerdict, h]

theorem controlVerdict_aborts (h : d.engState n = 2) :
    controlVerdict n 3 d = .ok ((d.setO (ninesIndex n) 0x11 4).setEngState n 1) := by simp [controlVerdict, h]

/-- The close of a stream without a comparison and without a value tag that counts. -/
theorem engClose_plain (hcmp : cfgCmp (d.getO (ninesIndex n) 3) = false) (htag : cfgTag (d.getO (ninesIndex n) 3) ≠ 3) :
    d.engClose n = (((((d.setO (ninesIndex n) 0x10 (d.engResult n (d.engine n).reg)).setO (ninesIndex n) 0x11 1).count 0x2E00 2).count
      (ninesIndex n) 0x15).setEngState n 1).post (129 + n) := by
  simp [Dev.engClose, hcmp, htag]

theorem directVerdict_takes {data : List Byte} (hdata : data.isEmpty = false) (hopen : d.engState n = 2)
    (htag : cfgTag (d.getO (ninesIndex n) 3) ≠ 1) : directVerdict n data d =
    .ok ((d.setEngine n { d.engine n with reg := d.engTake n (d.engine n).reg data, fed := true }).countBy (ninesIndex n) 0x12
      data.length) := by
  simp [directVerdict, hdata, hopen, htag]

theorem feedVerdict_takes (hreserved : bits v 28 3 = 0) (hlength : v % 2 ^ 28 ≠ 0) (hopen : d.engState n = 2)
    (htag : cfgTag (d.getO (ninesIndex n) 3) ≠ 1) : feedVerdict n v d =
    .ok ((d.setEngine n { d.engine n with
      reg := (d.engine n).reg, fed := true, feed := some (d.getO (ninesIndex n) 0x0C, v % 2 ^ 28, v.testBit 31)
      before := d.mem }).setEngState n 3) := by
  have hword : ¬(bits v 28 3 ≠ 0 ∨ v % 2 ^ 28 = 0) := by omega
  simp only [feedVerdict, if_neg hword, hopen, htag, ne_eq, not_true_eq_false, if_false, decide_false, Bool.false_and,
    Bool.false_eq_true]

section
variable {a len : Nat} {last : Bool} (hfeed : (d.engine n).feed = some (a, len, last)) (hstate : d.engState n = 3)
include hfeed hstate

/-- A feed whose bursts all read: the engine is Open again, or its stream closes. -/
theorem feedEnds_reads (hhalt : (d.feedNow n a len).halt = none) :
    d.feedEnds n =
      (let f := d.feedNow n a len
       let k := ((f.dev.countBy (ninesIndex n) 0x12 f.took).setEngine n
         { (f.dev.countBy (ninesIndex n) 0x12 f.took).engine n with reg := f.reg, feed := none, before := [] }).setEngState n 2
       if last then k.engClose n else k) := by
  simp only [Dev.feedEnds, hfeed, hstate, hhalt, ne_eq, not_true_eq_false, if_false, Option.isSome_none, Bool.false_eq_true]

/-- A feed whose burst at `x.1` fails with status `x.2`. -/
theorem feedHalts_fails {x : Nat × Nat} (hhalt : (d.feedNow n a len).halt = some x) :
    d.feedHalts n =
      (let f := d.feedNow n a len
       let k := (f.dev.countBy (ninesIndex n) 0x12 f.took).setEngine n { d.engine n with reg := f.reg, feed := none, before := [] }
       let k := ((k.setO (ninesIndex n) 0x13 x.1).setO (ninesIndex n) 0x11 x.2).setEngState n 4
       ((k.count 0x2E00 3).count (ninesIndex n) 0x16).post (129 + n)) := by
  simp only [Dev.feedHalts, hfeed, hstate, hhalt, ne_eq, not_true_eq_false, if_false]

end

/-! ### The end of a disable (R357) -/

/-- Without a feed in hand the disable ends with the stream cancelled that was open; that an engine whose enable reads 1 again
shows Idle is the model's choice (assumption log 56). -/
theorem engDisabled_unfed (hstate : d.engState n = 6) (howner : d.getO (ninesIndex n) 0x14 = 255)
    (hfeed : (d.engine n).feed = none) : d.engDisabled n =
      (let k := if (d.engine n).opened then d.setO (ninesIndex n) 0x11 5 else d
       let k := (k.setO (ninesIndex n) 0x17 ((k.clock.ns - (d.engine n).disableAt) / 1000)).setEngine n {}
       k.setEngState n (if k.getO (ninesIndex n) 2 = 0 || !k.running then 0 else 1)) := by
  simp only [Dev.engDisabled, hstate, howner, hfeed, ne_eq, not_true_eq_false, or_self, if_false]

end Sys2Proof.Machine

open Sys2Proof Sys2Proof.Machine

/-- Settles O34: each command's meaning, at the branch that the clause names. That an engine reads Idle after a disable when its
enable is 1 is assumption log 56. -/
theorem ninesComplete : Obligations.nines_complete := by
  refine ⟨?load, ?check, ?opens, ?closePlain, ?closes, ?aborts, ?feed, ?ends, ?halts, ?direct, ?disable, ?unfed, ?disabled⟩
  case load =>
    intro q d who n k w poly init out ref hl hs hn hc hk hrow hstill
    exact onUnit_request hl hs hn hc (catalogueVerdict_loads hstill hk hrow)
  case check =>
    intro q d who n v hl hs hn hc hstill
    exact onUnit_request hl hs hn hc (selfCheckVerdict_takes hstill)
  case opens =>
    intro q d who n hl hs hn hc hidle
    exact onUnit_request hl hs hn hc (controlVerdict_opens hidle)
  case closePlain =>
    intro q d who n hl hs hn hc hopen hcmp htag
    exact onUnit_request hl hs hn hc ((controlVerdict_closes hopen).trans (congrArg _ (engClose_plain hcmp htag)))
  case closes =>
    intro q d who n hl hs hn hc hopen
    exact onUnit_request hl hs hn hc (controlVerdict_closes hopen)
  case aborts =>
    intro q d who n hl hs hn hc hopen
    exact onUnit_request hl hs hn hc (controlVerdict_aborts hopen)
  case feed =>
    intro q d who n v hl hs hn hc hreserved hlength hopen htag
    exact onUnit_request hl hs hn hc (feedVerdict_takes hreserved hlength hopen htag)
  case ends =>
    intro q d n a len last hl hn hfeed hstate hhalt
    exact onUnit_acts hl hn (feedEnds_reads hfeed hstate hhalt)
  case halts =>
    intro q d n a len last x hl hn hfeed hstate hhalt
    exact onUnit_acts hl hn (feedHalts_fails hfeed hstate hhalt)
  case direct =>
    intro q d who n b hl hs hn hc hdata hopen htag
    exact onUnit_request hl hs hn hc (directVerdict_takes hdata hopen htag)
  case disable =>
    intro q d who n hl hs hn hc
    exact onUnit_request hl hs hn hc rfl
  case unfed =>
    intro q d n hl hn hstate howner hfeed
    exact onUnit_acts hl hn (engDisabled_unfed hstate howner hfeed)
  case disabled =>
    intro q d n hl hn _ _
    exact onUnit_acts hl hn rfl
end

section
/-! PROOF. The catalogue of check-value settings (R352): each code of Table 18-2 loads its row, and under that setting the nine
digits give the row's check value. -/

namespace Sys2Proof.Machine

variable {d : Dev} {n : Nat}

/-! ### The configuration word (Table 18-1) -/

section
variable {old w : Nat} {ref : Bool}

theorem cfgTag_lt (c : Nat) : cfgTag c < 4 := Nat.mod_lt _ (by decide)

/-- The word of a loaded setting fits its 32 bits. -/
theorem cfgLoaded_lt (hw : w < 128) : cfgLoaded old w ref < 2 ^ 32 := by
  have := cfgTag_lt old
  unfold cfgLoaded
  split_ifs <;> omega

theorem cfgWidth_cfgLoaded (hw : w < 128) : cfgWidth (cfgLoaded old w ref) = w := by
  unfold cfgLoaded cfgWidth
  split_ifs <;> omega

theorem cfgTag_cfgLoaded (hw : w < 128) : cfgTag (cfgLoaded old w ref) = cfgTag old := by
  have := cfgTag_lt old
  rw [cfgTag, bits, cfgLoaded]
  split_ifs <;> omega

theorem cfgRefIn_cfgLoaded (hw : w < 128) : cfgRefIn (cfgLoaded old w ref) = ref := by
  rw [cfgRefIn, Nat.testBit_eq_decide_div_mod_eq, cfgLoaded]
  cases ref <;> cases cfgCmp old <;> simp <;> omega

theorem cfgRefOut_cfgLoaded (hw : w < 128) : cfgRefOut (cfgLoaded old w ref) = ref := by
  rw [cfgRefOut, Nat.testBit_eq_decide_div_mod_eq, cfgLoaded]
  cases ref <;> cases cfgCmp old <;> simp <;> omega

theorem cfgCmp_cfgLoaded (hw : w < 128) : cfgCmp (cfgLoaded old w ref) = cfgCmp old := by
  have := cfgTag_lt old
  rw [cfgCmp, Nat.testBit_eq_decide_div_mod_eq, cfgLoaded]
  cases ref <;> cases cfgCmp old <;> simp <;> omega

end

/-! ### The objects of a setting -/

theorem ninesIndex_ne : ninesIndex n ≠ 0x1003 := by unfold ninesIndex; omega

/-- What follows an accepted write leaves the objects that it wrote. -/
theorem answered_getO (before : Dev) {i j : Nat} (hi : i ≠ 0x1003) (hj : j < 256) :
    (Dev.finish before d.accept).getO i j = d.getO i j := finish_getO before d.accept hi hj

theorem cfg_modulus : ∀ n < 8, objModulus (ninesIndex n) 3 = 2 ^ 32 := by decide

theorem setting_modulus : ∀ n < 8, ∀ j ∈ [4, 5, 6, 9], objModulus (ninesIndex n) j = 2 ^ 64 := by decide

/-- A code object holds any byte. -/
theorem code_row : ∀ n < 8, (objRow (ninesIndex n) 7).map (fun r => (r.ty.size, r.range)) = some (some 1, .any) := by decide

/-- A write of a value that fits meets the same checks as any other one that fits, when the object's range is not limited. -/
theorem checkWrite_of_any {who : Init} {i j size v v' : Nat}
    (hrow : (objRow i j).map (fun r => (r.ty.size, r.range)) = some (some size, .any)) (hv : v < 256 ^ size) (hv' : v' < 256 ^ size) :
    d.checkWrite who i j (numData i j v) = d.checkWrite who i j (numData i j v') := by
  obtain ⟨r, hr, hsize, hrange⟩ : ∃ r, objRow i j = some r ∧ r.ty.size = some size ∧ r.range = .any := by
    simpa using hrow
  simp [Dev.checkWrite, numData, hr, hsize, hrange, hv, hv', Range.holds, leBytes_length]

/-! ### The self-check -/

/-- What the nine digits give under a setting. -/
def digitsCheck (w poly init out : Nat) (ref : Bool) : Nat :=
  let reg := nineDigits.foldl (crcByte w poly ref) init
  (if ref then reflect w reg else reg) ^^^ out

theorem digits_of_setting {w poly init out : Nat} {ref : Bool} (hw : cfgWidth (d.getO (ninesIndex n) 3) = w)
    (hrefIn : cfgRefIn (d.getO (ninesIndex n) 3) = ref) (hrefOut : cfgRefOut (d.getO (ninesIndex n) 3) = ref)
    (hpoly : d.getO (ninesIndex n) 4 = poly) (hinit : d.getO (ninesIndex n) 5 = init) (hout : d.getO (ninesIndex n) 6 = out) :
    d.engResult n (d.engTake n (d.getO (ninesIndex n) 5) nineDigits) = digitsCheck w poly init out ref := by
  simp only [Dev.engResult, Dev.engTake, hw, hrefIn, hrefOut, hpoly, hinit, hout, digitsCheck]

/-- Table 18-2 with the check value of each row: code, width, polynomial, initial value, reflections, final XOR, check value. -/
def checkRows : List (Nat × Nat × Nat × Nat × Bool × Nat × Nat) :=
  [(1, 8, 0x07, 0, false, 0, 0xF4), (2, 16, 0x1021, 0xFFFF, false, 0, 0x29B1), (3, 16, 0x1021, 0, true, 0, 0x2189),
   (4, 16, 0x8005, 0, true, 0, 0xBB3D), (5, 24, 0x864CFB, 0xB704CE, false, 0, 0x21CF02),
   (6, 32, 0x04C11DB7, 0xFFFFFFFF, true, 0xFFFFFFFF, 0xCBF43926),
   (7, 32, 0x1EDC6F41, 0xFFFFFFFF, true, 0xFFFFFFFF, 0xE3069283),
   (8, 32, 0x04C11DB7, 0xFFFFFFFF, false, 0, 0x0376E6E7), (9, 64, 0x42F0E1EBA9EA3693, 0, false, 0, 0x6C40DF5F0B497347),
   (10, 64, 0x42F0E1EBA9EA3693, 0xFFFFFFFFFFFFFFFF, true, 0xFFFFFFFFFFFFFFFF, 0x995DC9BBDF1939FA)]

/-- Each row stands in the catalogue under its code, and its numbers fit their objects. -/
theorem checkRows_catalogue {k w poly init out check : Nat} {ref : Bool} (h : (k, w, poly, init, ref, out, check) ∈ checkRows) :
    k ≠ 0 ∧ catalogue[k - 1]? = some (w, poly, init, ref, out) ∧ w < 128 ∧ poly < 2 ^ 64 ∧ init < 2 ^ 64 ∧ out < 2 ^ 64 :=
  (by decide : ∀ r ∈ checkRows, r.1 ≠ 0 ∧ catalogue[r.1 - 1]? = some (r.2.1, r.2.2.1, r.2.2.2.1, r.2.2.2.2.1, r.2.2.2.2.2.1) ∧
    r.2.1 < 128 ∧ r.2.2.1 < 2 ^ 64 ∧ r.2.2.2.1 < 2 ^ 64 ∧ r.2.2.2.2.2.1 < 2 ^ 64) _ h

/-- The nine digits under each row's setting: nine bytes through the register, for ten rows. -/
theorem checkRows_digits {k w poly init out check : Nat} {ref : Bool} (h : (k, w, poly, init, ref, out, check) ∈ checkRows) :
    digitsCheck w poly init out ref = check ∧ check < 2 ^ 64 :=
  (by decide +kernel : ∀ r ∈ checkRows, digitsCheck r.2.1 r.2.2.1 r.2.2.2.1 r.2.2.2.2.2.1 r.2.2.2.2.1 = r.2.2.2.2.2.2 ∧
    r.2.2.2.2.2.2 < 2 ^ 64) _ h

/-! ### What the commands leave in the objects -/

section
variable {w poly init out : Nat} {ref : Bool} (before : Dev) (hn : n < 8)
include hn

/-- After a load the word of the setting and its three numbers read as the row gives them. -/
theorem settingLoaded_reads (hw : w < 128) (hpoly : poly < 2 ^ 64) (hinit : init < 2 ^ 64) (hout : out < 2 ^ 64) :
    let t := Dev.finish before (d.settingLoaded n w poly init out ref).accept
    t.getO (ninesIndex n) 3 = cfgLoaded (d.getO (ninesIndex n) 3) w ref ∧ t.getO (ninesIndex n) 4 = poly ∧
      t.getO (ninesIndex n) 5 = init ∧ t.getO (ninesIndex n) 6 = out := by
  have other : ∀ {d : Dev} {j j' : Nat} (v : Nat), j < 256 → j' < 256 → j' ≠ j →
      (d.setO (ninesIndex n) j v).getO (ninesIndex n) j' = d.getO (ninesIndex n) j' :=
    fun {d} _ _ v hj hj' hne => getO_setO_other d (objKey_ne hj hj' (.inr hne)) v
  have mod := setting_modulus n hn
  refine ⟨?word, ?poly, ?init, ?out⟩
  all_goals
    rw [answered_getO before ninesIndex_ne (by decide)]
    unfold Dev.settingLoaded
  case word =>
    rw [other _ (by decide) (by decide) (by decide), other _ (by decide) (by decide) (by decide),
      other _ (by decide) (by decide) (by decide), getO_setO_same, cfg_modulus n hn, Nat.mod_eq_of_lt (cfgLoaded_lt hw)]
  case poly =>
    rw [other _ (by decide) (by decide) (by decide), other _ (by decide) (by decide) (by decide), getO_setO_same,
      mod 4 (by decide), Nat.mod_eq_of_lt hpoly]
  case init =>
    rw [other _ (by decide) (by decide) (by decide), getO_setO_same, mod 5 (by decide), Nat.mod_eq_of_lt hinit]
  case out => rw [getO_setO_same, mod 6 (by decide), Nat.mod_eq_of_lt hout]

theorem checkValue_reads (v : Nat) : (Dev.finish before (d.setO (ninesIndex n) 9 v).accept).getO (ninesIndex n) 9 = v % 2 ^ 64 := by
  rw [answered_getO before ninesIndex_ne (by decide), getO_setO_same, setting_modulus n hn 9 (by decide)]

end

end Sys2Proof.Machine

open Sys2Proof Sys2Proof.Machine

/-- Settles O43: the load and the self-check are their meanings (`catalogueVerdict_loads`, `selfCheckVerdict_takes`), the fields
of the loaded word are those of the row, and the ten check values are computed (`checkRows_digits`). -/
theorem catalogueSettingsLoadAndCheck : Obligations.catalogue_settings_load_and_check := by
  intro q d who n hl hs hn hstill
  have selfCheck (hc : d.checkWrite who (ninesIndex n) 8 (numData (ninesIndex n) 8 1) = none) :
      ∃ t, exec (.selfCheck who n 1) ⟨q, d⟩ = .next t ∧ t.dev.getO (ninesIndex n) 9 =
        d.engResult n (d.engTake n (d.getO (ninesIndex n) 5) nineDigits) % 2 ^ 64 :=
    ⟨_, onUnit_request hl hs hn hc (selfCheckVerdict_takes hstill), checkValue_reads d hn _⟩
  refine ⟨fun k w poly init ref out check hmem => ⟨?load, ?check⟩, selfCheck, ?unlisted⟩
  case load =>
    intro hc
    obtain ⟨hk, hrow, hw, hpoly, hinit, hout⟩ := checkRows_catalogue hmem
    obtain ⟨h3, h4, h5, h6⟩ := settingLoaded_reads (d := d) (ref := ref) d hn hw hpoly hinit hout
    refine ⟨_, onUnit_request hl hs hn hc (catalogueVerdict_loads hstill hk hrow), ?_⟩
    rw [h3, h4, h5, h6]
    exact ⟨cfgWidth_cfgLoaded hw, cfgRefIn_cfgLoaded hw, cfgRefOut_cfgLoaded hw, rfl, rfl, rfl, cfgTag_cfgLoaded hw,
      cfgCmp_cfgLoaded hw⟩
  case check =>
    intro hc hw hrefIn hrefOut hpoly hinit hout
    obtain ⟨hdigits, hlt⟩ := checkRows_digits hmem
    obtain ⟨t, ht, hread⟩ := selfCheck hc
    refine ⟨t, ht, ?_⟩
    rw [hread, digits_of_setting hw hrefIn hrefOut hpoly hinit hout, hdigits, Nat.mod_eq_of_lt hlt]
  case unlisted =>
    intro k hk hbyte hc
    have hk' : d.checkWrite who (ninesIndex n) 7 (numData (ninesIndex n) 7 k) = none :=
      (checkWrite_of_any (code_row n hn) hbyte (by decide)).trans hc
    have refused : d.request who (ninesIndex n) 7 (numData (ninesIndex n) 7 k) (catalogueVerdict n k) = d.refuse abortRange := by
      have hne : ninesIndex n ≠ 0x2002 := by unfold ninesIndex; omega
      simp [Dev.request, Dev.tryWrite, hk', catalogueVerdict_unlisted hk, Dev.noteRefusal, hne]
    rw [exec_catalogueLoad, execCatalogueLoad, onEngine_eq, actServed_of_live _ hl hs, onUnit_lt hn, refused]
    rfl
end

section
/-! PROOF. What the settings and streams of a Nines engine may change (R352 to R355, R304): its record, its objects, the tallies of
the unit, and by a post the Letterbox. -/

namespace Sys2Proof.Machine

/-- The objects of engine `n`, the tallies of the Nines unit, and what a post may change (Tables 15-6, 15-8, 18-1, 18-5). -/
def ownsEngine (n i : Nat) : Bool := i == 0x2E00 || i == ninesIndex n || letterIndex i

/-- The block `b` is `a` but for engine `n`, its objects, the unit's tallies, the Letterbox and the answer. -/
structure EngineOnly (n : Nat) (a b : Dev) : Prop where
  fields : ∃ objs engines letter answer, b = { a with objs := objs, engines := engines, letter := letter, answer := answer }
  engines : ∀ m, m ≠ n → b.engine m = a.engine m
  objects : ∀ i j, j < 256 → ownsEngine n i = false → b.getO i j = a.getO i j

namespace EngineOnly

variable {n : Nat} {a b c : Dev}

theorem refl (n : Nat) (a : Dev) : EngineOnly n a a where
  fields := ⟨a.objs, a.engines, a.letter, a.answer, rfl⟩
  engines _ _ := rfl
  objects _ _ _ _ := rfl

theorem trans (h : EngineOnly n a b) (g : EngineOnly n b c) : EngineOnly n a c where
  fields := by
    obtain ⟨_, _, _, _, rfl⟩ := h.fields
    obtain ⟨_, _, _, _, rfl⟩ := g.fields
    exact ⟨_, _, _, _, rfl⟩
  engines m hm := (g.engines m hm).trans (h.engines m hm)
  objects i j hj hi := (g.objects i j hj hi).trans (h.objects i j hj hi)

/-- An object of the unit takes a value. -/
theorem setO (h : EngineOnly n a b) {i : Nat} (hi : ownsEngine n i = true) (j v : Nat) (hj : j < 256) : EngineOnly n a (b.setO i j v) :=
  h.trans
    { fields := ⟨_, b.engines, b.letter, b.answer, rfl⟩
      engines := fun _ _ => rfl
      objects := fun _ _ hj' hi' => getO_setO_other b (objKey_ne hj hj' (.inl fun e => by simp [e, hi] at hi')) v }

/-- An object of the engine takes a value. -/
theorem record (h : EngineOnly n a b) (j v : Nat) (hj : j < 256 := by decide) : EngineOnly n a (b.setO (ninesIndex n) j v) :=
  h.setO (by simp [ownsEngine]) j v hj

/-- A tally of the unit counts. -/
theorem tally (h : EngineOnly n a b) (j : Nat) (hj : j < 256 := by decide) : EngineOnly n a (b.count 0x2E00 j) :=
  h.setO (by simp [ownsEngine]) j _ hj

theorem setEngState (h : EngineOnly n a b) (st : Nat) : EngineOnly n a (b.setEngState n st) := h.record 1 st

theorem setEngine (h : EngineOnly n a b) (x : Engine) : EngineOnly n a (b.setEngine n x) :=
  h.trans
    { fields := ⟨b.objs, _, b.letter, b.answer, rfl⟩
      engines := fun _ hm => tabGet_set_other _ _ _ hm x
      objects := fun _ _ _ _ => rfl }

theorem answer (h : EngineOnly n a b) (x : Answer) : EngineOnly n a { b with answer := x } :=
  h.trans
    { fields := ⟨b.objs, b.engines, b.letter, _, rfl⟩
      engines := fun _ _ => rfl
      objects := fun _ _ _ _ => rfl }

/-- A post changes the Letterbox alone (`LetterOnly`). -/
theorem post (h : EngineOnly n a b) (s : Nat) : EngineOnly n a (b.post s) := by
  have posted := (LetterOnly.refl b).post s
  obtain ⟨objs, letter, answer, hb⟩ := posted.fields
  refine h.trans { fields := ⟨objs, b.engines, letter, answer, hb⟩, engines := fun m _ => ?_, objects := fun i j hj hi => ?_ }
  · rw [hb]
    rfl
  · simp only [ownsEngine, Bool.or_eq_false_iff] at hi
    exact posted.objects i j hj hi.2

/-- A command that acts only under a condition. -/
theorem ite {p : Prop} [Decidable p] (h : EngineOnly n a b) (g : EngineOnly n a c) : EngineOnly n a (if p then b else c) := by
  split
  · exact h
  · exact g

/-! ### The operations of an engine -/

theorem engOpen (h : EngineOnly n a b) : EngineOnly n a (b.engOpen n) :=
  ((((h.setEngine _).record 0x10 0).record 0x11 0).record 0x12 0).setEngState 2

/-- Writes that a stream's close makes under a condition. -/
theorem recordIf (h : EngineOnly n a b) {p : Prop} [Decidable p] (j v : Nat) (hj : j < 256 := by decide) :
    EngineOnly n a (if p then b.setO (ninesIndex n) j v else b) :=
  (h.record j v hj).ite h

theorem tallyIf (h : EngineOnly n a b) {p : Prop} [Decidable p] (j : Nat) (hj : j < 256 := by decide) :
    EngineOnly n a (if p then b.count 0x2E00 j else b) :=
  (h.tally j hj).ite h

theorem engClose (h : EngineOnly n a b) : EngineOnly n a (b.engClose n) :=
  (((((((h.record 0x10 _).record 0x11 _).recordIf 0x0A _).tally 2).record 0x15 _).setEngState 1).tallyIf 4).post _

end EngineOnly

/-! ### The engine's writes -/

variable {n v : Nat} {d t : Dev}

theorem catalogueVerdict_only {k : Nat} (h : catalogueVerdict n k d = .ok t) : EngineOnly n d t := by
  unfold catalogueVerdict at h
  split at h
  · cases h
  · split at h
    · cases h
    · obtain rfl := Except.ok.inj h
      exact ((((EngineOnly.refl n d).record 3 _).record 4 _).record 5 _).record 6 _

theorem selfCheckVerdict_only (h : selfCheckVerdict n d = .ok t) : EngineOnly n d t := by
  unfold selfCheckVerdict at h
  split_ifs at h
  obtain rfl := Except.ok.inj h
  exact (EngineOnly.refl n d).record 9 _

theorem controlVerdict_only (h : controlVerdict n v d = .ok t) : EngineOnly n d t := by
  have same := EngineOnly.refl n d
  unfold controlVerdict at h
  dsimp only at h
  split_ifs at h
  all_goals obtain rfl := Except.ok.inj h
  · exact same.engOpen
  · exact (same.record 0x10 0).setEngState 1
  · exact same.engClose
  · exact (same.record 0x11 4).setEngState 1

theorem directVerdict_only {data : List Byte} (h : directVerdict n data d = .ok t) : EngineOnly n d t := by
  unfold directVerdict at h
  dsimp only at h
  split_ifs at h
  obtain rfl := Except.ok.inj h
  exact ((EngineOnly.refl n d).setEngine _).record 0x12 _

theorem feedVerdict_only (h : feedVerdict n v d = .ok t) : EngineOnly n d t := by
  unfold feedVerdict at h
  dsimp only at h
  split_ifs at h
  all_goals
    obtain rfl := Except.ok.inj h
    exact ((EngineOnly.refl n d).setEngine _).setEngState 3

/-- A request that names the engine, served or not. -/
theorem request_engineOnly {who : Init} {j : Nat} {data : List Byte} {f : Dev → Verdict} (hf : ∀ t, f d = .ok t → EngineOnly n d t) :
    EngineOnly n d (if d.serving then onUnit n 8 (fun d => d.request who (ninesIndex n) j data f) d else d) := by
  have same := EngineOnly.refl n d
  have request : EngineOnly n d (d.request who (ninesIndex n) j data f) := by
    rcases request_ends (d := d) (who := who) (j := j) (data := data) (f := f) (i := ninesIndex n) (by unfold ninesIndex; omega) with
      ⟨abort, h⟩ | ⟨t, ht, h⟩
    · exact h ▸ same.answer _
    · exact h ▸ (hf t ht).answer _
  exact .ite (.ite request same) same

/-! ### After a command -/

theorem act_engineOnly {f : Dev → Dev} {s t : State} (h : EngineOnly n s.dev (f s.dev)) (ht : act f s = .next t) :
    t.pending = s.pending ∧ (∀ m, m ≠ n → t.dev.engine m = s.dev.engine m) ∧
      Dev.objectsOnly (ownsEngine n) { s.dev with engines := t.dev.engines, letter := t.dev.letter } t.dev := by
  obtain ⟨hq, hdev⟩ := act_next ht
  obtain ⟨b, hb, hsame⟩ : ∃ b, EngineOnly n s.dev b ∧ SameBut b t.dev := by
    rcases hdev with hdev | hdev
    · exact ⟨_, h, hdev⟩
    · exact ⟨_, .refl n _, hdev ▸ .refl _⟩
  obtain ⟨⟨objs, can, sent, hc⟩, hobjs⟩ := hsame
  rw [hc] at hobjs ⊢
  refine ⟨hq, hb.engines, ?_, fun i j hj hi _ hh => (hobjs i j hh hj).trans (hb.objects i j hj hi)⟩
  obtain ⟨_, _, _, _, rfl⟩ := hb.fields
  rfl

end Sys2Proof.Machine

open Sys2Proof Sys2Proof.Machine

/-- Settles O55: each command writes the engine, its objects and the unit's tallies, and a close posts (`EngineOnly`); what follows
every command adds the CAN node, what was sent and the error history (`SameBut`). -/
theorem frameOfTheCheckEngines : Obligations.frame_of_the_check_engines := by
  intro who n v b
  simp only [List.forall_mem_cons]
  refine ⟨?load, ?check, ?opens, ?direct, ?feed, ?closes, ?aborts, List.forall_mem_nil _⟩
  all_goals intro s t ht
  case load => exact act_engineOnly (request_engineOnly fun _ => catalogueVerdict_only) ht
  case check => exact act_engineOnly (request_engineOnly fun _ => selfCheckVerdict_only) ht
  case opens => exact act_engineOnly (request_engineOnly fun _ => controlVerdict_only) ht
  case direct => exact act_engineOnly (request_engineOnly fun _ => directVerdict_only) ht
  case feed => exact act_engineOnly (request_engineOnly fun _ => feedVerdict_only) ht
  case closes => exact act_engineOnly (request_engineOnly fun _ => controlVerdict_only) ht
  case aborts => exact act_engineOnly (request_engineOnly fun _ => controlVerdict_only) ht
end

section
/-! PROOF. CRC-32C tells two sequence numbers apart (R359): the register takes a bit at a time, and with a polynomial of odd value
the step can be run backwards. -/

namespace Sys2Proof.Machine

variable {w poly : Nat}

/-- Two registers agree in their low `k` bits. -/
def AgreeBelow (k x y : Nat) : Prop := ∀ i < k, x.testBit i = y.testBit i

/-- The register after a list of bits. -/
def crcBits (w poly : Nat) (bs : List Bool) (reg : Nat) : Nat := bs.foldl (crcBit w poly) reg

theorem crcBits_append (as bs : List Bool) (reg : Nat) : crcBits w poly (as ++ bs) reg = crcBits w poly bs (crcBits w poly as reg) :=
  List.foldl_append

/-- A bit of the register after a step: the bit below it, with the polynomial's where the step folds. -/
theorem crcBit_testBit {i : Nat} (reg : Nat) (b : Bool) (hi : i < w) : (crcBit w poly reg b).testBit i =
    ((decide (1 ≤ i) && reg.testBit (i - 1)) ^^ ((reg.testBit (w - 1) != b) && poly.testBit i)) := by
  have hshift : (2 * reg).testBit i = (decide (1 ≤ i) && reg.testBit (i - 1)) := by
    rw [Nat.mul_comm, ← pow_one 2, Nat.testBit_mul_two_pow]
  unfold crcBit
  dsimp only
  rw [Nat.testBit_xor, Nat.testBit_mod_two_pow, hshift, decide_eq_true hi, Bool.true_and]
  split
  next hfold => rw [Nat.testBit_mod_two_pow, decide_eq_true hi, Bool.true_and, hfold, Bool.true_and]
  next hkeep => rw [Nat.zero_testBit, Bool.eq_false_of_not_eq_true hkeep, Bool.false_and]

section
variable (hw : 0 < w) (hpoly : poly.testBit 0 = true)
include hw hpoly

/-- The lowest bit after a step says whether the step folded. -/
theorem crcBit_folds (reg : Nat) (b : Bool) : (crcBit w poly reg b).testBit 0 = (reg.testBit (w - 1) != b) := by
  rw [crcBit_testBit reg b hw, hpoly]
  simp

/-- Registers that agree after a step folded alike in it, and agreed in one bit less before. -/
theorem agreeBelow_of_crcBit {k x y : Nat} {b c : Bool} (hk : k < w)
    (h : AgreeBelow (k + 1) (crcBit w poly x b) (crcBit w poly y c)) :
    (x.testBit (w - 1) != b) = (y.testBit (w - 1) != c) ∧ AgreeBelow k x y := by
  have hfold : (x.testBit (w - 1) != b) = (y.testBit (w - 1) != c) := by
    rw [← crcBit_folds hw hpoly, ← crcBit_folds hw hpoly]
    exact h 0 (by omega)
  refine ⟨hfold, fun i hi => ?_⟩
  have hnext := h (i + 1) (by omega)
  rw [crcBit_testBit x b (by omega), crcBit_testBit y c (by omega), hfold] at hnext
  simpa using hnext

/-- A step with one bit keeps different registers different. -/
theorem agreeBelow_of_crcBit_same {x y : Nat} {b : Bool} (h : AgreeBelow w (crcBit w poly x b) (crcBit w poly y b)) :
    AgreeBelow w x y := by
  obtain ⟨k, rfl⟩ : ∃ k, w = k + 1 := ⟨w - 1, by omega⟩
  obtain ⟨hfold, hlow⟩ := agreeBelow_of_crcBit hw hpoly (by omega) h
  intro i hi
  rcases Nat.lt_succ_iff_lt_or_eq.mp hi with hlt | rfl
  · exact hlow i hlt
  · simpa using hfold

/-- The same of a list of bits. -/
theorem agreeBelow_of_crcBits_same (bs : List Bool) : ∀ {x y : Nat}, AgreeBelow w (crcBits w poly bs x) (crcBits w poly bs y) →
    AgreeBelow w x y := by
  induction bs with
  | nil => exact fun h => h
  | cons b bs ih => exact fun h => agreeBelow_of_crcBit_same hw hpoly (ih h)

/-- From one register, lists of at most `w` bits that leave registers that agree in as many low bits are the same. -/
theorem eq_of_agreeBelow_crcBits (reg : Nat) (bs : List Bool) : ∀ cs : List Bool, bs.length = cs.length → bs.length ≤ w →
    AgreeBelow bs.length (crcBits w poly bs reg) (crcBits w poly cs reg) → bs = cs := by
  induction bs using List.reverseRecOn with
  | nil => exact fun cs hlen _ _ => (List.eq_nil_of_length_eq_zero hlen.symm).symm
  | append_singleton bs b ih =>
    intro cs hlen hle hagree
    obtain rfl | ⟨cs, c, rfl⟩ := List.eq_nil_or_concat' cs
    · simp at hlen
    simp only [crcBits_append, List.length_append, List.length_cons, List.length_nil,
      Nat.zero_add] at hagree hlen hle
    obtain ⟨hfold, hlow⟩ := agreeBelow_of_crcBit hw hpoly (by omega) hagree
    obtain rfl := ih cs (by omega) (by omega) hlow
    simpa using hfold

end

/-! ### Bytes as bits -/

/-- Bytes with reflected input go in as the bits of a line do. -/
theorem foldl_crcByte (data : List Byte) (reg : Nat) : data.foldl (crcByte w poly true) reg = crcBits w poly (lineBits data) reg := by
  simp only [crcBits, lineBits, List.foldl_flatMap, List.foldl_map]
  rfl

theorem lineBits_append (a b : List Byte) : lineBits (a ++ b) = lineBits a ++ lineBits b := List.flatMap_append

/-- The bits of a number's bytes. -/
theorem lineBits_leBytes : ∀ n v : Nat, lineBits (leBytes n v) = (List.range (8 * n)).map v.testBit
  | 0, v => rfl
  | n + 1, v => by
    have hrest := lineBits_leBytes n (v / 256)
    have hfirst : (List.range 8).map (fun k => (BitVec.ofNat 8 v).toNat.testBit k) = (List.range 8).map v.testBit := by
      refine List.map_congr_left fun k hk => ?_
      rw [BitVec.toNat_ofNat, Nat.testBit_mod_two_pow, decide_eq_true (List.mem_range.mp hk), Bool.true_and]
    have hshift (i : Nat) : (v / 256).testBit i = v.testBit (8 + i) := by
      rw [show 256 = 2 ^ 8 from rfl, Nat.testBit_div_two_pow, Nat.add_comm]
    rw [show 8 * (n + 1) = 8 + 8 * n by omega, List.range_add, List.map_append, List.map_map]
    rw [leBytes, lineBits, List.flatMap_cons, hfirst]
    rw [lineBits] at hrest
    rw [hrest]
    refine congrArg _ (List.map_congr_left fun i _ => hshift i)

theorem reflect_lt : ∀ n v : Nat, reflect n v < 2 ^ n
  | 0, _ => Nat.one_pos
  | n + 1, v => by
    have := reflect_lt n (v / 2)
    rcases Nat.mod_two_eq_zero_or_one v with h | h <;> simp only [reflect, h, Nat.pow_succ] <;> omega

/-- A reflected register determines its bits. -/
theorem agreeBelow_of_reflect : ∀ {n x y : Nat}, reflect n x = reflect n y → AgreeBelow n x y
  | 0, _, _, _ => fun _ hi => absurd hi (Nat.not_lt_zero _)
  | n + 1, x, y, h => by
    have hx := reflect_lt n (x / 2)
    have hy := reflect_lt n (y / 2)
    simp only [reflect] at h
    have hlow : x % 2 = y % 2 := by
      rcases Nat.mod_two_eq_zero_or_one x with ex | ex <;> rcases Nat.mod_two_eq_zero_or_one y with ey | ey <;>
        rw [ex, ey] at h ⊢ <;> omega
    have hrest : reflect n (x / 2) = reflect n (y / 2) := by rw [hlow] at h; omega
    intro i hi
    cases i with
    | zero => simp only [Nat.testBit_zero, hlow]
    | succ i => simpa only [Nat.testBit_succ] using agreeBelow_of_reflect hrest i (by omega)

/-- CRC-32C under two sequence numbers differs: after the 32 bits that tell them apart both registers take the same bits. -/
theorem crc32c_ne {m n : Nat} (hm : m < 2 ^ 32) (hn : n < 2 ^ 32) (hne : m ≠ n) (b : List Byte) : crc32c m b ≠ crc32c n b := by
  intro heq
  have hbytes (v : Nat) (hv : v < 2 ^ 32) : leBytes 8 v ++ b = leBytes 4 v ++ (leBytes 4 0 ++ b) := by
    have : v / 256 / 256 / 256 / 256 = 0 := by omega
    simp [leBytes, this]
  have hreflect := Nat.xor_left_injective heq
  rw [if_pos rfl, if_pos rfl, foldl_crcByte, foldl_crcByte, hbytes m hm, hbytes n hn, lineBits_append (leBytes 4 m),
    lineBits_append (leBytes 4 n), crcBits_append, crcBits_append] at hreflect
  have hpoly : (0x1EDC6F41).testBit 0 = true := by decide
  have hagree := agreeBelow_of_crcBits_same (by decide) hpoly _ (agreeBelow_of_reflect hreflect)
  have hlength (v : Nat) : (lineBits (leBytes 4 v)).length = 32 := by rw [lineBits_leBytes, List.length_map, List.length_range]
  have hbits := eq_of_agreeBelow_crcBits (w := 32) (by decide) hpoly _ _ (lineBits (leBytes 4 n)) ((hlength m).trans (hlength n).symm)
    (hlength m).le (hlength m ▸ hagree)
  rw [lineBits_leBytes, lineBits_leBytes] at hbits
  refine hne (Nat.eq_of_testBit_eq fun i => ?_)
  rcases Nat.lt_or_ge i 32 with hi | hi
  · exact List.map_inj_left.mp hbits i (List.mem_range.mpr hi)
  · have hlarge : 2 ^ 32 ≤ 2 ^ i := Nat.pow_le_pow_right (by decide) hi
    rw [Nat.testBit_lt_two_pow (by omega), Nat.testBit_lt_two_pow (by omega)]

end Sys2Proof.Machine
end

section
/-! PROOF. The recorder (R359 to R368): the bytes of a record in its slot, and the commands of the recorder. -/

namespace Sys2Proof.Machine

variable {d : Dev}

/-! ### What the address map reads -/

/-- The objects that the address map reads: the regions of DRAM and the DRAM controller's with the cache's partitions. -/
def mapIndex (i : Nat) : Bool := (0x2A10 ≤ i && i ≤ 0x2A2F) || (0x2C00 ≤ i && i ≤ 0x2C50)

/-- Two blocks have the same address map. -/
structure SameMap (a b : Dev) : Prop where
  blobs : b.blobs = a.blobs
  dram : b.dram = a.dram
  objects : ∀ i j, j < 256 → mapIndex i = true → b.getO i j = a.getO i j

theorem findSome?_congr {α β : Type} {f g : α → Option β} : ∀ {l : List α}, (∀ x ∈ l, f x = g x) → l.findSome? f = l.findSome? g
  | [], _ => rfl
  | x :: l, h => by
    rw [List.findSome?_cons, List.findSome?_cons, h x List.mem_cons_self,
      findSome?_congr fun y hy => h y (List.mem_cons_of_mem x hy)]

namespace SameMap

variable {a b : Dev} (h : SameMap a b)
include h

theorem region {r j : Nat} (hr : r < 32) (hj : j < 256) : b.getO (regionIndex 0 r) j = a.getO (regionIndex 0 r) j :=
  h.objects _ _ hj (by simp [mapIndex, regionIndex]; omega)

theorem regBase {r : Nat} (hr : r < 32) : b.regBase 0 r = a.regBase 0 r := h.region hr (by decide)

theorem regLimit {r : Nat} (hr : r < 32) : b.regLimit 0 r = a.regLimit 0 r := h.region hr (by decide)

theorem regAttr {r : Nat} (hr : r < 32) : b.regAttr 0 r = a.regAttr 0 r := h.region hr (by decide)

theorem regCapacity {r : Nat} (hr : r < 32) : b.regCapacity r = a.regCapacity r := by
  simp only [Dev.regCapacity, h.regBase hr, h.regLimit hr, h.regAttr hr]

theorem regionOf (addr : Nat) : b.regionOf 0 addr = a.regionOf 0 addr := by
  refine List.find?_congr fun r hr => ?_
  have hr32 : r < 32 := List.mem_range.mp hr
  rw [h.regAttr hr32, h.regBase hr32, h.regLimit hr32]

/-- A partition of the system cache. -/
theorem partition {k j : Nat} (hk : k ∈ List.range 16) (hj : j < 256) : b.getO (0x2C41 + k) j = a.getO (0x2C41 + k) j :=
  h.objects _ _ hj (by have := List.mem_range.mp hk; simp [mapIndex]; omega)

theorem lockedKey (addr : Nat) : b.lockedKey addr = a.lockedKey addr := by
  unfold Dev.lockedKey
  refine findSome?_congr fun k hk => ?_
  dsimp only
  rw [h.partition hk (show 1 < 256 by decide), h.partition hk (show 3 < 256 by decide), h.partition hk (show 4 < 256 by decide),
    h.partition hk (show 5 < 256 by decide)]

theorem windowAddress (addr : Nat) : b.windowAddress addr = a.windowAddress addr := by
  unfold Dev.windowAddress
  refine findSome?_congr fun k hk => ?_
  dsimp only
  rw [h.partition hk (show 1 < 256 by decide), h.partition hk (show 3 < 256 by decide), h.partition hk (show 4 < 256 by decide),
    h.partition hk (show 5 < 256 by decide)]

theorem remapEntry (entry : Nat) : b.remapEntry entry = a.remapEntry entry := by
  unfold Dev.remapEntry Dev.hasB Dev.getB
  rw [h.blobs, h.objects 0x2C00 4 (by decide) (by decide)]

theorem placed (o chan col bank row byte : Nat) : b.placed o chan col bank row byte = a.placed o chan col bank row byte := by
  unfold Dev.placed
  rw [h.remapEntry]

theorem orderAt {r : Nat} (hr : r < 32) (addr : Nat) : b.orderAt r addr = a.orderAt r addr := by
  have hblock : b.getO (0x2C20 + r) 4 = a.getO (0x2C20 + r) 4 := h.objects _ _ (by decide) (by simp [mapIndex]; omega)
  unfold Dev.orderAt
  rw [h.dram, h.regBase hr, h.regAttr hr, hblock]

theorem locate (addr : Nat) : b.locate addr = a.locate addr := by
  have hvisible : b.visible = a.visible := congrArg (· * 2 ^ 20) (h.objects 0x2C00 6 (by decide) (by decide))
  unfold Dev.locate
  rw [hvisible, h.regionOf addr]
  cases hr : a.regionOf 0 addr with
  | none => rfl
  | some r =>
    have hr32 : r < 32 := List.mem_range.mp (List.mem_of_find?_eq_some hr)
    dsimp only
    rw [h.orderAt hr32, h.regAttr hr32, h.regBase hr32, h.regCapacity hr32, h.placed, h.placed]

theorem keyOf (addr : Nat) : b.keyOf addr = a.keyOf addr := by
  have hlocked : b.lockedKey = a.lockedKey := funext h.lockedKey
  simp only [Dev.keyOf, hlocked, h.windowAddress addr, h.locate addr]

/-- With the same memory and the same Registry every byte reads the same. -/
theorem byte (hmem : b.mem = a.mem) (hreg : b.registry = a.registry) (addr : Nat) : b.byte addr = a.byte addr := by
  simp only [Dev.byte, Dev.reg, Dev.rawGet, hmem, hreg, h.keyOf addr]

end SameMap

/-! ### Bytes put in the recorder's window -/

/-- Only the address itself has a key below the ways and ranks. -/
theorem keyOf_low {addr k : Nat} (h : d.keyOf addr = some k) (hk : k < 2 ^ 40) : addr = k := by
  have hlocked {addr k : Nat} (h : d.lockedKey addr = some k) : 2 ^ 40 ≤ k := by
    obtain ⟨n, -, hn⟩ := List.exists_of_findSome?_eq_some h
    dsimp only at hn
    split_ifs at hn
    obtain rfl := Option.some.inj hn
    simp only [wayKey]
    omega
  have hplaced {o chan col bank row byte k : Nat} (h : d.placed o chan col bank row byte = some k) : 2 ^ 40 ≤ k := by
    unfold Dev.placed at h
    dsimp only at h
    split_ifs at h
    obtain rfl := Option.some.inj h
    exact Nat.le_add_right _ _
  have hlocate {addr k : Nat} (h : d.locate addr = some k) : 2 ^ 40 ≤ k := by
    unfold Dev.locate at h
    dsimp only at h
    split at h
    · cases h
    · split at h
      · cases h
      · split_ifs at h
        · exact hplaced h
        · exact hplaced h
  unfold Dev.keyOf at h
  split at h
  · cases h
  · obtain ⟨x, -, hx⟩ := Option.bind_eq_some_iff.mp h
    exact absurd (hlocked hx) (by omega)
  · split at h
    next hkey =>
      obtain rfl := Option.some.inj h
      exact absurd (hlocked hkey) (by omega)
    · exact absurd (hlocate h) (by omega)
  · exact Option.some.inj h

/-- A byte of the recorder's window is put: it reads back, and every other byte reads as before. -/
theorem byte_putByte_log {at_ : Nat} (hlow : 0x4000000 ≤ at_) (hhigh : at_ < 0x4100000) (x : Byte) (addr : Nat) :
    (d.putByte at_ x).byte addr = if addr = at_ then x else d.byte addr := by
  have hkey := keyOf_log d hlow hhigh
  have hmirror : d.mirrorKey at_ = none := mirrorKey_low d (by omega)
  split
  next heq => rw [heq, byte_putByte_same hkey hmirror (by omega)]
  next hne => exact byte_putByte_other hkey hmirror (fun h => hne (keyOf_low h (by omega))) x

theorem byte_putBytes_log (l : List Byte) : ∀ {d : Dev} {at_ : Nat}, 0x4000000 ≤ at_ → at_ + l.length ≤ 0x4100000 → ∀ addr,
    (d.putBytes at_ l).byte addr = if at_ ≤ addr ∧ addr < at_ + l.length then byteAt l (addr - at_) else d.byte addr := by
  induction l with
  | nil =>
    intro d at_ _ _ addr
    rw [if_neg (by simp only [List.length_nil]; omega)]
    rfl
  | cons x l ih =>
    intro d at_ hlow hhigh addr
    rw [List.length_cons] at hhigh ⊢
    rw [Dev.putBytes, ih (by omega) (by omega) addr, byte_putByte_log hlow (by omega)]
    by_cases heq : addr = at_
    · subst heq
      simp [byteAt]
    · rw [if_neg heq]
      have hiff : (at_ + 1 ≤ addr ∧ addr < at_ + 1 + l.length) ↔ (at_ ≤ addr ∧ addr < at_ + (l.length + 1)) := by omega
      simp only [hiff]
      split
      · rw [show addr - at_ = addr - (at_ + 1) + 1 by omega]
        rfl
      · rfl

/-- The bytes read back as they were put. -/
theorem bytesAt_putBytes_log {l : List Byte} {at_ : Nat} (hlow : 0x4000000 ≤ at_) (hhigh : at_ + l.length ≤ 0x4100000) :
    (d.putBytes at_ l).bytesAt at_ l.length = l := by
  refine List.ext_getElem (by simp [Dev.bytesAt]) fun k _ hk => ?_
  simp only [Dev.bytesAt, List.getElem_map, List.getElem_range]
  rw [byte_putBytes_log l hlow hhigh, if_pos (by omega), Nat.add_sub_cancel_left, byteAt, List.getD_eq_getElem _ _ hk]

/-- Bytes that are put change memory alone. -/
theorem putBytes_mem (l : List Byte) : ∀ (d : Dev) (at_ : Nat), ∃ mem, d.putBytes at_ l = { d with mem := mem } := by
  induction l with
  | nil => exact fun d _ => ⟨d.mem, rfl⟩
  | cons x l ih =>
    intro d at_
    have hbyte : ∃ mem, d.putByte at_ x = { d with mem := mem } := by
      unfold Dev.putByte
      split
      · exact ⟨d.mem, rfl⟩
      · split
        · exact ⟨_, rfl⟩
        · exact ⟨_, rfl⟩
    obtain ⟨mem, hmem⟩ := hbyte
    obtain ⟨mem', hmem'⟩ := ih (d.putByte at_ x) (at_ + 1)
    exact ⟨mem', by rw [Dev.putBytes, hmem', hmem]⟩

/-! ### A record (Table 19-1) -/

/-- The bytes of a record before its check. -/
def recordBody (seq : Nat) (e : Event) : List Byte :=
  leBytes 4 seq ++ leBytes 8 e.time ++ leBytes 2 e.code ++ leBytes 2 e.origin ++ padTo 12 e.payload

variable {seq : Nat} {e : Event}

theorem recordOf_eq (seq : Nat) (e : Event) : recordOf seq e = recordBody seq e ++ leBytes 4 (crc32c seq (recordBody seq e)) := rfl

@[simp] theorem recordBody_length : (recordBody seq e).length = 28 := by simp [recordBody, padTo_length]

@[simp] theorem recordOf_length : (recordOf seq e).length = 32 := by simp [recordOf_eq]

/-- A field between what stands before it and what follows. -/
theorem field_between {pre x post : List Byte} {o n : Nat} (ho : pre.length = o) (hn : x.length = n) :
    field (pre ++ (x ++ post)) o n = leNat x := by
  rw [field, List.drop_left' ho, List.take_left' hn]

section
variable (seq e)

theorem recordOf_seq : field (recordOf seq e) 0 4 = seq % 2 ^ 32 := by
  simp only [recordOf_eq, recordBody, List.append_assoc]
  exact (field_between (pre := []) rfl (leBytes_length ..)).trans (leNat_leBytes ..)

theorem recordOf_time : field (recordOf seq e) 4 8 = e.time % 2 ^ 64 := by
  simp only [recordOf_eq, recordBody, List.append_assoc]
  exact (field_between (leBytes_length ..) (leBytes_length ..)).trans (leNat_leBytes ..)

theorem recordOf_code : field (recordOf seq e) 12 2 = e.code % 2 ^ 16 := by
  simp only [recordOf_eq, recordBody, List.append_assoc]
  rw [← List.append_assoc]
  exact (field_between (by simp) (leBytes_length ..)).trans (leNat_leBytes ..)

theorem recordOf_origin : field (recordOf seq e) 14 2 = e.origin % 2 ^ 16 := by
  simp only [recordOf_eq, recordBody, List.append_assoc]
  rw [← List.append_assoc, ← List.append_assoc]
  exact (field_between (by simp) (leBytes_length ..)).trans (leNat_leBytes ..)

theorem recordOf_payload : ((recordOf seq e).drop 16).take 12 = padTo 12 e.payload := by
  rw [recordOf_eq, recordBody, List.append_assoc, List.drop_left' (by simp), List.take_left' (padTo_length ..)]

theorem recordOf_body : (recordOf seq e).take 28 = recordBody seq e := List.take_left' recordBody_length

theorem recordOf_check : field (recordOf seq e) 28 4 = crc32c seq (recordBody seq e) % 2 ^ 32 := by
  rw [recordOf_eq, ← List.append_nil (leBytes 4 _)]
  exact (field_between recordBody_length (leBytes_length ..)).trans (leNat_leBytes ..)

end

/-- A CRC-32C fits four bytes. -/
theorem crc32c_lt (tag : Nat) (data : List Byte) : crc32c tag data < 2 ^ 32 := by
  unfold crc32c crc
  dsimp only
  rw [if_pos rfl]
  exact Nat.xor_lt_two_pow (reflect_lt 32 _) (Nat.mod_lt _ (by decide))

/-! ### The commit (R362) -/

/-- The record in hand stands in its slot, and the commit sequence counts it. -/
def Dev.recordCounted (d : Dev) (e : Event) : Dev :=
  let k := d.putBytes (logWindow + 32 * d.committed) (recordOf d.commitSeq e)
  (k.setO 0x2F00 3 (k.baseSeq * 2 ^ 32 + (d.commitSeq + 1) % 2 ^ 32)).count 0x2F00 5

/-- The next record comes to hand; a log that has become full says so. -/
def Dev.recordTaken (k : Dev) : Dev :=
  let k := { k with recorder := { k.recorder with hand := k.recorder.queue.head?, queue := k.recorder.queue.tail } }
  if k.committed = 32768 ∧ k.getO 0x2F00 1 = 0 then (k.setO 0x2F00 1 1).postNamed 0x2F00 0x0A else k

theorem commitRecord_takes (h : d.recorder.hand = some e) : d.commitRecord = (d.recordCounted e).recordTaken := by
  rw [Dev.commitRecord, h]
  rfl

/-- The end of a commit changes the recorder, its state and, by a post, the Letterbox. -/
theorem recordTaken_frame (k : Dev) :
    (∃ objs recorder letter answer, k.recordTaken = { k with objs := objs, recorder := recorder, letter := letter, answer := answer }) ∧
    ∀ i j, j < 256 → letterIndex i = false → (i, j) ≠ (0x2F00, 1) → k.recordTaken.getO i j = k.getO i j := by
  unfold Dev.recordTaken
  dsimp only
  split
  · have posted : ∀ x : Dev, LetterOnly x (x.postNamed 0x2F00 0x0A) := fun x => .ite (.refl x) ((LetterOnly.refl x).post _)
    constructor
    · obtain ⟨objs, letter, answer, heq⟩ := (posted _).fields
      exact ⟨objs, _, letter, answer, heq⟩
    · intro i j hj hi hij
      rw [(posted _).objects i j hj hi]
      refine getO_setO_other _ (objKey_ne (by decide) hj ?_) 1
      by_contra hboth
      rw [not_or, not_not, not_not] at hboth
      exact hij (Prod.ext hboth.1 hboth.2)
  · exact ⟨⟨k.objs, _, k.letter, k.answer, rfl⟩, fun _ _ _ _ _ => rfl⟩

theorem putBytes_objs (l : List Byte) (d : Dev) (at_ : Nat) : (d.putBytes at_ l).objs = d.objs := by
  obtain ⟨mem, h⟩ := putBytes_mem l d at_
  rw [h]

/-- The count of a record writes objects of 2F00h alone. -/
theorem getO_count_log {k : Dev} {v i j : Nat} (hj : j < 256) (hi : i ≠ 0x2F00) :
    ((k.setO 0x2F00 3 v).count 0x2F00 5).getO i j = k.getO i j := by
  rw [Dev.count, getO_setO_other _ (objKey_ne (by decide) hj (.inl hi)), getO_setO_other _ (objKey_ne (by decide) hj (.inl hi))]

theorem recordCounted_getO (d : Dev) (e : Event) {i j : Nat} (hj : j < 256) (hi : i ≠ 0x2F00) :
    (d.recordCounted e).getO i j = d.getO i j := by
  rw [Dev.recordCounted, getO_count_log hj hi]
  exact getO_of_objs (putBytes_objs ..) i j

theorem fields_count_log (k : Dev) (v : Nat) : ∃ objs, (k.setO 0x2F00 3 v).count 0x2F00 5 = { k with objs := objs } := ⟨_, rfl⟩

theorem recordCounted_fields (d : Dev) (e : Event) : ∃ objs, d.recordCounted e =
    { d.putBytes (logWindow + 32 * d.committed) (recordOf d.commitSeq e) with objs := objs } := by
  rw [Dev.recordCounted]
  exact fields_count_log ..

/-- The low half of 2F00h/03h is the commit sequence. -/
theorem commitSeq_count (k : Dev) (v : Nat) : ((k.setO 0x2F00 3 v).count 0x2F00 5).commitSeq = v % 2 ^ 32 := by
  have hmod : objModulus 0x2F00 3 = 2 ^ 64 := by decide
  rw [Dev.commitSeq, Dev.count, getO_setO_other _ (objKey_ne (by decide) (by decide) (.inr (by decide))), getO_setO_same, hmod,
    Nat.mod_mod_of_dvd _ (by decide)]

theorem recordCounted_seq (d : Dev) (e : Event) : (d.recordCounted e).commitSeq = (d.commitSeq + 1) % 2 ^ 32 := by
  rw [Dev.recordCounted, commitSeq_count]
  omega

/-- After the commit and what follows every command, the address map is that of the block with the bytes in the slot. -/
theorem recordTaken_map (d : Dev) (e : Event) (before : Dev) :
    SameMap (d.putBytes (logWindow + 32 * d.committed) (recordOf d.commitSeq e))
      (Dev.finish before (d.recordCounted e).recordTaken) := by
  obtain ⟨⟨_, _, _, _, htaken⟩, hobjs⟩ := recordTaken_frame (d.recordCounted e)
  obtain ⟨_, hcounted⟩ := recordCounted_fields d e
  refine ⟨by rw [finish_blobs, htaken, hcounted], by rw [finish_dram, htaken, hcounted], fun i j hj hi => ?_⟩
  simp only [mapIndex, Bool.or_eq_true, Bool.and_eq_true, decide_eq_true_eq] at hi
  have hletter : letterIndex i = false := by simp [letterIndex]; omega
  rw [finish_getO _ _ (by omega) hj, hobjs i j hj hletter (fun h => by cases h; omega), recordCounted_getO d e hj (by omega)]
  exact (getO_of_objs (putBytes_objs ..) i j).symm

/-- The slot holds the record, and every other byte reads as before. -/
theorem record_in_slot (d : Dev) (e : Event) (before : Dev) (hroom : d.committed < 32768) :
    let t := Dev.finish before (d.recordCounted e).recordTaken
    t.bytesAt (0x4000000 + 32 * d.committed) 32 = recordOf d.commitSeq e ∧
      ∀ a, a < 0x4000000 + 32 * d.committed ∨ 0x4000000 + 32 * d.committed + 32 ≤ a → t.byte a = d.byte a := by
  intro t
  have hlow : 0x4000000 ≤ logWindow + 32 * d.committed := Nat.le_add_right _ _
  have hhigh : logWindow + 32 * d.committed + (recordOf d.commitSeq e).length ≤ 0x4100000 := by
    rw [recordOf_length, logWindow]
    omega
  have hbyte : t.byte = (d.putBytes (logWindow + 32 * d.committed) (recordOf d.commitSeq e)).byte := by
    obtain ⟨⟨_, _, _, _, htaken⟩, -⟩ := recordTaken_frame (d.recordCounted e)
    obtain ⟨_, hcounted⟩ := recordCounted_fields d e
    refine funext ((recordTaken_map d e before).byte ?_ ?_)
    · rw [finish_mem, htaken, hcounted]
    · rw [finish_registry, htaken, hcounted]
  constructor
  · have hput := bytesAt_putBytes_log (d := d) hlow hhigh
    rw [recordOf_length] at hput
    rw [Dev.bytesAt, hbyte]
    exact hput
  · intro a ha
    rw [hbyte, byte_putBytes_log _ hlow hhigh, recordOf_length, if_neg (by rw [logWindow]; omega)]

theorem committed_seq (d : Dev) (e : Event) (before : Dev) :
    (Dev.finish before (d.recordCounted e).recordTaken).commitSeq = (d.commitSeq + 1) % 2 ^ 32 := by
  have hread : (Dev.finish before (d.recordCounted e).recordTaken).getO 0x2F00 3 = (d.recordCounted e).getO 0x2F00 3 := by
    rw [finish_getO _ _ (by decide) (by decide), (recordTaken_frame _).2 _ _ (by decide) (by decide) (by decide)]
  rw [← recordCounted_seq d e, Dev.commitSeq, hread, Dev.commitSeq]

/-! ### Clear, software events and refills (R363, R366, R368) -/

/-- A clear without a record in hand; that record 7800h carries the commit word of the log before it is assumption log 57. -/
theorem clearVerdict_empty {v : Nat} (hv : v = 0x636C6561) (hstate : d.getO 0x2F00 1 ≠ 2) (hhand : d.recorder.hand = none) :
    clearVerdict v d = .ok (
      let b := (d.setO 0x2F00 3 (d.commitSeq * 2 ^ 32 + d.commitSeq)).setO 0x2F00 1 0
      { b with recorder := { b.recorder with hand := some { time := b.clock.ns, code := 0x7800, origin := 0xFFFF,
                                                            payload := padTo 12 (leBytes 8 (d.getO 0x2F00 3)) } } }) := by
  rw [clearVerdict, if_neg (not_not.mpr hv), if_neg hstate]
  dsimp only
  rw [hhand]

theorem postEventVerdict_takes {who : Init} {b : List Byte} (hlength : b.length = 14) (hlow : 0xF0 ≤ field b 0 2 / 256)
    (hhigh : field b 0 2 / 256 ≤ 0xFE) : postEventVerdict who b d =
    .ok (d.intake { time := d.clock.ns, code := field b 0 2, origin := 256 * initCode who + 0xFF, payload := b.drop 2 }).2 := by
  rw [postEventVerdict, if_neg (not_not.mpr hlength), if_neg (by omega)]

/-- A bucket that stays short of full keeps its class throttled. -/
theorem refill_partly {k : Nat} (hrate : d.bucket k / 65536 ≠ 0) (hspent : 1 < tabGet 0 d.recorder.spent k) :
    d.refill k = { d with recorder := { d.recorder with
      spent := tabSet 0 d.recorder.spent k (tabGet 0 d.recorder.spent k - 1), throttled := d.recorder.throttled } } := by
  have hshort : ¬(d.bucket k / 65536 = 0 ∨ tabGet 0 d.recorder.spent k = 0) := by omega
  rw [Dev.refill]
  dsimp only
  rw [if_neg hshort, if_neg (by omega : ¬tabGet 0 d.recorder.spent k = 1)]

end Sys2Proof.Machine

open Sys2Proof Sys2Proof.Machine

/-- Settles O35: each command's meaning, at the branch that the clause names. -/
theorem recorderCompletes : Obligations.recorder_completes := by
  refine ⟨?commit, ?clear, ?event, ?refill⟩
  case commit =>
    intro q d x hl hhand
    rw [exec_recordCommit, execRecordCommit, act_of_live _ hl, commitRecord_takes hhand]
    rfl
  case clear =>
    intro q d who v hl hs hc hv hstate hhand
    rw [exec_logClear, execLogClear, actServed_of_live _ hl hs, request_accepts hc (clearVerdict_empty hv hstate hhand)]
  case event =>
    intro q d who b hl hs hc hlength hlow hhigh
    rw [exec_postEvent, execPostEvent, actServed_of_live _ hl hs, request_accepts hc (postEventVerdict_takes hlength hlow hhigh)]
  case refill =>
    intro q d k hl hk hrate hspent
    exact onUnit_acts hl hk (refill_partly hrate hspent)

/-- Settles O44: the bytes of the slot are those of `recordOf`, nothing that follows the write touches memory or the address map,
and two sequence numbers give two checks (`crc32c_ne`). -/
theorem aRecordLiesInItsSlotAsTable191LaysItOut : Obligations.a_record_lies_in_its_slot_as_table_19_1_lays_it_out := by
  refine ⟨fun q d e hl hhand hroom _ => ?_, fun m n b hm hn hne => crc32c_ne hm hn hne b⟩
  have hseq : d.commitSeq < 2 ^ 32 := Nat.mod_lt _ (by decide)
  have hexec : exec .recordCommit ⟨q, d⟩ = .next ⟨q, Dev.finish d (d.recordCounted e).recordTaken⟩ := by
    rw [exec_recordCommit, execRecordCommit, act_of_live _ hl, commitRecord_takes hhand]
  obtain ⟨hslot, hother⟩ := record_in_slot d e d hroom
  refine ⟨_, hexec, ⟨?_, ?_, ?_, ?_, ?_, ?_, hother⟩, committed_seq d e d⟩
  · rw [hslot, recordOf_seq, Nat.mod_eq_of_lt hseq]
  · exact hslot ▸ recordOf_time ..
  · exact hslot ▸ recordOf_code ..
  · exact hslot ▸ recordOf_origin ..
  · exact hslot ▸ fun _ => recordOf_payload ..
  · rw [hslot, recordOf_check, recordOf_body, Nat.mod_eq_of_lt (crc32c_lt ..)]
    rfl
end

section
/-! PROOF. The event behind an EMCY (R59, R365, R367): intake decides its fate, and the message carries it. -/

namespace Sys2Proof.Machine

variable {d : Dev}

/-- An event that meets a refusal, or a bucket without a token, has no sequence number. -/
theorem intake_refuses {e : Event} (h : d.intakeRefusal.isSome = true ∨ (bucketExempt (e.code / 256) = false ∧ d.tokens (e.code / 256) = 0)) :
    (d.intake e).1 = 0xFFFFFFFF := by
  unfold Dev.intake
  dsimp only
  split
  · rfl
  next hnone =>
    obtain ⟨hbucket, hempty⟩ : bucketExempt (e.code / 256) = false ∧ d.tokens (e.code / 256) = 0 := by
      simpa [hnone] using h
    rw [hbucket, if_neg Bool.false_ne_true, if_pos hempty]
    split
    · rfl
    · rfl

theorem eventCode_class {cls : Nat} (what : Nat) : eventCode cls what / 256 = cls := by
  unfold eventCode
  omega

/-! ### The message -/

/-- A message on each open port: each of the two that takes part has it among what was sent. -/
theorem sendPorts_sends {m : Nat → Sent} {p : Nat} (hp : p < 2) (hopen : d.portOpen p = true) : m p ∈ (d.sendPorts m).sent := by
  have hkeep (x : Dev) (b : Bool) (y z : Sent) (hy : y ∈ x.sent) : y ∈ (if b then x.send z else x).sent := by
    split
    · exact List.mem_cons_of_mem _ hy
    · exact hy
  have hsend (x : Dev) : m p ∈ (x.send (m p)).sent := List.mem_cons_self
  have hport (b : Bool) (y : Sent) : (if b then d.send y else d).portOpen p = d.portOpen p := by
    split <;> rfl
  simp only [Dev.sendPorts, List.foldl_cons, List.foldl_nil]
  obtain rfl | rfl : p = 0 ∨ p = 1 := by omega
  · rw [hopen, if_pos rfl]
    exact hkeep _ _ _ _ (hsend d)
  · rw [hport, hopen, if_pos rfl]
    exact hsend _

theorem sendEmcy_waits {e : Emcy} (h : d.can.inhibited = true) : (d.sendEmcy e).can.waiting = d.can.waiting ++ [e] := by
  rw [Dev.sendEmcy, if_pos h]

theorem sendEmcy_sends {e : Emcy} {p : Nat} (h : d.can.inhibited = false) (hp : p < 2) (hopen : d.portOpen p = true) :
    .emcy p e ∈ (d.sendEmcy e).sent := by
  rw [Dev.sendEmcy, h, if_neg Bool.false_ne_true]
  exact sendPorts_sends (m := fun p => .emcy p e) hp hopen

theorem sendEmcy_recorder (e : Emcy) : (d.sendEmcy e).recorder = d.recorder := by
  obtain ⟨⟨_, _, _, h⟩, -⟩ := sendEmcy_same d e
  rw [h]

/-! ### The occurrence -/

/-- The error history is objects. -/
theorem setHistories_fields (l : List (Nat × Nat)) : ∀ d : Dev,
    ∃ objs, l.foldl (fun d x => d.setO 0x1003 (x.2 + 2) x.1) d = { d with objs := objs } := by
  induction l with
  | nil => exact fun d => ⟨d.objs, rfl⟩
  | cons x l ih =>
    intro d
    obtain ⟨objs, h⟩ := ih (d.setO 0x1003 (x.2 + 2) x.1)
    exact ⟨objs, h⟩

theorem enterHistory_fields (d : Dev) (code : Nat) : ∃ objs, d.enterHistory code = { d with objs := objs } := by
  unfold Dev.enterHistory
  dsimp only
  obtain ⟨objs, h⟩ := setHistories_fields (((List.range 7).map (fun k => d.getO 0x1003 (k + 1))).zip (List.range 7))
    (d.setO 0x1003 1 code)
  rw [h]
  exact ⟨_, rfl⟩

/-- What stands when the message of an occurrence goes out: its event has passed intake, and 1003h has its code. -/
def Dev.occurred (d : Dev) (code cls what owner unit : Nat) (facts : List Nat) : Dev :=
  (d.logSeq cls what owner unit facts).2.enterHistory code

section
variable (d) (code cls what owner unit : Nat) (facts : List Nat)

theorem occurred_recorder :
    (d.occurred code cls what owner unit facts).recorder = (d.logSeq cls what owner unit facts).2.recorder := by
  obtain ⟨_, h⟩ := enterHistory_fields (d.logSeq cls what owner unit facts).2 code
  rw [Dev.occurred, h]

theorem occurred_fields :
    ∃ objs recorder, d.occurred code cls what owner unit facts = { d with objs := objs, recorder := recorder } := by
  obtain ⟨objs, recorder, hlog⟩ := log_only d cls what owner unit facts
  obtain ⟨objs', h⟩ := enterHistory_fields (d.logSeq cls what owner unit facts).2 code
  exact ⟨objs', recorder, by rw [Dev.occurred, h, show (d.logSeq cls what owner unit facts).2 = _ from hlog]⟩

/-- The message of an occurrence. -/
def Dev.emcyOf : Emcy :=
  { code := code, reg := (d.occurred code cls what owner unit facts).emcyRegister code
    seq := (d.logSeq cls what owner unit facts).1, event := eventCode cls what }

/-- After an occurrence its message has been sent or waits. -/
theorem emergency_eq : d.emergency code cls what owner unit facts =
    (let t := (d.occurred code cls what owner unit facts).sendEmcy (d.emcyOf code cls what owner unit facts)
     { t with can := { t.can with shown := true } }) := rfl

end

end Sys2Proof.Machine

open Sys2Proof Sys2Proof.Machine

/-- Settles O45: the message is sent once intake has given the event its number, and neither the error history nor the message
touches the recorder. -/
theorem anEmcyCarriesTheFateOfItsEvent : Obligations.an_emcy_carries_the_fate_of_its_event := by
  intro d code cls what owner unit facts _
  obtain ⟨_, _, hfields⟩ := occurred_fields d code cls what owner unit facts
  refine ⟨?recorder, ⟨d.emcyOf code cls what owner unit facts, rfl, rfl, rfl, ?waits, ?sends⟩, ?refused⟩
  case recorder =>
    rw [emergency_eq]
    exact (sendEmcy_recorder _).trans (occurred_recorder ..)
  case waits =>
    intro hinhibited
    rw [emergency_eq, hfields]
    exact sendEmcy_waits (d := { d with objs := _, recorder := _ }) hinhibited
  case sends =>
    intro hinhibited p hp hopen
    rw [emergency_eq, hfields]
    exact sendEmcy_sends (d := { d with objs := _, recorder := _ }) hinhibited hp hopen
  case refused =>
    intro h
    exact intake_refuses (by rw [eventCode_class]; exact h)
end

section
/-! PROOF. Hand-over (R288 to R292) and the clock and power requests (R293): a passing block has no owner, and each command is its
meaning at the branch that a clause names. -/

namespace Sys2Proof.Machine

variable {d : Dev} {who : Init} {id b w : Nat}

/-! ### A passing block (R292) -/

theorem owner_of_passing (h : 2 ≤ (d.hand id).state) : d.owner id = 0xFF := if_pos h

/-- No initiator has the owner code FFh. -/
theorem initCode_ne (h : initOk who = true) : initCode who ≠ 0xFF := by
  cases who <;> simp [initOk, initCode] at h ⊢ <;> omega

/-- A passing block is no initiator's. -/
theorem owns_of_passing (hwho : initOk who = true) (h : 2 ≤ (d.hand id).state) : d.owns who id = false := by
  have hne := initCode_ne hwho
  cases who <;> simp [Dev.owns, owner_of_passing h, initCode] at hne ⊢ <;> omega

theorem objBlock_nines {n : Nat} (j : Nat) (hn : n < 8) : objBlock (ninesIndex n) j = some (blockId 8 n) := by
  unfold objBlock ninesIndex
  iterate 13 rw [if_neg (by omega)]
  rw [if_pos (by omega), Nat.add_sub_cancel_left]

theorem objBlock_copy {c : Nat} (j : Nat) (hc : c < 32) : objBlock (copyIndex c) j = some (blockId 7 c) := by
  unfold objBlock copyIndex
  iterate 6 rw [if_neg (by omega)]
  rw [if_pos (by omega), Nat.add_sub_cancel_left]

/-- The owner check of an object of an engine or a channel, its enable apart, is that of its block. -/
theorem ownerPasses_of_objBlock {i j : Nat} (hi : (0x2401 ≤ i ∧ i < 0x2421) ∨ (0x2E01 ≤ i ∧ i < 0x2E09)) (hj : j ≠ 2)
    (hblock : objBlock i j = some id) : d.ownerPasses who i j = d.owns who id := by
  have henable : islandEnable i j = false := by simp [islandEnable, hj]
  unfold Dev.ownerPasses
  iterate 10 rw [if_neg (by omega)]
  rw [hblock]
  simp only [henable, Bool.and_false, Bool.or_false]

/-- A request for a passing block is refused by one of the checks of R290. -/
theorem handoverVerdict_passing (h : 2 ≤ (d.hand (w / 65536)).state) : ∃ a, a ≠ 0 ∧ handoverVerdict who w d = .error a := by
  unfold handoverVerdict
  dsimp only
  split
  · exact ⟨_, by decide, rfl⟩
  · split
    · exact ⟨_, by decide, rfl⟩
    · have hbusy : ((d.hand (w / 65536)).state ≠ 0 || !d.running) = true := by
        rw [decide_eq_true (show (d.hand (w / 65536)).state ≠ 0 by omega), Bool.true_or]
      rw [if_pos hbusy]
      exact ⟨_, by decide, rfl⟩

/-! ### The protocol (R289 to R291) -/

theorem handoverVerdict_requests (hopen : who ≠ .openWorld) (hexists : blockExists (w / 65536) = true) (hreserved : w % 256 = 0)
    (hcode : ownerCodeOk (bits w 8 8) = true) (hnew : bits w 8 8 ≠ d.owner (w / 65536))
    (hlimit : d.limitBroken (w / 65536) (bits w 8 8) = false) (hheld : (d.hand (w / 65536)).state = 0) (hruns : d.running = true)
    (howned : d.owner (w / 65536) ≠ 0xFF) : handoverVerdict who w d =
    .ok ((d.setHand (w / 65536) { state := 1, newOwner := bits w 8 8 }).notice (d.owner (w / 65536))) := by
  simp [handoverVerdict, hexists, hreserved, hcode, hnew, hlimit, hopen, hheld, hruns, howned]

theorem releaseVerdict_releases (hexists : blockExists b = true) (howner : initCode who = d.owner b) (hstate : (d.hand b).state = 1) :
    releaseVerdict who b d = .ok (d.toResetting b (d.hand b).newOwner) := by
  simp [releaseVerdict, hexists, howner, hstate]

/-- A command that names a block of Table 14-5. -/
theorem onBlock_acts {q : List Instr} {f : Dev → Dev} {t : Dev} (hl : d.live = true) (hb : blockExists b = true) (h : f d = t) :
    act (onBlock b f) ⟨q, d⟩ = .next ⟨q, Dev.finish d t⟩ := by
  rw [act_of_live _ hl, onBlock, if_pos hb, h]

theorem resetDone_retargets (hstate : (d.hand b).state = 2) (hended : d.resetEnded b = true) :
    d.resetDone b = ((d.setHand b { d.hand b with state := 3 }).finishReset b).retarget b := if_pos ⟨hstate, hended⟩

/-! ### Clock and power requests (R293) -/

/-- A request on one block that is Held and idle. -/
theorem clockRequest_block {action : Nat} (hc : d.checkWrite .island 0x2A02 1 (numData 0x2A02 1 (65536 * b + action)) = none)
    (hblock : b / 256 ≠ 15) (hexists : blockExists b = true) (hheld : (d.hand b).state = 0) (hidle : d.blockBusy b = false) :
    d.clockRequest .island b action =
      (let k := d.setO 0x2A02 2 0
       ({ k with iso := { k.iso with blocks := tabSet 0 k.iso.blocks b (if action = 2 && !(hasSwitch b) then 1 else action) } } :
         Dev).clocksChange 0 [b] action).accept := by
  simp [Dev.clockRequest, hc, hblock, hexists, hheld, hidle]

/-- A request on a clock domain whose blocks are all Held and idle. -/
theorem clockRequest_domain {action : Nat} (hc : d.checkWrite .island 0x2A02 1 (numData 0x2A02 1 (65536 * b + action)) = none)
    (hdomain : b / 256 = 15) (hexists : domainOk (b % 256) = true)
    (hidle : (domainBlocks (b % 256)).any (fun id => (d.hand id).state != 0 || d.blockBusy id) = false) :
    d.clockRequest .island b action =
      (let k := d.setO 0x2A02 2 0
       ({ k with iso := { k.iso with domains := tabSet 0 k.iso.domains (b % 256) (min action 1) } } :
         Dev).clocksChange (b % 256) (domainBlocks (b % 256)) action).accept := by
  simp only [Dev.clockRequest, hc, hdomain, hexists, hidle, beq_self_eq_true, Bool.true_and, Bool.not_true, Bool.false_and,
    Bool.or_false, Bool.false_eq_true, if_false, if_true, ne_eq, not_true_eq_false, false_and, reduceCtorEq]

/-- A block other than an output has no request to follow when its clocks run. -/
theorem clocksChange_block (k : Dev) : k.clocksChange 0 [b] 0 = if b / 4096 = 1 then k.followRequest (b % 512) else k := by
  by_cases h : b / 4096 = 1 <;> simp [Dev.clocksChange, h]

end Sys2Proof.Machine

open Sys2Proof Sys2Proof.Machine

/-- Settles O50: the shown owner is FFh, which is no initiator's code, and the checks of R290 refuse a new request. -/
theorem aPassingBlockHasNoOwner : Obligations.a_passing_block_has_no_owner := by
  refine fun d => ⟨fun _ => owner_of_passing, ?engine, ?channel, ?request⟩
  case engine =>
    intro who n j hn hj hwho hpassing
    have hi : 0x2E01 ≤ ninesIndex n ∧ ninesIndex n < 0x2E09 := by unfold ninesIndex; omega
    rw [ownerPasses_of_objBlock (.inr hi) hj (objBlock_nines j hn), owns_of_passing hwho hpassing]
  case channel =>
    intro who c j hc hj hwho hpassing
    have hi : 0x2401 ≤ copyIndex c ∧ copyIndex c < 0x2421 := by unfold copyIndex; omega
    rw [ownerPasses_of_objBlock (.inl hi) hj (objBlock_copy j hc), owns_of_passing hwho hpassing]
  case request =>
    intro q who w hl hs _ hpassing
    obtain ⟨a, hne, hrefused⟩ := handoverVerdict_passing (who := who) hpassing
    rw [exec_handoverRequest, execHandoverRequest, actServed_of_live _ hl hs]
    cases hc : d.checkWrite who 0x2A01 1 (numData 0x2A01 1 w) with
    | some abort => exact ⟨abort, (checkWrite_code hc).1, by rw [request_refused _ hc]; rfl⟩
    | none =>
      refine ⟨a, hne, ?_⟩
      have : d.request who 0x2A01 1 (numData 0x2A01 1 w) (handoverVerdict who w) = d.refuse a := by
        simp [Dev.request, Dev.tryWrite, hc, hrefused, Dev.noteRefusal]
      rw [this]
      rfl

/-- Settles O28: each command's meaning, at the branch that the clause names. -/
theorem handoverCompletes : Obligations.handover_completes := by
  refine ⟨?request, ?release, ?timeout, ?done, ?forced, ?run, ?runDomain, ?stop, ?stopDomain, ?off, ?offDomain⟩
  case request =>
    intro q d who w hl hs hopen hc hexists hreserved hcode hnew hlimit hheld hruns howned
    rw [exec_handoverRequest, execHandoverRequest, actServed_of_live _ hl hs,
      request_accepts hc (handoverVerdict_requests hopen hexists hreserved hcode hnew hlimit hheld hruns howned)]
  case release =>
    intro q d who b hl hs hc hexists howner hstate
    rw [exec_handoverRelease, execHandoverRelease, actServed_of_live _ hl hs,
      request_accepts hc (releaseVerdict_releases hexists howner hstate)]
  case timeout =>
    intro q d b hl hexists hstate
    exact onBlock_acts hl hexists (if_pos hstate)
  case done =>
    intro q d b hl hexists hstate hended
    exact onBlock_acts hl hexists (resetDone_retargets hstate hended)
  case forced =>
    intro q d b hl hexists hstate
    exact onBlock_acts hl hexists (if_pos hstate)
  case run =>
    rintro q d who b hl hs hc hblock hexists rfl hheld hidle
    rw [exec_run, execRun, actServed_of_live _ hl hs, clockRequest_block (action := 0) hc hblock hexists hheld hidle]
    simp only [clocksChange_block]
    rfl
  case runDomain =>
    rintro q d who b hl hs hc hdomain hexists rfl hidle
    rw [exec_run, execRun, actServed_of_live _ hl hs, clockRequest_domain (action := 0) hc hdomain hexists hidle]
    rfl
  case stop =>
    rintro q d who b hl hs hc hblock hexists rfl hheld hidle
    rw [exec_stopClock, execStopClock, actServed_of_live _ hl hs, clockRequest_block (action := 1) hc hblock hexists hheld hidle]
    rfl
  case stopDomain =>
    rintro q d who b hl hs hc hdomain hexists rfl hidle
    rw [exec_stopClock, execStopClock, actServed_of_live _ hl hs, clockRequest_domain (action := 1) hc hdomain hexists hidle]
    rfl
  case off =>
    rintro q d who b hl hs hc hblock hexists rfl hheld hidle
    rw [exec_powerOff, execPowerOff, actServed_of_live _ hl hs, clockRequest_block (action := 2) hc hblock hexists hheld hidle]
    cases hasSwitch b <;> rfl
  case offDomain =>
    rintro q d who b hl hs hc hdomain hexists rfl hidle
    rw [exec_powerOff, execPowerOff, actServed_of_live _ hl hs, clockRequest_domain (action := 2) hc hdomain hexists hidle]
    rfl
end

section
/-! PROOF. Region records (R281, R283), and the enclaves' commands and calls (R285 to R287): each is its meaning, at the branch that a
clause names. -/

namespace Sys2Proof.Machine

variable {d : Dev} {n c t v : Nat}

/-! ### Regions (R283) -/

/-- The island moves the base of a disabled region that no enclave holds. -/
theorem regionVerdict_base {r : Nat} (hgrain : v % regionGrain t = 0) (hdisabled : attrEn (d.regAttr t r) = false)
    (hfree : d.heldBy t r = none) : regionVerdict .island t r 1 v d = .ok (d.setO (regionIndex t r) 1 v) := by
  simp [regionVerdict, hgrain, hdisabled, hfree]

/-! ### The commands of an enclave (Table 14-4, R287) -/

theorem enclaveVerdict_builds (hstate : d.enclaveState n = 0) (hset : d.setFree (d.getO (enclaveIndex n) 3) = true) :
    enclaveVerdict n 1 d = .ok ((d.setAttrs (d.getO (enclaveIndex n) 3) n 0xA).setO (enclaveIndex n) 1 1) :=
  if_pos ⟨hstate, hset⟩

theorem enclaveVerdict_seals (hstate : d.enclaveState n = 1) :
    enclaveVerdict n 2 d = .ok ((d.setAttrs (d.getO (enclaveIndex n) 3) n 0).setO (enclaveIndex n) 1 2) := by
  simp [enclaveVerdict, hstate]

/-- The attributes of a set are objects of its regions. -/
theorem setAttrs_iso (set owner mask : Nat) : (d.setAttrs set owner mask).iso = d.iso := by
  unfold Dev.setAttrs
  induction d.setRegions set generalizing d with
  | nil => rfl
  | cons p l ih => exact ih

/-- While no block has been assigned an owner there is none to revoke from the enclave. -/
theorem enclaveVerdict_destroys (hstate : d.enclaveState n = 1 ∨ d.enclaveState n = 3) (howners : d.iso.owners = []) :
    enclaveVerdict n 3 d = .ok ((d.setAttrs (d.getO (enclaveIndex n) 3) n 0).setO (enclaveIndex n) 1 4) := by
  simp [enclaveVerdict, hstate, setAttrs_iso, howners]

theorem sealed_measures (hstate : d.enclaveState n = 2) : d.sealed n =
    ((d.setB (enclaveIndex n) 6 (padTo 48 (sha384 (d.setBytes (d.getO (enclaveIndex n) 3))))).setAttrs
      (d.getO (enclaveIndex n) 3) n 4).setO (enclaveIndex n) 1 3 := if_neg (not_not.mpr hstate)

theorem destroyed_frees (hstate : d.enclaveState n = 4) (hstill : d.threadsStill n = true)
    (howners : d.iso.owners.any (fun p => p.2 == n) = false) : d.destroyed n =
    (((List.range 6).foldl (fun d t => d.setThread n t {}) ((d.zeroSet (d.getO (enclaveIndex n) 3)).setAttrs
      (d.getO (enclaveIndex n) 3) 0x20 2)).setB (enclaveIndex n) 6 []).setO (enclaveIndex n) 1 0 := by
  have hends : (d.enclaveState n ≠ 4 || !(d.threadsStill n) || d.iso.owners.any (fun p => p.2 == n)) = false := by
    simp [hstate, hstill, howners]
  rw [Dev.destroyed, hends, if_neg Bool.false_ne_true]

/-- A command of enclave 1 to 31. -/
theorem enclaveCommand_serves {q : List Instr} {who : Init} {x : Dev} (hl : d.live = true) (hs : d.serving = true) (hlow : 1 ≤ n)
    (hhigh : n ≤ 31) (hc : d.checkWrite who (enclaveIndex n) 2 [BitVec.ofNat 8 v] = none) (h : enclaveVerdict n v d = .ok x) :
    enclaveCommand who n v ⟨q, d⟩ = .next ⟨q, Dev.finish d x.accept⟩ := by
  have hn : (1 ≤ n && n ≤ 31) = true := by simp [hlow, hhigh]
  rw [enclaveCommand_eq, actServed_of_live _ hl hs, if_pos hn, request_accepts hc h]

/-- The end of a command of enclave 1 to 31. -/
theorem enclave_acts {q : List Instr} {f : Dev → Dev} {x : Dev} (hl : d.live = true) (hlow : 1 ≤ n) (hhigh : n ≤ 31) (h : f d = x) :
    act (fun d => if 1 ≤ n && n ≤ 31 then f d else d) ⟨q, d⟩ = .next ⟨q, Dev.finish d x⟩ := by
  have hn : (1 ≤ n && n ≤ 31) = true := by simp [hlow, hhigh]
  rw [act_of_live _ hl, if_pos hn, h]

/-! ### The monitor's calls (R285, R286) -/

/-- A call of a core that runs. -/
theorem core_wakes {q : List Instr} {f : Dev → Dev} {x : Dev} (hl : d.live = true) (ha : d.awake = true) (hruns : d.coreRuns c = true)
    (h : f d = x) : actAwake (fun d => if d.coreRuns c then f d else d) ⟨q, d⟩ = .next ⟨q, Dev.finish d x⟩ := by
  rw [actAwake_eq, act_of_live _ hl, if_pos ha, if_pos hruns, h]

section
variable (hcore : appCore c = true)
include hcore

section
variable (htag : (d.core c).tag = 0) (hlow : 1 ≤ n) (hhigh : n ≤ 31) (hsealed : d.enclaveState n = 3)
  (hthread : t < d.getO (enclaveIndex n) 5)
include htag hlow hhigh hsealed hthread

/-- A core of the open world enters a thread that does not run. -/
theorem enterEnclave_enters (hstate : (d.thread n t).state ≠ 1) : d.enterEnclave c n t false =
    ((d.setThread n t { state := 1, core := c, saved := [] }).setCore c
      { tag := n, thread := t, regs := [], a0 := n, a1 := t, pc := d.getO (enclaveIndex n) 4 }).offerAll n := by
  simp [Dev.enterEnclave, hcore, htag, hlow, hhigh, hsealed, hthread, hstate]

/-- It resumes a thread that was interrupted with the registers and the place saved. -/
theorem enterEnclave_resumes (hstate : (d.thread n t).state = 2) : d.enterEnclave c n t true =
    ((d.setThread n t { state := 1, core := c, saved := [] }).setCore c
      { tag := n, thread := t, regs := (d.thread n t).saved, a0 := n, a1 := t, pc := (d.thread n t).pc }).offerAll n := by
  simp [Dev.enterEnclave, hcore, htag, hlow, hhigh, hsealed, hthread, hstate]

end

variable (htag : (d.core c).tag ≠ 0)
include htag

theorem exitEnclave_returns : d.exitEnclave c v false =
    ((d.setThread (d.core c).tag (d.core c).thread { state := 0, core := c }).setCore c { a0 := 0, a1 := v }).offerAll
      (d.core c).tag := by
  simp [Dev.exitEnclave, hcore, htag]

theorem exitEnclave_faulted : d.exitEnclave c v true =
    ((d.setThread (d.core c).tag (d.core c).thread { state := 0, core := c }).setCore c { a0 := 3, a1 := 0 }).offerAll
      (d.core c).tag := by
  simp [Dev.exitEnclave, hcore, htag]

/-- An interrupt for another domain leaves the thread's registers and place in its save slot. -/
theorem interruptEnclave_leaves {l : List Nat} (hother : (d.core c).tag ≠ n) : d.interruptEnclave c (.interrupt n v) l =
    ((d.setThread (d.core c).tag (d.core c).thread { state := 2, core := c, saved := l, pc := v }).setCore c
      { a0 := 1, a1 := 0 }).offerAll (d.core c).tag := by
  simp [Dev.interruptEnclave, hcore, htag, hother]

theorem interruptEnclave_traps {l : List Nat} : d.interruptEnclave c .trap l =
    d.setCore c { d.core c with pc := d.getO (enclaveIndex (d.core c).tag) 4 + 0x40 } := by
  simp [Dev.interruptEnclave, hcore, htag]

end

end Sys2Proof.Machine

open Sys2Proof Sys2Proof.Machine

/-- Settles O29: each command's meaning, at the branch that the clause names. -/
theorem enclavesAndRegionsComplete : Obligations.enclaves_and_regions_complete := by
  refine ⟨?region, ?build, ?seals, ?sealed, ?destroy, ?destroyed, ?enter, ?leave, ?fault, ?interrupt, ?trap, ?resume⟩
  case region =>
    rintro q d who t r v hl hs rfl hindex hc hgrain hdisabled hfree
    rw [exec_regionRecordWrite, execRegionRecordWrite, actServed_of_live _ hl hs]
    simp only [hindex]
    rw [request_accepts hc (regionVerdict_base hgrain hdisabled hfree)]
  case build =>
    intro q d who n hl hs hlow hhigh hc hstate hset
    exact enclaveCommand_serves hl hs hlow hhigh hc (enclaveVerdict_builds hstate hset)
  case seals =>
    intro q d who n hl hs hlow hhigh hc hstate
    exact enclaveCommand_serves hl hs hlow hhigh hc (enclaveVerdict_seals hstate)
  case sealed =>
    intro q d n hl hlow hhigh hstate
    exact enclave_acts (f := fun d => d.sealed n) hl hlow hhigh (sealed_measures hstate)
  case destroy =>
    intro q d who n hl hs hlow hhigh hc hstate howners
    exact enclaveCommand_serves hl hs hlow hhigh hc (enclaveVerdict_destroys hstate howners)
  case destroyed =>
    intro q d n hl hlow hhigh hstate hstill howners
    exact enclave_acts (f := fun d => d.destroyed n) hl hlow hhigh (destroyed_frees hstate hstill howners)
  case enter =>
    intro q d c n t hl ha hcore htag hlow hhigh hsealed hthread hstate hruns
    exact core_wakes (f := fun d => d.enterEnclave c n t false) hl ha hruns (enterEnclave_enters hcore htag hlow hhigh hsealed hthread hstate)
  case leave =>
    intro q d c v hl ha hcore htag hruns
    exact core_wakes (f := fun d => d.exitEnclave c v false) hl ha hruns (exitEnclave_returns hcore htag)
  case fault =>
    intro q d c v hl ha hcore htag hruns
    exact core_wakes (f := fun d => d.exitEnclave c v true) hl ha hruns (exitEnclave_faulted hcore htag)
  case interrupt =>
    intro q d c n v l hl ha hcore htag hother hruns
    exact core_wakes (f := fun d => d.interruptEnclave c (.interrupt n v) l) hl ha hruns (interruptEnclave_leaves hcore htag hother)
  case trap =>
    intro q d c l hl ha hcore htag hruns
    exact core_wakes (f := fun d => d.interruptEnclave c .trap l) hl ha hruns (interruptEnclave_traps hcore htag)
  case resume =>
    intro q d c n t hl ha hcore htag hlow hhigh hsealed hthread hstate hruns
    exact core_wakes (f := fun d => d.enterEnclave c n t true) hl ha hruns (enterEnclave_resumes hcore htag hlow hhigh hsealed hthread hstate)
end

section
/-! PROOF. The commands of the rings (R262 to R268, R273, R278): each is its meaning, at the branch that a clause names. -/

namespace Sys2Proof.Machine

variable {d : Dev} {i r v : Nat}

/-- A command of a ring, by its host function and its number. -/
theorem onRing_acts {q : List Instr} {f : Dev → Dev} {t : Dev} (hl : d.live = true) (hi : i < 64) (hr : r < 8) (h : f d = t) :
    act (onRing i r f) ⟨q, d⟩ = .next ⟨q, Dev.finish d t⟩ := by
  rw [act_of_live _ hl, onRing, if_pos (by simp [hi, hr]), h]

/-! ### Doorbells (R263, R268) -/

/-- A new tail below E of an enabled ring, from the owner of the ring set. -/
theorem sqTail_moves (hr : r < 8) (hstate : d.ringState i r = 1) (howner : d.owner (blockId 9 i) = 0x40 + i)
    (hlow : v % 4096 < d.ringE i r) : d.sqTail i r v =
    ((d.linkUse (instPort i)).setO (0x2910 + i) 6 0).setRing i r { d.ring i r with tail := v % 4096 } := by
  rw [Dev.sqTail]
  dsimp only
  rw [bell_ringState d i r hr, bell_owner, bell_ringE d i r hr, bell_ring, hstate, howner, if_neg (by simp), if_neg (by omega)]
  rfl

/-- A new head below E of a ring that is enabled or halted confirms the records that it passes. -/
theorem cqHead_moves (hr : r < 8) (hstate : d.ringState i r = 1 ∨ d.ringState i r = 2) (hlow : v % 4096 < d.ringE i r) :
    d.cqHead i r v = ((d.ring i r).records.filter (fun p => passedBy (d.ringE i r) (d.ring i r).head (v % 4096) p.1)).foldl
      (fun d p => if p.2 = 0 then d else d.regFree (p.2 - 1))
      (((d.linkUse (instPort i)).setO (0x2910 + i) 6 0).setRing i r { d.ring i r with
        head := v % 4096
        records := (d.ring i r).records.filter (fun p => !(passedBy (d.ringE i r) (d.ring i r).head (v % 4096) p.1)) }) := by
  rw [Dev.cqHead]
  dsimp only
  rw [bell_ringState d i r hr, bell_ringE d i r hr, bell_ring, if_neg (by omega), if_neg (by omega)]
  rfl

/-! ### Taking an entry (R263 to R265) -/

/-- The block once the entry at SQ_HEAD is taken and journaled, and waits for what its opcode asks. -/
def Dev.entryTaken (d : Dev) (i r : Nat) : Dev :=
  let b := d.ringEntry i r (d.ring i r).sqHead
  let c := ((d.linkUse (instPort i)).count (ringIndex i) (ringSub r 6)).count (0x2910 + i) 0x09
  let x := { d.ring i r with
    sqHead := if (d.ring i r).sqHead + 1 = c.ringE i r then 0 else (d.ring i r).sqHead + 1
    open_ := (d.ring i r).open_ ++ [(d.ring i r).sqHead]
    paused := false }
  let j := (c.setRing i r x).journal (ringJournal i r (d.ring i r).sqHead b)
  j.2.setRing i r { x with slot := (d.ring i r).sqHead, entry := j.1, waiting := some b }

/-- An entry whose fields pass step 1 of R265: a NOP and a destroy are done at once, and another one waits for its block. -/
theorem takeEntry_ok {b : List Byte} (hb : d.ringEntry i r (d.ring i r).sqHead = b) (hok : entryOk b = true) : d.takeEntry i r =
    (let k := d.entryTaken i r
     if entOpcode b = 0 ∨ entOpcode b = 5 then
       let it := k.ringItem i r b
       let k := k.setRing i r { k.ring i r with waiting := none, entry := none }
       if entOpcode b = 0 then k.completeItem it [] 0 0
       else match k.destroyPipe (0x40 + i) (entArgument b) with
         | some d => d.completeItem it [] 0 0
         | none => k.completeItem it [] 0x33 0
     else k) := by
  subst hb
  unfold Dev.takeEntry
  simp only [hok, Bool.not_true, Bool.false_eq_true, if_false]
  rfl

section
variable {op : Nat} (hready : d.ringReady i r = true) (hop : entOpcode (d.ringEntry i r (d.ring i r).sqHead) = op)
  (hroom : d.regRoom (0x40 + i) = true) (hok : entryOk (d.ringEntry i r (d.ring i r).sqHead) = true)
include hready hop hroom

theorem ringTakes_takes : d.ringTakes i r op = d.takeEntry i r := by
  simp [Dev.ringTakes, hready, hop, hroom]

include hok

/-- An entry whose block is to be read waits for it. -/
theorem ringTakes_waits (hread : op ≠ 0 ∧ op ≠ 5) : d.ringTakes i r op = d.entryTaken i r := by
  rw [ringTakes_takes hready hop hroom, takeEntry_ok rfl hok, hop]
  dsimp only
  rw [if_neg (by omega)]

end

/-! ### The end of a block's read (R265) -/

theorem ringBlockRead_fails {b : List Byte} (h : (d.ring i r).waiting = some b) : d.ringBlockRead i r false =
    (d.setRing i r { d.ring i r with waiting := none, entry := none }).completeItem (d.ringItem i r b) [] 0x31 0 := by
  simp only [Dev.ringBlockRead, h, Bool.not_false, if_true]

theorem ringBlockRead_copies {b : List Byte} (h : (d.ring i r).waiting = some b) (hop : entOpcode b = 2)
    (hroom : d.chanFull (entUnit b) = false) : d.ringBlockRead i r true =
    (d.setRing i r { d.ring i r with waiting := none, entry := none }).takeCopy (d.ringItem i r b) (entUnit b)
      (d.hostRead (instPort i) (entBlock b) 64) := by
  simp only [Dev.ringBlockRead, h, hop, hroom, Bool.not_true, Bool.false_eq_true, if_false]

/-! ### Enabling and disabling (R262, R273) -/

theorem ringEnableVerdict_enables (h : d.ringState i r = 0) : ringEnableVerdict i r 1 d = .ok (d.ringEnable i r) := by
  simp [ringEnableVerdict, h]

theorem ringDisable_starts (h : d.ringState i r = 1) : d.ringDisable i r =
    (((d.setO (ringIndex i) (ringSub r 0) 0).setRing i r { d.ring i r with started := d.clock.ns }).setRingState i r 3).ringCancel
      i r := if_pos (.inl h)

/-- A request that names a ring, that passes the checks, and that its chapter takes. -/
theorem onRing_request {q : List Instr} {who : Init} {x y : Nat} {data : List Byte} {f : Dev → Verdict} {t : Dev} (hl : d.live = true)
    (hs : d.serving = true) (hi : i < 64) (hr : r < 8) (hc : d.checkWrite who x y data = none) (hf : f d = .ok t) :
    actServed (onRing i r (fun d => d.request who x y data f)) ⟨q, d⟩ = .next ⟨q, Dev.finish d t.accept⟩ := by
  rw [actServed_of_live _ hl hs, onRing, if_pos (by simp [hi, hr]), request_accepts hc hf]

end Sys2Proof.Machine

open Sys2Proof Sys2Proof.Machine

/-- Settles O26: each command's meaning, at the branch that the clause names. -/
theorem ringsComplete : Obligations.rings_complete := by
  refine ⟨?tail, ?head, ?nop, ?commit, ?copy, ?gpu, ?create, ?destroy, ?unread, ?read, ?halt, ?enable, ?disable, ?disabled⟩
  case tail =>
    intro q d i r v hl hi hr hbar hstate howner hlow
    exact onRing_acts hl hi hr ((if_pos hbar).trans (sqTail_moves hr hstate howner hlow))
  case head =>
    intro q d i r v hl hi hr hbar hstate hlow
    exact onRing_acts hl hi hr ((if_pos hbar).trans (cqHead_moves hr hstate hlow))
  case nop =>
    intro q d i r hl hi hr hready hop hroom hok
    refine onRing_acts hl hi hr ((ringTakes_takes hready hop hroom).trans ((takeEntry_ok rfl hok).trans ?_))
    rw [hop]
    rfl
  case commit =>
    intro q d i r hl hi hr hready hop hroom hok
    exact onRing_acts hl hi hr (ringTakes_waits hready hop hroom hok (by decide))
  case copy =>
    intro q d i r hl hi hr hready hop hroom hok
    exact onRing_acts hl hi hr (ringTakes_waits hready hop hroom hok (by decide))
  case gpu =>
    intro q d i r hl hi hr hready hop hroom hok
    exact onRing_acts hl hi hr (ringTakes_waits hready hop hroom hok (by decide))
  case create =>
    intro q d i r hl hi hr hready hop hroom hok
    exact onRing_acts hl hi hr (ringTakes_waits hready hop hroom hok (by decide))
  case destroy =>
    intro q d i r hl hi hr hready hop hroom hok
    refine onRing_acts hl hi hr ((ringTakes_takes hready hop hroom).trans ((takeEntry_ok rfl hok).trans ?_))
    rw [hop]
    rfl
  case unread =>
    intro q d i r b hl hi hr hwaiting
    exact onRing_acts hl hi hr (ringBlockRead_fails hwaiting)
  case read =>
    intro q d i r b hl hi hr hwaiting hop hroom
    exact onRing_acts hl hi hr (ringBlockRead_copies hwaiting hop hroom)
  case halt =>
    intro q d i r hl hi hr hready
    exact onRing_acts hl hi hr (if_pos hready)
  case enable =>
    intro q d who i r hl hs hi hr hc hstate
    exact onRing_request hl hs hi hr hc (ringEnableVerdict_enables hstate)
  case disable =>
    intro q d who i r hl hs hi hr hc hstate
    rw [← ringDisable_starts hstate]
    exact onRing_request hl hs hi hr hc rfl
  case disabled =>
    intro q d i r hl hi hr hstate hdrained
    exact onRing_acts hl hi hr (if_pos ⟨hstate, hdrained⟩)
end

section
/-! PROOF. The commands of host ports and their functions (R261, R269 to R272, R274 to R277): each is its meaning, at the branch that a
clause names. -/

namespace Sys2Proof.Machine

variable {d : Dev} {i p n : Nat}

/-! ### Accesses to the BAR (R261) -/

/-- A reserved range, or a wrong width, reads 0 and is counted. -/
theorem barAccess_reserved {o : Nat} (x : Option Nat) (hbar : d.barOpen i = true)
    (hignored : (d.linkUse (instPort i)).barIgnored i o n = true) : d.barAccess i o n x =
    (let k := (d.linkUse (instPort i)).count (0x2910 + i) 15
     if x.isNone then k.reply (zeroBytes n) else k) := by
  simp only [Dev.barAccess, hbar, hignored, Bool.not_true, Bool.false_eq_true, if_false, if_true]
  rfl

/-! ### The manager page (Table 13-4) -/

theorem instPort_split (i : Nat) : 32 * instPort i + i % 32 = i := Nat.div_add_mod i 32

theorem instPort_of_parts {f : Nat} (hf : f < 32) : instPort (32 * p + f) = p := by unfold instPort; omega

theorem instPort_lt (hi : i < 64) : instPort i < 2 := by unfold instPort; omega

/-- A command of the manager on a host function, by the function's own number. -/
theorem manager_runs_inst {f : Nat → Dev → Dev} (hi : i < 64) (hbar : d.barOpen (32 * instPort i) = true)
    (hfree : (d.page (instPort i)).busy = none) (hthere : d.instState i ≠ 0) :
    d.manager (instPort i) (i % 32) f = f i (d.selected (instPort i) (i % 32)) := by
  have hruns := manager_runs d f (instPort_lt hi) (Nat.mod_lt i (by decide)) hbar hfree (by rwa [instPort_split])
  rwa [instPort_split] at hruns

theorem mgrQuiesce_starts {f : Nat} (h : d.instState i = 1) : Dev.mgrQuiesce p f i d =
    (d.startQuiesce i).setPage p { (d.startQuiesce i).page p with busy := some f } := if_neg (not_not.mpr h)

theorem mgrResume_resumes (hstate : d.instState i = 3) (hd0 : (d.inst i).d3hot = false) :
    Dev.mgrResume p i d = (d.resumeInstance i).mgrResult p 0 := if_neg (by simp [hstate, hd0])

theorem startLog_starts {x : DirtySettings} (h : settingsOk x = true) : Dev.startLog x i d =
    (d.setLog i { (d.inst i).log with map0 := x.map0, map1 := x.map1, base := x.base, pages := x.pages, active := 0, overrun := false,
                                      logging := true }).mgrResult (instPort i) 0 := if_pos h

theorem logCommand_harvests (h : (d.inst i).log.logging = true) :
    Dev.logCommand false i d = (d.harvestLog i).mgrResult (instPort i) 0 := by
  simp only [Dev.logCommand, h, Bool.not_true, Bool.false_eq_true, if_false]

theorem logCommand_stops (h : (d.inst i).log.logging = true) : Dev.logCommand true i d =
    ((d.harvestLog i).setLog i { ((d.harvestLog i).inst i).log with logging := false }).mgrResult (instPort i) 0 := by
  simp only [Dev.logCommand, h, Bool.not_true, Bool.false_eq_true, if_false, if_true]

/-! ### Resets, power states and VFs (R271, R274, R275) -/

/-- A VF is the only function that its reset affects. -/
theorem affected_vf (h : i % 32 ≠ 0) : affected i = [i] := if_neg h

theorem mayReset_one (h : d.instState i = 3) : d.mayReset [i] = true := by simp [Dev.mayReset, h]

/-! ### Links (R258, R269) -/

/-- A port in L0 whose functions have nothing more to deliver enters L1 or a substate of it. -/
theorem enterL1_enters (hstate : d.getO (portIndex p) 1 = 2) (hn : n = 3 ∨ n = 4 ∨ n = 5)
    (hquiet : (((portInstances p).filter (fun i => d.instState i == 1)).foldl (fun d i => d.releaseAll (0x40 + i)) d).msixWaits p = false) :
    d.enterL1 p n = ((((portInstances p).filter (fun i => d.instState i == 1)).foldl (fun d i => d.releaseAll (0x40 + i)) d).setO
      (portIndex p) 1 n).count (portIndex p) 10 := by
  have hlegal : ¬(2 < 2 ∨ 5 < 2 ∨ n < 3 ∨ 5 < n) := by omega
  simp only [Dev.enterL1, hstate, if_neg hlegal, hquiet, Bool.false_eq_true, if_false, if_true]

end Sys2Proof.Machine

open Sys2Proof Sys2Proof.Machine

/-- Settles O27: each command's meaning, at the branch that the clause names. That PTM counts as enabled once a request has come,
and that BUSY stays 1 until the function is Quiesced, is assumption log 44. -/
theorem hostInstancesComplete : Obligations.host_instances_complete := by
  refine ⟨?awake, ?idle, ?time, ?ptm, ?quiesce, ?quiesced, ?resume, ?start, ?harvest, ?stop, ?reset, ?d3hot, ?d0, ?remove, ?enable,
    ?up, ?down, ?detached, ?resetDone, ?retrain, ?l1, ?read, ?write⟩
  case awake =>
    intro q d i hl hi hbar
    exact onUnit_acts hl hi (if_pos hbar)
  case idle =>
    intro q d i hl hi hbar
    exact onUnit_acts hl hi (if_pos hbar)
  case time =>
    intro q d i hl hi hbar
    exact onUnit_acts hl hi (if_pos hbar)
  case ptm =>
    intro q d p t hl hp hthere hlinked
    exact onUnit_acts hl hp (if_pos (by simp [hthere, hlinked]))
  case quiesce =>
    intro q d who i hl hs hi hmanager hbar hfree hstate
    rw [exec_quiesce, execQuiesce, actServed_of_live _ hl hs, onUnit_lt hi, if_pos hmanager,
      manager_runs_inst hi hbar hfree (by omega), mgrQuiesce_starts (by rw [selected_instState _ _ (instPort_lt hi), hstate])]
  case quiesced =>
    intro q d i hl hi hstate hended
    exact onUnit_acts hl hi (if_pos ⟨hstate, hended⟩)
  case resume =>
    intro q d who i hl hs hi hmanager hbar hfree hstate hd0
    rw [exec_resume, execResume, actServed_of_live _ hl hs, onUnit_lt hi, if_pos hmanager,
      manager_runs_inst hi hbar hfree (by omega),
      mgrResume_resumes (by rw [selected_instState _ _ (instPort_lt hi), hstate]) (by rw [selected_inst, hd0])]
  case start =>
    intro q d p f x hl hp hf hbar hfree hthere hok
    rw [exec_startDirtyLog, execStartDirtyLog, act_of_live _ hl, manager_runs d _ hp hf hbar hfree hthere, startLog_starts hok,
      selected_inst, instPort_of_parts hf]
  case harvest =>
    intro q d p f hl hp hf hbar hfree hthere hlogging
    rw [exec_harvest, execHarvest, act_of_live _ hl, manager_runs d _ hp hf hbar hfree hthere,
      logCommand_harvests (by rw [selected_inst, hlogging]), instPort_of_parts hf]
  case stop =>
    intro q d p f hl hp hf hbar hfree hthere hlogging
    rw [exec_stopDirtyLog, execStopDirtyLog, act_of_live _ hl, manager_runs d _ hp hf hbar hfree hthere,
      logCommand_stops (by rw [selected_inst, hlogging]), instPort_of_parts hf]
  case reset =>
    intro q d i hl hi hthere hmay
    exact onUnit_acts hl hi ((if_neg hthere).trans (if_pos hmay))
  case d3hot =>
    intro q d i hl hi hvf hstate
    refine onUnit_acts hl hi ?_
    rw [affected_vf hvf, if_neg (by omega), if_pos (mayReset_one hstate)]
    simp [hstate]
  case d0 =>
    intro q d i hl hi hvf hstate hd3
    refine onUnit_acts hl hi ?_
    simp [affected_vf hvf, hstate, hd3]
  case remove =>
    intro q d p n hl hp hfewer hmay
    exact onUnit_acts hl hp ((if_neg (by omega)).trans (if_pos hmay))
  case enable =>
    intro q d p n hl hp hn hmore hbar
    exact onUnit_acts hl hp (if_neg (by rw [hbar]; simp only [Bool.not_true, Bool.false_eq_true, or_false]; omega))
  case up =>
    intro q d p speed hl hp ha hexists hlow hhigh hruns
    exact onUnit_acts hl hp (if_pos (by simp [ha, hruns, hlow, hhigh]))
  case down =>
    intro q d p hl hp hlinked
    exact onUnit_acts hl hp rfl
  case detached =>
    intro q d i hl hi hstate hdrained haudio
    exact onUnit_acts hl hi (if_pos ⟨hstate, hdrained, by rw [haudio]; rfl⟩)
  case resetDone =>
    intro q d i hl hi hstate
    exact onUnit_acts hl hi (if_pos hstate)
  case retrain =>
    intro q d p hl hp hlinked
    exact onUnit_acts hl hp (if_pos hlinked)
  case l1 =>
    intro q d p n hl hp hstate hn hquiet
    exact onUnit_acts hl hp (enterL1_enters hstate hn hquiet)
  case read =>
    intro q d i o n hl hi hbar hignored
    exact onUnit_acts hl hi (barAccess_reserved none hbar hignored)
  case write =>
    intro q d i o n v hl hi hbar hignored
    exact onUnit_acts hl hi (barAccess_reserved (some v) hbar hignored)
end

section
/-! PROOF. The commands of the DRAM controller and the system cache (R321 to R326, R328 to R330): each is its meaning, at the branch
that a clause names. -/

namespace Sys2Proof.Machine

variable {d : Dev} {k r v : Nat}

/-- A command of a domain that stops in Keep-alive. -/
theorem act_wakes {q : List Instr} {f : Dev → Dev} {t : Dev} (hl : d.live = true) (ha : d.awake = true) (h : f d = t) :
    actAwake f ⟨q, d⟩ = .next ⟨q, Dev.finish d t⟩ := by
  rw [actAwake_eq, act_of_live _ hl, if_pos ha, h]

/-! ### Windows, refresh and the command path (R322 to R324) -/

/-- A window with too few transfers, or outside every region, ends the channel's row of skewed ones. -/
theorem skewWindow_plain {t b n : Nat} (h : t < 10000 ∨ 32 ≤ r) : d.skewWindow k t b n r =
    (let d := (((d.countBy (0x2C02 + k) 1 t).setO (0x2C02 + k) 2 b).setO (0x2C02 + k) 3
       (if t = 0 then 0 else min 255 (n * 256 / t))).setO (0x2C02 + k) 4 r
     { d with dram := { d.dram with skewed := tabSet 0 d.dram.skewed k 0, skewOf := tabSet 0xFF d.dram.skewOf k 0xFF } }) := by
  have hplain (x : Bool) : (decide (10000 ≤ t) && x && decide (r < 32)) = false := by
    rcases h with h | h
    · rw [decide_eq_false (by omega), Bool.false_and, Bool.false_and]
    · rw [decide_eq_false (by omega : ¬r < 32), Bool.and_false]
  simp only [Dev.skewWindow, hplain, Bool.false_and, Bool.false_eq_true, if_false]

/-- A field at or above the limit asks for the higher refresh rate at once. -/
theorem modeRegister_high {f : Nat} (hstate : d.rankState k ≠ 5) (hhigh : d.getO 0x2C00 0x0B ≤ f) : d.modeRegister k f false =
    (({ d with dram := { d.dram with cool := tabSet 0 d.dram.cool k 0 } } : Dev).setO (0x2C10 + k) 2 f).setO (0x2C10 + k) 3 1 := by
  simp only [Dev.modeRegister, if_neg hstate, hhigh, if_true, Nat.zero_min, Bool.false_eq_true, if_false]

/-- A mismatch seen twice on a spare retires it. -/
theorem pathCheck_spare (h : ((d.count (0x2C10 + k) 5).count 0x2C00 0x12).rankState k = 1) : d.pathCheck k true true =
    (((d.count (0x2C10 + k) 5).count 0x2C00 0x12).setRank k 5).log 0x60 3 0xFF k [k] := by
  simp only [Dev.pathCheck, Bool.and_self, Bool.not_true, Bool.false_eq_true, if_false, h, if_true]

/-! ### Ranks and the carry engine (R325, R326) -/

theorem rankOut_carries (hstate : d.rankState k = 0) (hcarry : d.dram.carry = none) : d.rankOut k = d.startCarry k := by
  simp only [Dev.rankOut, hstate, hcarry]

theorem rankOut_waits {x : Carry} (hstate : d.rankState k = 0) (hcarry : d.dram.carry = some x) : d.rankOut k =
    ({ d with dram := { d.dram with waiting := d.dram.waiting ++ [k] } } : Dev).setRank k 2 := by
  simp only [Dev.rankOut, hstate, hcarry]

/-- A rank that is neither active nor the target of a carry stays as it is. -/
theorem rankOut_stays (hactive : d.rankState k ≠ 0) (htarget : d.rankState k ≠ 4) : d.rankOut k = d := by
  unfold Dev.rankOut
  split
  next h => exact absurd h hactive
  next h => exact absurd h htarget
  next => rfl

section
variable {x : Carry} (hcarry : d.dram.carry = some x)
include hcarry

theorem carryCopied_drains (hcopying : x.draining = false) : d.carryCopied =
    (let bad := (d.unitsIn x.source).filter (fun u =>
       d.rankOf (d.regBase 0 u.1 + u.2.2) == x.source && d.decodeUnit u.1 u.2.1 u.2.2 == .uncorrectable)
     let d := bad.foldl (fun d u => d.writePoison u.1 u.2.1 u.2.2 (d.bytesAt (d.regBase 0 u.1 + u.2.2) (unitSize u.2.1))) d
     ({ d with dram := { d.dram with carry := some { x with draining := true } } } : Dev).setO 0x2C00 0x0F
       (((List.range 128).filter (fun e => let b := d.remapEntry e; 128 ≤ b && bits b 3 4 == x.source)).length * 2 ^ 28)) := by
  simp only [Dev.carryCopied, hcarry, hcopying, Bool.false_eq_true, if_false]

theorem carryFlip_flips (hdraining : x.draining = true) : d.carryFlip =
    (let dram (k : Nat) : Bool := 2 ^ 40 ≤ k && k < 2 ^ 41
     let t := d.remapTable.map (fun b => if 128 ≤ b.toNat ∧ bits b.toNat 3 4 = x.source then
       BitVec.ofNat 8 (setBits b.toNat 3 4 x.target) else b)
     let d := d.rekeyAll (fun k => if dram k && keyRank k == x.target then none
       else if dram k && keyRank k == x.source then some (setBits k 31 4 x.target) else some k)
     let d := ((((d.setB 0x2C00 0x0D t).setRank x.target 0).setRank x.source 5).log 0x60 3 0xFF x.source [x.source, x.target]).count
       0x2C00 0x10
     ({ d with dram := { d.dram with carry := none } } : Dev).nextCarry) := by
  simp only [Dev.carryFlip, hcarry, hdraining, Bool.not_true, Bool.false_eq_true, if_false]

end

/-! ### Live remaps (R328) -/

theorem remapVerdict_queues (h : d.remapRefused r v = false) : remapVerdict r v d = .ok (d.queueRemap r v) := by
  rw [remapVerdict, h, if_neg Bool.false_ne_true]

theorem queueRemap_runs (hnone : d.dram.remaps = []) (hcarry : d.dram.carry = none) : d.queueRemap r v =
    ({ d with dram := { d.dram with remaps := [{ region := r, order := v }] } } : Dev).runRemap { region := r, order := v } := by
  simp [Dev.queueRemap, hnone, hcarry]

/-- While another remap or a carry stands the new one waits. -/
theorem queueRemap_waits (h : d.dram.remaps ≠ [] ∨ d.dram.carry ≠ none) : d.queueRemap r v =
    ({ d with dram := { d.dram with remaps := d.dram.remaps ++ [{ region := r, order := v }] } } : Dev).setO (0x2C20 + r) 3 1 := by
  have hbusy : ¬(d.dram.remaps.isEmpty = true ∧ d.dram.carry.isNone = true) := by
    rw [List.isEmpty_iff, Option.isNone_iff_eq_none]
    tauto
  exact if_neg hbusy

/-- The progress of a remap, 2C00h/0Fh, is no object of a region's. -/
theorem remapped_setO_progress (d : Dev) (v : Nat) : (d.setO 0x2C00 0x0F v).getO (0x2C20 + r) 4 = d.getO (0x2C20 + r) 4 :=
  getO_setO_other d (objKey_ne (by decide) (by decide) (.inl (by omega))) v

/-- Without a block left the region's ORDER field shows the new order. -/
theorem remapBlock_ends {x : Remap} {l : List Remap} (hremaps : d.dram.remaps = x :: l) (hruns : d.getO (0x2C20 + x.region) 3 = 2)
    (hdone : (d.regLimit 0 x.region - d.regBase 0 x.region) / waySize ≤ d.getO (0x2C20 + x.region) 4) : d.remapBlock =
    (let k := d.setO 0x2C00 0x0F (d.getO (0x2C20 + x.region) 4 * waySize)
     let a := setBits (k.regAttr 0 x.region) 27 2 x.order
     let k := ((k.setO (regionIndex 0 x.region) 3 a).setO (0x2C20 + x.region) 3 0).setO 0x2C40 4 0xFF
     (({ k with dram := { k.dram with remaps := l } } : Dev).log 0x60 6 (attrOwner a) x.region [x.region, x.order]).nextCarry) := by
  simp only [Dev.remapBlock, hremaps, hruns, ne_eq, not_true_eq_false, if_false, if_pos hdone, remapped_setO_progress,
    if_neg (Nat.not_lt.mpr hdone)]

/-! ### The system cache (R329, R330) -/

theorem wayMaskVerdict_applies (h : d.getO (wayIndex k) 1 ≠ 1) : wayMaskVerdict k v d = .ok (d.applyMask k v) := by
  simp [wayMaskVerdict, h]

/-- Ways that leave an enabled partition are written back first. -/
theorem wayMaskVerdict_leaves (hon : d.getO (wayIndex k) 1 = 1) (hfree : d.waysTaken k v = false)
    (hleft : d.getO (wayIndex k) 3 - (d.getO (wayIndex k) 3 &&& v) ≠ 0) : wayMaskVerdict k v d =
    .ok { d with dram := { d.dram with leaving := tabSet 0 d.dram.leaving k (65536 + v) } } := by
  rw [wayMaskVerdict]
  dsimp only
  rw [if_neg (by simp [hfree]), if_pos ⟨hon, hleft⟩]

theorem lockVerdict_locks (h : v ≠ d.getO (wayIndex k) 4) :
    lockVerdict k v d = .ok ((d.dropWays (d.getO (wayIndex k) 3)).setO (wayIndex k) 4 v) := if_neg h

end Sys2Proof.Machine

open Sys2Proof Sys2Proof.Machine

/-- Settles O32: each command's meaning, at the branch that the clause names. -/
theorem dramCompletes : Obligations.dram_completes := by
  refine ⟨?promotion, ?plain, ?window, ?mode, ?path, ?carry, ?waits, ?stays, ?copied, ?flip, ?remap, ?queued, ?last, ?block, ?mask,
    ?leave, ?written, ?lock⟩
  case promotion =>
    intro q d k t x hl ha hk hage
    exact onUnit_wakes hl ha hk (if_pos hage)
  case plain =>
    intro q d k t b n r hl ha hk h
    exact onUnit_wakes hl ha hk (skewWindow_plain h)
  case window =>
    intro q d k t b n r hl ha hk
    exact onUnit_wakes hl ha hk rfl
  case mode =>
    intro q d p f hl hp ha hstate hf hhigh
    refine onUnit_acts hl hp ((if_pos ha).trans ?_)
    rw [Nat.mod_eq_of_lt hf, modeRegister_high hstate hhigh]
  case path =>
    intro q d p hl hp ha hspare
    exact onUnit_acts hl hp ((if_pos ha).trans (pathCheck_spare hspare))
  case carry =>
    intro q d who p v hl hs hp hc hstate hcarry
    exact onUnit_request hl hs hp hc (congrArg _ (rankOut_carries hstate hcarry))
  case waits =>
    intro q d who p v x hl hs hp hc hstate hcarry
    exact onUnit_request hl hs hp hc (congrArg _ (rankOut_waits hstate hcarry))
  case stays =>
    intro q d who p v hl hs hp hc hactive htarget
    exact onUnit_request hl hs hp hc (congrArg _ (rankOut_stays hactive htarget))
  case copied =>
    intro q d x hl ha hcarry hcopying
    exact act_wakes hl ha (carryCopied_drains hcarry hcopying)
  case flip =>
    intro q d x hl ha hcarry hdraining
    exact act_wakes hl ha (carryFlip_flips hcarry hdraining)
  case remap =>
    intro q d who r v hl hs hr hc hallowed hnone hcarry
    exact onUnit_request hl hs hr hc ((remapVerdict_queues hallowed).trans (congrArg _ (queueRemap_runs hnone hcarry)))
  case queued =>
    intro q d who r v hl hs hr hc hallowed hbusy
    exact onUnit_request hl hs hr hc ((remapVerdict_queues hallowed).trans (congrArg _ (queueRemap_waits hbusy)))
  case last =>
    intro q d x l hl ha hremaps hruns hdone
    exact act_wakes hl ha (remapBlock_ends hremaps hruns hdone)
  case block =>
    intro q d x l hl ha _ _
    exact act_wakes hl ha rfl
  case mask =>
    intro q d who k v hl hs hk hc hoff
    exact onUnit_request hl hs hk hc (wayMaskVerdict_applies hoff)
  case leave =>
    intro q d who k v hl hs hk hc hon hfree hleft
    exact onUnit_request hl hs hk hc (wayMaskVerdict_leaves hon hfree hleft)
  case written =>
    intro q d k hl hk hleaving
    exact onUnit_acts hl hk (if_neg hleaving)
  case lock =>
    intro q d who k v hl hs hk hc hnew
    exact onUnit_request hl hs hk hc (lockVerdict_locks hnew)
end

section
/-! PROOF. The commands of the protection of stored data (R336, R341, R343 to R348): each is its meaning, at the branch that a clause
names. -/

namespace Sys2Proof.Machine

variable {d : Dev}

/-! ### Reads (R336) -/

/-- A burst that can be served is the answer. -/
theorem dramRead_replies {q : List Instr} {o a : Nat} {b : List Byte} {t : Dev} (hl : d.live = true)
    (h : d.memRead o (a / 64 * 64) 64 = (.ok b, t)) :
    exec (.dramReadComplete o a none) ⟨q, d⟩ = .next ⟨q, Dev.finish d (t.reply b)⟩ := by
  rw [exec_dramReadComplete, execDramReadComplete, act_of_live _ hl]
  simp only [h]

/-! ### The scrubber (R343, R344) -/

/-- Whether a slot holds a request at this moment is the model's free value (assumption log 55). -/
theorem scrubBurst_acts {q : List Instr} (hl : d.live = true) (ha : d.awake = true) (htrained : d.dram.trained = true) :
    exec .scrubBurst ⟨q, d⟩ = .next ⟨q, Dev.finish d
      (if Config.slotHoldsRequest d.free then d.nextFree.2 else d.nextFree.2.scrubBurst)⟩ := by
  rw [exec_scrubBurst, execScrubBurst, act_of_live _ hl, if_pos (by rw [ha, htrained]; rfl)]
  rfl

/-- A burst that the scrubber leaves out moves the lap on, when it is not the region's last. -/
theorem scrubBurst_skips (hrate : d.getO 0x2D00 1 ≠ 0) (htime : d.prot.nextAt ≤ d.clock.ns) (hruns : d.prot.running = true)
    (hregion : d.scrubbed d.prot.region = true) (hmore : d.prot.offset + 64 < d.regData d.prot.region)
    (hskips : d.scrubSkips d.prot.region d.prot.offset = true) : d.scrubBurst =
    d.setProt { d.prot with nextAt := d.clock.ns + ceilDiv 64000 (max 1 (d.getO 0x2D00 2)), offset := d.prot.offset + 64 } := by
  have hscrubbed (x : Prot) (r : Nat) : (d.setProt x).scrubbed r = d.scrubbed r := rfl
  have hdata (x : Prot) (r : Nat) : (d.setProt x).regData r = d.regData r := rfl
  have hskip (x : Prot) (r o : Nat) : (d.setProt x).scrubSkips r o = d.scrubSkips r o := rfl
  have hprot (x : Prot) : (d.setProt x).prot = x := rfl
  have hlast (x y : Prot) : (d.setProt x).setProt y = d.setProt y := rfl
  have hwithin : (!(d.scrubbed d.prot.region) || decide (d.regData d.prot.region ≤ d.prot.offset)) = false := by
    rw [hregion, decide_eq_false (by omega)]
    rfl
  rw [Dev.scrubBurst, if_neg (by omega)]
  simp only [hprot, hlast, hruns, if_true, Bool.not_true, Bool.false_eq_true, if_false, hscrubbed, hdata, hskip, hwithin, hskips,
    if_neg (Nat.not_le.mpr hmore)]

theorem lapLimit_alerts (hruns : d.prot.running = true) (hfirst : d.prot.alerted = false) : d.lapLimit =
    (((d.setProt { d.prot with alerted := true }).log 0x6A 1 0xFF 0xFF [d.prot.region]).count 0x2D00 7).postNamed 0x2D00 8 := by
  rw [Dev.lapLimit, if_pos (by rw [hruns, hfirst]; rfl)]
  rfl

/-! ### The words of the SRAMs (R345, Table 17-4) -/

/-- A correctable error outside the system cache's data is counted for its array. -/
theorem sramError_corrects {x : SramWord} (hlow : 2 ≤ x.array) (hhigh : x.array ≤ 11) (hother : x.array ≠ 5)
    (hgood : x.uncorrectable = false) : d.sramError x = (d.count 0x2D00 0x0C).count 0x2D31 x.array := by
  rw [Dev.sramError, if_neg (by omega), if_neg (by simp [hgood, hother])]
  exact if_neg (by omega)

/-- One in the island's memory that cannot be corrected asks for the other pair. -/
theorem sramError_island {x : SramWord} (harray : x.array = 8) (hbad : x.uncorrectable = true) :
    d.sramError x = (d.count 0x2D00 0x0D).switchNeeded 2 := by
  rw [Dev.sramError, if_neg (by omega), if_pos (by simp [hbad])]
  simp [Dev.sramBad, harray]

end Sys2Proof.Machine

open Sys2Proof Sys2Proof.Machine

/-- Settles O33: each command's meaning, at the branch that the clause names. Whether a slot of the channel holds a request as the
scrubber's burst comes is the model's free value (assumption log 55). -/
theorem protectionCompletes : Obligations.protection_completes := by
  refine ⟨?read, ?merge, ?skip, ?burst, ?lap, ?corrected, ?island, ?clear⟩
  case read =>
    intro q d o a b t hl hread
    exact dramRead_replies hl hread
  case merge =>
    intro q d o a b hl
    rw [exec_dramReadComplete, execDramReadComplete, act_of_live _ hl]
  case skip =>
    intro q d hl ha htrained hrate htime hruns hregion hmore hskips
    have hburst : d.nextFree.2.scrubBurst = d.nextFree.2.setProt { d.prot with
        nextAt := d.clock.ns + ceilDiv 64000 (max 1 (d.getO 0x2D00 2)), offset := d.prot.offset + 64 } :=
      scrubBurst_skips (d := d.nextFree.2) hrate htime hruns hregion hmore hskips
    rw [scrubBurst_acts hl ha htrained, hburst]
  case burst =>
    intro q d hl ha htrained
    exact scrubBurst_acts hl ha htrained
  case lap =>
    intro q d hl hruns hfirst
    rw [exec_lapLimitExpiry, execLapLimitExpiry, act_of_live _ hl, lapLimit_alerts hruns hfirst]
  case corrected =>
    intro q d x hl hlow hhigh hother hgood
    rw [exec_sramError, execSramError, act_of_live _ hl, sramError_corrects hlow hhigh hother hgood]
  case island =>
    intro q d x hl harray hbad
    rw [exec_sramError, execSramError, act_of_live _ hl, sramError_island harray hbad]
  case clear =>
    intro q d who v hl hs hc
    rw [exec_clearRetiredList, execClearRetiredList, actServed_of_live _ hl hs, request_takes hc]
    rfl
end

section
/-! PROOF. The commands of the safety island (R377, R382 to R385): each is its meaning, at the branch that a clause names. -/

namespace Sys2Proof.Machine

variable {d : Dev} {n : Nat}

/-! ### The two pairs (R382, R383) -/

/-- Between pairs that run the same slot a switch for another cause than an update is a transient fault of the island, shown by an
EMCY; the writes in hand are issued again. -/
theorem switchPair_sameSlot {cause : Nat} (hcause : cause ≠ 5)
    (hslot : d.pairSlot (d.getO 0x3100 1) = d.pairSlot (1 - d.getO 0x3100 1)) : d.switchPair cause =
    (let a := d.getO 0x3100 1
     let k := ((((d.setPairState a 3).setPairState (1 - a) 1).setO 0x3100 1 (1 - a)).setO 0x3100 5 cause).count 0x3100 4
     ((k.transientFault 0x8103 (1 - a)).emergency 0xFF08 0x89 0x8901 0x00 (1 - a) [cause, 1 - a]).reissueWrites) := by
  simp only [Dev.switchPair, hslot, bne_self_eq_false, Bool.false_eq_true, and_false, if_false, if_neg hcause]

/-- A switch that is needed is made while a pair stands by. -/
theorem switchNeeded_switches {cause : Nat} (hhalted : d.island.halted = false) (hrestarting : d.island.restarting = false)
    (hstandby : d.standby = true) : d.switchNeeded cause = d.switchPair cause := by
  simp [Dev.switchNeeded, hhalted, hrestarting, hstandby]

theorem switchVerdict_switches (h : d.standby = true) : switchVerdict d = .ok (d.switchPair 4) := if_pos h

/-! ### Watchdogs over owners (R384, R385) -/

theorem kickVerdict_kicks {who : Init} (h : initCode who = d.getO (dogIndex n) 1) :
    kickVerdict who n d = .ok ((d.setO (dogIndex n) 5 1).setO (dogIndex n) 7 d.clock.ns) := if_neg (not_not.mpr h)

/-- An armed watchdog expires as its policy says; that kicks and expiries need the island to serve is assumption log 59. -/
theorem dogExpires_armed (h : d.getO (dogIndex n) 5 = 1) : d.dogExpires n =
    (let k := ((d.setO (dogIndex n) 5 2).count (dogIndex n) 6).emergency 0xFF03 0x89 0x8902 (d.getO (dogIndex n) 1) n
       [n, d.getO (dogIndex n) 1]
     let k := k.postNamed 0x3100 0x0B
     let k := if 1 ≤ k.getO (dogIndex n) 4 then k.disableLayersOf (d.getO (dogIndex n) 1) else k
     if k.getO (dogIndex n) 4 = 2 then k.takeBlocksOf (d.getO (dogIndex n) 1) else k) := if_neg (not_not.mpr h)

end Sys2Proof.Machine

open Sys2Proof Sys2Proof.Machine

/-- Settles O36: each command's meaning, at the branch that the clause names. -/
theorem islandCompletes : Obligations.island_completes := by
  refine ⟨?pipe, ?mismatchSame, ?mismatch, ?watchdogSame, ?watchdog, ?requestSame, ?request, ?restart, ?selfTest, ?kick, ?expiry⟩
  case pipe =>
    intro q d n hl hn hon
    exact onUnit_acts hl hn (if_neg hon)
  case mismatchSame =>
    intro q d hl hhalted hrestarting hstandby hslot
    rw [exec_lockstepMismatch, execLockstepMismatch, act_of_live _ hl, switchNeeded_switches hhalted hrestarting hstandby,
      switchPair_sameSlot (by decide) hslot]
  case mismatch =>
    intro q d hl hhalted hrestarting hstandby
    rw [exec_lockstepMismatch, execLockstepMismatch, act_of_live _ hl, switchNeeded_switches hhalted hrestarting hstandby]
  case watchdogSame =>
    intro q d hl hhalted hrestarting hstandby hslot
    rw [exec_islandWatchdogExpiry, execIslandWatchdogExpiry, act_of_live _ hl, switchNeeded_switches hhalted hrestarting hstandby,
      switchPair_sameSlot (by decide) hslot]
  case watchdog =>
    intro q d hl hhalted hrestarting hstandby
    rw [exec_islandWatchdogExpiry, execIslandWatchdogExpiry, act_of_live _ hl, switchNeeded_switches hhalted hrestarting hstandby]
  case requestSame =>
    intro q d who v hl hs hc hstandby hslot
    rw [exec_islandSwitch, execIslandSwitch, actServed_of_live _ hl hs, request_accepts hc (switchVerdict_switches hstandby),
      switchPair_sameSlot (by decide) hslot]
  case request =>
    intro q d who v hl hs hc hstandby
    rw [exec_islandSwitch, execIslandSwitch, actServed_of_live _ hl hs, request_accepts hc (switchVerdict_switches hstandby)]
  case restart =>
    intro q d hl hrestarting
    rw [exec_islandRestartComplete, execIslandRestartComplete, act_of_live _ hl, if_pos hrestarting]
  case selfTest =>
    intro q d p b hl hp hstate
    exact onUnit_acts hl hp (if_pos hstate)
  case kick =>
    intro q d who n v hl hs hn hc howner
    exact onUnit_request hl hs hn hc (kickVerdict_kicks howner)
  case expiry =>
    intro q d n hl hn ha hs harmed
    exact onUnit_acts hl hn ((if_pos (by rw [ha, hs]; rfl)).trans (dogExpires_armed harmed))
end

section
/-! PROOF. The commands of the courier link (R394 to R396, R399 to R402): each is its meaning, at the branch that a clause names. -/

namespace Sys2Proof.Machine

variable {d : Dev} {f : List Byte} {n : Nat}

/-! ### Frames (R395) -/

section
variable (hlink : d.linkState ≠ 0) (hlocked : d.courier.locked = true)
include hlink hlocked

/-- A valid frame of its type, next in the sequence, is counted and used; that frames need block lock is assumption log 62. -/
theorem receive_uses {type : Nat} (use : List Byte → Dev → Dev) (hok : frameOk f = true) (htype : frameType f = type)
    (hlast : d.courier.last = some n) (hnext : frameSeq f = (n + 1) % 2 ^ 32) : d.receive type f use =
    use (framePayload f) ((d.count 0x3200 0x11).setCourier { (d.count 0x3200 0x11).courier with last := some (frameSeq f) }) := by
  have hlistens : (decide (d.linkState = 0) || !d.courier.locked) = false := by rw [decide_eq_false hlink, hlocked]; rfl
  have hgap : (frameSeq f != (n + 1) % 2 ^ 32) = false := by rw [hnext, bne_self_eq_false]
  simp only [Dev.receive, hlistens, hok, htype, hlast, hgap, Bool.not_true, Bool.false_eq_true, if_false, ne_eq, not_true_eq_false]

/-- A frame that is not valid is counted and has no other effect. -/
theorem receive_discards (type : Nat) (use : List Byte → Dev → Dev) (hbad : frameOk f = false) :
    d.receive type f use = d.count 0x3200 0x12 := by
  have hlistens : (decide (d.linkState = 0) || !d.courier.locked) = false := by rw [decide_eq_false hlink, hlocked]; rfl
  simp only [Dev.receive, hlistens, hbad, Bool.not_false, Bool.false_eq_true, if_false, if_true]

end

/-! ### The witness (R399) -/

/-- A secondary that witnesses for an output takes it over while the link is Silent and CAN has lost the partner. -/
theorem takeover_drives {f : Dev → Dev} (hpart : d.takesPart n = true) (hwitness : d.witness n = 1) (hlink : d.witnessL = true)
    (hcan : d.witnessC = true) : (if d.takesPart n && d.witness n == 1 && d.witnessL && d.witnessC then f d else d) = f d :=
  if_pos (by rw [hpart, hwitness, hlink, hcan]; rfl)

end Sys2Proof.Machine

open Sys2Proof Sys2Proof.Machine

/-- Settles O37: each command's meaning, at the branch that the clause names. -/
theorem pairingCompletes : Obligations.pairing_completes := by
  refine ⟨?timer, ?heartbeat, ?mirror, ?mark, ?probe, ?echo, ?badHeartbeat, ?badMirror, ?badMark, ?mirrorTimer, ?probeTimer, ?lock,
    ?silence, ?takeover, ?returned⟩
  case timer =>
    intro q d hl hlink
    rw [exec_courierHeartbeatTimer, execCourierHeartbeatTimer, act_of_live _ hl, if_neg hlink]
  case heartbeat =>
    intro q d f n hl hlink hlocked hok htype hlast hnext
    rw [exec_heartbeatFrame, execHeartbeatFrame, act_of_live _ hl, if_pos hok, receive_uses hlink hlocked _ hok htype hlast hnext]
  case mirror =>
    intro q d f n hl hlink hlocked hok htype hlast hnext
    rw [exec_mirrorFrame, execMirrorFrame, act_of_live _ hl, receive_uses hlink hlocked _ hok htype hlast hnext]
  case mark =>
    intro q d f n hl hlink hlocked hok htype hlast hnext
    rw [exec_rodMarkFrame, execRodMarkFrame, act_of_live _ hl, receive_uses hlink hlocked _ hok htype hlast hnext]
  case probe =>
    intro q d f t n hl hlink hlocked hok htype hlast hnext
    rw [exec_probeFrame, execProbeFrame, act_of_live _ hl, receive_uses hlink hlocked _ hok htype hlast hnext]
  case echo =>
    intro q d f t n hl hlink hlocked hok htype hlast hnext
    rw [exec_echoFrame, execEchoFrame, act_of_live _ hl, receive_uses hlink hlocked _ hok htype hlast hnext]
  case badHeartbeat =>
    intro q d f hl hlink hlocked hbad
    rw [exec_heartbeatFrame, execHeartbeatFrame, act_of_live _ hl, if_neg (by rw [hbad]; decide),
      receive_discards (d := d.setCourier { d.courier with beats := 0 }) hlink hlocked 1 _ hbad]
  case badMirror =>
    intro q d f hl hlink hlocked hbad
    rw [exec_mirrorFrame, execMirrorFrame, act_of_live _ hl, receive_discards hlink hlocked 3 _ hbad]
  case badMark =>
    intro q d f hl hlink hlocked hbad
    rw [exec_rodMarkFrame, execRodMarkFrame, act_of_live _ hl, receive_discards hlink hlocked 4 _ hbad]
  case mirrorTimer =>
    intro q d hl hprimary
    rw [exec_mirrorTimer, execMirrorTimer, act_of_live _ hl, if_neg (by rw [hprimary]; decide)]
  case probeTimer =>
    intro q d hl hup
    rw [exec_probeTimer, execProbeTimer, act_of_live _ hl, if_pos hup]
    rfl
  case lock =>
    intro q d hl hlink
    rw [exec_courierBlockLock, execCourierBlockLock, act_of_live _ hl, if_neg hlink]
  case silence =>
    intro q d hl hlink
    rw [exec_courierSilenceTimeout, execCourierSilenceTimeout, act_of_live _ hl, Dev.linkSilent, if_neg hlink]
  case takeover =>
    intro q d n hl hn hpart hwitness hlink hcan
    exact onUnit_acts hl hn (takeover_drives (f := fun d => d.takeOver n) hpart hwitness hlink hcan)
  case returned =>
    intro q d n hl hn hstate
    exact onUnit_acts hl hn (if_pos hstate)
end
